-- ==== Sys2Proof/Word.lean ====
section
/-! DEFINITION. The word types of the device: registers and addresses are 64 bits wide (R7, R47), memory
is made of bytes (R3). -/

namespace Sys2Proof

/-- A 64-bit register, address or doubleword. -/
abbrev Word := BitVec 64

/-- A byte of memory. -/
abbrev Byte := BitVec 8

end Sys2Proof
end

