-- ==== Sys2Proof/Syntax.lean ====
section
/-! DEFINITION. The commands of the block: one constructor of `Instr` for each row of the opcode table, with
the operands it takes.  Commands of the cores carry the instruction's fields as the operand layouts of
R105 give them; commands of the other units carry what comes with the event. -/

namespace Sys2Proof

/-- R98: a prefix byte of an instruction, with its operand byte. -/
inductive Pfx where
  | ct
  | imm64
  | xbank (bank : BitVec 8)
  | nt
  | w32
  deriving DecidableEq, Repr


/-- Layout U8 (R105). -/
structure OpsU8 where
  imm8 : BitVec 8
  deriving DecidableEq, Repr

/-- Layout R (R105). -/
structure OpsR where
  ra : BitVec 5
  rsv : BitVec 3
  deriving DecidableEq, Repr

/-- Layout RR (R105). -/
structure OpsRR where
  rd : BitVec 5
  ra : BitVec 5
  imm6 : BitVec 6
  deriving DecidableEq, Repr

/-- Layout RRR (R105). -/
structure OpsRRR where
  rd : BitVec 5
  ra : BitVec 5
  rb : BitVec 5
  scale : BitVec 2
  rsv : BitVec 7
  deriving DecidableEq, Repr

/-- Layout RI (R105). -/
structure OpsRI where
  rd : BitVec 5
  ra : BitVec 5
  imm : BitVec 22
  deriving DecidableEq, Repr

/-- Layout J (R105); without IMM64 the displacement has 32 bits and the upper 32 are zero here. -/
structure OpsJ where
  disp : BitVec 64
  deriving DecidableEq, Repr

/-- Layout RI32 (R105); without IMM64 the upper 32 bits of the immediate are zero here. -/
structure OpsRI32 where
  rd : BitVec 5
  ra : BitVec 5
  rsv : BitVec 6
  imm : BitVec 64
  deriving DecidableEq, Repr

/-- Layout JC (R105). -/
structure OpsJC where
  cond : BitVec 4
  rsv : BitVec 12
  disp : BitVec 64
  deriving DecidableEq, Repr

/-- Layout M (R105). -/
structure OpsM where
  rsv0 : BitVec 5
  ra : BitVec 5
  rsv1 : BitVec 6
  mask : BitVec 32
  deriving DecidableEq, Repr

/-- Layout RRI32 (R105). -/
structure OpsRRI32 where
  rd : BitVec 5
  ra : BitVec 5
  rb : BitVec 5
  scale : BitVec 2
  rsv : BitVec 15
  imm : BitVec 64
  deriving DecidableEq, Repr

/-- The two forms of the loads and stores (R124, R171). -/
inductive MemForm where
  | ri (o : OpsRI)
  | rri (o : OpsRRI32)
  deriving DecidableEq, Repr

/-- The two forms of the immediate instructions (R124). -/
inductive ImmForm where
  | ri (o : OpsRI)
  | ri32 (o : OpsRI32)
  deriving DecidableEq, Repr

/-- R205: the private structures of a core with parity, but for the store buffer. -/
inductive PrivKind where
  | l1i | l1d | l2 | side | tlb | tec
  deriving DecidableEq, Repr

/-- What a read of a line finds wrong on its way: a parity error of a private structure (R208), an error the pool
cache corrects in data, tags or state, a copy of its tags lost, both copies lost, uncorrectable data (R221), an
error the memory controller corrects, a device it marks, a read it cannot correct (R232), or cannot correct on one
side of a mirror (R233). -/
inductive ErrSeen where
  | priv (k : PrivKind)
  | pcsData | pcsTag | pcsTagCopy | pcsTagFatal | pcsUe
  | mcCe | mcMarked | mcUe | mcMirror
  deriving DecidableEq, Repr

/-- R337: what the reads of an entry's two copies find: nothing wrong, one CHECK wrong, both wrong. -/
inductive CopyCheck where
  | fine | one | both
  deriving DecidableEq, Repr

/-- What an instruction meets on its way that its row does not show: the errors found by its fetch and by its first data
access (R208, R221, R232, R250), an internal error of the path on which floating-point state is saved (R87), and what CHECK finds of
the exchange entries that the register written by an OUT makes block 0x30 read (R337). -/
structure Met where
  fetch : List ErrSeen
  data : List ErrSeen
  save : Bool
  chks : List (Nat × CopyCheck)
  deriving DecidableEq, Repr

/-- Nothing is met. -/
def Met.none : Met := { fetch := [], data := [], save := false, chks := [] }

/-- What every instruction carries: the logical core that executes it (R29), its prefixes in order (R95), what it meets. -/
structure Ins where
  core : Nat
  pfx : List Pfx
  met : Met
  deriving DecidableEq, Repr

/-- R35: the kinds of master that start requests. -/
inductive MasterKind where
  | core | engine | sequencer | bmp | slice | directory
  deriving DecidableEq, Repr

/-- R35: the masters that reach I/O space. -/
def MasterKind.reachesIo : MasterKind → Bool
  | .core | .sequencer | .bmp => true
  | .engine | .slice | .directory => false

/-- R34: the identity of a request's originator: device, master kind, unit, virtual instance. -/
structure Master where
  dev : Nat
  kind : MasterKind
  unit : Nat
  inst : Nat
  deriving DecidableEq, Repr

/-- R408: what the code of a directory entry finds: nothing, an error it corrects, an uncorrectable error. -/
inductive DirEcc where
  | fine | corrected | lost
  deriving DecidableEq, Repr

/-- R391: a message of Shabek Link: kind, source device with master kind, unit and instance, destination,
POISON, PROMOTED, tag, address, data. -/
structure Msg where
  kind : Nat
  src : Nat
  mkind : Nat
  unit : Nat
  inst : Nat
  dst : Nat
  poison : Bool
  promoted : Bool
  tag : Nat
  addr : Nat
  data : List (BitVec 8)
  deriving DecidableEq, Repr

/-- R343: why a path fails. -/
inductive PathCause where
  | link | connection | fatal | timeout
  deriving DecidableEq, Repr


/-- R337: an operand of a command that reads exchange entries, with what CHECK finds of them. -/
structure Reads (α : Type) where
  arg : α
  chks : List (Nat × CopyCheck)
  deriving DecidableEq, Repr

/-- R412: a device whose heartbeats stay away, and whether the probe of it was answered. -/
structure Silence where
  dev : Nat
  answered : Bool
  deriving DecidableEq, Repr

/-- R346: a transfer that reaches a window: over PCIe (group, port, bus address) or RDMA (a key with the same values). -/
structure WindowOp where
  rdma : Bool
  group : Nat
  port : Nat
  addr : BitVec 64
  write : Bool
  data : List (BitVec 8)
  len : Nat
  /-- what reading the entry's copies finds (R337) -/
  chk : CopyCheck
  /-- code words of the Ethernet group corrected and found uncorrectable on the way (R367) -/
  fecFixed : Nat
  fecBad : Nat
  deriving DecidableEq, Repr

/-- R239, R244, R259, R260: what the comparator finds for the trailing partner's next token: equal; different; the head's
entry corrected and equal, or uncorrectable, in a FIFO slot; the comparator's halves disagree, with the slot of an
uncorrectable entry seen beside it (R277). -/
inductive Compare where
  | equal
  | differs
  | corrected (slot : Nat)
  | lost (slot : Nat)
  | halves (slot : Option Nat)
  deriving DecidableEq, Repr

/-- R482, R489, R492: what comes with a start: the straps, whether the service pair and the service spares pass their test, and which
core of a position that fails does (`odd`), the first engine that wakes for stage 0, and of slots whose flash does not answer the check at
which it does not, 0 for the header. -/
structure StartRun where
  dev : Nat
  board : Nat
  pair : Bool
  spare : Bool
  odd : Bool
  engine : Nat
  silent : List (Nat × Nat)
  deriving DecidableEq, Repr

/-- R84, R87: a switch of the floating-point file on a core, and whether the path of its save has an internal error. -/
structure FpRun where
  core : Nat
  saveFails : Bool
  deriving DecidableEq, Repr

/-- R254: an internal error of a partner: permanent, and in its store buffer. -/
structure IntErr where
  permanent : Bool
  storeBuffer : Bool
  deriving DecidableEq, Repr

/-- R313: an engine goes on, and writes up to so many segments of its output. -/
structure EngRun where
  engine : Nat
  segs : Nat
  deriving DecidableEq, Repr

/-- R345: the command identifiers that an attempt may take; what reading the entry's copies finds (R337). -/
structure SubmitRun where
  cids : List Nat
  chk : CopyCheck
  deriving DecidableEq, Repr

/-- What a completion returns; what reading the entry's copies finds (R337); the code words of its Ethernet group corrected and
found uncorrectable on the way (R367). -/
structure CmplRun where
  data : List (BitVec 8)
  chk : CopyCheck
  fecFixed : Nat
  fecBad : Nat
  deriving DecidableEq, Repr

/-- A port whose link changes; what reading the entries' copies finds (R337); the code words of its Ethernet group corrected and found
uncorrectable until then (R367). -/
structure LinkRun where
  port : Nat
  chks : List (Nat × CopyCheck)
  fecFixed : Nat
  fecBad : Nat
  deriving DecidableEq, Repr

/-- R396, R514: what a port's training finds at its lands: the good lanes, and whether SBB, the peer's SBA, is high. -/
structure Lanes where
  good : Nat
  sbb : Bool
  deriving DecidableEq, Repr

/-- An exchange; what reading its entry's copies finds (R337). -/
structure EntryRun where
  exch : Nat
  chk : CopyCheck
  deriving DecidableEq, Repr

/-- R102: a fetch on a core: the bytes that were fetched before the one that is not. -/
structure FetchRun where
  core : Nat
  bytes : List (BitVec 8)
  deriving DecidableEq, Repr

/-- The commands: one constructor for each row of the opcode table. -/
inductive Instr where
  /-- R18: REGISTER_WRITE -/
  | registerWrite (who : Master) (addr : Nat) (value : Reads (BitVec 64))
  /-- R15: RC_READ -/
  | rcRead (who : Master) (addr : Nat)
  /-- R23: COMMIT_WRITE -/
  | commitWrite (who : Master) (blk group : Nat)
  /-- R26: SAFE_POINT_REACHED -/
  | safePointReached (blk : Nat) (grouped : Bool) (k : Nat)
  /-- R45: BLOCK_RESET_END -/
  | blockResetEnd (blk : Nat)
  /-- R156: NOP -/
  | nop (i : Ins)
  /-- R91: XBAR -/
  | xbar (i : Ins)
  /-- R91: FBAR -/
  | fbar (i : Ins)
  /-- R156: MBAR -/
  | mbar (i : Ins)
  /-- R152: ISYNC -/
  | isync (i : Ins)
  /-- R78: RETW -/
  | retw (i : Ins)
  /-- R61: RETL -/
  | retl (i : Ins)
  /-- R71: RETT -/
  | rett (i : Ins)
  /-- R62: WAIT -/
  | wait (i : Ins)
  /-- R157: SVC -/
  | svc (i : Ins) (o : OpsU8)
  /-- R157: BKPT -/
  | bkpt (i : Ins) (o : OpsU8)
  /-- R142: JMP -/
  | jmp (i : Ins) (o : OpsR)
  /-- R142: CALLWR -/
  | callwr (i : Ins) (o : OpsR)
  /-- R149: PREFD -/
  | prefd (i : Ins) (o : OpsR)
  /-- R149: PREFW -/
  | prefw (i : Ins) (o : OpsR)
  /-- R149: PREFI -/
  | prefi (i : Ins) (o : OpsR)
  /-- R131: NEG -/
  | neg (i : Ins) (o : OpsRR)
  /-- R131: NOT -/
  | not (i : Ins) (o : OpsRR)
  /-- R131: ABS -/
  | abs (i : Ins) (o : OpsRR)
  /-- R131: CLZ -/
  | clz (i : Ins) (o : OpsRR)
  /-- R131: POPC -/
  | popc (i : Ins) (o : OpsRR)
  /-- R131: BSWAP -/
  | bswap (i : Ins) (o : OpsRR)
  /-- R131: SXT -/
  | sxt (i : Ins) (o : OpsRR)
  /-- R131: ZXT -/
  | zxt (i : Ins) (o : OpsRR)
  /-- R133: SHLI -/
  | shli (i : Ins) (o : OpsRR)
  /-- R133: SHRI -/
  | shri (i : Ins) (o : OpsRR)
  /-- R133: SARI -/
  | sari (i : Ins) (o : OpsRR)
  /-- R133: RORI -/
  | rori (i : Ins) (o : OpsRR)
  /-- R134: DSTEP -/
  | dstep (i : Ins) (o : OpsRR)
  /-- R140: DVAL -/
  | dval (i : Ins) (o : OpsRR)
  /-- R158: MFS -/
  | mfs (i : Ins) (o : OpsRR)
  /-- R158: MTS -/
  | mts (i : Ins) (o : OpsRR)
  /-- R76: LVL_RESUME -/
  | lvlResume (i : Ins) (rd : BitVec 5)
  /-- R76: LVL_DISMISS -/
  | lvlDismiss (i : Ins) (rd : BitVec 5)
  /-- R86: FP_OWNER_WRITE -/
  | fpOwnerWrite (i : Ins) (rd : BitVec 5)
  /-- R114: MFT -/
  | mft (i : Ins) (o : OpsRR)
  /-- R115: MTT -/
  | mtt (i : Ins) (o : OpsRR)
  /-- R158: TLBI -/
  | tlbi (i : Ins) (o : OpsRR)
  /-- R131: ADD -/
  | add (i : Ins) (o : OpsRRR)
  /-- R131: ADC -/
  | adc (i : Ins) (o : OpsRRR)
  /-- R131: SUB -/
  | sub (i : Ins) (o : OpsRRR)
  /-- R131: SBC -/
  | sbc (i : Ins) (o : OpsRRR)
  /-- R131: AND -/
  | and (i : Ins) (o : OpsRRR)
  /-- R131: OR -/
  | or (i : Ins) (o : OpsRRR)
  /-- R131: XOR -/
  | xor (i : Ins) (o : OpsRRR)
  /-- R131: ANDN -/
  | andn (i : Ins) (o : OpsRRR)
  /-- R133: SHL -/
  | shl (i : Ins) (o : OpsRRR)
  /-- R133: SHR -/
  | shr (i : Ins) (o : OpsRRR)
  /-- R133: SAR -/
  | sar (i : Ins) (o : OpsRRR)
  /-- R133: ROR -/
  | ror (i : Ins) (o : OpsRRR)
  /-- R133: MUL -/
  | mul (i : Ins) (o : OpsRRR)
  /-- R133: MULH -/
  | mulh (i : Ins) (o : OpsRRR)
  /-- R133: MULHU -/
  | mulhu (i : Ins) (o : OpsRRR)
  /-- R131: CMP -/
  | cmp (i : Ins) (o : OpsRRR)
  /-- R131: TST -/
  | tst (i : Ins) (o : OpsRRR)
  /-- R148: CAS -/
  | cas (i : Ins) (o : OpsRRR)
  /-- R141: DADD -/
  | dadd (i : Ins) (o : OpsRRR)
  /-- R141: DSUB -/
  | dsub (i : Ins) (o : OpsRRR)
  /-- R141: DADDT -/
  | daddt (i : Ins) (o : OpsRRR)
  /-- R141: DSUBT -/
  | dsubt (i : Ins) (o : OpsRRR)
  /-- R135: DSFIX -/
  | dsfix (i : Ins) (o : OpsRRR)
  /-- R135: DSFIXS -/
  | dsfixs (i : Ins) (o : OpsRRR)
  /-- R150: CINV -/
  | cinv (i : Ins) (o : OpsRRR)
  /-- R150: CFLUSH -/
  | cflush (i : Ins) (o : OpsRRR)
  /-- R142: BR -/
  | br (i : Ins) (o : OpsJ)
  /-- R78: CALLW -/
  | callw (i : Ins) (o : OpsJ)
  /-- R145: LDBU -/
  | ldbu (i : Ins) (o : MemForm)
  /-- R145: LDBS -/
  | ldbs (i : Ins) (o : MemForm)
  /-- R145: LDHU -/
  | ldhu (i : Ins) (o : MemForm)
  /-- R145: LDHS -/
  | ldhs (i : Ins) (o : MemForm)
  /-- R145: LDWU -/
  | ldwu (i : Ins) (o : MemForm)
  /-- R145: LDWS -/
  | ldws (i : Ins) (o : MemForm)
  /-- R145: LDD -/
  | ldd (i : Ins) (o : MemForm) (seen : List ErrSeen)
  /-- R145: STB -/
  | stb (i : Ins) (o : MemForm)
  /-- R145: STH -/
  | sth (i : Ins) (o : MemForm)
  /-- R145: STW -/
  | stw (i : Ins) (o : MemForm)
  /-- R145: STD -/
  | std (i : Ins) (o : MemForm)
  /-- R151: ILD -/
  | ild (i : Ins) (o : OpsRI)
  /-- R151: IST -/
  | ist (i : Ins) (o : OpsRI)
  /-- R154: IN -/
  | inp (i : Ins) (o : OpsRI)
  /-- R154: OUT -/
  | outp (i : Ins) (o : OpsRI)
  /-- R131: ADDI -/
  | addi (i : Ins) (o : ImmForm)
  /-- R131: ANDI -/
  | andi (i : Ins) (o : ImmForm)
  /-- R131: ORI -/
  | ori (i : Ins) (o : ImmForm)
  /-- R131: XORI -/
  | xori (i : Ins) (o : ImmForm)
  /-- R131: CMPI -/
  | cmpi (i : Ins) (o : ImmForm)
  /-- R142: BC -/
  | bc (i : Ins) (o : OpsJC)
  /-- R88: LDM -/
  | ldm (i : Ins) (o : OpsM) (part : Option Nat)
  /-- R88: STM -/
  | stm (i : Ins) (o : OpsM) (part : Option Nat)
  /-- R168: FMOV -/
  | fmov (i : Ins) (o : OpsRR)
  /-- R168: FNEG -/
  | fneg (i : Ins) (o : OpsRR)
  /-- R168: FABS -/
  | fabs (i : Ins) (o : OpsRR)
  /-- R178: FDSTART_DIV -/
  | fdstartDiv (i : Ins) (o : OpsRRR)
  /-- R179: FDSTART_SQRT -/
  | fdstartSqrt (i : Ins) (o : OpsRR)
  /-- R177: FDSTEP -/
  | fdstep (i : Ins) (o : OpsRR)
  /-- R181: FDFIN -/
  | fdfin (i : Ins) (o : OpsRR)
  /-- R190: FCVT -/
  | fcvt (i : Ins) (o : OpsRR)
  /-- R190: FRINT -/
  | frint (i : Ins) (o : OpsRR)
  /-- R190: FCVTFI -/
  | fcvtfi (i : Ins) (o : OpsRR)
  /-- R190: FCVTIF -/
  | fcvtif (i : Ins) (o : OpsRR)
  /-- R186: FADD -/
  | fadd (i : Ins) (o : OpsRRR)
  /-- R186: FSUB -/
  | fsub (i : Ins) (o : OpsRRR)
  /-- R187: FMUL -/
  | fmul (i : Ins) (o : OpsRRR)
  /-- R175: FCMP -/
  | fcmp (i : Ins) (o : OpsRRR)
  /-- R175: FCMPS -/
  | fcmps (i : Ins) (o : OpsRRR)
  /-- R172: FMVFG -/
  | fmvfg (i : Ins) (o : OpsRR)
  /-- R172: FMVGF -/
  | fmvgf (i : Ins) (o : OpsRR)
  /-- R163: FMFC -/
  | fmfc (i : Ins) (o : OpsRR)
  /-- R163: FMTC -/
  | fmtc (i : Ins) (o : OpsRR)
  /-- R176: FLDS -/
  | flds (i : Ins) (o : MemForm)
  /-- R176: FLDD -/
  | fldd (i : Ins) (o : MemForm)
  /-- R176: FLDQ -/
  | fldq (i : Ins) (o : MemForm)
  /-- R176: FSTS -/
  | fsts (i : Ins) (o : MemForm)
  /-- R176: FSTD -/
  | fstd (i : Ins) (o : MemForm)
  /-- R176: FSTQ -/
  | fstq (i : Ins) (o : MemForm)
  /-- R84: FP_SWITCH -/
  | fpSwitch (run : FpRun)
  /-- R90: LONG_OP_COMPLETE -/
  | longOpComplete (core lvl k : Nat)
  /-- R91: IMPRECISE_EXCEPTION -/
  | impreciseException (core : Nat)
  /-- R212: STORE_DRAIN -/
  | storeDrain (core : Nat)
  /-- R68: CUE_RAISE -/
  | cueRaise (who : Master) (value : BitVec 64)
  /-- R58: EVENT_DELIVERY -/
  | eventDelivery (src : Nat)
  /-- R239: TOKEN_COMPARE -/
  | tokenCompare (pos : Nat) (seen : Compare) (ckpt : CopyCheck)
  /-- R245: TOKEN_TIMEOUT -/
  | tokenTimeout (pos : Nat) (ckpt : CopyCheck)
  /-- R254: DETECTED_INTERNAL_ERROR -/
  | detectedInternalError (pos partner : Nat) (err : IntErr) (ckpt : CopyCheck)
  /-- R247: AGREEMENT_POINT -/
  | agreementPoint (pos : Nat)
  /-- R252: GROUP_COMMIT -/
  | groupCommit (core : Nat)
  /-- R261: CUTIN -/
  | cutin (who : Master) (core spare : Nat)
  /-- R266: PAIR_SPLIT -/
  | pairSplit (who : Master) (core : Nat)
  /-- R266: SPLIT_HANDOVER -/
  | splitHandover (pos : Nat)
  /-- R268: PAIR_JOIN -/
  | pairJoin (who : Master) (core : Nat)
  /-- R268: JOIN_COMMIT -/
  | joinCommit (pos : Nat)
  /-- R263: RETIRE -/
  | retire (who : Master) (core : Nat)
  /-- R269: SERVICE_CUTIN -/
  | serviceCutin (mismatch : Bool)
  /-- R271: FBS_WATCHDOG_EXPIRY -/
  | fbsWatchdogExpiry
  /-- R271: FBS_KICK -/
  | fbsKick (who : Master)
  /-- R271: CALLER_NEEDED_CLEAR -/
  | callerNeededClear (who : Master)
  /-- R234: SCRUB_READ -/
  | scrubRead (chan line : Nat) (err : Option ErrSeen)
  /-- R228: RNG_FLUSH -/
  | rngFlush (who : Master) (source : Option Nat)
  /-- R228: RNG_FLUSH_INVAL -/
  | rngFlushInval (who : Master) (source : Option Nat)
  /-- R228: RNG_INVAL -/
  | rngInval (who : Master) (source : Option Nat)
  /-- R228: RNG_ZERO -/
  | rngZero (who : Master) (source : Option Nat)
  /-- R229: RANGE_DONE -/
  | rangeDone
  /-- R227: RES_CONVERSION_DONE -/
  | resConversionDone
  /-- R307: TRS_DOORBELL -/
  | trsDoorbell (who : Master) (queue tail : Nat)
  /-- R308: TRANSFORM -/
  | transform (engine : Nat)
  /-- R304: KEY_LOAD -/
  | keyLoad (engine : Nat)
  /-- R304: KEY_ERASE -/
  | keyErase (engine : Nat)
  /-- R320: VERIFY_ECDSA -/
  | verifyEcdsa (engine : Nat)
  /-- R320: VERIFY_LMS -/
  | verifyLms (engine : Nat)
  /-- R287: COMPRESS_BLOCK -/
  | compressBlock (engine segs : Nat)
  /-- R288: DECOMPRESS_BLOCK -/
  | decompressBlock (run : EngRun)
  /-- R316: ENGINE_INTERNAL_ERROR -/
  | engineInternalError (engine kind spill : Nat) (clears : Bool)
  /-- R327: READ -/
  | read (pair : Nat) (units : List Nat) (chk : CopyCheck)
  /-- R327: WRITE -/
  | write (pair : Nat) (units : List Nat) (chk : CopyCheck)
  /-- R327: FLUSH -/
  | flush (pair : Nat) (units : List Nat) (chk : CopyCheck)
  /-- R327: WRITE_ZEROES -/
  | writeZeroes (pair : Nat) (units : List Nat) (chk : CopyCheck)
  /-- R327: DSM -/
  | dsm (pair : Nat) (units : List Nat) (chk : CopyCheck)
  /-- R327: MGMT -/
  | mgmt (pair : Nat) (units : List Nat) (chk : CopyCheck)
  /-- R326: XCH_RQ_DOORBELL -/
  | xchRqDoorbell (who : Master) (ring tail : Nat)
  /-- R345: PATH_CHOICE -/
  | pathChoice (exch : Nat) (cids : List Nat) (chk : CopyCheck)
  /-- R351: EXCHANGE_TRANSFORM_DONE -/
  | exchangeTransformDone (exch : Nat) (run : SubmitRun)
  /-- R346: WINDOW_TRANSFER -/
  | windowTransfer (op : WindowOp)
  /-- R369: INTERRUPT_WRITE -/
  | interruptWrite (group port : Nat) (addr : BitVec 64) (data : List (BitVec 8))
  /-- R340: TARGET_COMPLETION -/
  | targetCompletion (target path cid status : Nat) (run : CmplRun)
  /-- R341: COMPLETION_RECORD_VISIBLE -/
  | completionRecordVisible (run : EntryRun)
  /-- R332: XCH_CQ_HEAD -/
  | xchCqHead (who : Master) (ring : Nat) (head : Reads Nat)
  /-- R343: PATH_FAILED -/
  | pathFailed (target path : Nat) (cause : Reads PathCause)
  /-- R343: COMMAND_TIMEOUT -/
  | commandTimeout (exch : EntryRun)
  /-- R347: ATTEMPT_END -/
  | attemptEnd (exch : EntryRun) (number : Nat)
  /-- R347: FENCE_EXPIRY -/
  | fenceExpiry (target : Nat) (path : Reads Nat)
  /-- R352: SEQUENCER_ADOPTION -/
  | sequencerAdoption (pair : Reads Nat)
  /-- R355: TABLE_COPY_FAILURE -/
  | tableCopyFailure (copy : Nat)
  /-- R355: TABLE_REBUILD_DONE -/
  | tableRebuildDone (ok : Bool)
  /-- R369: LINK_CHANGE -/
  | linkChange (group : Nat) (port : LinkRun) (up flit : Bool)
  /-- R357: DRAIN_END -/
  | drainEnd (done : Reads Nat)
  /-- R360: REPLAY_START -/
  | replayStart (who : Master) (ring : Nat)
  /-- R360: REPLAY_DONE -/
  | replayDone
  /-- R360: REPLAY_CONSUME -/
  | replayConsume (who : Master)
  /-- R375: CREATE -/
  | create (who : Master) (inst : Nat)
  /-- R375: INST_CMD_REMOVE -/
  | instCmdRemove (who : Master) (inst : Reads Nat)
  /-- R375: MODIFY -/
  | modify (who : Master) (inst : Nat)
  /-- R382: INST_RESET -/
  | instReset (who : Master) (inst : Reads Nat)
  /-- R386: INST_REMOVE -/
  | instRemove (who : Master) (inst : Reads Nat)
  /-- R382: RESET_ACKS_COMPLETE -/
  | resetAcksComplete (inst : Reads Nat)
  /-- R395: FLIT_RECEIVE -/
  | flitReceive (port : Nat) (bytes : List (BitVec 8)) (fec : Nat) (bad : Bool)
  /-- R396: LANE_FAULT -/
  | laneFault (port lane : Nat)
  /-- R401: PORT_DOWN -/
  | portDown (port : Nat)
  /-- R399: PORT_TRAINED -/
  | portTrained (port peer peerPort : Nat) (lanes : Lanes) (delay credit : Nat)
  /-- R396: SHB_RETRAIN -/
  | shbRetrain (who : Master) (port : Nat)
  /-- R397: TRICKLE_IDLE_EXPIRY -/
  | trickleIdleExpiry (port : Nat)
  /-- R397: TRICKLE_EXIT_DONE -/
  | trickleExitDone (port : Nat)
  /-- R407: READ_SHARED -/
  | readShared (port : Nat) (m : Msg) (errs : List ErrSeen) (ecc : DirEcc) (evict : Option Nat)
  /-- R407: READ_OWN -/
  | readOwn (port : Nat) (m : Msg) (errs : List ErrSeen) (ecc : DirEcc) (evict : Option Nat)
  /-- R407: UPGRADE -/
  | upgrade (port : Nat) (m : Msg) (errs : List ErrSeen) (ecc : DirEcc) (evict : Option Nat)
  /-- R407: OWN_NO_DATA -/
  | ownNoData (port : Nat) (m : Msg) (errs : List ErrSeen) (ecc : DirEcc) (evict : Option Nat)
  /-- R407: WRITEBACK -/
  | writeback (port : Nat) (m : Msg)
  /-- R407: DATA_SHARED -/
  | dataShared (port : Nat) (m : Msg)
  /-- R407: DATA_OWN -/
  | dataOwn (port : Nat) (m : Msg)
  /-- R407: GRANT -/
  | grant (port : Nat) (m : Msg)
  /-- R419: RETRY -/
  | retry (port : Nat) (m : Msg)
  /-- R405: NO_HOME -/
  | noHome (port : Nat) (m : Msg)
  /-- R407: WB_ACK -/
  | wbAck (port : Nat) (m : Msg)
  /-- R407: SNP_INV -/
  | snpInv (port : Nat) (m : Msg)
  /-- R407: SNP_SHARE -/
  | snpShare (port : Nat) (m : Msg)
  /-- R407: SNP_OWN -/
  | snpOwn (port : Nat) (m : Msg)
  /-- R407: SNP_ACK -/
  | snpAck (port : Nat) (m : Msg)
  /-- R407: SNP_DATA -/
  | snpData (port : Nat) (m : Msg)
  /-- R392: IO_READ -/
  | ioRead (port : Nat) (m : Msg)
  /-- R392: IO_WRITE -/
  | ioWrite (port : Nat) (m : Msg)
  /-- R392: IO_DATA -/
  | ioData (port : Nat) (m : Msg)
  /-- R392: IO_ACK -/
  | ioAck (port : Nat) (m : Msg)
  /-- R411: JOIN -/
  | join (port : Nat) (m : Msg)
  /-- R411: ADMIT -/
  | admitJoin (port : Nat) (m : Msg)
  /-- R411: REFUSE -/
  | refuse (port : Nat) (m : Msg)
  /-- R412: HEARTBEAT -/
  | heartbeat (port : Nat) (m : Msg)
  /-- R413: TAKEOVER -/
  | takeover (port : Nat) (m : Msg)
  /-- R417: SYNC -/
  | sync (port : Nat) (m : Msg)
  /-- R413: ALERT -/
  | alert (port : Nat) (m : Msg)
  /-- R401: HANDOVER -/
  | handover (port : Nat) (m : Msg)
  /-- R433: FAULT -/
  | fault (port : Nat) (m : Msg)
  /-- R410: LISTEN_EXPIRY -/
  | listenExpiry
  /-- R410: JOIN_REPEAT -/
  | joinRepeat
  /-- R412: HEARTBEAT_SEND -/
  | heartbeatSend
  /-- R412: HEARTBEAT_TIMEOUT -/
  | heartbeatTimeout (dev : Silence)
  /-- R417: SYNC_SEND -/
  | syncSend
  /-- R417: SYNC_LOSS -/
  | syncLoss
  /-- R416: TOD_SET -/
  | todSet (who : Master) (value : BitVec 64)
  /-- R416: TOD_PPS_EDGE -/
  | todPpsEdge
  /-- R418: TIMER_EXPIRY -/
  | timerExpiry (timer : Nat)
  /-- R434: FAULT_MESSAGE -/
  | faultMessage (blk unit kind cls akind addr : Nat)
  /-- R438: FLT_RESET_GO -/
  | fltResetGo (who : Master) (blk : Reads Nat)
  /-- R439: SHADOW_CLOSE -/
  | shadowClose (blk : Nat)
  /-- R436: FLT_PEND_ACK -/
  | fltPendAck (who : Master) (pair : Bool) (unit bits : Nat)
  /-- R438: BOOT_HOLD_CLEAR -/
  | bootHoldClear (who : Master)
  /-- R444: NO_CONTROLLER -/
  | noController
  /-- R455: BROWNOUT_ENTRY -/
  | brownoutEntry
  /-- R455: BROWNOUT_EXIT -/
  | brownoutExit
  /-- R456: POWER_FAIL_START -/
  | powerFailStart
  /-- R456: SAFE_STATE_ENTRY -/
  | safeStateEntry
  /-- R458: FAIL_RESTART -/
  | failRestart
  /-- R452: OVERVOLTAGE -/
  | overvoltage
  /-- R453: PHASE_FAILURE -/
  | phaseFailure
  /-- R459: CAP_WINDOW -/
  | capWindow (vin iin watts : Nat)
  /-- R459: THERMAL_SLOW_ENTRY -/
  | thermalSlowEntry (temp : Nat)
  /-- R459: THERMAL_STEP -/
  | thermalStep (temp : Nat)
  /-- R459: THERMAL_TRIP -/
  | thermalTrip
  /-- R534: POWER_ON -/
  | powerOn
  /-- R534: VIN54_REMOVED -/
  | vin54Removed
  /-- R516: RESET_N_ASSERT -/
  | resetNAssert
  /-- R516: RESET_N_RELEASE -/
  | resetNRelease
  /-- R462: DOMAIN_ON -/
  | domainOn (who : Master) (dom : Nat)
  /-- R460: DOMAIN_OFF -/
  | domainOff (who : Master) (dom : Reads Nat)
  /-- R462: WAKE_GRANT -/
  | wakeGrant
  /-- R464: DOMAIN_WAKE_DONE -/
  | domainWakeDone (dom : Nat) (pass : Bool)
  /-- R460: DOMAIN_OFF_DONE -/
  | domainOffDone (dom : Nat)
  /-- R471: PWR_DOMAIN_FAILED -/
  | pwrDomainFailed (dom : Reads Nat)
  /-- R468: STATE_REQ_ACTIVE -/
  | stateReqActive (who : Master)
  /-- R467: STATE_REQ_REST -/
  | stateReqRest (who : Master)
  /-- R467: STATE_REQ_STANDBY -/
  | stateReqStandby (who : Master)
  /-- R489: START_SEQUENCE -/
  | startSequence (run : StartRun)
  /-- R486: CFG_APPLY -/
  | cfgApply (who : Master)
  /-- R489: CFG_READY -/
  | cfgReady (who : Master)
  /-- R497: SVC_RESTART -/
  | svcRestart (who : Master)
  /-- R493: CHANNEL_TRAINED -/
  | channelTrained (good capacity : Nat)
  /-- R493: MEM_INIT_COMPLETE -/
  | memInitComplete
  /-- R505: NVM_READ -/
  | nvmRead (who : Master) (source : Option Nat)
  /-- R476: NVM_PROGRAM -/
  | nvmProgram (who : Master) (source : Option Nat)
  /-- R476: NVM_ERASE -/
  | nvmErase (who : Master) (source : Option Nat)
  /-- R505: NVM_DONE -/
  | nvmDone (fails : Bool)
  /-- R484: SVN_ADVANCE -/
  | svnAdvance (who : Master) (to_ : Nat)
  /-- R504: REKEY -/
  | rekey (who : Master)
  /-- R502: ATTEST_GO -/
  | attestGo (who : Master) (source : Option Nat)
  /-- R501: ATTEST_DONE -/
  | attestDone (journal : Bool)
  /-- R522: BMP_READ -/
  | bmpRead (bytes : List (BitVec 8))
  /-- R522: BMP_WRITE -/
  | bmpWrite (bytes : List (BitVec 8))
  /-- R522: BMP_PRIVATE_READ -/
  | bmpPrivateRead
  /-- R521: SETDASA -/
  | setdasa (static dyn : Nat)
  /-- R521: ENTDAA -/
  | entdaa (dyn : Nat)
  /-- R524: EXTEST -/
  | extest (pins drive : Nat)
  /-- R524: SAMPLE_PRELOAD -/
  | samplePreload (pins preload : Nat)
  /-- R524: IDCODE -/
  | idcode
  /-- R524: CLAMP -/
  | clamp
  /-- R524: HIGHZ -/
  | highz
  /-- R524: EXTEST_PULSE -/
  | extestPulse (pins drive : Nat)
  /-- R524: EXTEST_TRAIN -/
  | extestTrain (pins drive : Nat)
  /-- R524: BYPASS -/
  | bypass
  /-- R102: ILLEGAL_INSTRUCTION -/
  | illegalInstruction (core : Nat) (bytes : List (BitVec 8))
  /-- R102: FETCH_TRANSLATION -/
  | fetchTranslation (run : FetchRun)
  /-- R310: PIECE_WRITTEN -/
  | pieceWritten (run : EngRun)
  /-- R430: GROUP_FATAL -/
  | groupFatal (group : Reads Nat)
  /-- R524: TEST_LOGIC_RESET -/
  | testLogicReset
  /-- R521: ENEC -/
  | enec
  deriving DecidableEq, Repr

end Sys2Proof
end

