-- ==== Sys2Proof/Decode.lean ====
section
/-! DEFINITION. Commands from words.  The opcode table gives no row any bits: its rows are events and accesses, and the bits
of a core's instructions are the operands of their rows (`Machine/Isa.lean` holds their encodings). -/

namespace Sys2Proof

/-- The command that a word spells by the table's bits: none. -/
def decodeTableWord (_nbits _w : Nat) : Option Instr := none

end Sys2Proof
end

