-- ==== Sys2Proof/Config.lean ====
section
/-! DEFINITION. What an implementation fixes and what the manual leaves open: opaque constants and functions.
Nothing in Lean can evaluate them; a statement that holds, holds whatever they are.  A value drawn afresh
is one of these applied to State.free, the counter of values drawn (log entry 10). -/

namespace Sys2Proof.Config

/-- A free word: an undefined or unstated value of an instruction that goes on. -/
opaque freeWord : Nat → Word

/-- Free bytes: draw and index. -/
opaque freeByte : Nat → Nat → Byte

/-- R122: whether an access takes the TLB's translation where the tables say otherwise. -/
opaque tlbStale : Nat → Bool

/-- R205: which way of a full private-cache set is replaced. -/
opaque victim : Nat → Nat

/-- R182: the encoding of an FDSTART group in its four registers is not architectural. -/
opaque fdMask : BitVec 256

/-- R286: the commands that the device's compressor chooses for an input with a history (newest first), a block size and
flags. -/
opaque compressBody (inp hist : List Byte) (blockSize flags : Nat) : List Byte

/-- R292: the bytes of a stream context's ring outside its history, for the fields of a descriptor that a job keeps. -/
opaque ringByte (fields : List Byte) (k : Nat) : Byte

/-- R406: the set of the directory in which a line has its entry. -/
opaque dirSet : Nat → Nat

/-- R400: the ports of other devices (device, port) that are down at a time, by which detours are chosen. -/
opaque farDown : Nat → List (Nat × Nat)

/-- R490: the bytes of the mask ROM, by offset from 0xF_FFFF_FFFD_0000. -/
opaque romByte : Nat → Byte

/-- R480: the fused SHA-384 hashes of the ECDSA and the HSS public key. -/
opaque ecdsaKeyHash : List Byte
opaque hssKeyHash : List Byte

/-- R501: the signatures of a report, which depend on secrets: a byte of the ECDSA signature over a body, by draw; a byte of the HSS
signature under the key of an epoch with an index. -/
opaque ecdsaByte (draw : Nat) (body : List Byte) (k : Nat) : Byte
opaque hssByte (epoch index : Nat) (body : List Byte) (k : Nat) : Byte

/-- R503: the journal record that carries an epoch, a first index and their CRC-32C; its layout is not stated. -/
opaque journalByte (epoch first k : Nat) : Byte

/-- R506: the fused device serial, and the words of the identity public key. -/
opaque serial : BitVec 64
opaque idPub : Nat → BitVec 64

end Sys2Proof.Config
end

