-- ==== Sys2Proof/Machine/Bits.lean ====
section
/-! DEFINITION. Bit fields and byte order (R3: little-endian everywhere). -/

namespace Sys2Proof.Machine

/-- Bits [lo + n - 1 : lo] of a word, as a number. -/
def fld (w : Word) (lo n : Nat) : Nat := w.toNat / 2 ^ lo % 2 ^ n

/-- Bits [lo + n - 1 : lo] of a number. -/
def nfld (x lo n : Nat) : Nat := x / 2 ^ lo % 2 ^ n

/-- A word with bits [lo + n - 1 : lo] replaced by `v`. -/
def setFld (w : Word) (lo n v : Nat) : Word :=
  (w &&& ~~~(BitVec.ofNat 64 ((2 ^ n - 1) * 2 ^ lo))) ||| BitVec.ofNat 64 (v % 2 ^ n * 2 ^ lo)

/-- A number with bits [lo + n - 1 : lo] replaced by `v`. -/
def setNfld (x lo n v : Nat) : Nat := x - nfld x lo n * 2 ^ lo + v % 2 ^ n * 2 ^ lo

/-- Bit `k` of a word. -/
def bitOf (w : Word) (k : Nat) : Bool := w.toNat.testBit k

/-- 1 for true, 0 for false. -/
def b2n (b : Bool) : Nat := if b then 1 else 0

/-- The bit string whose bytes, lowest first, are given (R3). -/
def bytesToNat : List Byte → Nat
  | [] => 0
  | b :: bs => b.toNat + 256 * bytesToNat bs

/-- The low `n` bytes of a number, lowest first (R3). -/
def natToBytes : Nat → Nat → List Byte
  | 0, _ => []
  | n + 1, x => BitVec.ofNat 8 x :: natToBytes n (x / 256)

/-- The bytes of a word, lowest first. -/
def wordBytes (w : Word) : List Byte := natToBytes 8 w.toNat

/-- Bytes in the big-endian order of a published standard, as a number. -/
def bytesToNatBE (bs : List Byte) : Nat := bytesToNat bs.reverse

/-- `n` bytes, highest first. -/
def natToBytesBE (n x : Nat) : List Byte := (natToBytes n x).reverse

/-- The low `n` bits of `x` as a two's complement number. -/
def signedOf (n x : Nat) : Int :=
  if x % 2 ^ n < 2 ^ (n - 1) then (x % 2 ^ n : Nat) else ((x % 2 ^ n : Nat) : Int) - (2 ^ n : Nat)

/-- The low `n` bits of `x`, sign-extended to a word (R105). -/
def sextWord (n x : Nat) : Word := BitVec.ofInt 64 (signedOf n x)

/-- A count that saturates at the width of its field. -/
def satAdd (n x d : Nat) : Nat := min (2 ^ n - 1) (x + d)

/-- `l` with element `i` replaced. -/
def listSet (l : List α) (i : Nat) (v : α) : List α := l.set i v

/-- Whether `x` lies in [lo, lo + n). -/
def inRange (lo n x : Nat) : Bool := decide (lo ≤ x) && decide (x < lo + n)

end Sys2Proof.Machine
end

