-- ==== Sys2Proof/Machine/Crypto.lean ====
section
/-! DEFINITION. The published algorithms of the transform engines: CRC-32C (R299), SHA-384 (FIPS 180-4), AES-256 (FIPS
197), XTS (IEEE 1619, R296), GCM (NIST SP 800-38D, R297), and the verifications of R320: ECDSA on P-384 and HSS of RFC
8554 with SHA-256.  The standards themselves are outside the manual (log entry 13). -/

namespace Sys2Proof.Machine

/-- Bytes as numbers, and back. -/
def bytesNat (bs : List Byte) : List Nat := bs.map (·.toNat)
def natsBytes (ns : List Nat) : List Byte := ns.map (BitVec.ofNat 8 ·)

/-! CRC-32C -/

def crcBit (c : Nat) : Nat := if c % 2 = 1 then Nat.xor (c / 2) 0x82F63B78 else c / 2
def crcByte (c : Nat) (b : Byte) : Nat :=
  (List.range 8).foldl (fun x _ => crcBit x) (Nat.xor c b.toNat)

/-- R299: the running CRC over bytes; it starts at 0xFFFF_FFFF. -/
def crcRun (c : Nat) (bs : List Byte) : Nat := bs.foldl crcByte c
def crcStart : Nat := 0xFFFFFFFF
def crcEnd (c : Nat) : Nat := Nat.xor c 0xFFFFFFFF
def crc32c (bs : List Byte) : Nat := crcEnd (crcRun crcStart bs)

/-- The AES S-box, entry x in bits [8x + 7:8x]. -/
def sboxBits : Nat :=
  0xc072a49cafa2d4adf04759fa7dc982ca76abd7fe2b670130c56f6bf27b777c63
  ||| (0x75b227ebe28012079a059618c323c7041531d871f1e5a534ccf73f362693fdb7 <<< 256)
  ||| (0xcf584c4a39becb6a5bb1fc20ed00d153842fe329b3d63b52a05a6e1b1a2c8309 <<< 512)
  ||| (0xd2f3ff1021dab6bcf5389d928f40a351a89f3c507f02f94585334d43fbaaefd0 <<< 768)
  ||| (0xdb0b5ede14b8ee4688902a22dc4f816073195d643d7ea7c41744975fec130ccd <<< 1024)
  ||| (0x8ae7a65eaf4566ca94ed58d6d37c8e779e4959162acd3c25c2406490a3a32e0 <<< 1280)
  ||| (0x9e1dc186b95735610ef6034866b53e708a8bbd4b1f74dde8c6b4a61c2e2578ba <<< 1536)
  ||| (0x16bb54b00f2d99416842e6bf0d89a18cdf2855cee9871e9b948ed9691198f8e1 <<< 1792)

/-- The inverse S-box. -/
def invSboxBits : Nat :=
  0xcbe9dec444438e3487ff2f9b8239e37cfbd7f3819ea340bf38a53630d56a0952
  ||| (0x25d18b6d49a25b76b224d92866a12e084ec3fa420b954cee3d23c2a632947b54 <<< 256)
  ||| (0x849d8da75746155edab9edfd5048706c92b6655dcc5ca4d41698688664f6f872 <<< 512)
  ||| (0x6b8a130103bdafc1020f3fca8f1e2cd00645b3b80558e4f70ad3bc8c00abd890 <<< 768)
  ||| (0x6edf751ce837f9e28535ade72274ac9673e6b4f0cecff297eadc674f4111913a <<< 1024)
  ||| (0xf45acd78fec0db9a2079d2c64b3e56fc1bbe18aa0e62b76f89c5291d711af147 <<< 1280)
  ||| (0xef9cc9939f7ae52d0d4ab519a97f51605fec8027591012b131c7078833a8dd1f <<< 1536)
  ||| (0x7d0c2155631469e126d677ba7e042b17619953833cbbebc8b0f52aae4d3be0a0 <<< 1792)

/-- The constants of SHA-512 and SHA-384. -/
def k512Bits : Nat :=
  0xe9b5dba58189dbbcb5c0fbcfec4d3b2f7137449123ef65cd428a2f98d728ae22
  ||| (0xab1c5ed5da6d8118923f82a4af194f9b59f111f1b605d0193956c25bf348b538 <<< 256)
  ||| (0x550c7dc3d5ffb4e2243185be4ee4b28c12835b0145706fbed807aa98a3030242 <<< 512)
  ||| (0xc19bf174cf6926949bdc06a725c7123580deb1fe3b1696b172be5d74f27b896f <<< 768)
  ||| (0x240ca1cc77ac9c650fc19dc68b8cd5b5efbe4786384f25e3e49b69c19ef14ad2 <<< 1024)
  ||| (0x76f988da831153b55cb0a9dcbd41fbd44a7484aa6ea6e4832de92c6f592b0275 <<< 1280)
  ||| (0xbf597fc7beef0ee4b00327c898fb213fa831c66d2db43210983e5152ee66dfab <<< 1536)
  ||| (0x142929670a0e6e7006ca6351e003826fd5a79147930aa725c6e00bf33da88fc2 <<< 1792)
  ||| (0x53380d139d95b3df4d2c6dfc5ac42aed2e1b21385c26c92627b70a8546d22ffc <<< 2048)
  ||| (0x92722c851482353b81c2c92e47edaee6766a0abb3c77b2a8650a73548baf63de <<< 2304)
  ||| (0xc76c51a30654be30c24b8b70d0f89791a81a664bbc423001a2bfe8a14cf10364 <<< 2560)
  ||| (0x106aa07032bbd1b8f40e35855771202ad69906245565a910d192e819d6ef5218 <<< 2816)
  ||| (0x34b0bcb5e19b48a82748774cdf8eeb991e376c085141ab5319a4c116b8d2d0c8 <<< 3072)
  ||| (0x682e6ff3d6b2b8a35b9cca4f7763e3734ed8aa4ae3418acb391c0cb3c5c95a63 <<< 3328)
  ||| (0x8cc702081a6439ec84c87814a1f0ab7278a5636f43172f60748f82ee5defb2fc <<< 3584)
  ||| (0xc67178f2e372532bbef9a3f7b2c67915a4506cebde82bde990befffa23631e28 <<< 3840)
  ||| (0xf57d4f7fee6ed178eada7dd6cde0eb1ed186b8c721c0c207ca273eceea26619c <<< 4096)
  ||| (0x1b710b35131c471b113f9804bef90dae0a637dc5a2c898a606f067aa72176fba <<< 4352)
  ||| (0x431d67c49c100d4c3c9ebe0a15c9bebc32caab7b40c7249328db77f523047d84 <<< 4608)
  ||| (0x6c44198c4a4758175fcb6fab3ad6faec597f299cfc657e2a4cc5d4becb3e42b6 <<< 4864)

/-- The constants of SHA-256. -/
def k256Bits : Nat :=
  0xab1c5ed5923f82a459f111f13956c25be9b5dba5b5c0fbcf71374491428a2f98
  ||| (0xc19bf1749bdc06a780deb1fe72be5d74550c7dc3243185be12835b01d807aa98 <<< 256)
  ||| (0x76f988da5cb0a9dc4a7484aa2de92c6f240ca1cc0fc19dc6efbe4786e49b69c1 <<< 512)
  ||| (0x1429296706ca6351d5a79147c6e00bf3bf597fc7b00327c8a831c66d983e5152 <<< 768)
  ||| (0x92722c8581c2c92e766a0abb650a735453380d134d2c6dfc2e1b213827b70a85 <<< 1024)
  ||| (0x106aa070f40e3585d6990624d192e819c76c51a3c24b8b70a81a664ba2bfe8a1 <<< 1280)
  ||| (0x682e6ff35b9cca4f4ed8aa4a391c0cb334b0bcb52748774c1e376c0819a4c116 <<< 1536)
  ||| (0xc67178f2bef9a3f7a4506ceb90befffa8cc7020884c8781478a5636f748f82ee <<< 1792)

/-! SHA-384 and SHA-256 -/

/-- Rotation right of a `w`-bit number. -/
def rotr (w n x : Nat) : Nat := x / 2 ^ n + x % 2 ^ n * 2 ^ (w - n)

/-- The parameters in which the two hashes differ: word width, rounds, constants, rotations. -/
structure ShaKind where
  w : Nat
  rounds : Nat
  k : Nat
  bigS0 : Nat × Nat × Nat
  bigS1 : Nat × Nat × Nat
  smallS0 : Nat × Nat × Nat
  smallS1 : Nat × Nat × Nat
  deriving DecidableEq, Repr

def sha512Kind : ShaKind := ⟨64, 80, k512Bits, (28, 34, 39), (14, 18, 41), (1, 8, 7), (19, 61, 6)⟩
def sha256Kind : ShaKind := ⟨32, 64, k256Bits, (2, 13, 22), (6, 11, 25), (7, 18, 3), (17, 19, 10)⟩

def ShaKind.big (s : ShaKind) (r : Nat × Nat × Nat) (x : Nat) : Nat :=
  Nat.xor (Nat.xor (rotr s.w r.1 x) (rotr s.w r.2.1 x)) (rotr s.w r.2.2 x)

def ShaKind.small (s : ShaKind) (r : Nat × Nat × Nat) (x : Nat) : Nat :=
  Nat.xor (Nat.xor (rotr s.w r.1 x) (rotr s.w r.2.1 x)) (x / 2 ^ r.2.2)

/-- The message schedule, newest word first. -/
def ShaKind.schedule (s : ShaKind) (ws : List Nat) : Nat → List Nat
  | 0 => ws
  | n + 1 =>
    let ws := s.schedule ws n
    ((s.small s.smallS1 (ws.getD 1 0) + ws.getD 6 0 + s.small s.smallS0 (ws.getD 14 0) + ws.getD 15 0) % 2 ^ s.w) :: ws

/-- One round on the eight working words. -/
def ShaKind.round (s : ShaKind) (v : List Nat) (k w : Nat) : List Nat :=
  let a := v.getD 0 0
  let b := v.getD 1 0
  let c := v.getD 2 0
  let e := v.getD 4 0
  let f := v.getD 5 0
  let g := v.getD 6 0
  let ch := Nat.xor (Nat.land e f) (Nat.land (2 ^ s.w - 1 - e) g)
  let maj := Nat.xor (Nat.xor (Nat.land a b) (Nat.land a c)) (Nat.land b c)
  let t1 := v.getD 7 0 + s.big s.bigS1 e + ch + k + w
  let t2 := s.big s.bigS0 a + maj
  [(t1 + t2) % 2 ^ s.w, a, b, c, (v.getD 3 0 + t1) % 2 ^ s.w, e, f, g]

/-- One block of 16 words, given as bytes. -/
def ShaKind.block (s : ShaKind) (h : List Nat) (bs : List Byte) : List Nat :=
  let n := s.w / 8
  let ws := (List.range 16).map (fun i => bytesToNatBE ((bs.drop (n * i)).take n))
  let sch := (s.schedule ws.reverse (s.rounds - 16)).reverse
  let v := (sch.zip (List.range s.rounds)).foldl (fun v p => s.round v (s.k / 2 ^ (s.w * p.2) % 2 ^ s.w) p.1) h
  (h.zip v).map (fun p => (p.1 + p.2) % 2 ^ s.w)

/-- Whole blocks; what is left. -/
def ShaKind.blocks (s : ShaKind) : Nat → List Nat → List Byte → List Nat × List Byte
  | 0, h, bs => (h, bs)
  | n + 1, h, bs =>
    if bs.length < 2 * s.w then (h, bs) else s.blocks n (s.block h (bs.take (2 * s.w))) (bs.drop (2 * s.w))

/-- The padding after `count` bytes of which `buf` are not yet hashed. -/
def ShaKind.finish (s : ShaKind) (h : List Nat) (buf : List Byte) (count : Nat) : List Nat :=
  let lenBytes := s.w / 4
  let zeros := (2 * (2 * s.w) - 1 - lenBytes - buf.length % (2 * s.w)) % (2 * s.w)
  (s.blocks 3 h (buf ++ [0x80#8] ++ List.replicate zeros 0 ++ natToBytesBE lenBytes (8 * count))).1

def sha384Start : List Nat :=
  [0xCBBB9D5DC1059ED8, 0x629A292A367CD507, 0x9159015A3070DD17, 0x152FECD8F70E5939,
   0x67332667FFC00B31, 0x8EB44A8768581511, 0xDB0C2E0D64F98FA7, 0x47B5481DBEFA4FA4]

def sha256Start : List Nat :=
  [0x6A09E667, 0xBB67AE85, 0x3C6EF372, 0xA54FF53A, 0x510E527F, 0x9B05688C, 0x1F83D9AB, 0x5BE0CD19]

/-- The 48 bytes of a SHA-384 digest in the standard's order. -/
def sha384Out (h : List Nat) : List Byte := (h.take 6).flatMap (natToBytesBE 8)

def sha384 (bs : List Byte) : List Byte :=
  let (h, buf) := sha512Kind.blocks (bs.length / 128 + 1) sha384Start bs
  sha384Out (sha512Kind.finish h buf bs.length)

def sha256 (bs : List Byte) : List Byte :=
  let (h, buf) := sha256Kind.blocks (bs.length / 64 + 1) sha256Start bs
  (sha256Kind.finish h buf bs.length).flatMap (natToBytesBE 4)

/-! AES-256 -/

def sbox (x : Nat) : Nat := sboxBits / 2 ^ (8 * x) % 256
def invSbox (x : Nat) : Nat := invSboxBits / 2 ^ (8 * x) % 256
def xtime (x : Nat) : Nat := if x < 128 then 2 * x else Nat.xor (2 * x) 0x11B

/-- Product in GF(2^8) by a constant below 16. -/
def gmul (c x : Nat) : Nat :=
  let t (k : Nat) (v : Nat) : Nat := if c.testBit k then v else 0
  Nat.xor (Nat.xor (t 0 x) (t 1 (xtime x))) (Nat.xor (t 2 (xtime (xtime x))) (t 3 (xtime (xtime (xtime x)))))

def xorBytes (a b : List Nat) : List Nat := (a.zip b).map (fun p => Nat.xor p.1 p.2)

/-- The key schedule, newest word first; words are four bytes. -/
def aesExpand (key : List Nat) : Nat → List (List Nat)
  | 0 => (List.range 8).reverse.map (fun i => (key.drop (4 * i)).take 4)
  | n + 1 =>
    let ws := aesExpand key n
    let prev := ws.getD 0 []
    let i := n + 8
    let rcon := (List.range (i / 8 - 1)).foldl (fun x _ => xtime x) 1
    let t := if i % 8 = 0 then xorBytes ((prev.drop 1 ++ prev.take 1).map sbox) [rcon, 0, 0, 0]
      else if i % 8 = 4 then prev.map sbox else prev
    xorBytes (ws.getD 7 []) t :: ws

/-- The 15 round keys of a 256-bit key. -/
def aesKeys (key : List Nat) : List (List Nat) :=
  let ws := (aesExpand key 52).reverse
  (List.range 15).map (fun r => ((ws.drop (4 * r)).take 4).flatten)

/-- Byte i of the result is byte `f i` of the state. -/
def aesPermute (f : Nat → Nat) (s : List Nat) : List Nat := (List.range 16).map (fun i => s.getD (f i) 0)
def shiftRows (s : List Nat) : List Nat := aesPermute (fun i => (i + 4 * (i % 4)) % 16) s
def invShiftRows (s : List Nat) : List Nat := aesPermute (fun i => (i + 12 * (i % 4)) % 16) s

/-- A column matrix given by its first row. -/
def mixWith (row : List Nat) (s : List Nat) : List Nat :=
  (List.range 16).map (fun i =>
    (List.range 4).foldl (fun x j => Nat.xor x (gmul (row.getD ((j + 4 - i % 4) % 4) 0) (s.getD (i / 4 * 4 + j) 0))) 0)

def aesEncrypt (keys : List (List Nat)) (blk : List Nat) : List Nat :=
  let s := (List.range 13).foldl
    (fun s r => xorBytes (mixWith [2, 3, 1, 1] (shiftRows (s.map sbox))) (keys.getD (r + 1) [])) (xorBytes blk (keys.getD 0 []))
  xorBytes (shiftRows (s.map sbox)) (keys.getD 14 [])

def aesDecrypt (keys : List (List Nat)) (blk : List Nat) : List Nat :=
  let s := (List.range 13).foldl
    (fun s r => mixWith [14, 11, 13, 9] (xorBytes ((invShiftRows s).map invSbox) (keys.getD (13 - r) [])))
    (xorBytes blk (keys.getD 14 []))
  xorBytes ((invShiftRows s).map invSbox) (keys.getD 0 [])

/-- Bytes in blocks of 16, the last one short. -/
def chunks16 : Nat → List Nat → List (List Nat)
  | 0, _ => []
  | n + 1, bs => if bs.isEmpty then [] else bs.take 16 :: chunks16 n (bs.drop 16)

/-! XTS (R296) -/

/-- The tweak times alpha, as a little-endian number. -/
def xtsNext (t : Nat) : Nat := if t < 2 ^ 127 then 2 * t else Nat.xor (2 * t - 2 ^ 128) 0x87

/-- One data unit of whole blocks, under round keys of both keys. -/
def xtsUnit (enc : Bool) (k1 k2 : List (List Nat)) (du : Nat) (bs : List Nat) : List Nat :=
  let t0 := bytesToNat (natsBytes (aesEncrypt k2 (bytesNat (natToBytes 16 du))))
  ((chunks16 (bs.length / 16 + 1) bs).foldl (fun (p : List (List Nat) × Nat) b =>
    let t := bytesNat (natToBytes 16 p.2)
    let x := xorBytes b t
    (xorBytes (if enc then aesEncrypt k1 x else aesDecrypt k1 x) t :: p.1, xtsNext p.2)) ([], t0)).1.reverse.flatten

/-- Whole data units of `size` bytes, the first numbered `du`. -/
def xtsUnits (enc : Bool) (k1 k2 : List (List Nat)) (size : Nat) : Nat → Nat → List Nat → List Nat
  | 0, _, _ => []
  | n + 1, du, bs =>
    if bs.isEmpty then []
    else xtsUnit enc k1 k2 du (bs.take size) ++ xtsUnits enc k1 k2 size n ((du + 1) % 2 ^ 64) (bs.drop size)

/-- R296: bytes under a 64-byte XTS key. -/
def xtsBytes (enc : Bool) (key : List Byte) (size du : Nat) (bs : List Byte) : List Byte :=
  natsBytes (xtsUnits enc (aesKeys (bytesNat (key.take 32))) (aesKeys (bytesNat (key.drop 32))) size (bs.length / size + 1)
    du (bytesNat bs))

/-! GCM (R297) -/

/-- Product in GF(2^128), bit 127 first. -/
def ghashMul (x y : Nat) : Nat :=
  ((List.range 128).foldl (fun (p : Nat × Nat) i =>
    (if x.testBit (127 - i) then Nat.xor p.1 p.2 else p.1,
     if p.2 % 2 = 1 then Nat.xor (p.2 / 2) (0xE1 * 2 ^ 120) else p.2 / 2)) (0, y)).1

def beNat (bs : List Nat) : Nat := bytesToNatBE (natsBytes bs)
def natBe16 (x : Nat) : List Nat := bytesNat (natToBytesBE 16 x)

/-- GHASH over bytes, padded with zeros to whole blocks. -/
def ghash (h acc : Nat) (bs : List Nat) : Nat :=
  (chunks16 (bs.length / 16 + 1) bs).foldl (fun a b =>
    ghashMul (Nat.xor a (beNat (b ++ List.replicate (16 - b.length) 0))) h) acc

/-- The hash key. -/
def gcmH (keys : List (List Nat)) : Nat := beNat (aesEncrypt keys (List.replicate 16 0))

/-- Bytes in counter mode from counter `ctr` on, under a 12-byte IV. -/
def gcmCrypt (keys : List (List Nat)) (iv : List Nat) (ctr : Nat) (bs : List Nat) : List Nat :=
  ((chunks16 (bs.length / 16 + 1) bs).foldl (fun (p : List (List Nat) × Nat) b =>
    (xorBytes b (aesEncrypt keys (iv ++ bytesNat (natToBytesBE 4 p.2))) :: p.1, (p.2 + 1) % 2 ^ 32)) ([], ctr)).1.reverse.flatten

/-- The tag, from the accumulator and the lengths in bytes. -/
def gcmTag (keys : List (List Nat)) (iv : List Nat) (acc aadLen ctLen : Nat) : List Nat :=
  let a := ghash (gcmH keys) acc (natBe16 (aadLen * 8 * 2 ^ 64 + ctLen * 8))
  xorBytes (natBe16 a) (aesEncrypt keys (iv ++ [0, 0, 0, 1]))

/-! ECDSA on P-384 (R320) -/

def p384P : Nat := 2 ^ 384 - 2 ^ 128 - 2 ^ 96 + 2 ^ 32 - 1
def p384N : Nat := 0xFFFFFFFFFFFFFFFFFFFFFFFFFFFFFFFFFFFFFFFFFFFFFFFFC7634D81F4372DDF581A0DB248B0A77AECEC196ACCC52973
def p384B : Nat := 0xB3312FA7E23EE7E4988E056BE3F82D19181D9C6EFE8141120314088F5013875AC656398D8A2ED19D2A85C8EDD3EC2AEF
def p384G : Nat × Nat :=
  (0xAA87CA22BE8B05378EB1C71EF320AD746E1D3B628BA79B9859F741E082542A385502F25DBF55296C3A545E3872760AB7,
   0x3617DE4A96262C6F5D9E98BF9292DC29F8F41DBD289A147CE9DA3113B5F0B8C00A60B1CE1D7E819D7A431D7C90EA0E5F)

/-- a^e mod m for an exponent of at most `n` bits. -/
def powMod (a m : Nat) : Nat → Nat → Nat
  | 0, _ => 1
  | n + 1, e =>
    let h := powMod a m n (e / 2)
    if e % 2 = 1 then h * h % m * a % m else h * h % m

def invMod (a m : Nat) : Nat := powMod (a % m) m 384 (m - 2)

/-- The sum of two points, none standing for the point at infinity. -/
def ecAdd (p q : Option (Nat × Nat)) : Option (Nat × Nat) :=
  match p, q with
  | none, r => r
  | r, none => r
  | some (x1, y1), some (x2, y2) =>
    if x1 = x2 ∧ (y1 + y2) % p384P = 0 then none
    else
      let l := if x1 = x2 then (3 * x1 * x1 + p384P - 3) * invMod (2 * y1) p384P % p384P
        else (y2 + p384P - y1) * invMod (x2 + p384P - x1) p384P % p384P
      let x3 := (l * l + 2 * p384P - x1 - x2) % p384P
      some (x3, (l * (x1 + p384P - x3) + p384P - y1) % p384P)

/-- k times a point, for k of at most `n` bits. -/
def ecMul (pt : Option (Nat × Nat)) : Nat → Nat → Option (Nat × Nat)
  | 0, _ => none
  | n + 1, k =>
    let h := ecMul pt n (k / 2)
    let d := ecAdd h h
    if k % 2 = 1 then ecAdd d pt else d

/-- R320: an ECDSA signature over the SHA-384 digest of a message, under a 97-byte uncompressed point. -/
def ecdsaOk (msg key sig : List Byte) : Bool :=
  let x := bytesToNatBE ((key.drop 1).take 48)
  let y := bytesToNatBE (key.drop 49)
  let r := bytesToNatBE (sig.take 48)
  let s := bytesToNatBE (sig.drop 48)
  let e := bytesToNatBE (sha384 msg)
  let w := invMod s p384N
  key.getD 0 0 == 4#8 && decide (x < p384P) && decide (y < p384P)
    && (y * y % p384P == (x * x % p384P * x + (p384P - 3) * x + p384B) % p384P)
    && decide (0 < r) && decide (r < p384N) && decide (0 < s) && decide (s < p384N)
    && match ecAdd (ecMul (some p384G) 384 (e * w % p384N)) (ecMul (some (x, y)) 384 (r * w % p384N)) with
      | some (x1, _) => x1 % p384N == r
      | none => false

/-! HSS of RFC 8554 (R320): LMS trees of height 10 or 15, LM-OTS with n = 32 and w = 8 -/

def u32 (n : Nat) : List Byte := natToBytesBE 4 n
def u16 (n : Nat) : List Byte := natToBytesBE 2 n
def rd32 (bs : List Byte) (at_ : Nat) : Nat := bytesToNatBE ((bs.drop at_).take 4)
def sub (bs : List Byte) (at_ n : Nat) : List Byte := (bs.drop at_).take n

/-- The height that an LMS type names: 6 is 10, 7 is 15. -/
def lmsHeight (t : Nat) : Option Nat := if t = 6 then some 10 else if t = 7 then some 15 else none
def lmotsType : Nat := 4

/-- A chain of hashes from step `j`, `n` steps. -/
def otsChain (pre : List Byte) (i j : Nat) (x : List Byte) : Nat → List Byte
  | 0 => x
  | n + 1 => otsChain pre i (j + 1) (sha256 (pre ++ u16 i ++ natToBytes 1 j ++ x)) n

/-- The candidate public key of an LM-OTS signature (type, C, 34 values). -/
def otsCandidate (id : List Byte) (q : Nat) (msg ots : List Byte) : List Byte :=
  let pre := id ++ u32 q
  let qh := sha256 (pre ++ u16 0x8181 ++ sub ots 4 32 ++ msg)
  let sum := (bytesNat qh).foldl (fun a b => a + (255 - b)) 0
  let digits := bytesNat (qh ++ u16 sum)
  sha256 (pre ++ u16 0x8080 ++ ((List.range 34).flatMap (fun i =>
    let a := digits.getD i 0
    otsChain pre i a (sub ots (36 + 32 * i) 32) (255 - a))))

/-- The root that a leaf and its path give. -/
def lmsRoot (id : List Byte) (path : List Byte) : Nat → Nat → Nat → List Byte → List Byte
  | 0, _, _, x => x
  | n + 1, i, node, x =>
    let sib := sub path (32 * i) 32
    lmsRoot id path n (i + 1) (node / 2)
      (sha256 (id ++ u32 (node / 2) ++ u16 0x8383 ++ (if node % 2 = 1 then sib ++ x else x ++ sib)))

def lmsPubLen : Nat := 56
def lmsSigLen (h : Nat) : Nat := 4 + (4 + 32 + 32 * 34) + 4 + 32 * h

/-- One LMS signature of a message under a 56-byte LMS public key of height `h`. -/
def lmsOk (h : Nat) (msg pub sig : List Byte) : Bool :=
  let id := sub pub 8 16
  let q := rd32 sig 0
  let ots := sub sig 4 1124
  let k := otsCandidate id q msg ots
  let leaf := sha256 (id ++ u32 (2 ^ h + q) ++ u16 0x8282 ++ k)
  sig.length == lmsSigLen h && rd32 sig 4 == lmotsType && rd32 sig 1128 == rd32 pub 0 && decide (q < 2 ^ h)
    && (lmsRoot id (sub sig 1132 (32 * h)) h 0 (2 ^ h + q) leaf == sub pub 24 32)

/-- What a verification answers. -/
inductive Verdict where
  | badSet | fails | passes
  deriving DecidableEq, Repr

def Verdict.ofBool (b : Bool) : Verdict := if b then .passes else .fails

/-- R320: an HSS signature with L = 1 or 2.  A key that is not 60 bytes verifies nothing, and one too short to name a set has a bad one
(DESIGN CHOICE, log entry 196). -/
def hssVerify (msg key sig : List Byte) : Verdict :=
  let pub := key.drop 4
  match lmsHeight (rd32 pub 0), rd32 pub 4 == lmotsType with
  | some h1, true =>
    if rd32 key 0 = 1 then
      if key.length = 60 then .ofBool (rd32 sig 0 == 0 && lmsOk h1 msg pub (sig.drop 4)) else .fails
    else if rd32 key 0 = 2 then
      let s1 := sub sig 4 (lmsSigLen h1)
      let pub2 := sub sig (4 + lmsSigLen h1) lmsPubLen
      -- a signature without a whole second public key names no parameter set: it does not verify
      if key.length ≠ 60 ∨ rd32 sig 0 ≠ 1 ∨ pub2.length < lmsPubLen then .fails
      else match lmsHeight (rd32 pub2 0), rd32 pub2 4 == lmotsType with
        | some h2, true =>
          .ofBool (lmsOk h1 pub2 pub s1 && lmsOk h2 msg pub2 (sig.drop (4 + lmsSigLen h1 + lmsPubLen)))
        | _, _ => .badSet
    else .badSet
  | _, _ => .badSet

end Sys2Proof.Machine
end

