-- ==== Sys2Proof/Machine/BlockFmt.lean ====
section
/-! DEFINITION. The block format of the transform engines (R281 to R290). -/

namespace Sys2Proof.Machine

/-- A field of bytes, little-endian. -/
def dn (d : List Byte) (a n : Nat) : Nat := bytesToNat (sub d a n)

/-- R289, R309: status codes. -/
def stDone : Nat := 0x01
def stOutFull : Nat := 0x02
def dcHeader : Nat := 0x10
def dcIllegal : Nat := 0x11
def dcDistance : Nat := 0x12
def dcLength : Nat := 0x13
def dcClass : Nat := 0x14
def dcCheck : Nat := 0x15
def stBadDesc : Nat := 0x20
def stBadLength : Nat := 0x21
def stBadResume : Nat := 0x22
def stCtx : Nat := 0x23
def stKeyRange : Nat := 0x24
def stKeyEmpty : Nat := 0x25
def stKeyKind : Nat := 0x26
def stBadKey : Nat := 0x27
def stTagFail : Nat := 0x28
def stSigFail : Nat := 0x29
def stPoison : Nat := 0x30

/-- The window of R285. -/
def histMax : Nat := 32768

/-- R284: `n` bytes, each from `d` positions before it, in output kept newest first. -/
def copyMatch : Nat → Nat → List Byte → List Byte
  | 0, _, r => r
  | n + 1, d, r => copyMatch n d (r.getD (d - 1) 0 :: r)

/-- What a body decodes to: an error with its code and offset, or the offset after end of block and the output,
newest first. -/
inductive Body where
  | bad (code off : Nat)
  | ok (next : Nat) (out : List Byte)
  deriving DecidableEq, Repr

/-- R288: the commands of a block of `len` bytes of input and `endp` bytes in all; `p` and `o` as in the manual's text,
`h` the history available, `dmax` the largest distance taken, `r` the bytes from `p` on, `acc` the output before,
newest first. -/
def decodeBody (endp len h dmax : Nat) : Nat → List Byte → Nat → Nat → List Byte → Body
  | 0, _, p, _, _ => .bad dcClass p
  | fuel + 1, r, p, o, acc =>
    match r with
    | [] => .bad dcClass p
    | cb :: r1 =>
      let c := cb.toNat
      if endp ≤ p then .bad dcClass p
      else if 0xC0 ≤ c then
        if c = 0xFF then (if o = len then .ok (p + 1) acc else .bad dcLength p) else .bad dcIllegal p
      else if c < 0x40 then
        let n := c + 1
        if endp < p + 1 + n then .bad dcClass p
        else if len < o + n then .bad dcLength p
        else decodeBody endp len h dmax fuel (r1.drop n) (p + 1 + n) (o + n) ((r1.take n).reverse ++ acc)
      else
        let long := decide (0x80 ≤ c)
        let x := long && c % 64 == 63
        let m := if x then 3 else if long then 2 else 1
        let n := if long then c % 64 + 3 + (if x then dn r1 0 1 else 0) else c / 8 % 8 + 3
        let d := if long then dn r1 (if x then 1 else 0) 2 + 1 else c % 8 * 256 + dn r1 0 1 + 1
        if endp < p + 1 + m then .bad dcClass p
        else if o + h < d ∨ dmax < d then .bad dcDistance p
        else if len < o + n then .bad dcLength p
        else decodeBody endp len h dmax fuel (r1.drop m) (p + 1 + m) (o + n) (copyMatch n d acc)

/-- The first byte from offset `p` on that is not padding. -/
def badPad : Nat → List Byte → Option Nat
  | _, [] => none
  | p, b :: bs => if b = 0xC0#8 then badPad (p + 1) bs else some p

/-- A decoded block, or the error that ends the job. -/
inductive Decoded where
  | bad (code off : Nat)
  | ok (out : List Byte)
  deriving DecidableEq, Repr

/-- Header fields (R281). -/
def hdrClass (b : List Byte) : Nat := dn b 2 1
def hdrRaw (b : List Byte) : Bool := (dn b 3 1).testBit 0
def hdrHist (b : List Byte) : Bool := (dn b 3 1).testBit 1
def hdrLast (b : List Byte) : Bool := (dn b 3 1).testBit 2
def hdrLen (b : List Byte) : Nat := dn b 4 4
def hdrSeq (b : List Byte) : Nat := dn b 12 4

/-- R288: the checks on a header, in order. -/
def headerCheck (b : List Byte) (avail nextSeq : Nat) : Option (Nat × Nat) :=
  if avail < 16 then some (dcLength, avail)
  else if dn b 0 1 ≠ 0xC7 then some (dcHeader, 0)
  else if dn b 1 1 ≠ 1 then some (dcHeader, 1)
  else if hdrClass b < 1 ∨ 129 < hdrClass b then some (dcHeader, 2)
  else if 16 ≤ dn b 3 1 then some (dcHeader, 3)
  else if hdrLen b < 1 ∨ 65536 < hdrLen b then some (dcHeader, 4)
  else if hdrHist b ∧ hdrSeq b ≠ nextSeq then some (dcHeader, 12)
  else if avail < hdrClass b * 512 then some (dcLength, avail)
  else none

/-- R288: a whole block, `hist` being the history held, newest first. -/
def decodeBlock (b : List Byte) (avail nextSeq : Nat) (hist : List Byte) : Decoded :=
  match headerCheck b avail nextSeq with
  | some e => .bad e.1 e.2
  | none =>
    let endp := hdrClass b * 512
    let len := hdrLen b
    let blk := b.take endp
    let body : Body :=
      if hdrRaw b then
        if endp < 16 + len then .bad dcClass 2 else .ok (16 + len) (sub blk 16 len).reverse
      else
        let h := if hdrHist b then hist else []
        match decodeBody endp len h.length 65536 (endp + 1) (blk.drop 16) 16 0 h with
        | .bad c o => .bad c o
        | .ok n out => .ok n (out.take len)
    match body with
    | .bad c o => .bad c o
    | .ok n out =>
      match badPad n (blk.drop n) with
      | some i => .bad dcIllegal i
      | none => if crc32c out.reverse = dn b 8 4 then .ok out.reverse else .bad dcCheck 8

/-- The smallest class that holds `n` bytes. -/
def classOf (n : Nat) : Nat := (n + 511) / 512

/-- R287: the class of a block of `len` bytes of input whose commands take `body` bytes, without a target; and whether
it is raw. -/
def emitClass (len body : Nat) : Nat × Bool :=
  if classOf (16 + body) < classOf (16 + len) then (classOf (16 + body), false) else (classOf (16 + len), true)

/-- R281, R283, R284, R287: the bytes of a block. -/
def blockBytes (inp body : List Byte) (target seq : Nat) (hist last flushed : Bool) : List Byte :=
  let (c0, raw) := emitClass inp.length body.length
  let c := max c0 target
  let head := [0xC7#8, 1#8, BitVec.ofNat 8 c,
      BitVec.ofNat 8 (b2n raw + 2 * b2n hist + 4 * b2n last + 8 * b2n flushed)]
    ++ natToBytes 4 inp.length ++ natToBytes 4 (crc32c inp) ++ natToBytes 4 seq
  let mid := if raw then inp else body
  head ++ mid ++ List.replicate (c * 512 - 16 - mid.length) 0xC0#8

/-- R284 to R286: a compressed form of an input: commands up to end of block, decoding to it, no distance above the
window. -/
def bodyEncodes (body inp hist : List Byte) : Bool :=
  match decodeBody (16 + body.length) inp.length hist.length histMax (body.length + 1) body 16 0 hist with
  | .ok n out => n == 16 + body.length && (out.take inp.length).reverse == inp
  | .bad _ _ => false

/-- A body of literal runs alone. -/
def literals : Nat → List Byte → List Byte
  | 0, _ => [0xFF#8]
  | _, [] => [0xFF#8]
  | fuel + 1, inp => BitVec.ofNat 8 ((inp.take 64).length - 1) :: inp.take 64 ++ literals fuel (inp.drop 64)

/-- R286: the device's compressed form of an input, the same whenever input, history, block size and flags are.  Which it is
is open (log entry 111): any body that is one; literal runs stand for a choice that is none. -/
def compressed (inp hist : List Byte) (blockSize flags : Nat) : List Byte :=
  let b := Config.compressBody inp hist blockSize flags
  if bodyEncodes b inp hist then b else literals inp.length inp

end Sys2Proof.Machine
end

