-- ==== Sys2Proof/Machine/Map.lean ====
section
/-! DEFINITION. Finite maps from numbers as plain data: lists of (key, value) with strictly rising keys.
A key that is not listed has the default of the reader. -/

namespace Sys2Proof.Machine

/-- A finite map from numbers, keys strictly rising. -/
abbrev NMap (α : Type) := List (Nat × α)

/-- The value at key `k`, `d` where none is listed. -/
def mapGet (d : α) : NMap α → Nat → α
  | [], _ => d
  | (k', v) :: m, k => if k' = k then v else mapGet d m k

/-- The value at key `k`, if one is listed. -/
def mapGet? : NMap α → Nat → Option α
  | [], _ => none
  | (k', v) :: m, k => if k' = k then some v else mapGet? m k

/-- The map with `v` at key `k`. -/
def mapSet : NMap α → Nat → α → NMap α
  | [], k, v => [(k, v)]
  | (k', v') :: m, k, v =>
    if k' = k then (k, v) :: m
    else if k < k' then (k, v) :: (k', v') :: m
    else (k', v') :: mapSet m k v

/-- The map without key `k`. -/
def mapErase : NMap α → Nat → NMap α
  | [], _ => []
  | (k', v') :: m, k => if k' = k then m else (k', v') :: mapErase m k

/-- The keys of a map. -/
def mapKeys (m : NMap α) : List Nat := m.map Prod.fst

/-- Keys strictly rising: the canonical form of a map. -/
def mapSorted : NMap α → Bool
  | [] => true
  | [_] => true
  | (k, _) :: (k', v) :: m => decide (k < k') && mapSorted ((k', v) :: m)

end Sys2Proof.Machine
end

