-- ==== Sys2Proof/Machine/CoreState.lean ====
section
/-! DEFINITION. The state of the cores and of the pair positions: banks, levels, checkpoints, long
operations, store buffers, private structures (R47, R56, R160, R205, R212, R251), and what stands between
a pair and the fabric (R239 to R276). -/

namespace Sys2Proof.Machine

/-- R70: what a trap saves beside the PC and the SW. -/
structure TrapInfo where
  code : Nat
  imp : Bool
  addr : Word
  iaddr : Word
  detail : Nat
  deriving DecidableEq, Repr

/-- R198: a register that a long operation writes: a global or windowed register of a bank, or F0-F31. -/
inductive Dst where
  | g (bank n : Nat)
  | w (bank n : Nat)
  | f (n : Nat)
  deriving DecidableEq, Repr

/-- R90: a long operation that has issued.  Its results were computed at issue; they are written when it
completes.  Once done it stays listed only while its exception is pending (R91). -/
structure LongOp where
  iaddr : Word
  /-- instructions that had retired when it issued: its place in program order (R252) -/
  idx : Nat
  writes : List (Dst × Word)
  /-- C, V, Z, N as in SW[3:0], if it writes them (R128) -/
  flags : Option Nat
  /-- SW.DSS, if it writes it -/
  dss : Option Bool
  /-- FCW flags it sets, as in FCW[4:0] -/
  fpFlags : Nat
  isFp : Bool
  exc : Option TrapInfo
  done : Bool
  deriving DecidableEq, Repr

/-- R56: a level's state; running and interrupted are one, told apart by the current level (R57). -/
inductive Run where
  | inactive | active | waiting | frozen
  deriving DecidableEq, Repr

/-- R136, R177, R194: whose state SW.DSS carries: no chain's; one that software has written, of which nothing is known; that
of the integer chain on a pair of a bank, with its divisor and its steps; that of the floating-point chain on a group.  A
chain of another form, and chains that meet at one level, leave values that are not defined. -/
inductive DssBy where
  | none
  | any
  | int (bank rd d steps : Nat)
  | flt (n : Nat)
  deriving DecidableEq, Repr

/-- R47, R53, R114: what each level has of its own. -/
structure Level where
  /-- G1-G7, keyed by number -/
  g : NMap Word
  /-- the 100 physical windowed registers, keyed by number -/
  w : NMap Word
  sw : Word
  pc : Word
  vector : Word
  trapPc : Word
  trapSw : Word
  trapCause : Word
  trapAddr : Word
  trapIaddr : Word
  evtCurrent : Word
  fpSave : Word
  iroot : Word
  droot : Word
  asid : Word
  run : Run
  /-- bytes of the WAIT at which a waiting level stands -/
  waitLen : Nat
  /-- long operations in flight and pending imprecise exceptions, in program order -/
  ops : List LongOp
  /-- the chain whose DSS the SW holds, and the one whose DSS TRAP_SW holds (R136, R177) -/
  dssBy : DssBy
  trapBy : DssBy
  deriving DecidableEq, Repr

/-- R251: the architected state of a core, as its checkpoint holds it. -/
structure Arch where
  levels : NMap Level
  lvlCtl : Word
  f : NMap Word
  fcw : Word
  /-- CORE_PREF_CTL in force -/
  pref : Word
  /-- of a floating-point switch in progress (R84): step 2 is done -/
  fpSaved : Bool
  deriving DecidableEq, Repr

/-- R212: an entry of the store buffer. -/
structure SbEntry where
  addr : Nat
  bytes : List Byte
  nt : Bool
  /-- instructions that had retired when it was made -/
  idx : Nat
  /-- covered by the checkpoint: it may leave (R241, R252) -/
  kept : Bool
  /-- its line had to be asked for (R211) -/
  cold : Bool
  deriving DecidableEq, Repr

/-- R427: a fault message. -/
structure FaultMsg where
  dev : Nat
  blk : Nat
  unit : Nat
  kind : Nat
  cls : Nat
  conseq : Bool
  akind : Nat
  addr : Nat
  time : Nat
  deriving DecidableEq, Repr

/-- R240: what leaves a core only when its group commits, besides stores.  `merged`: the message of a committed store that met a
poisoned line as it drained (R223); no retry discards it, for the store is not made again. -/
inductive Act where
  | out (addr : Nat) (v : Word) (chks : List (Nat × CopyCheck))
  | fault (m : FaultMsg)
  | merged (m : FaultMsg)
  deriving DecidableEq, Repr

/-- R240, R276: the kinds of token, with what each carries beside its originator: an address and a size, or the bytes
written from an address on (the byte mask and the data). -/
inductive TokenBody where
  | read (addr n : Nat)
  /-- the ownership request of a PREFW -/
  | own (addr : Nat)
  | store (addr : Nat) (bytes : List Byte)
  | cas (addr n expect new : Nat)
  | inp (addr : Nat)
  | out (addr : Nat) (v : Word)
  | eventAck (src : Nat)
  | invAck (line : Nat)
  /-- `held`: a program fault message, released at its commit; else a detection, released on comparison -/
  | faultMsg (m : FaultMsg) (held : Bool)
  | agreement (count : Nat)
  deriving DecidableEq, Repr

/-- R239: a token: what the comparator compares of it, the logical core that names its originator (R34), and the count of
instructions retired when it was produced. -/
structure Token where
  body : TokenBody
  core : Nat
  idx : Nat
  deriving DecidableEq, Repr

/-- R68: an event as it is delivered: source, merged count, word. -/
structure Event where
  src : Nat
  count : Nat
  word : Nat
  deriving DecidableEq, Repr

/-- R121: a TLB entry: space (true for data), ASID, global, the page's virtual base and size, its leaf entry. -/
structure TlbEntry where
  data : Bool
  asid : Nat
  gl : Bool
  vbase : Nat
  size : Nat
  leaf : Word
  deriving DecidableEq, Repr

/-- R200: a decoded operation in the loop buffer's ring: its address, its length in bytes, the operations it makes. -/
structure RingOp where
  ia : Word
  len : Nat
  n : Nat
  /-- one of the instructions that no captured body holds -/
  barred : Bool
  target : Option Word
  /-- the physical lines it was decoded from (R203) -/
  lines : List Nat
  deriving DecidableEq, Repr

/-- R210: a prefetch stream: instruction or data, stride in lines, last line seen. -/
structure Stream where
  instr : Bool
  stride : Int
  last : Nat
  deriving DecidableEq, Repr

/-- R205: the private structures of a core, as line numbers, oldest first. -/
structure Priv where
  l1i : List Nat
  l1d : List Nat
  l2 : List Nat
  /-- line, and whether it is an instruction line (R209) -/
  side : List (Nat × Bool)
  tlb : List TlbEntry
  /-- the table-entry cache (R205, R121): physical address of a pointer entry and its value -/
  tec : List (Nat × Word)
  /-- newest first (R200) -/
  ring : List RingOp
  /-- the body being played, in the order of its addresses -/
  loop : Option (List RingOp)
  streams : List Stream
  /-- the last demand misses: instruction or data, line -/
  misses : List (Bool × Nat)
  deriving DecidableEq, Repr

/-- R154, R148: an IN that waits for its answer, or a CAS of `cas` bytes whose answer waits to be agreed on: level, destination bank
and register, length, address. -/
structure IoWait where
  lvl : Nat
  bank : Nat
  rd : Nat
  len : Nat
  addr : Nat
  cas : Option Nat
  deriving DecidableEq, Repr

/-- R247, R253: an input of a core: an invalidation of a line, the line that a read received, the value that a CAS or an IN
received, an event for a level (`queued`: taken from that level's queue). -/
inductive Input where
  | inval (line : Nat)
  | resp (line : Nat) (bytes : List Byte)
  | answer (v : Word)
  | event (lvl : Nat) (ev : Event) (queued : Bool)
  deriving DecidableEq, Repr

/-- R253: an input consumed, with the count of instructions retired when it was, and the agreement point whose set it was of. -/
structure Consumed where
  pos : Nat
  point : Nat
  inp : Input
  deriving DecidableEq, Repr

/-- R240, R242: a read request that has been produced and not yet answered: its line; whether the line is an instruction line;
whether an instruction waits for it, or the side buffer (R209); whether ownership is asked (R149); whether its token has been
compared. -/
structure Await where
  line : Nat
  instr : Bool
  demand : Bool
  own : Bool
  released : Bool
  deriving DecidableEq, Repr

/-- R252: a closed retirement group: the count of instructions retired at its end, the state there, and how far the core then
was from its next agreement point (R246). -/
structure Group where
  last : Nat
  arch : Arch
  retired : Nat
  due : Bool
  deriving DecidableEq, Repr

/-- A logical core (R29). -/
structure Core where
  arch : Arch
  ckpt : Arch
  /-- the FCW with the flags of every operation issued, in program order (R170) -/
  fcwIss : Word
  /-- queued sources of each level, oldest first (R68) -/
  queues : NMap (List Event)
  sb : List SbEntry
  /-- what is held for its commit, with the count of instructions retired when it was produced -/
  acts : List (Nat × Act)
  /-- the input log (R253): inputs consumed since the last commit, and those a retry presents again -/
  consumed : List Consumed
  replay : List Consumed
  /-- instructions retired, and those that the checkpoint covers -/
  count : Nat
  base : Nat
  /-- groups closed and not yet committed, oldest first (R252) -/
  groups : List Group
  /-- the input buffer of a checked pair (R247): inputs not yet agreed, oldest first -/
  inbox : List Input
  /-- agreement points taken -/
  points : Nat
  /-- an agreement point has been reached and not yet taken (R246) -/
  due : Bool
  /-- a CAS, IN or IST token that has been compared and released (R242) -/
  released : Option TokenBody
  /-- read requests produced and not yet answered (R242) -/
  awaited : List Await
  /-- lines that the partners have agreed on for the instruction that waits for them (R248) -/
  given : List (Nat × List Byte)
  /-- the level whose instruction has issued and waits (R91) -/
  issuedAt : Option Nat
  /-- the instruction waits for an input that has not been agreed on (R246) -/
  stalls : Bool
  /-- a store matched the fetch stream: the core waits until its buffer is empty, and refetches (R203) -/
  refetch : Bool
  priv : Priv
  /-- stopped under R75, R263 or R441 -/
  stopped : Bool
  /-- R55, R266 -/
  split : Bool
  /-- an IN whose answer has not come (R154), or a CAS whose answer has not been agreed on (R242) -/
  waitIo : Option IoWait
  /-- instructions retired since the last agreement point (R246), and what this and `due` were at the checkpoint -/
  retired : Nat
  baseRetired : Nat
  baseDue : Bool
  /-- groups committed -/
  commits : Nat
  deriving DecidableEq, Repr

/-- R276: the states of a pair position; it is RETRYING where a core of it restarts (`PairPos.restarts`). -/
inductive PairSt where
  | off | waking | checked | split | switching | cuttingIn | stopped | failed
  deriving DecidableEq, Repr

/-- R257, R267: what is kept of the failures of a pair, or of one core of a split one: the times of the retries counted
towards R257, of all retries (R255), cause and checkpoint of the last failure, and how many in a row. -/
structure FailHist where
  retries : List Nat
  every : List Nat
  last : Option (Nat × Nat × Nat)
  deriving DecidableEq, Repr

def FailHist.reset : FailHist := { retries := [], every := [], last := none }

/-- R275: what the images of a stopped or failed core read: its checkpoint, the sources queued at each level, CORE_ID. -/
structure Image where
  lc : Nat
  arch : Arch
  queued : List Nat
  coreId : Word
  deriving DecidableEq, Repr

/-- A pair position (R207, R276): position q is physical cores 2q and 2q + 1. -/
structure PairPos where
  st : PairSt
  /-- the logical core numbers it carries begin at twice this (R29) -/
  logical : Option Nat
  cause : Nat
  /-- failures of the pair, or of core 2n while it is split; of core 2n + 1 (R267) -/
  hist0 : FailHist
  hist1 : FailHist
  /-- times of checker faults (R259) -/
  checkers : List Nat
  /-- times and slots of STAGGER failures (R260) -/
  staggers : List (Nat × Nat)
  /-- tokens of the leading partner, oldest first (R244) -/
  fifo : List Token
  /-- tokens that the leading partner cannot place, the FIFO being full: it goes no further before it has placed them (R244) -/
  owed : List Token
  /-- logical cores that a retry is returning to their checkpoints (R255) -/
  restarts : List Nat
  /-- structures and lines whose parity was noticed (R208, R250) -/
  notices : List (PrivKind × Nat)
  failed0 : Bool
  failed1 : Bool
  /-- contained and waiting for a cut-in, with its cause (R261) -/
  need : Option Nat
  /-- the position being woken in its place -/
  cutTo : Option Nat
  /-- captured level and PC of an accepted SPLIT (R266) -/
  splitReq : Option (Nat × Word)
  joinReq : Bool
  /-- the agreement point at which the SPLIT is handed over has been taken (R266) -/
  atSplit : Bool
  /-- one checkpoint copy failed (R276) -/
  single : Bool
  /-- the checkpoint can be read from neither copy (R258) -/
  ckptBad : Bool
  /-- passed its test since it woke (R492) -/
  tested : Bool
  /-- its logical cores, with what they stood at when they stopped or failed (R275) -/
  image : List Image
  deriving DecidableEq, Repr

/-- R51: a level's state when its core starts. -/
def Level.reset (l : Nat) : Level :=
  { g := [], w := [], sw := BitVec.ofNat 64 (0x10010 + l * 2 ^ 32), pc := 0, vector := 0, trapPc := 0,
    trapSw := 0, trapCause := 0, trapAddr := 0, trapIaddr := 0, evtCurrent := 0, fpSave := 0, iroot := 0,
    droot := 0, asid := 0, run := .inactive, waitLen := 0, ops := [], dssBy := .none, trapBy := .none }

/-- R55: LVL_CTL starts with FP_OWNER = 8. -/
def Arch.reset : Arch := { levels := [], lvlCtl := 0x800, f := [], fcw := 0, pref := 0x17, fpSaved := false }

def Priv.reset : Priv :=
  { l1i := [], l1d := [], l2 := [], side := [], tlb := [], tec := [], ring := [], loop := none, streams := [], misses := [] }

def Core.reset : Core :=
  { arch := Arch.reset, ckpt := Arch.reset, fcwIss := 0, queues := [], sb := [], acts := [], consumed := [], replay := [],
    count := 0, base := 0, groups := [], inbox := [], due := false, released := none, refetch := false,
    awaited := [], given := [], points := 0, issuedAt := none, stalls := false, baseRetired := 0, baseDue := false,
    priv := Priv.reset, stopped := false, split := false, waitIo := none, retired := 0, commits := 0 }

/-- R29, R276: a pair position at power-on: OFF, logical pair n on position n. -/
def PairPos.reset (q : Nat) : PairPos :=
  { st := .off, logical := if q < 32 ∨ q = 38 then some q else none, cause := 0, hist0 := FailHist.reset, hist1 := FailHist.reset, checkers := [],
    staggers := [], fifo := [], owed := [], restarts := [], notices := [], failed0 := false, failed1 := false,
    need := none, cutTo := none, splitReq := none, joinReq := false, atSplit := false, single := false, ckptBad := false,
    tested := false, image := [] }

end Sys2Proof.Machine
end

