-- ==== Sys2Proof/Machine/CoreOps.lean ====
section
/-! DEFINITION. Operations on one core: banks and windows (R77), the status word (R51), traps and their
escalation (R70 to R75), events at a level (R57 to R62), long operations (R90, R91, R198). -/

namespace Sys2Proof.Machine

/-! Levels and registers -/

def Arch.level (a : Arch) (l : Nat) : Level := mapGet (Level.reset l) a.levels l
def Arch.setLevel (a : Arch) (l : Nat) (v : Level) : Arch := { a with levels := mapSet a.levels l v }
def Core.level (c : Core) (l : Nat) : Level := c.arch.level l
def Core.setLevel (c : Core) (l : Nat) (v : Level) : Core := { c with arch := c.arch.setLevel l v }
def Core.modLevel (c : Core) (l : Nat) (f : Level → Level) : Core := c.setLevel l (f (c.level l))

/-- The status word's fields (R51). -/
def swC (w : Word) : Bool := bitOf w 0
def swV (w : Word) : Bool := bitOf w 1
def swZ (w : Word) : Bool := bitOf w 2
def swN (w : Word) : Bool := bitOf w 3
def swS (w : Word) : Bool := bitOf w 4
def swDss (w : Word) : Bool := bitOf w 6
def swTa (w : Word) : Bool := bitOf w 7

/-- IXE, UFE, OFE, DZE, IVE in the order of the FCW flags: bit 0 IX to bit 4 IV (R51, R162). -/
def swEnables (w : Word) : Nat :=
  fld w 12 1 + 2 * fld w 11 1 + 4 * fld w 10 1 + 8 * fld w 9 1 + 16 * fld w 8 1

def swWp (w : Word) : Nat := fld w 16 4
def swWg (w : Word) : Nat := fld w 20 4
def swMpc (w : Word) : Nat := fld w 24 5

/-- SW[3:0] replaced: C, V, Z, N from bit 0 up. -/
def swSetFlags (w : Word) (f : Nat) : Word := setFld w 0 4 f
def swSetDss (w : Word) (b : Bool) : Word := setFld w 6 1 (b2n b)
def swSetTa (w : Word) (b : Bool) : Word := setFld w 7 1 (b2n b)
def swSetWp (w : Word) (p : Nat) : Word := setFld w 16 4 p
def swSetWg (w : Word) (p : Nat) : Word := setFld w 20 4 p
def swSetMpc (w : Word) (k : Nat) : Word := setFld w 24 5 k

/-- The physical windowed register of W register `i` (0 to 15) at window position `wp` (R77). -/
def winIndex (wp i : Nat) : Nat := (wp * 10 + i) % 100

/-- Register `n` of R104 in a bank: 0-7 G0-G7, 8-23 W0-W15 of its current window; G0 reads zero (R88, R132). -/
def Level.readR (v : Level) (n : Nat) : Word :=
  if n = 0 then 0
  else if n < 8 then mapGet 0 v.g n
  else mapGet 0 v.w (winIndex (swWp v.sw) (n - 8))

/-- A write of register `n` of R104; a write to G0 is discarded (R88). -/
def Level.writeR (v : Level) (n : Nat) (x : Word) : Level :=
  if n = 0 then v
  else if n < 8 then { v with g := mapSet v.g n x }
  else { v with w := mapSet v.w (winIndex (swWp v.sw) (n - 8)) x }

/-- The scoreboard's name of register `n` of a bank (R198); G0 has none. -/
def Level.dstOf (v : Level) (bank n : Nat) : Option Dst :=
  if n = 0 then none
  else if n < 8 then some (.g bank n)
  else some (.w bank (winIndex (swWp v.sw) (n - 8)))

/-- A write to a physical register. -/
def Core.writeDst (c : Core) (d : Dst) (x : Word) : Core :=
  match d with
  | .g b n => c.modLevel b (fun v => { v with g := mapSet v.g n x })
  | .w b n => c.modLevel b (fun v => { v with w := mapSet v.w n x })
  | .f n => { c with arch := { c.arch with f := mapSet c.arch.f n x } }

def Core.readF (c : Core) (n : Nat) : Word := mapGet 0 c.arch.f n

/-- The levels, most urgent first. -/
def levelNumbers : List Nat := [0, 1, 2, 3, 4, 5, 6, 7]

/-- R57: the most urgent level that is running or interrupted. -/
def Core.current (c : Core) : Option Nat := levelNumbers.find? (fun l => (c.level l).run == .active)

/-- R55: the HOLD bit of a level. -/
def Core.held (c : Core) (l : Nat) : Bool := l != 0 && bitOf c.arch.lvlCtl l

/-- R55: FP_OWNER. -/
def Core.fpOwner (c : Core) : Nat := fld c.arch.lvlCtl 8 4

def Core.queue (c : Core) (l : Nat) : List Event := mapGet [] c.queues l
def Core.setQueue (c : Core) (l : Nat) (q : List Event) : Core := { c with queues := mapSet c.queues l q }

/-! Events at a level -/

/-- EVT_CURRENT for an event (R54). -/
def Event.word64 (e : Event) : Word := BitVec.ofNat 64 (e.src + e.count * 2 ^ 16 + e.word * 2 ^ 32)

/-- R58: SW at an event entry: S = 1; CT, DSS, TA, MPC, C, V, Z and N are 0. -/
def swEvent (w : Word) : Word := setFld (setFld (setFld w 0 4 0) 4 4 1) 24 5 0

/-- LVL_VECTOR + 0x40 × CODE (R69). -/
def Level.entry (v : Level) (code : Nat) : Word := v.vector + BitVec.ofNat 64 (0x40 * code)

/-- R58: a level is entered at its event entry. -/
def Level.enterEvent (v : Level) (e : Event) : Level :=
  { v with pc := v.entry 0, sw := swEvent v.sw, evtCurrent := e.word64, run := .active, waitLen := 0, dssBy := .none }

/-- R58: a waiting level continues after its WAIT. -/
def Level.wake (v : Level) (e : Event) : Level :=
  { v with pc := v.pc + BitVec.ofNat 64 v.waitLen, evtCurrent := e.word64, run := .active, waitLen := 0 }

/-- An input is consumed now (R253). -/
def Core.note (c : Core) (i : Input) : Core := { c with consumed := c.consumed ++ [⟨c.count, c.points, i⟩] }

/-- The event is consumed by the level now (R253). -/
def Core.consume (c : Core) (l : Nat) (e : Event) (queued : Bool) : Core := c.note (.event l e queued)

/-- R201: the loop buffer is emptied. -/
def Priv.emptyLoop (p : Priv) : Priv := { p with loop := none, ring := [] }

/-- R201, R89: where the core has changed level, the loop buffer is emptied, and the instruction that waited is given up: it
executes again when its level goes on. -/
def Core.changed (c : Core) (before : Core) : Core :=
  if c.current = before.current then c else { c with priv := c.priv.emptyLoop, issuedAt := none, stalls := false, given := [] }

/-- R58, R60: an event at level `l`: it enters, wakes, or joins the level's queue. -/
def Core.arrive (c : Core) (l : Nat) (e : Event) : Core :=
  if c.held l then c.setQueue l (c.queue l ++ [e])
  else match (c.level l).run with
    | .inactive => (c.modLevel l (fun v => v.enterEvent e)).consume l e false
    | .waiting => (c.modLevel l (fun v => v.wake e)).consume l e false
    | _ => c.setQueue l (c.queue l ++ [e])

/-- R58, R201: an event is delivered to level `l`; a level that it makes current finds the loop buffer empty. -/
def Core.deliver (c : Core) (l : Nat) (e : Event) : Core := (c.arrive l e).changed c

/-- R61: the level takes its oldest queued event and restarts, or becomes inactive; MPC is cleared (R89). -/
def Core.endLevel (c : Core) (l : Nat) : Core :=
  match c.held l, c.queue l with
  | false, e :: q => ((c.setQueue l q).modLevel l (fun v => v.enterEvent e)).consume l e true
  | _, _ => c.modLevel l (fun v => { v with run := .inactive, waitLen := 0, sw := swSetMpc v.sw 0 })

/-- R60: a level no longer held takes a queued event if it is inactive or waiting. -/
def Core.unhold (c : Core) (l : Nat) : Core :=
  match c.held l, c.queue l, (c.level l).run with
  | false, e :: q, .inactive => ((c.setQueue l q).modLevel l (fun v => v.enterEvent e)).consume l e true
  | false, e :: q, .waiting => ((c.setQueue l q).modLevel l (fun v => v.wake e)).consume l e true
  | _, _, _ => c

/-- R62: the level stops at its WAIT, of `len` bytes, unless an event is queued. -/
def Core.beginWait (c : Core) (l len : Nat) : Core :=
  (c.modLevel l (fun v => { v with run := .waiting, waitLen := len })).unhold l

/-- A further event of a source that already waits (R68): count and word change, the place does not. -/
def Event.merge (src word : Nat) (e : Event) : Event :=
  if e.src = src then { e with count := satAdd 8 e.count 1, word := word } else e

/-- R68: a queue of a level takes a further event of one of its sources. -/
def mergeEvent (src word : Nat) (q : List Event) : List Event := q.map (Event.merge src word)

/-- R68: an input buffer takes a further event of a source that waits in it. -/
def mergeInput (src word : Nat) : Input → Input
  | .event l e q => .event l (e.merge src word) q
  | i => i

/-- The event of a source in the input buffer, with its level. -/
def Core.inboxEvent (c : Core) (src : Nat) : Option (Nat × Event) :=
  c.inbox.findSome? (fun i => match i with
    | .event l e _ => if e.src = src then some (l, e) else none
    | _ => none)

/-- The events of the input buffer, oldest first. -/
def Core.inboxEvents (c : Core) : List (Nat × Event) :=
  c.inbox.filterMap (fun i => match i with
    | .event l e _ => some (l, e)
    | _ => none)

/-! Long operations -/

/-- A completed operation writes its results, flags and DSS, and sets its FCW flags (R90, R198). -/
def Core.applyOp (c : Core) (l : Nat) (op : LongOp) : Core :=
  let c1 := op.writes.foldl (fun c w => c.writeDst w.1 w.2) c
  let c2 := match op.flags with
    | some f => c1.modLevel l (fun v => { v with sw := swSetFlags v.sw f })
    | none => c1
  let c3 := match op.dss with
    | some b => c2.modLevel l (fun v => { v with sw := swSetDss v.sw b })
    | none => c2
  { c3 with arch := { c3.arch with fcw := c3.arch.fcw ||| BitVec.ofNat 64 op.fpFlags } }

/-- What stays listed of an operation that completes: its pending exception, if it has one. -/
def LongOp.settle (op : LongOp) : Option LongOp := if op.exc.isSome then some { op with done := true } else none

/-- Every operation of level `l` in flight that satisfies `p` completes, in program order. -/
def Core.completeWhere (c : Core) (l : Nat) (p : LongOp → Bool) : Core :=
  let ops := (c.level l).ops
  let hit := fun (op : LongOp) => !op.done && p op
  let c1 := ops.foldl (fun c op => if hit op then c.applyOp l op else c) c
  c1.modLevel l (fun v => { v with ops := ops.filterMap (fun op => if hit op then op.settle else some op) })

/-- R128: whether an operation's instruction writes flags or DSS.  A faulting one counts until it has completed: the integer
operations with an exception are DADD, DSUB, DVAL and DSFIX. -/
def LongOp.flagged (op : LongOp) : Bool := op.flags.isSome || (!op.isFp && op.exc.isSome)
def LongOp.swWriter (op : LongOp) : Bool := op.flagged || op.dss.isSome

/-- Every operation in flight of any level that satisfies `p` completes. -/
def Core.completeAll (c : Core) (p : LongOp → Bool) : Core :=
  levelNumbers.foldl (fun c l => c.completeWhere l p) c

/-- Whether an operation writes one of the registers. -/
def LongOp.hits (op : LongOp) (ds : List Dst) : Bool := op.writes.any (fun w => ds.contains w.1)

/-- Whether any long operation is in flight. -/
def Core.inFlight (c : Core) : Bool := levelNumbers.any (fun l => (c.level l).ops.any (fun op => !op.done))

/-! Traps -/

/-- TRAP_CAUSE (R54). -/
def causeWord (t : TrapInfo) (code : Nat) (idle : Bool) (fromLevel inner : Nat) : Word :=
  BitVec.ofNat 64 (code + b2n t.imp * 2 ^ 8 + b2n idle * 2 ^ 9 + fromLevel * 2 ^ 16 + inner * 2 ^ 24
    + t.detail * 2 ^ 32)

/-- R70 step 4: S = 1, TA = 1, CT, DSS and MPC = 0. -/
def swTrap (w : Word) : Word := setFld (setFld (setFld (setFld w 4 1 1) 7 1 1) 5 2 0) 24 5 0

/-- R70: a trap is taken at a level: `code` is what enters, `tpc` where the level continues, `tsw` what
TRAP_SW receives, `live` the live SW before step 4 (R79, R80). -/
def Level.trap (v : Level) (t : TrapInfo) (code fromLevel inner : Nat) (tpc tsw live : Word) : Level :=
  { v with
    trapPc := tpc
    trapSw := tsw
    trapCause := causeWord t code (v.run == .inactive) fromLevel inner
    trapAddr := t.addr
    trapIaddr := t.iaddr
    trapBy := v.dssBy
    sw := swTrap live
    dssBy := .none
    pc := v.entry code
    run := .active }

/-- R128, R137: a trap finds the flags and DSS that program order gives: the operations of the level that write them
complete first. -/
def Core.settleSw (c : Core) (l : Nat) : Core := c.completeWhere l LongOp.swWriter

def trapNest : Nat := 0x21
def trapGuard : Nat := 0x20

/-- R73, R74, R75: a trap that cannot be taken at level `l` freezes it and is taken, as `code`, at the next
more urgent level; from level 0, frozen too, the core stops. -/
def Core.escalate : Nat → Core → Nat → TrapInfo → Core
  | 0, c, _, _ => { c.modLevel 0 (fun v => { v with run := .frozen }) with stopped := true }
  | m + 1, c, code, t =>
    let c1 := (c.modLevel (m + 1) (fun v => { v with run := .frozen })).settleSw m
    let v := c1.level m
    if swTa v.sw then Core.escalate m c1 trapNest { t with code := code }
    else c1.setLevel m (v.trap t code (m + 1) (if code = trapNest then t.code else 0) v.pc v.sw v.sw)

/-- R70, R73, R128: a trap at level `l`, with TRAP_PC `tpc`; TRAP_SW and the live SW are the SW as program order gives it,
adjusted (R79, R80); nested when TA is 1. -/
def Core.trapWith (c : Core) (l : Nat) (t : TrapInfo) (tpc : Word) (tsw live : Word → Word) : Core :=
  let c1 := c.settleSw l
  let v := c1.level l
  if swTa v.sw then c1.escalate l trapNest t
  else c1.setLevel l (v.trap t t.code 0 0 tpc (tsw v.sw) (live v.sw))

/-- R70: a precise trap of the instruction at the level's PC. -/
def Core.trapPrecise (c : Core) (l : Nat) (t : TrapInfo) : Core := c.trapWith l t t.iaddr id id

/-- R81: WINDOW_GUARD freezes the level, its SW as program order gives it (R128), and is taken at the next more urgent one. -/
def Core.trapGuarded (c : Core) (l : Nat) (ia : Word) : Core :=
  (c.settleSw l).escalate l trapGuard { code := trapGuard, imp := false, addr := 0, iaddr := ia, detail := 0 }

/-! Imprecise exceptions -/

/-- R91: the exception deliverable at level `l`: that of its oldest long operation, once done, while TA = 0. -/
def Core.deliverable (c : Core) (l : Nat) : Option TrapInfo :=
  let v := c.level l
  if swTa v.sw then none
  else match v.ops with
    | op :: _ => if op.done then op.exc else none
    | [] => none

/-- R91: the oldest pending exception is delivered, the level resuming at `resume`; what the level has issued completes first. -/
def Core.deliverExc (c : Core) (l : Nat) (t : TrapInfo) (resume : Word) : Core :=
  let c1 := (c.completeWhere l (fun _ => true)).modLevel l (fun v => { v with ops := v.ops.drop 1 })
  c1.trapWith l { t with imp := true } resume id id

/-- A long operation issues. -/
def Core.issueOp (c : Core) (l : Nat) (op : LongOp) : Core :=
  c.modLevel l (fun v => { v with ops := v.ops ++ [op] })

/-! Retirement groups and checkpoints -/

/-- Every long operation of a state has its results applied: those of a group that commits have completed (R252). -/
def Arch.settled (a : Arch) : Arch := (({ Core.reset with arch := a } : Core).completeAll (fun _ => true)).arch

/-- The count of instructions at which the open group began. -/
def Core.openFrom (c : Core) : Nat := (c.groups.getLast?.map Group.last).getD c.base

/-- R252: the group that closes when the core has retired `count` instructions. -/
def Core.closeGroup (c : Core) : Core :=
  if c.openFrom < c.count then { c with groups := c.groups ++ [⟨c.count, c.arch, c.retired, c.due⟩] } else c

/-- The store-buffer entries that a checkpoint covers: those made by the instructions before `n` (R241). -/
def keepUpTo (n : Nat) (sb : List SbEntry) : List SbEntry := sb.map (fun b => if b.idx < n then { b with kept := true } else b)

/-- R252, R253: everything retired commits: the checkpoint takes the architected state, with what an instruction that has stopped
part-way has stored; the log forgets what was consumed.  It is a new checkpoint if anything has changed since the last (R257). -/
def Core.commitArch (c : Core) : Core :=
  { c with
    ckpt := c.arch
    consumed := []
    base := c.count
    baseRetired := c.retired
    baseDue := c.due
    groups := []
    sb := keepUpTo (c.count + 1) c.sb
    commits := if c.count = c.base ∧ c.consumed = [] ∧ c.ckpt = c.arch then c.commits else c.commits + 1 }

/-- R252, R253: one group commits: the checkpoint takes the state at its end, the log forgets what its groups consumed. -/
def Core.commitGroup (c : Core) (g : Group) : Core :=
  { c with
    ckpt := g.arch.settled
    consumed := c.consumed.filter (fun r => g.last ≤ r.pos)
    base := g.last
    baseRetired := g.retired
    baseDue := g.due
    groups := c.groups.drop 1
    sb := keepUpTo g.last c.sb
    commits := c.commits + 1 }

/-- The message of a store that has met a poisoned line. -/
def Act.merged? : Act → Option FaultMsg
  | .merged m => some m
  | _ => none

/-- R242: what a retry does not ask for again: a CAS or an IN that has been released. -/
def TokenBody.stays : TokenBody → Bool
  | .cas _ _ _ _ => true
  | .inp _ => true
  | _ => false

/-- R255 step 3: the private structures emptied. -/
def Priv.forget (p : Priv) (deep : Bool) : Priv := if deep then Priv.reset else p.emptyLoop

/-- R255: what one core discards and reloads: everything after its checkpoint.  The inputs it consumed since are presented
again: events taken from a queue return to it, the others come at the same point, as do invalidations and responses.  Requests
whose tokens have been compared stay outstanding (R242), as does a CAS or IN, which the checkpoint precedes. -/
def Core.rollback (c : Core) (deep : Bool) : Core :=
  let back := c.consumed.filterMap (fun r => match r.inp with
    | .event l e true => some (l, e)
    | _ => none)
  let c1 := back.reverse.foldl (fun c r => c.setQueue r.1 (r.2 :: c.queue r.1)) c
  { c1 with
    arch := c.ckpt
    fcwIss := c.ckpt.fcw
    sb := c.sb.filter (·.kept)
    acts := c.acts.filter (fun a => a.2.merged?.isSome)
    consumed := []
    replay := c.consumed.filter (fun r => match r.inp with
      | .event _ _ true => false
      | _ => true) ++ c.replay
    count := c.base
    groups := []
    due := c.baseDue
    released := c.released.filter TokenBody.stays
    awaited := c.awaited.filter (·.released)
    given := []
    issuedAt := none
    stalls := false
    refetch := false
    retired := c.baseRetired
    priv := c.priv.forget deep }

/-- A line leaves every private structure of a core. -/
def Priv.drop (p : Priv) (line : Nat) : Priv :=
  { p with
    l1i := p.l1i.filter (· != line)
    l1d := p.l1d.filter (· != line)
    l2 := p.l2.filter (· != line)
    side := p.side.filter (·.1 != line) }

def Input.answer? : Input → Option Word
  | .answer v => some v
  | _ => none

def Input.isAnswer : Input → Bool
  | .answer _ => true
  | _ => false

def Input.isEvent : Input → Bool
  | .event _ _ _ => true
  | _ => false

/-- R55, R84: a floating-point switch is in progress. -/
def Core.fpBusy (c : Core) : Bool := bitOf c.arch.lvlCtl 13

/-- R255 step 5: the next set of the log: the inputs of one agreement point. -/
def Core.logSet (c : Core) : List Consumed :=
  match c.replay with
  | [] => []
  | r :: _ => c.replay.filter (fun x => x.point == r.point)

/-- R255 step 5, R93: the next set of the log comes where it came before, on an idle core at its next agreement point; `waits`:
the core stands at such a point.  A set with an event waits for a floating-point switch in progress. -/
def Core.logReady (c : Core) (waits : Bool) : Bool :=
  match c.replay with
  | [] => false
  | r :: _ => (c.current.isNone || decide (r.pos < c.count) || (waits && r.pos == c.count))
      && !(c.fpBusy && c.logSet.any (fun x => x.inp.isEvent))

/-- R255 step 5: the next set of the log comes at the agreement point at which a checked pair stands. -/
def Core.logDue (c : Core) : Bool := c.logReady (c.due || c.stalls || c.waitIo.isSome)

/-- The next set of the log is taken from it. -/
def Core.logNext (c : Core) : Core :=
  { c with replay := c.replay.filter (fun x => !c.logSet.contains x), points := c.points + 1 }

/-- R255 step 5: a core that is not in a checked pair is presented the events of the log that are due. -/
def Core.present (c : Core) : Core :=
  if c.logReady true then
    c.logSet.foldl (fun c r => match r.inp with
      | .event l e _ => c.deliver l e
      | _ => c) c.logNext
  else c

/-- R253, R255: whether the log answers a request for a line, or a CAS or IN. -/
def Core.logAnswers (c : Core) (p : Input → Bool) : Bool := c.replay.any (fun r => p r.inp)

/-! System registers -/

/-- R54: LVL_STATE, given the events queued at the level. -/
def Level.stateWord (v : Level) (queued : Nat) : Word :=
  BitVec.ofNat 64 (b2n (v.run != .inactive) + 2 * b2n (v.run == .waiting) + 4 * b2n (v.run == .frozen)
    + queued * 2 ^ 12)

/-- R53: per-level system register `n`. -/
def Level.sysWord (v : Level) (n queued : Nat) : Word :=
  match n with
  | 0 => v.sw
  | 1 => v.vector
  | 2 => v.trapPc
  | 3 => v.trapSw
  | 4 => v.trapCause
  | 5 => v.trapAddr
  | 6 => v.trapIaddr
  | 7 => v.evtCurrent
  | 8 => v.fpSave
  | 9 => v.stateWord queued
  | _ => 0

/-- R114: translation register `n`. -/
def Level.trnWord (v : Level) (n : Nat) : Word :=
  match n with
  | 0 => v.iroot
  | 1 => v.droot
  | 2 => v.asid
  | _ => 0

/-- R148: the flags of a CAS: Z where the old value equalled rd. -/
def casFlags (rd v : Word) (n : Nat) : Nat := if v.toNat == rd.toNat % 2 ^ (8 * n) then 4 else 0

/-- R154, R148, R242: the value of an IN or a CAS arrives; the instruction completes and is a group of its own. -/
def Core.ioAnswer (c : Core) (v : Word) : Core :=
  match c.waitIo with
  | none => c
  | some w =>
    let c0 := match w.cas with
      | some n => c.modLevel w.lvl (fun l => { l with sw := swSetFlags l.sw (casFlags ((c.level w.bank).readR w.rd) v n) })
      | none => c
    let c1 := c0.modLevel w.bank (fun l => l.writeR w.rd v)
    let c2 := c1.modLevel w.lvl (fun l => { l with pc := l.pc + BitVec.ofNat 64 w.len, sw := swSetMpc l.sw 0 })
    ({ c2 with
      waitIo := none
      issuedAt := none
      stalls := false
      due := c.due || decide (63 ≤ c.retired)
      retired := c.retired + 1
      count := c.count + 1 } : Core).closeGroup

end Sys2Proof.Machine
end

