-- ==== Sys2Proof/Machine/Regs.lean ====
section
/-! DEFINITION. The I/O-space registers of every block, as the register tables of the manual give them
(R10): where each lies (R4, R42, R44), and its fields with access code (R11), change class (R18) and
reset value (R16).  A reset value from a strap or a fuse stands as 0 here and is supplied where the
register is read (log entries 3 and 4). -/

namespace Sys2Proof.Machine

/-- R11: the access codes. -/
inductive Access where
  | ro | rw | w1c | wo | rc
  deriving DecidableEq, Repr

/-- R18: the change classes: boot, staged, live, grouped. -/
inductive ChangeClass where
  | boot | staged | live | grouped
  deriving DecidableEq, Repr

/-- One field of a register: lowest bit, width, access, class, reset value. -/
structure Field where
  lo : Nat
  width : Nat
  access : Access
  cls : ChangeClass
  reset : Nat
  deriving DecidableEq, Repr

/-- The registers, by the manual's names; an array of registers is one name. -/
inductive RegName where
  | CUE_MAP | CUE_PENDING | CUE_RAISE | CORE_PREF_CTL | CORE_CACHE_ERR | PCS_CE_COUNT | PCS_UE_COUNT
  | PCS_ERR_ADDR | PCS_RES_BASE | PCS_RES_WAYS | PCS_RES_STATUS | PCS_COMMIT | PCS_RNG_BASE | PCS_RNG_LEN
  | PCS_RNG_CMD | PCS_RNG_STATUS | PCS_RNG_LINES | PCS_RNG_SKIPPED | PCS_RNG_POISONED | MC_CFG | MC_STATUS
  | MC_SCRUB | MC_CE_COUNT | MC_UE_COUNT | MC_ERR_ADDR | FBS_STATUS | FBS_WDOG | FBS_KICK
  | CORE_PAIR_STATUS | CORE_PAIR_CTL | CORE_SPLIT_LEVEL | CORE_SPLIT_PC | CORE_STAGGER | CORE_RETRY_LOG
  | CORE_RETRY_PC | CORE_RETRY_COUNT | CORE_MAP | CORE_CKPT_SEL | CORE_CKPT_DATA | TRS_Q_BASE | TRS_Q_CTL
  | TRS_Q_HEAD | TRS_DOORBELL | TRS_KEY_STATE | TRS_COMMIT | TRS_SVC_BASE | TRS_SVC_CTL | TRS_SVC_HEAD
  | TRS_SVC_DOORBELL | TRS_DISCARDS | TRE_STATUS | TRE_CTL | TRE_BYTES_IN | TRE_BYTES_OUT | TRE_JOBS
  | TRE_ERR | XCH_CTL | XCH_STATUS | XCH_ACTIVE | XCH_SAVE_LIMIT | XCH_SAVE_ADDR | XCH_SAVE_TGT
  | XCH_SAVE_LBA | XCH_STAGE_BASE | XCH_STAGE_SIZE | XCH_TGT_BASE | XCH_TGT_CTL | XCH_TIMEOUT | XCH_COMMIT
  | XCH_REPLAY | XCH_REPLAY_COUNT | XCH_LATE | XCH_ENT_SEL | XCH_ENT_DATA | XCH_RQ_BASE | XCH_RQ_CTL
  | XCH_RQ_HEAD | XCH_RQ_DOORBELL | XCH_CQ_BASE | XCH_CQ_CTL | XCH_CQ_TAIL | XCH_CQ_HEAD | SEQ_STATUS
  | SEQ_CTL | SEQ_COUNT | SEQ_ADOPT | SEQ_RETRY_COUNT | ETH_CFG | ETH_STATUS | ETH_FEC | ETH_EVT | PCIE_CFG
  | PCIE_STATUS | PCIE_PERST | PCIE_MSI | PCIE_EVT | INST_CTL | INST_OP | INST_XRANGE | INST_KEYS
  | INST_BYTE_RATE | INST_EXCH_RATE | INST_TOKENS | INST_LATE_DISCARDS | INST_DROPPED | INST_COMMIT
  | INST_CMD | INST_CMD_ADDR | INST_CMD_STATUS | INST_CMD_EVT | SHB_CFG | SHB_CTL | SHB_STATUS | SHB_ERR
  | SHB_DELAY | DIR_HOME | DIR_USED | DIR_COUNT | DIR_PROMOTED | DIR_ECC | DEV_IMG_CFG | DEV_IMG_MEMBERS
  | DEV_IMG_STATE | DEV_IMG_EVT | TOD_TIME | TOD_SET | TOD_CFG | TOD_STATUS | TMR_CMP | TMR_CTL
  | FLT_STATUS | FLT_CTL | FLT_COUNT | FLT_LOST | FLT_LOG_NEXT | FLT_LOG_ACK | FLT_RESET | FLT_RESET_STATUS
  | FLT_SHADOW_LO | FLT_SHADOW_HI | FLT_PEND | FLT_CORE_PEND | FLT_LOG | PWR_STATUS | PWR_STATE_REQ
  | PWR_WAKE_BUDGET | PWR_WAKE_REFILL | PWR_COMMIT | PWR_WAKE_STATE | PWR_FLOOR | PWR_RAIL_MAX | PWR_CAP
  | PWR_INPUT | PWR_TEMP | PWR_EVT | PWR_DOM_CTL | PWR_DOM_STATUS | CFG_START_STATUS | CFG_IMG | CFG_CTL
  | CFG_SVC_WDOG | CFG_SVC_KICK | CFG_SVC_RESTARTS | CFG_NVM_ADDR | CFG_NVM_MEM | CFG_NVM_LEN | CFG_NVM_CMD
  | CFG_NVM_STATUS | SEC_STATUS | SEC_SERIAL | SEC_RUN | SEC_SVN_ADVANCE | SEC_REKEY | SEC_MEAS | SEC_IDPUB
  | SEC_ATT_ADDR | SEC_ATT_CMD | SEC_ATT_STATUS | CORE_IMAGE | CORE_IMAGE_LVL_CTL | CORE_IMAGE_CORE_ID
  deriving DecidableEq, Repr

/-- Where a register lies: first block number, how many blocks have it (its units), offset, and how
many registers the array has.  In block 0x70 a unit is a physical core's window (R44). -/
structure Place where
  blk : Nat
  units : Nat
  off : Nat
  count : Nat
  deriving DecidableEq, Repr

/-- R42, R44 and the register tables: the place of each register. -/
def regPlace : RegName → Place
  | .CUE_MAP => ⟨0x04, 1, 0x0, 4096⟩
  | .CUE_PENDING => ⟨0x04, 1, 0x8000, 64⟩
  | .CUE_RAISE => ⟨0x04, 1, 0x8200, 1⟩
  | .CORE_PREF_CTL => ⟨0x70, 80, 0x200, 1⟩
  | .CORE_CACHE_ERR => ⟨0x70, 80, 0x208, 1⟩
  | .PCS_CE_COUNT => ⟨0x10, 16, 0x0, 1⟩
  | .PCS_UE_COUNT => ⟨0x10, 16, 0x8, 1⟩
  | .PCS_ERR_ADDR => ⟨0x10, 16, 0x10, 1⟩
  | .PCS_RES_BASE => ⟨0x10, 1, 0x100, 1⟩
  | .PCS_RES_WAYS => ⟨0x10, 1, 0x108, 1⟩
  | .PCS_RES_STATUS => ⟨0x10, 1, 0x110, 1⟩
  | .PCS_COMMIT => ⟨0x10, 1, 0x118, 1⟩
  | .PCS_RNG_BASE => ⟨0x10, 1, 0x200, 1⟩
  | .PCS_RNG_LEN => ⟨0x10, 1, 0x208, 1⟩
  | .PCS_RNG_CMD => ⟨0x10, 1, 0x210, 1⟩
  | .PCS_RNG_STATUS => ⟨0x10, 1, 0x218, 1⟩
  | .PCS_RNG_LINES => ⟨0x10, 1, 0x220, 1⟩
  | .PCS_RNG_SKIPPED => ⟨0x10, 1, 0x228, 1⟩
  | .PCS_RNG_POISONED => ⟨0x10, 1, 0x230, 1⟩
  | .MC_CFG => ⟨0x40, 16, 0x0, 1⟩
  | .MC_STATUS => ⟨0x40, 16, 0x8, 1⟩
  | .MC_SCRUB => ⟨0x40, 16, 0x10, 1⟩
  | .MC_CE_COUNT => ⟨0x40, 16, 0x18, 1⟩
  | .MC_UE_COUNT => ⟨0x40, 16, 0x20, 1⟩
  | .MC_ERR_ADDR => ⟨0x40, 16, 0x28, 1⟩
  | .FBS_STATUS => ⟨0x07, 1, 0x0, 1⟩
  | .FBS_WDOG => ⟨0x07, 1, 0x8, 1⟩
  | .FBS_KICK => ⟨0x07, 1, 0x10, 1⟩
  | .CORE_PAIR_STATUS => ⟨0x70, 80, 0x0, 1⟩
  | .CORE_PAIR_CTL => ⟨0x70, 80, 0x8, 1⟩
  | .CORE_SPLIT_LEVEL => ⟨0x70, 80, 0x10, 1⟩
  | .CORE_SPLIT_PC => ⟨0x70, 80, 0x18, 1⟩
  | .CORE_STAGGER => ⟨0x70, 80, 0x20, 1⟩
  | .CORE_RETRY_LOG => ⟨0x70, 80, 0x28, 1⟩
  | .CORE_RETRY_PC => ⟨0x70, 80, 0x30, 1⟩
  | .CORE_RETRY_COUNT => ⟨0x70, 80, 0x38, 1⟩
  | .CORE_MAP => ⟨0x70, 80, 0x40, 1⟩
  | .CORE_CKPT_SEL => ⟨0x70, 80, 0x300, 1⟩
  | .CORE_CKPT_DATA => ⟨0x70, 80, 0x308, 1⟩
  | .TRS_Q_BASE => ⟨0x28, 1, 0x0, 1024⟩
  | .TRS_Q_CTL => ⟨0x28, 1, 0x2000, 1024⟩
  | .TRS_Q_HEAD => ⟨0x28, 1, 0x4000, 1024⟩
  | .TRS_DOORBELL => ⟨0x28, 1, 0x6000, 1024⟩
  | .TRS_KEY_STATE => ⟨0x28, 1, 0x10000, 4096⟩
  | .TRS_COMMIT => ⟨0x28, 1, 0x20000, 1⟩
  | .TRS_SVC_BASE => ⟨0x28, 1, 0x20100, 1⟩
  | .TRS_SVC_CTL => ⟨0x28, 1, 0x20108, 1⟩
  | .TRS_SVC_HEAD => ⟨0x28, 1, 0x20110, 1⟩
  | .TRS_SVC_DOORBELL => ⟨0x28, 1, 0x20118, 1⟩
  | .TRS_DISCARDS => ⟨0x28, 1, 0x20120, 1⟩
  | .TRE_STATUS => ⟨0x20, 8, 0x0, 1⟩
  | .TRE_CTL => ⟨0x20, 8, 0x8, 1⟩
  | .TRE_BYTES_IN => ⟨0x20, 8, 0x10, 1⟩
  | .TRE_BYTES_OUT => ⟨0x20, 8, 0x18, 1⟩
  | .TRE_JOBS => ⟨0x20, 8, 0x20, 1⟩
  | .TRE_ERR => ⟨0x20, 8, 0x28, 1⟩
  | .XCH_CTL => ⟨0x30, 1, 0x0, 1⟩
  | .XCH_STATUS => ⟨0x30, 1, 0x8, 1⟩
  | .XCH_ACTIVE => ⟨0x30, 1, 0x10, 1⟩
  | .XCH_SAVE_LIMIT => ⟨0x30, 1, 0x18, 1⟩
  | .XCH_SAVE_ADDR => ⟨0x30, 1, 0x20, 1⟩
  | .XCH_SAVE_TGT => ⟨0x30, 1, 0x28, 1⟩
  | .XCH_SAVE_LBA => ⟨0x30, 1, 0x30, 1⟩
  | .XCH_STAGE_BASE => ⟨0x30, 1, 0x38, 1⟩
  | .XCH_STAGE_SIZE => ⟨0x30, 1, 0x40, 1⟩
  | .XCH_TGT_BASE => ⟨0x30, 1, 0x48, 1⟩
  | .XCH_TGT_CTL => ⟨0x30, 1, 0x50, 1⟩
  | .XCH_TIMEOUT => ⟨0x30, 1, 0x58, 1⟩
  | .XCH_COMMIT => ⟨0x30, 1, 0x60, 1⟩
  | .XCH_REPLAY => ⟨0x30, 1, 0x68, 1⟩
  | .XCH_REPLAY_COUNT => ⟨0x30, 1, 0x70, 1⟩
  | .XCH_LATE => ⟨0x30, 1, 0x78, 1⟩
  | .XCH_ENT_SEL => ⟨0x30, 1, 0x80, 1⟩
  | .XCH_ENT_DATA => ⟨0x30, 1, 0x88, 4⟩
  | .XCH_RQ_BASE => ⟨0x30, 1, 0x10000, 4096⟩
  | .XCH_RQ_CTL => ⟨0x30, 1, 0x18000, 4096⟩
  | .XCH_RQ_HEAD => ⟨0x30, 1, 0x20000, 4096⟩
  | .XCH_RQ_DOORBELL => ⟨0x30, 1, 0x28000, 4096⟩
  | .XCH_CQ_BASE => ⟨0x30, 1, 0x30000, 4096⟩
  | .XCH_CQ_CTL => ⟨0x30, 1, 0x38000, 4096⟩
  | .XCH_CQ_TAIL => ⟨0x30, 1, 0x40000, 4096⟩
  | .XCH_CQ_HEAD => ⟨0x30, 1, 0x48000, 4096⟩
  | .SEQ_STATUS => ⟨0x31, 8, 0x0, 1⟩
  | .SEQ_CTL => ⟨0x31, 8, 0x8, 1⟩
  | .SEQ_COUNT => ⟨0x31, 8, 0x10, 1⟩
  | .SEQ_ADOPT => ⟨0x31, 8, 0x18, 1⟩
  | .SEQ_RETRY_COUNT => ⟨0x31, 8, 0x20, 1⟩
  | .ETH_CFG => ⟨0x60, 4, 0x0, 1⟩
  | .ETH_STATUS => ⟨0x60, 4, 0x8, 1⟩
  | .ETH_FEC => ⟨0x60, 4, 0x10, 1⟩
  | .ETH_EVT => ⟨0x60, 4, 0x18, 1⟩
  | .PCIE_CFG => ⟨0x64, 4, 0x0, 1⟩
  | .PCIE_STATUS => ⟨0x64, 4, 0x8, 1⟩
  | .PCIE_PERST => ⟨0x64, 4, 0x10, 1⟩
  | .PCIE_MSI => ⟨0x64, 4, 0x18, 1⟩
  | .PCIE_EVT => ⟨0x64, 4, 0x20, 1⟩
  | .INST_CTL => ⟨0x71, 1, 0x0, 1024⟩
  | .INST_OP => ⟨0x71, 1, 0x2000, 1024⟩
  | .INST_XRANGE => ⟨0x71, 1, 0x4000, 1024⟩
  | .INST_KEYS => ⟨0x71, 1, 0x6000, 1024⟩
  | .INST_BYTE_RATE => ⟨0x71, 1, 0x8000, 1024⟩
  | .INST_EXCH_RATE => ⟨0x71, 1, 0xA000, 1024⟩
  | .INST_TOKENS => ⟨0x71, 1, 0xC000, 1024⟩
  | .INST_LATE_DISCARDS => ⟨0x71, 1, 0xE000, 1024⟩
  | .INST_DROPPED => ⟨0x71, 1, 0x10000, 1024⟩
  | .INST_COMMIT => ⟨0x71, 1, 0x12000, 1⟩
  | .INST_CMD => ⟨0x71, 1, 0x12008, 1⟩
  | .INST_CMD_ADDR => ⟨0x71, 1, 0x12010, 1⟩
  | .INST_CMD_STATUS => ⟨0x71, 1, 0x12018, 1⟩
  | .INST_CMD_EVT => ⟨0x71, 1, 0x12020, 1⟩
  | .SHB_CFG => ⟨0x50, 10, 0x0, 1⟩
  | .SHB_CTL => ⟨0x50, 10, 0x8, 1⟩
  | .SHB_STATUS => ⟨0x50, 10, 0x10, 1⟩
  | .SHB_ERR => ⟨0x50, 10, 0x18, 1⟩
  | .SHB_DELAY => ⟨0x50, 10, 0x20, 1⟩
  | .DIR_HOME => ⟨0x5A, 1, 0x0, 256⟩
  | .DIR_USED => ⟨0x5A, 1, 0x800, 1⟩
  | .DIR_COUNT => ⟨0x5A, 1, 0x808, 1⟩
  | .DIR_PROMOTED => ⟨0x5A, 1, 0x810, 1⟩
  | .DIR_ECC => ⟨0x5A, 1, 0x818, 1⟩
  | .DEV_IMG_CFG => ⟨0x00, 1, 0x1000, 1⟩
  | .DEV_IMG_MEMBERS => ⟨0x00, 1, 0x1008, 1⟩
  | .DEV_IMG_STATE => ⟨0x00, 1, 0x1010, 1⟩
  | .DEV_IMG_EVT => ⟨0x00, 1, 0x1018, 1⟩
  | .TOD_TIME => ⟨0x05, 1, 0x0, 1⟩
  | .TOD_SET => ⟨0x05, 1, 0x8, 1⟩
  | .TOD_CFG => ⟨0x05, 1, 0x10, 1⟩
  | .TOD_STATUS => ⟨0x05, 1, 0x18, 1⟩
  | .TMR_CMP => ⟨0x05, 1, 0x1000, 256⟩
  | .TMR_CTL => ⟨0x05, 1, 0x1800, 256⟩
  | .FLT_STATUS => ⟨0x01, 1, 0x0, 1⟩
  | .FLT_CTL => ⟨0x01, 1, 0x8, 1⟩
  | .FLT_COUNT => ⟨0x01, 1, 0x100, 5⟩
  | .FLT_LOST => ⟨0x01, 1, 0x128, 1⟩
  | .FLT_LOG_NEXT => ⟨0x01, 1, 0x200, 1⟩
  | .FLT_LOG_ACK => ⟨0x01, 1, 0x208, 1⟩
  | .FLT_RESET => ⟨0x01, 1, 0x300, 1⟩
  | .FLT_RESET_STATUS => ⟨0x01, 1, 0x308, 1⟩
  | .FLT_SHADOW_LO => ⟨0x01, 1, 0x318, 1⟩
  | .FLT_SHADOW_HI => ⟨0x01, 1, 0x320, 1⟩
  | .FLT_PEND => ⟨0x01, 1, 0x1000, 128⟩
  | .FLT_CORE_PEND => ⟨0x01, 1, 0x1400, 40⟩
  | .FLT_LOG => ⟨0x01, 1, 0x10000, 4096⟩
  | .PWR_STATUS => ⟨0x02, 1, 0x0, 1⟩
  | .PWR_STATE_REQ => ⟨0x02, 1, 0x8, 1⟩
  | .PWR_WAKE_BUDGET => ⟨0x02, 1, 0x10, 1⟩
  | .PWR_WAKE_REFILL => ⟨0x02, 1, 0x18, 1⟩
  | .PWR_COMMIT => ⟨0x02, 1, 0x20, 1⟩
  | .PWR_WAKE_STATE => ⟨0x02, 1, 0x28, 1⟩
  | .PWR_FLOOR => ⟨0x02, 1, 0x30, 1⟩
  | .PWR_RAIL_MAX => ⟨0x02, 1, 0x38, 1⟩
  | .PWR_CAP => ⟨0x02, 1, 0x40, 1⟩
  | .PWR_INPUT => ⟨0x02, 1, 0x48, 1⟩
  | .PWR_TEMP => ⟨0x02, 1, 0x50, 1⟩
  | .PWR_EVT => ⟨0x02, 1, 0x58, 1⟩
  | .PWR_DOM_CTL => ⟨0x02, 1, 0x1000, 128⟩
  | .PWR_DOM_STATUS => ⟨0x02, 1, 0x1400, 128⟩
  | .CFG_START_STATUS => ⟨0x06, 1, 0x0, 1⟩
  | .CFG_IMG => ⟨0x06, 1, 0x8, 1⟩
  | .CFG_CTL => ⟨0x06, 1, 0x10, 1⟩
  | .CFG_SVC_WDOG => ⟨0x06, 1, 0x18, 1⟩
  | .CFG_SVC_KICK => ⟨0x06, 1, 0x20, 1⟩
  | .CFG_SVC_RESTARTS => ⟨0x06, 1, 0x28, 1⟩
  | .CFG_NVM_ADDR => ⟨0x06, 1, 0x100, 1⟩
  | .CFG_NVM_MEM => ⟨0x06, 1, 0x108, 1⟩
  | .CFG_NVM_LEN => ⟨0x06, 1, 0x110, 1⟩
  | .CFG_NVM_CMD => ⟨0x06, 1, 0x118, 1⟩
  | .CFG_NVM_STATUS => ⟨0x06, 1, 0x120, 1⟩
  | .SEC_STATUS => ⟨0x03, 1, 0x0, 1⟩
  | .SEC_SERIAL => ⟨0x03, 1, 0x8, 1⟩
  | .SEC_RUN => ⟨0x03, 1, 0x10, 1⟩
  | .SEC_SVN_ADVANCE => ⟨0x03, 1, 0x18, 1⟩
  | .SEC_REKEY => ⟨0x03, 1, 0x20, 1⟩
  | .SEC_MEAS => ⟨0x03, 1, 0x100, 18⟩
  | .SEC_IDPUB => ⟨0x03, 1, 0x200, 13⟩
  | .SEC_ATT_ADDR => ⟨0x03, 1, 0x300, 1⟩
  | .SEC_ATT_CMD => ⟨0x03, 1, 0x308, 1⟩
  | .SEC_ATT_STATUS => ⟨0x03, 1, 0x310, 1⟩
  | .CORE_IMAGE => ⟨0x70, 80, 0x400, 128⟩
  | .CORE_IMAGE_LVL_CTL => ⟨0x70, 80, 0x800, 1⟩
  | .CORE_IMAGE_CORE_ID => ⟨0x70, 80, 0x808, 1⟩

/-- The fields of each register (R10); bits in no field are reserved (R13). -/
def regFields : RegName → List Field
  | .CUE_MAP => [⟨0, 7, .rw, .staged, 0⟩, ⟨8, 3, .rw, .staged, 7⟩, ⟨12, 1, .rw, .live, 0⟩, ⟨13, 1, .ro, .live,
      0⟩, ⟨14, 1, .ro, .live, 0⟩, ⟨16, 8, .ro, .live, 0⟩]  -- R66
  | .CUE_PENDING => [⟨0, 64, .ro, .live, 0⟩]  -- R66
  | .CUE_RAISE => [⟨0, 12, .wo, .live, 0⟩, ⟨32, 32, .wo, .live, 0⟩]  -- R66
  | .CORE_PREF_CTL => [⟨0, 1, .rw, .staged, 1⟩, ⟨1, 3, .rw, .staged, 3⟩, ⟨4, 1, .rw, .staged, 1⟩]  -- R235
  | .CORE_CACHE_ERR => [⟨0, 16, .rc, .live, 0⟩, ⟨16, 16, .rc, .live, 0⟩, ⟨32, 16, .rc, .live, 0⟩, ⟨48, 16, .rc,
      .live, 0⟩]  -- R235
  | .PCS_CE_COUNT => [⟨0, 32, .rc, .live, 0⟩, ⟨32, 32, .rc, .live, 0⟩]  -- R236
  | .PCS_UE_COUNT => [⟨0, 32, .rc, .live, 0⟩, ⟨32, 32, .rc, .live, 0⟩]  -- R236
  | .PCS_ERR_ADDR => [⟨0, 1, .w1c, .live, 0⟩, ⟨7, 45, .ro, .live, 0⟩]  -- R236
  | .PCS_RES_BASE => [⟨24, 28, .rw, .grouped, 0⟩]  -- R236
  | .PCS_RES_WAYS => [⟨0, 4, .rw, .grouped, 8⟩]  -- R236
  | .PCS_RES_STATUS => [⟨0, 1, .ro, .live, 0⟩, ⟨1, 1, .w1c, .live, 0⟩]  -- R236
  | .PCS_COMMIT => [⟨0, 8, .wo, .live, 0⟩]  -- R236
  | .PCS_RNG_BASE => [⟨7, 45, .rw, .live, 0⟩]  -- R236
  | .PCS_RNG_LEN => [⟨0, 34, .rw, .live, 0⟩]  -- R236
  | .PCS_RNG_CMD => [⟨0, 3, .wo, .live, 0⟩, ⟨12, 12, .wo, .live, 0⟩, ⟨24, 1, .wo, .live, 0⟩]  -- R236
  | .PCS_RNG_STATUS => [⟨0, 1, .ro, .live, 0⟩, ⟨1, 1, .w1c, .live, 0⟩, ⟨2, 1, .w1c, .live, 0⟩, ⟨3, 3, .ro, .live,
      0⟩]  -- R236
  | .PCS_RNG_LINES => [⟨0, 34, .ro, .live, 0⟩]  -- R236
  | .PCS_RNG_SKIPPED => [⟨0, 34, .ro, .live, 0⟩]  -- R236
  | .PCS_RNG_POISONED => [⟨0, 34, .ro, .live, 0⟩]  -- R236
  | .MC_CFG => [⟨0, 1, .rw, .boot, 0⟩, ⟨1, 1, .rw, .boot, 0⟩, ⟨2, 1, .rw, .boot, 0⟩, ⟨3, 1, .rw, .boot, 0⟩]  -- R237
  | .MC_STATUS => [⟨0, 1, .ro, .live, 0⟩, ⟨1, 1, .ro, .live, 0⟩, ⟨2, 1, .ro, .live, 0⟩]  -- R237
  | .MC_SCRUB => [⟨0, 8, .rw, .staged, 24⟩]  -- R237
  | .MC_CE_COUNT => [⟨0, 32, .rc, .live, 0⟩]  -- R237
  | .MC_UE_COUNT => [⟨0, 32, .rc, .live, 0⟩]  -- R237
  | .MC_ERR_ADDR => [⟨0, 1, .w1c, .live, 0⟩, ⟨7, 45, .ro, .live, 0⟩]  -- R237
  | .FBS_STATUS => [⟨0, 2, .ro, .live, 0⟩, ⟨2, 1, .ro, .live, 0⟩, ⟨3, 1, .w1c, .live, 0⟩, ⟨4, 1, .w1c, .live, 0⟩,
      ⟨8, 4, .ro, .live, 0⟩]  -- R272
  | .FBS_WDOG => [⟨0, 16, .rw, .boot, 1000⟩]  -- R272
  | .FBS_KICK => [⟨0, 1, .wo, .live, 0⟩]  -- R272
  | .CORE_PAIR_STATUS => [⟨0, 4, .ro, .live, 0⟩, ⟨8, 4, .ro, .live, 0⟩, ⟨16, 2, .ro, .live, 0⟩, ⟨18, 1, .ro,
      .live, 0⟩, ⟨19, 1, .ro, .live, 0⟩, ⟨40, 1, .w1c, .live, 0⟩, ⟨41, 1, .w1c, .live, 0⟩, ⟨42, 1, .w1c, .live,
      0⟩, ⟨43, 1, .w1c, .live, 0⟩, ⟨44, 1, .w1c, .live, 0⟩, ⟨45, 4, .ro, .live, 0⟩]  -- R276
  | .CORE_PAIR_CTL => [⟨0, 1, .wo, .live, 0⟩, ⟨1, 1, .wo, .live, 0⟩, ⟨2, 1, .wo, .live, 0⟩, ⟨3, 1, .wo, .live,
      0⟩, ⟨8, 8, .wo, .live, 0⟩]  -- R276
  | .CORE_SPLIT_LEVEL => [⟨0, 3, .rw, .live, 7⟩]  -- R276
  | .CORE_SPLIT_PC => [⟨0, 64, .rw, .live, 0⟩]  -- R276
  | .CORE_STAGGER => [⟨0, 6, .rw, .boot, 12⟩]  -- R276
  | .CORE_RETRY_LOG => [⟨0, 1, .w1c, .live, 0⟩, ⟨4, 4, .ro, .live, 0⟩, ⟨8, 4, .ro, .live, 0⟩, ⟨12, 1, .ro, .live,
      0⟩, ⟨16, 6, .ro, .live, 0⟩]  -- R276
  | .CORE_RETRY_PC => [⟨0, 64, .ro, .live, 0⟩]  -- R276
  | .CORE_RETRY_COUNT => [⟨0, 32, .rc, .live, 0⟩, ⟨32, 16, .rc, .live, 0⟩, ⟨48, 16, .rc, .live, 0⟩]  -- R276
  | .CORE_MAP => [⟨0, 7, .ro, .live, 127⟩, ⟨8, 2, .ro, .live, 0⟩, ⟨10, 1, .ro, .live, 0⟩]  -- R276
  | .CORE_CKPT_SEL => [⟨0, 3, .rw, .live, 0⟩, ⟨4, 7, .rw, .live, 0⟩, ⟨11, 1, .rw, .live, 0⟩]  -- R276
  | .CORE_CKPT_DATA => [⟨0, 64, .ro, .live, 0⟩]  -- R276
  | .TRS_Q_BASE => [⟨12, 40, .rw, .grouped, 0⟩]  -- R322
  | .TRS_Q_CTL => [⟨0, 5, .rw, .grouped, 4⟩, ⟨8, 10, .rw, .staged, 0⟩, ⟨24, 1, .rw, .live, 0⟩]  -- R322
  | .TRS_Q_HEAD => [⟨0, 16, .ro, .live, 0⟩]  -- R322
  | .TRS_DOORBELL => [⟨0, 16, .rw, .live, 0⟩]  -- R322
  | .TRS_KEY_STATE => [⟨0, 2, .ro, .live, 0⟩]  -- R322
  | .TRS_COMMIT => [⟨0, 11, .wo, .live, 0⟩]  -- R322
  | .TRS_SVC_BASE => [⟨12, 40, .rw, .grouped, 0⟩]  -- R322
  | .TRS_SVC_CTL => [⟨0, 5, .rw, .grouped, 4⟩, ⟨8, 10, .rw, .staged, 0⟩, ⟨24, 1, .rw, .live, 0⟩]  -- R322
  | .TRS_SVC_HEAD => [⟨0, 16, .ro, .live, 0⟩]  -- R322
  | .TRS_SVC_DOORBELL => [⟨0, 16, .rw, .live, 0⟩]  -- R322
  | .TRS_DISCARDS => [⟨0, 32, .rc, .live, 0⟩]  -- R322
  | .TRE_STATUS => [⟨0, 1, .ro, .live, 0⟩, ⟨1, 1, .ro, .live, 1⟩, ⟨2, 1, .ro, .live, 0⟩, ⟨16, 10, .ro, .live,
      0⟩]  -- R323
  | .TRE_CTL => [⟨0, 1, .rw, .staged, 1⟩]  -- R323
  | .TRE_BYTES_IN => [⟨0, 64, .rc, .live, 0⟩]  -- R323
  | .TRE_BYTES_OUT => [⟨0, 64, .rc, .live, 0⟩]  -- R323
  | .TRE_JOBS => [⟨0, 32, .rc, .live, 0⟩, ⟨32, 32, .rc, .live, 0⟩]  -- R323
  | .TRE_ERR => [⟨0, 1, .w1c, .live, 0⟩, ⟨4, 4, .ro, .live, 0⟩, ⟨16, 12, .ro, .live, 0⟩]  -- R323
  | .XCH_CTL => [⟨0, 1, .rw, .live, 0⟩, ⟨1, 2, .rw, .boot, 0⟩, ⟨4, 4, .rw, .boot, 8⟩]  -- R363
  | .XCH_STATUS => [⟨0, 1, .ro, .live, 1⟩, ⟨1, 1, .ro, .live, 1⟩, ⟨2, 1, .ro, .live, 0⟩, ⟨3, 1, .ro, .live, 0⟩,
      ⟨4, 1, .ro, .live, 0⟩, ⟨5, 1, .ro, .live, 0⟩]  -- R363
  | .XCH_ACTIVE => [⟨0, 21, .ro, .live, 0⟩]  -- R363
  | .XCH_SAVE_LIMIT => [⟨0, 21, .rw, .boot, 0⟩]  -- R363
  | .XCH_SAVE_ADDR => [⟨12, 40, .rw, .boot, 0⟩]  -- R363
  | .XCH_SAVE_TGT => [⟨0, 12, .rw, .boot, 0⟩, ⟨12, 3, .rw, .boot, 0⟩]  -- R363
  | .XCH_SAVE_LBA => [⟨0, 64, .rw, .boot, 0⟩]  -- R363
  | .XCH_STAGE_BASE => [⟨16, 36, .rw, .boot, 0⟩]  -- R363
  | .XCH_STAGE_SIZE => [⟨16, 16, .rw, .boot, 0⟩]  -- R363
  | .XCH_TGT_BASE => [⟨12, 40, .rw, .grouped, 0⟩]  -- R363
  | .XCH_TGT_CTL => [⟨0, 13, .rw, .grouped, 0⟩]  -- R363
  | .XCH_TIMEOUT => [⟨0, 16, .rw, .staged, 8000⟩, ⟨16, 16, .rw, .staged, 2000⟩]  -- R363
  | .XCH_COMMIT => [⟨0, 14, .wo, .live, 0⟩]  -- R363
  | .XCH_REPLAY => [⟨0, 12, .rw, .live, 0⟩, ⟨16, 1, .wo, .live, 0⟩, ⟨17, 1, .wo, .live, 0⟩, ⟨18, 1, .w1c, .live,
      0⟩, ⟨19, 1, .ro, .live, 0⟩]  -- R363
  | .XCH_REPLAY_COUNT => [⟨0, 21, .ro, .live, 0⟩, ⟨32, 21, .ro, .live, 0⟩]  -- R363
  | .XCH_LATE => [⟨0, 32, .rc, .live, 0⟩, ⟨32, 32, .rc, .live, 0⟩]  -- R363
  | .XCH_ENT_SEL => [⟨0, 20, .rw, .live, 0⟩, ⟨20, 1, .rw, .live, 0⟩]  -- R363
  | .XCH_ENT_DATA => [⟨0, 64, .ro, .live, 0⟩]  -- R363
  | .XCH_RQ_BASE => [⟨12, 40, .rw, .grouped, 0⟩]  -- R364
  | .XCH_RQ_CTL => [⟨0, 5, .rw, .grouped, 4⟩, ⟨8, 10, .rw, .grouped, 0⟩, ⟨20, 12, .rw, .grouped, 0⟩, ⟨32, 3, .rw,
      .staged, 0⟩, ⟨40, 1, .rw, .live, 0⟩]  -- R364
  | .XCH_RQ_HEAD => [⟨0, 16, .ro, .live, 0⟩]  -- R364
  | .XCH_RQ_DOORBELL => [⟨0, 16, .rw, .live, 0⟩]  -- R364
  | .XCH_CQ_BASE => [⟨12, 40, .rw, .grouped, 0⟩]  -- R364
  | .XCH_CQ_CTL => [⟨0, 5, .rw, .grouped, 4⟩, ⟨8, 10, .rw, .staged, 0⟩, ⟨24, 1, .rw, .live, 0⟩, ⟨32, 10, .rw,
      .grouped, 0⟩]  -- R364
  | .XCH_CQ_TAIL => [⟨0, 32, .ro, .live, 0⟩]  -- R364
  | .XCH_CQ_HEAD => [⟨0, 32, .rw, .live, 0⟩]  -- R364
  | .SEQ_STATUS => [⟨0, 3, .ro, .live, 0⟩, ⟨8, 4, .ro, .live, 0⟩, ⟨16, 1, .w1c, .live, 0⟩, ⟨17, 1, .w1c, .live,
      0⟩]  -- R366
  | .SEQ_CTL => [⟨0, 1, .rw, .staged, 1⟩]  -- R366
  | .SEQ_COUNT => [⟨0, 32, .rc, .live, 0⟩, ⟨32, 32, .rc, .live, 0⟩]  -- R366
  | .SEQ_ADOPT => [⟨0, 21, .ro, .live, 0⟩, ⟨24, 3, .ro, .live, 0⟩, ⟨32, 16, .ro, .live, 0⟩]  -- R366
  | .SEQ_RETRY_COUNT => [⟨0, 32, .rc, .live, 0⟩]  -- R366
  | .ETH_CFG => [⟨0, 2, .rw, .boot, 0⟩, ⟨8, 8, .rw, .boot, 0⟩, ⟨16, 3, .rw, .boot, 3⟩]  -- R367
  | .ETH_STATUS => [⟨0, 8, .ro, .live, 0⟩]  -- R367
  | .ETH_FEC => [⟨0, 32, .rc, .live, 0⟩, ⟨32, 32, .rc, .live, 0⟩]  -- R367
  | .ETH_EVT => [⟨0, 8, .rw, .live, 0⟩]  -- R367
  | .PCIE_CFG => [⟨0, 2, .rw, .boot, 0⟩, ⟨2, 1, .rw, .boot, 0⟩, ⟨4, 3, .rw, .boot, 6⟩]  -- R368
  | .PCIE_STATUS => [⟨0, 4, .ro, .live, 0⟩, ⟨4, 4, .ro, .live, 0⟩]  -- R368
  | .PCIE_PERST => [⟨0, 4, .rw, .live, 15⟩]  -- R368
  | .PCIE_MSI => [⟨12, 52, .rw, .boot, 0⟩]  -- R368
  | .PCIE_EVT => [⟨0, 4, .rw, .live, 0⟩]  -- R368
  | .INST_CTL => [⟨0, 1, .rw, .live, 0⟩, ⟨1, 1, .ro, .live, 0⟩, ⟨2, 1, .w1c, .live, 0⟩, ⟨8, 8, .rw, .staged, 1⟩,
      ⟨16, 8, .rw, .staged, 1⟩, ⟨24, 10, .rw, .live, 0⟩, ⟨48, 16, .ro, .live, 0⟩]  -- R387
  | .INST_OP => [⟨0, 1, .wo, .live, 0⟩, ⟨1, 1, .wo, .live, 0⟩]  -- R387
  | .INST_XRANGE => [⟨0, 12, .rw, .grouped, 0⟩, ⟨16, 13, .rw, .grouped, 0⟩]  -- R387
  | .INST_KEYS => [⟨0, 12, .rw, .grouped, 0⟩, ⟨16, 13, .rw, .grouped, 0⟩]  -- R387
  | .INST_BYTE_RATE => [⟨0, 32, .rw, .live, 0⟩, ⟨32, 31, .rw, .live, 1024⟩]  -- R387
  | .INST_EXCH_RATE => [⟨0, 32, .rw, .live, 0⟩, ⟨32, 31, .rw, .live, 256⟩]  -- R387
  | .INST_TOKENS => [⟨0, 32, .ro, .live, 1024⟩, ⟨32, 32, .ro, .live, 256⟩]  -- R387
  | .INST_LATE_DISCARDS => [⟨0, 32, .rc, .live, 0⟩, ⟨32, 32, .rc, .live, 0⟩]  -- R387
  | .INST_DROPPED => [⟨0, 32, .rc, .live, 0⟩, ⟨32, 32, .rc, .live, 0⟩]  -- R387
  | .INST_COMMIT => [⟨0, 11, .wo, .live, 0⟩]  -- R387
  | .INST_CMD => [⟨0, 4, .wo, .live, 0⟩, ⟨16, 10, .wo, .live, 0⟩]  -- R387
  | .INST_CMD_ADDR => [⟨7, 45, .rw, .live, 0⟩]  -- R387
  | .INST_CMD_STATUS => [⟨0, 1, .ro, .live, 0⟩, ⟨1, 1, .w1c, .live, 0⟩, ⟨8, 4, .ro, .live, 0⟩, ⟨16, 10, .ro,
      .live, 0⟩]  -- R387
  | .INST_CMD_EVT => [⟨0, 12, .rw, .live, 0⟩, ⟨12, 1, .rw, .live, 0⟩]  -- R387
  | .SHB_CFG => [⟨0, 1, .rw, .boot, 0⟩, ⟨8, 5, .rw, .boot, 0⟩, ⟨16, 4, .rw, .boot, 0⟩]  -- R422
  | .SHB_CTL => [⟨0, 1, .rw, .live, 0⟩, ⟨1, 1, .wo, .live, 0⟩]  -- R422
  | .SHB_STATUS => [⟨0, 3, .ro, .live, 0⟩, ⟨4, 2, .ro, .live, 0⟩, ⟨8, 8, .ro, .live, 0⟩, ⟨16, 5, .ro, .live, 0⟩,
      ⟨24, 4, .ro, .live, 0⟩]  -- R422
  | .SHB_ERR => [⟨0, 32, .rc, .live, 0⟩, ⟨32, 16, .rc, .live, 0⟩, ⟨48, 16, .rc, .live, 0⟩]  -- R422
  | .SHB_DELAY => [⟨0, 16, .ro, .live, 0⟩]  -- R422
  | .DIR_HOME => [⟨0, 22, .rw, .boot, 0⟩, ⟨22, 22, .rw, .boot, 0⟩, ⟨48, 5, .rw, .boot, 0⟩, ⟨63, 1, .rw, .boot,
      0⟩]  -- R423
  | .DIR_USED => [⟨0, 24, .ro, .live, 0⟩]  -- R423
  | .DIR_COUNT => [⟨0, 32, .rc, .live, 0⟩, ⟨32, 32, .rc, .live, 0⟩]  -- R423
  | .DIR_PROMOTED => [⟨0, 32, .rc, .live, 0⟩]  -- R423
  | .DIR_ECC => [⟨0, 32, .rc, .live, 0⟩, ⟨32, 32, .rc, .live, 0⟩]  -- R423
  | .DEV_IMG_CFG => [⟨0, 5, .rw, .boot, 0⟩, ⟨8, 5, .rw, .boot, 0⟩, ⟨13, 1, .rw, .boot, 0⟩, ⟨16, 8, .rw, .boot,
      20⟩]  -- R424
  | .DEV_IMG_MEMBERS => [⟨0, 32, .ro, .live, 0⟩]  -- R424
  | .DEV_IMG_STATE => [⟨0, 2, .ro, .live, 0⟩, ⟨8, 5, .ro, .live, 0⟩, ⟨32, 32, .ro, .live, 0⟩]  -- R424
  | .DEV_IMG_EVT => [⟨0, 1, .w1c, .live, 0⟩, ⟨1, 1, .w1c, .live, 0⟩, ⟨2, 1, .w1c, .live, 0⟩, ⟨3, 1, .w1c, .live,
      0⟩]  -- R424
  | .TOD_TIME => [⟨0, 64, .ro, .live, 0⟩]  -- R425
  | .TOD_SET => [⟨0, 64, .wo, .live, 0⟩]  -- R425
  | .TOD_CFG => [⟨0, 1, .rw, .boot, 0⟩, ⟨1, 1, .rw, .boot, 0⟩]  -- R425
  | .TOD_STATUS => [⟨0, 1, .ro, .live, 0⟩, ⟨1, 1, .ro, .live, 0⟩, ⟨8, 4, .ro, .live, 15⟩, ⟨32, 32, .ro, .live,
      0⟩]  -- R425
  | .TMR_CMP => [⟨0, 64, .rw, .live, 0⟩]  -- R425
  | .TMR_CTL => [⟨0, 1, .rw, .live, 0⟩, ⟨1, 1, .rw, .live, 0⟩, ⟨32, 32, .rw, .live, 0⟩]  -- R425
  | .FLT_STATUS => [⟨0, 5, .ro, .live, 0⟩, ⟨8, 1, .w1c, .live, 0⟩, ⟨9, 1, .ro, .live, 0⟩]  -- R450
  | .FLT_CTL => [⟨0, 1, .rw, .live, 1⟩, ⟨1, 1, .rw, .live, 0⟩, ⟨2, 1, .w1c, .live, 1⟩, ⟨8, 3, .rw, .boot, 3⟩]  -- R450
  | .FLT_COUNT => [⟨0, 32, .rc, .live, 0⟩]  -- R450
  | .FLT_LOST => [⟨0, 32, .rc, .live, 0⟩]  -- R450
  | .FLT_LOG_NEXT => [⟨0, 32, .ro, .live, 0⟩]  -- R450
  | .FLT_LOG_ACK => [⟨0, 32, .rw, .live, 0⟩]  -- R450
  | .FLT_RESET => [⟨0, 7, .wo, .live, 0⟩, ⟨8, 1, .wo, .live, 0⟩]  -- R450
  | .FLT_RESET_STATUS => [⟨0, 1, .ro, .live, 0⟩, ⟨1, 1, .w1c, .live, 0⟩, ⟨2, 1, .w1c, .live, 0⟩, ⟨8, 7, .ro,
      .live, 0⟩]  -- R450
  | .FLT_SHADOW_LO => [⟨0, 64, .ro, .live, 0⟩]  -- R450
  | .FLT_SHADOW_HI => [⟨0, 64, .ro, .live, 0⟩]  -- R450
  | .FLT_PEND => [⟨0, 5, .w1c, .live, 0⟩]  -- R450
  | .FLT_CORE_PEND => [⟨0, 5, .w1c, .live, 0⟩]  -- R450
  | .FLT_LOG => [⟨0, 64, .ro, .live, 0⟩]  -- R450
  | .PWR_STATUS => [⟨0, 3, .ro, .live, 0⟩, ⟨3, 1, .ro, .live, 0⟩, ⟨4, 1, .ro, .live, 0⟩, ⟨5, 1, .ro, .live, 0⟩,
      ⟨6, 1, .ro, .live, 0⟩, ⟨7, 1, .ro, .live, 0⟩, ⟨8, 1, .w1c, .live, 0⟩, ⟨9, 3, .ro, .live, 0⟩]  -- R472
  | .PWR_STATE_REQ => [⟨0, 2, .wo, .live, 0⟩]  -- R472
  | .PWR_WAKE_BUDGET => [⟨0, 8, .rw, .grouped, 64⟩]  -- R472
  | .PWR_WAKE_REFILL => [⟨0, 7, .rw, .grouped, 16⟩]  -- R472
  | .PWR_COMMIT => [⟨0, 8, .wo, .live, 0⟩]  -- R472
  | .PWR_WAKE_STATE => [⟨0, 8, .ro, .live, 64⟩, ⟨8, 8, .ro, .live, 0⟩]  -- R472
  | .PWR_FLOOR => [⟨0, 8, .rw, .boot, 140⟩]  -- R472
  | .PWR_RAIL_MAX => [⟨0, 8, .rw, .boot, 196⟩]  -- R472
  | .PWR_CAP => [⟨0, 10, .rw, .staged, 0⟩]  -- R472
  | .PWR_INPUT => [⟨0, 16, .ro, .live, 0⟩, ⟨16, 16, .ro, .live, 0⟩, ⟨32, 10, .ro, .live, 0⟩]  -- R472
  | .PWR_TEMP => [⟨0, 8, .ro, .live, 0⟩]  -- R472
  | .PWR_EVT => [⟨0, 12, .rw, .live, 0⟩, ⟨12, 1, .rw, .live, 0⟩]  -- R472
  | .PWR_DOM_CTL => [⟨0, 8, .rw, .staged, 170⟩, ⟨8, 1, .wo, .live, 0⟩, ⟨9, 1, .wo, .live, 0⟩]  -- R472
  | .PWR_DOM_STATUS => [⟨0, 3, .ro, .live, 0⟩, ⟨4, 2, .ro, .live, 0⟩, ⟨8, 8, .ro, .live, 0⟩, ⟨16, 1, .w1c, .live,
      0⟩]  -- R472
  | .CFG_START_STATUS => [⟨0, 4, .ro, .live, 0⟩, ⟨4, 1, .ro, .live, 0⟩, ⟨5, 1, .ro, .live, 0⟩, ⟨6, 1, .ro, .live,
      0⟩, ⟨7, 1, .ro, .live, 0⟩, ⟨8, 1, .ro, .live, 0⟩, ⟨9, 1, .ro, .live, 0⟩, ⟨12, 4, .ro, .live, 0⟩, ⟨32, 16,
      .ro, .live, 0⟩]  -- R505
  | .CFG_IMG => [⟨0, 32, .ro, .live, 0⟩, ⟨32, 32, .ro, .live, 0⟩]  -- R505
  | .CFG_CTL => [⟨0, 1, .wo, .live, 0⟩, ⟨1, 1, .wo, .live, 0⟩, ⟨2, 1, .wo, .live, 0⟩]  -- R505
  | .CFG_SVC_WDOG => [⟨0, 16, .rw, .boot, 2000⟩]  -- R505
  | .CFG_SVC_KICK => [⟨0, 32, .rw, .live, 0⟩]  -- R505
  | .CFG_SVC_RESTARTS => [⟨0, 32, .rc, .live, 0⟩]  -- R505
  | .CFG_NVM_ADDR => [⟨0, 27, .rw, .live, 0⟩]  -- R505
  | .CFG_NVM_MEM => [⟨0, 52, .rw, .live, 0⟩]  -- R505
  | .CFG_NVM_LEN => [⟨0, 27, .rw, .live, 0⟩]  -- R505
  | .CFG_NVM_CMD => [⟨0, 2, .wo, .live, 0⟩, ⟨12, 12, .wo, .live, 0⟩, ⟨24, 1, .wo, .live, 0⟩]  -- R505
  | .CFG_NVM_STATUS => [⟨0, 1, .ro, .live, 0⟩, ⟨1, 1, .w1c, .live, 0⟩, ⟨2, 1, .w1c, .live, 0⟩, ⟨3, 3, .ro, .live,
      0⟩]  -- R505
  | .SEC_STATUS => [⟨0, 7, .ro, .live, 0⟩, ⟨8, 4, .ro, .live, 0⟩, ⟨12, 1, .ro, .live, 0⟩, ⟨13, 1, .ro, .live, 0⟩,
      ⟨14, 1, .ro, .live, 0⟩]  -- R506
  | .SEC_SERIAL => [⟨0, 64, .ro, .live, 0⟩]  -- R506
  | .SEC_RUN => [⟨0, 7, .ro, .live, 0⟩, ⟨8, 1, .ro, .live, 0⟩, ⟨9, 1, .ro, .live, 0⟩]  -- R506
  | .SEC_SVN_ADVANCE => [⟨0, 7, .wo, .live, 0⟩]  -- R506
  | .SEC_REKEY => [⟨0, 1, .wo, .live, 0⟩]  -- R506
  | .SEC_MEAS => [⟨0, 64, .ro, .live, 0⟩]  -- R506
  | .SEC_IDPUB => [⟨0, 64, .ro, .live, 0⟩]  -- R506
  | .SEC_ATT_ADDR => [⟨12, 40, .rw, .live, 0⟩]  -- R506
  | .SEC_ATT_CMD => [⟨0, 1, .wo, .live, 0⟩, ⟨12, 12, .wo, .live, 0⟩, ⟨24, 1, .wo, .live, 0⟩]  -- R506
  | .SEC_ATT_STATUS => [⟨0, 1, .ro, .live, 0⟩, ⟨1, 1, .w1c, .live, 0⟩, ⟨2, 1, .w1c, .live, 0⟩, ⟨3, 3, .ro, .live,
      0⟩, ⟨32, 21, .ro, .live, 0⟩]  -- R506
  | .CORE_IMAGE => [⟨0, 64, .ro, .live, 0⟩]  -- R275
  | .CORE_IMAGE_LVL_CTL => [⟨0, 64, .ro, .live, 0⟩]  -- R275
  | .CORE_IMAGE_CORE_ID => [⟨0, 64, .ro, .live, 0⟩]  -- R275

/-- A field by its register and bits. -/
structure FieldRef where
  reg : RegName
  lo : Nat
  width : Nat
  deriving DecidableEq, Repr

/-! The fields by the manual's names, register first. -/

def F.CUE_MAP_CORE : FieldRef := ⟨.CUE_MAP, 0, 7⟩
def F.CUE_MAP_LEVEL : FieldRef := ⟨.CUE_MAP, 8, 3⟩
def F.CUE_MAP_ENABLE : FieldRef := ⟨.CUE_MAP, 12, 1⟩
def F.CUE_MAP_HELD : FieldRef := ⟨.CUE_MAP, 13, 1⟩
def F.CUE_MAP_ABSENT : FieldRef := ⟨.CUE_MAP, 14, 1⟩
def F.CUE_MAP_COUNT : FieldRef := ⟨.CUE_MAP, 16, 8⟩
def F.CUE_PENDING_PEND : FieldRef := ⟨.CUE_PENDING, 0, 64⟩
def F.CUE_RAISE_SOURCE : FieldRef := ⟨.CUE_RAISE, 0, 12⟩
def F.CUE_RAISE_WORD : FieldRef := ⟨.CUE_RAISE, 32, 32⟩
def F.CORE_PREF_CTL_HW_EN : FieldRef := ⟨.CORE_PREF_CTL, 0, 1⟩
def F.CORE_PREF_CTL_DEPTH : FieldRef := ⟨.CORE_PREF_CTL, 1, 3⟩
def F.CORE_PREF_CTL_HINT_EN : FieldRef := ⟨.CORE_PREF_CTL, 4, 1⟩
def F.CORE_CACHE_ERR_L1I : FieldRef := ⟨.CORE_CACHE_ERR, 0, 16⟩
def F.CORE_CACHE_ERR_L1D : FieldRef := ⟨.CORE_CACHE_ERR, 16, 16⟩
def F.CORE_CACHE_ERR_L2 : FieldRef := ⟨.CORE_CACHE_ERR, 32, 16⟩
def F.CORE_CACHE_ERR_OTHER : FieldRef := ⟨.CORE_CACHE_ERR, 48, 16⟩
def F.PCS_CE_COUNT_DATA : FieldRef := ⟨.PCS_CE_COUNT, 0, 32⟩
def F.PCS_CE_COUNT_TAG : FieldRef := ⟨.PCS_CE_COUNT, 32, 32⟩
def F.PCS_UE_COUNT_CLEAN : FieldRef := ⟨.PCS_UE_COUNT, 0, 32⟩
def F.PCS_UE_COUNT_POISONED : FieldRef := ⟨.PCS_UE_COUNT, 32, 32⟩
def F.PCS_ERR_ADDR_VALID : FieldRef := ⟨.PCS_ERR_ADDR, 0, 1⟩
def F.PCS_ERR_ADDR_LINE : FieldRef := ⟨.PCS_ERR_ADDR, 7, 45⟩
def F.PCS_RES_BASE_BASE : FieldRef := ⟨.PCS_RES_BASE, 24, 28⟩
def F.PCS_RES_WAYS_WAYS : FieldRef := ⟨.PCS_RES_WAYS, 0, 4⟩
def F.PCS_RES_STATUS_CONVERTING : FieldRef := ⟨.PCS_RES_STATUS, 0, 1⟩
def F.PCS_RES_STATUS_DONE : FieldRef := ⟨.PCS_RES_STATUS, 1, 1⟩
def F.PCS_COMMIT_GROUP : FieldRef := ⟨.PCS_COMMIT, 0, 8⟩
def F.PCS_RNG_BASE_LINE : FieldRef := ⟨.PCS_RNG_BASE, 7, 45⟩
def F.PCS_RNG_LEN_LINES : FieldRef := ⟨.PCS_RNG_LEN, 0, 34⟩
def F.PCS_RNG_CMD_OP : FieldRef := ⟨.PCS_RNG_CMD, 0, 3⟩
def F.PCS_RNG_CMD_SOURCE : FieldRef := ⟨.PCS_RNG_CMD, 12, 12⟩
def F.PCS_RNG_CMD_EVENT : FieldRef := ⟨.PCS_RNG_CMD, 24, 1⟩
def F.PCS_RNG_STATUS_BUSY : FieldRef := ⟨.PCS_RNG_STATUS, 0, 1⟩
def F.PCS_RNG_STATUS_DONE : FieldRef := ⟨.PCS_RNG_STATUS, 1, 1⟩
def F.PCS_RNG_STATUS_ERROR : FieldRef := ⟨.PCS_RNG_STATUS, 2, 1⟩
def F.PCS_RNG_STATUS_CODE : FieldRef := ⟨.PCS_RNG_STATUS, 3, 3⟩
def F.PCS_RNG_LINES_DONE : FieldRef := ⟨.PCS_RNG_LINES, 0, 34⟩
def F.PCS_RNG_SKIPPED_RESIDENT : FieldRef := ⟨.PCS_RNG_SKIPPED, 0, 34⟩
def F.PCS_RNG_POISONED_POISONED : FieldRef := ⟨.PCS_RNG_POISONED, 0, 34⟩
def F.MC_CFG_ENABLE : FieldRef := ⟨.MC_CFG, 0, 1⟩
def F.MC_CFG_SPEED : FieldRef := ⟨.MC_CFG, 1, 1⟩
def F.MC_CFG_DPC : FieldRef := ⟨.MC_CFG, 2, 1⟩
def F.MC_CFG_MIRROR : FieldRef := ⟨.MC_CFG, 3, 1⟩
def F.MC_STATUS_TRAINED : FieldRef := ⟨.MC_STATUS, 0, 1⟩
def F.MC_STATUS_DEV_MARKED : FieldRef := ⟨.MC_STATUS, 1, 1⟩
def F.MC_STATUS_MIRROR_DEGRADED : FieldRef := ⟨.MC_STATUS, 2, 1⟩
def F.MC_SCRUB_HOURS : FieldRef := ⟨.MC_SCRUB, 0, 8⟩
def F.MC_CE_COUNT_COUNT : FieldRef := ⟨.MC_CE_COUNT, 0, 32⟩
def F.MC_UE_COUNT_COUNT : FieldRef := ⟨.MC_UE_COUNT, 0, 32⟩
def F.MC_ERR_ADDR_VALID : FieldRef := ⟨.MC_ERR_ADDR, 0, 1⟩
def F.MC_ERR_ADDR_LINE : FieldRef := ⟨.MC_ERR_ADDR, 7, 45⟩
def F.FBS_STATUS_STATE : FieldRef := ⟨.FBS_STATUS, 0, 2⟩
def F.FBS_STATUS_SPARE_USED : FieldRef := ⟨.FBS_STATUS, 2, 1⟩
def F.FBS_STATUS_CALLER_NEEDED : FieldRef := ⟨.FBS_STATUS, 3, 1⟩
def F.FBS_STATUS_VOTE_MISMATCH : FieldRef := ⟨.FBS_STATUS, 4, 1⟩
def F.FBS_STATUS_REASON : FieldRef := ⟨.FBS_STATUS, 8, 4⟩
def F.FBS_WDOG_PERIOD : FieldRef := ⟨.FBS_WDOG, 0, 16⟩
def F.FBS_KICK_KICK : FieldRef := ⟨.FBS_KICK, 0, 1⟩
def F.CORE_PAIR_STATUS_STATE : FieldRef := ⟨.CORE_PAIR_STATUS, 0, 4⟩
def F.CORE_PAIR_STATUS_LAST_CAUSE : FieldRef := ⟨.CORE_PAIR_STATUS, 8, 4⟩
def F.CORE_PAIR_STATUS_RETRIES : FieldRef := ⟨.CORE_PAIR_STATUS, 16, 2⟩
def F.CORE_PAIR_STATUS_CHECKER_SEEN : FieldRef := ⟨.CORE_PAIR_STATUS, 18, 1⟩
def F.CORE_PAIR_STATUS_CKPT_SINGLE : FieldRef := ⟨.CORE_PAIR_STATUS, 19, 1⟩
def F.CORE_PAIR_STATUS_RETRY_EVT : FieldRef := ⟨.CORE_PAIR_STATUS, 40, 1⟩
def F.CORE_PAIR_STATUS_CUTIN_EVT : FieldRef := ⟨.CORE_PAIR_STATUS, 41, 1⟩
def F.CORE_PAIR_STATUS_SPLIT_DONE : FieldRef := ⟨.CORE_PAIR_STATUS, 42, 1⟩
def F.CORE_PAIR_STATUS_JOIN_DONE : FieldRef := ⟨.CORE_PAIR_STATUS, 43, 1⟩
def F.CORE_PAIR_STATUS_REFUSED : FieldRef := ⟨.CORE_PAIR_STATUS, 44, 1⟩
def F.CORE_PAIR_STATUS_REFUSE_CODE : FieldRef := ⟨.CORE_PAIR_STATUS, 45, 4⟩
def F.CORE_PAIR_CTL_SPLIT : FieldRef := ⟨.CORE_PAIR_CTL, 0, 1⟩
def F.CORE_PAIR_CTL_JOIN : FieldRef := ⟨.CORE_PAIR_CTL, 1, 1⟩
def F.CORE_PAIR_CTL_CUTIN : FieldRef := ⟨.CORE_PAIR_CTL, 2, 1⟩
def F.CORE_PAIR_CTL_RETIRE : FieldRef := ⟨.CORE_PAIR_CTL, 3, 1⟩
def F.CORE_PAIR_CTL_SPARE : FieldRef := ⟨.CORE_PAIR_CTL, 8, 8⟩
def F.CORE_SPLIT_LEVEL_LEVEL : FieldRef := ⟨.CORE_SPLIT_LEVEL, 0, 3⟩
def F.CORE_SPLIT_PC_PC : FieldRef := ⟨.CORE_SPLIT_PC, 0, 64⟩
def F.CORE_STAGGER_STEPS : FieldRef := ⟨.CORE_STAGGER, 0, 6⟩
def F.CORE_RETRY_LOG_VALID : FieldRef := ⟨.CORE_RETRY_LOG, 0, 1⟩
def F.CORE_RETRY_LOG_CAUSE : FieldRef := ⟨.CORE_RETRY_LOG, 4, 4⟩
def F.CORE_RETRY_LOG_TOKEN : FieldRef := ⟨.CORE_RETRY_LOG, 8, 4⟩
def F.CORE_RETRY_LOG_PARTNER : FieldRef := ⟨.CORE_RETRY_LOG, 12, 1⟩
def F.CORE_RETRY_LOG_SLOT : FieldRef := ⟨.CORE_RETRY_LOG, 16, 6⟩
def F.CORE_RETRY_PC_PC : FieldRef := ⟨.CORE_RETRY_PC, 0, 64⟩
def F.CORE_RETRY_COUNT_RETRIES : FieldRef := ⟨.CORE_RETRY_COUNT, 0, 32⟩
def F.CORE_RETRY_COUNT_CHECKER : FieldRef := ⟨.CORE_RETRY_COUNT, 32, 16⟩
def F.CORE_RETRY_COUNT_STAGGER_CE : FieldRef := ⟨.CORE_RETRY_COUNT, 48, 16⟩
def F.CORE_MAP_LOGICAL : FieldRef := ⟨.CORE_MAP, 0, 7⟩
def F.CORE_MAP_ROLE : FieldRef := ⟨.CORE_MAP, 8, 2⟩
def F.CORE_MAP_FAILED : FieldRef := ⟨.CORE_MAP, 10, 1⟩
def F.CORE_CKPT_SEL_LEVEL : FieldRef := ⟨.CORE_CKPT_SEL, 0, 3⟩
def F.CORE_CKPT_SEL_INDEX : FieldRef := ⟨.CORE_CKPT_SEL, 4, 7⟩
def F.CORE_CKPT_SEL_FP : FieldRef := ⟨.CORE_CKPT_SEL, 11, 1⟩
def F.CORE_CKPT_DATA_VALUE : FieldRef := ⟨.CORE_CKPT_DATA, 0, 64⟩
def F.TRS_Q_BASE_BASE : FieldRef := ⟨.TRS_Q_BASE, 12, 40⟩
def F.TRS_Q_CTL_SIZE_LOG2 : FieldRef := ⟨.TRS_Q_CTL, 0, 5⟩
def F.TRS_Q_CTL_SOURCE : FieldRef := ⟨.TRS_Q_CTL, 8, 10⟩
def F.TRS_Q_CTL_ENABLE : FieldRef := ⟨.TRS_Q_CTL, 24, 1⟩
def F.TRS_Q_HEAD_HEAD : FieldRef := ⟨.TRS_Q_HEAD, 0, 16⟩
def F.TRS_DOORBELL_TAIL : FieldRef := ⟨.TRS_DOORBELL, 0, 16⟩
def F.TRS_KEY_STATE_KIND : FieldRef := ⟨.TRS_KEY_STATE, 0, 2⟩
def F.TRS_COMMIT_GROUP : FieldRef := ⟨.TRS_COMMIT, 0, 11⟩
def F.TRS_SVC_BASE_BASE : FieldRef := ⟨.TRS_SVC_BASE, 12, 40⟩
def F.TRS_SVC_CTL_SIZE_LOG2 : FieldRef := ⟨.TRS_SVC_CTL, 0, 5⟩
def F.TRS_SVC_CTL_SOURCE : FieldRef := ⟨.TRS_SVC_CTL, 8, 10⟩
def F.TRS_SVC_CTL_ENABLE : FieldRef := ⟨.TRS_SVC_CTL, 24, 1⟩
def F.TRS_SVC_HEAD_HEAD : FieldRef := ⟨.TRS_SVC_HEAD, 0, 16⟩
def F.TRS_SVC_DOORBELL_TAIL : FieldRef := ⟨.TRS_SVC_DOORBELL, 0, 16⟩
def F.TRS_DISCARDS_SKIPPED : FieldRef := ⟨.TRS_DISCARDS, 0, 32⟩
def F.TRE_STATUS_BUSY : FieldRef := ⟨.TRE_STATUS, 0, 1⟩
def F.TRE_STATUS_IN_SERVICE : FieldRef := ⟨.TRE_STATUS, 1, 1⟩
def F.TRE_STATUS_EXCHANGE : FieldRef := ⟨.TRE_STATUS, 2, 1⟩
def F.TRE_STATUS_INSTANCE : FieldRef := ⟨.TRE_STATUS, 16, 10⟩
def F.TRE_CTL_ENABLE : FieldRef := ⟨.TRE_CTL, 0, 1⟩
def F.TRE_BYTES_IN_BYTES : FieldRef := ⟨.TRE_BYTES_IN, 0, 64⟩
def F.TRE_BYTES_OUT_BYTES : FieldRef := ⟨.TRE_BYTES_OUT, 0, 64⟩
def F.TRE_JOBS_ENDED : FieldRef := ⟨.TRE_JOBS, 0, 32⟩
def F.TRE_JOBS_RERUN : FieldRef := ⟨.TRE_JOBS, 32, 32⟩
def F.TRE_ERR_VALID : FieldRef := ⟨.TRE_ERR, 0, 1⟩
def F.TRE_ERR_KIND : FieldRef := ⟨.TRE_ERR, 4, 4⟩
def F.TRE_ERR_INSTANCE : FieldRef := ⟨.TRE_ERR, 16, 12⟩
def F.XCH_CTL_ENABLE : FieldRef := ⟨.XCH_CTL, 0, 1⟩
def F.XCH_CTL_SAVE_KIND : FieldRef := ⟨.XCH_CTL, 1, 2⟩
def F.XCH_CTL_MAX_RETRY : FieldRef := ⟨.XCH_CTL, 4, 4⟩
def F.XCH_STATUS_COPY_A_OK : FieldRef := ⟨.XCH_STATUS, 0, 1⟩
def F.XCH_STATUS_COPY_B_OK : FieldRef := ⟨.XCH_STATUS, 1, 1⟩
def F.XCH_STATUS_SINGLE : FieldRef := ⟨.XCH_STATUS, 2, 1⟩
def F.XCH_STATUS_REBUILDING : FieldRef := ⟨.XCH_STATUS, 3, 1⟩
def F.XCH_STATUS_IMAGE : FieldRef := ⟨.XCH_STATUS, 4, 1⟩
def F.XCH_STATUS_POWER_FAIL : FieldRef := ⟨.XCH_STATUS, 5, 1⟩
def F.XCH_ACTIVE_COUNT : FieldRef := ⟨.XCH_ACTIVE, 0, 21⟩
def F.XCH_SAVE_LIMIT_LIMIT : FieldRef := ⟨.XCH_SAVE_LIMIT, 0, 21⟩
def F.XCH_SAVE_ADDR_BASE : FieldRef := ⟨.XCH_SAVE_ADDR, 12, 40⟩
def F.XCH_SAVE_TGT_TARGET : FieldRef := ⟨.XCH_SAVE_TGT, 0, 12⟩
def F.XCH_SAVE_TGT_PATH : FieldRef := ⟨.XCH_SAVE_TGT, 12, 3⟩
def F.XCH_SAVE_LBA_LBA : FieldRef := ⟨.XCH_SAVE_LBA, 0, 64⟩
def F.XCH_STAGE_BASE_BASE : FieldRef := ⟨.XCH_STAGE_BASE, 16, 36⟩
def F.XCH_STAGE_SIZE_UNITS : FieldRef := ⟨.XCH_STAGE_SIZE, 16, 16⟩
def F.XCH_TGT_BASE_BASE : FieldRef := ⟨.XCH_TGT_BASE, 12, 40⟩
def F.XCH_TGT_CTL_COUNT : FieldRef := ⟨.XCH_TGT_CTL, 0, 13⟩
def F.XCH_TIMEOUT_TIMEOUT : FieldRef := ⟨.XCH_TIMEOUT, 0, 16⟩
def F.XCH_TIMEOUT_FENCE : FieldRef := ⟨.XCH_TIMEOUT, 16, 16⟩
def F.XCH_COMMIT_GROUP : FieldRef := ⟨.XCH_COMMIT, 0, 14⟩
def F.XCH_REPLAY_CQ : FieldRef := ⟨.XCH_REPLAY, 0, 12⟩
def F.XCH_REPLAY_START : FieldRef := ⟨.XCH_REPLAY, 16, 1⟩
def F.XCH_REPLAY_CONSUME : FieldRef := ⟨.XCH_REPLAY, 17, 1⟩
def F.XCH_REPLAY_DONE : FieldRef := ⟨.XCH_REPLAY, 18, 1⟩
def F.XCH_REPLAY_INCOMPLETE : FieldRef := ⟨.XCH_REPLAY, 19, 1⟩
def F.XCH_REPLAY_COUNT_RECORDS : FieldRef := ⟨.XCH_REPLAY_COUNT, 0, 21⟩
def F.XCH_REPLAY_COUNT_MISSING : FieldRef := ⟨.XCH_REPLAY_COUNT, 32, 21⟩
def F.XCH_LATE_DMA : FieldRef := ⟨.XCH_LATE, 0, 32⟩
def F.XCH_LATE_COMPLETIONS : FieldRef := ⟨.XCH_LATE, 32, 32⟩
def F.XCH_ENT_SEL_EXCH : FieldRef := ⟨.XCH_ENT_SEL, 0, 20⟩
def F.XCH_ENT_SEL_COPY : FieldRef := ⟨.XCH_ENT_SEL, 20, 1⟩
def F.XCH_ENT_DATA_WORD : FieldRef := ⟨.XCH_ENT_DATA, 0, 64⟩
def F.XCH_RQ_BASE_BASE : FieldRef := ⟨.XCH_RQ_BASE, 12, 40⟩
def F.XCH_RQ_CTL_SIZE_LOG2 : FieldRef := ⟨.XCH_RQ_CTL, 0, 5⟩
def F.XCH_RQ_CTL_INSTANCE : FieldRef := ⟨.XCH_RQ_CTL, 8, 10⟩
def F.XCH_RQ_CTL_CQ : FieldRef := ⟨.XCH_RQ_CTL, 20, 12⟩
def F.XCH_RQ_CTL_PAIR : FieldRef := ⟨.XCH_RQ_CTL, 32, 3⟩
def F.XCH_RQ_CTL_ENABLE : FieldRef := ⟨.XCH_RQ_CTL, 40, 1⟩
def F.XCH_RQ_HEAD_HEAD : FieldRef := ⟨.XCH_RQ_HEAD, 0, 16⟩
def F.XCH_RQ_DOORBELL_TAIL : FieldRef := ⟨.XCH_RQ_DOORBELL, 0, 16⟩
def F.XCH_CQ_BASE_BASE : FieldRef := ⟨.XCH_CQ_BASE, 12, 40⟩
def F.XCH_CQ_CTL_SIZE_LOG2 : FieldRef := ⟨.XCH_CQ_CTL, 0, 5⟩
def F.XCH_CQ_CTL_SOURCE : FieldRef := ⟨.XCH_CQ_CTL, 8, 10⟩
def F.XCH_CQ_CTL_ENABLE : FieldRef := ⟨.XCH_CQ_CTL, 24, 1⟩
def F.XCH_CQ_CTL_INSTANCE : FieldRef := ⟨.XCH_CQ_CTL, 32, 10⟩
def F.XCH_CQ_TAIL_TAIL : FieldRef := ⟨.XCH_CQ_TAIL, 0, 32⟩
def F.XCH_CQ_HEAD_HEAD : FieldRef := ⟨.XCH_CQ_HEAD, 0, 32⟩
def F.SEQ_STATUS_STATE : FieldRef := ⟨.SEQ_STATUS, 0, 3⟩
def F.SEQ_STATUS_LAST_CAUSE : FieldRef := ⟨.SEQ_STATUS, 8, 4⟩
def F.SEQ_STATUS_RETRY_EVT : FieldRef := ⟨.SEQ_STATUS, 16, 1⟩
def F.SEQ_STATUS_FAILED_EVT : FieldRef := ⟨.SEQ_STATUS, 17, 1⟩
def F.SEQ_CTL_ENABLE : FieldRef := ⟨.SEQ_CTL, 0, 1⟩
def F.SEQ_COUNT_COMPLETED : FieldRef := ⟨.SEQ_COUNT, 0, 32⟩
def F.SEQ_COUNT_REDRIVES : FieldRef := ⟨.SEQ_COUNT, 32, 32⟩
def F.SEQ_ADOPT_ENTRIES : FieldRef := ⟨.SEQ_ADOPT, 0, 21⟩
def F.SEQ_ADOPT_FROM : FieldRef := ⟨.SEQ_ADOPT, 24, 3⟩
def F.SEQ_ADOPT_TIME : FieldRef := ⟨.SEQ_ADOPT, 32, 16⟩
def F.SEQ_RETRY_COUNT_RETRIES : FieldRef := ⟨.SEQ_RETRY_COUNT, 0, 32⟩
def F.ETH_CFG_MODE : FieldRef := ⟨.ETH_CFG, 0, 2⟩
def F.ETH_CFG_PFC_EN : FieldRef := ⟨.ETH_CFG, 8, 8⟩
def F.ETH_CFG_RDMA_MTU : FieldRef := ⟨.ETH_CFG, 16, 3⟩
def F.ETH_STATUS_LINK_UP : FieldRef := ⟨.ETH_STATUS, 0, 8⟩
def F.ETH_FEC_CORRECTED : FieldRef := ⟨.ETH_FEC, 0, 32⟩
def F.ETH_FEC_UNCORRECTED : FieldRef := ⟨.ETH_FEC, 32, 32⟩
def F.ETH_EVT_LINK_EN : FieldRef := ⟨.ETH_EVT, 0, 8⟩
def F.PCIE_CFG_SPLIT : FieldRef := ⟨.PCIE_CFG, 0, 2⟩
def F.PCIE_CFG_PROTOCOL : FieldRef := ⟨.PCIE_CFG, 2, 1⟩
def F.PCIE_CFG_MAX_GEN : FieldRef := ⟨.PCIE_CFG, 4, 3⟩
def F.PCIE_STATUS_LINK_UP : FieldRef := ⟨.PCIE_STATUS, 0, 4⟩
def F.PCIE_STATUS_FLIT : FieldRef := ⟨.PCIE_STATUS, 4, 4⟩
def F.PCIE_PERST_ASSERT : FieldRef := ⟨.PCIE_PERST, 0, 4⟩
def F.PCIE_MSI_ADDR : FieldRef := ⟨.PCIE_MSI, 12, 52⟩
def F.PCIE_EVT_LINK_EN : FieldRef := ⟨.PCIE_EVT, 0, 4⟩
def F.INST_CTL_PRESENT : FieldRef := ⟨.INST_CTL, 0, 1⟩
def F.INST_CTL_RESETTING : FieldRef := ⟨.INST_CTL, 1, 1⟩
def F.INST_CTL_RESET_DONE : FieldRef := ⟨.INST_CTL, 2, 1⟩
def F.INST_CTL_ENGINE_WEIGHT : FieldRef := ⟨.INST_CTL, 8, 8⟩
def F.INST_CTL_SEQ_WEIGHT : FieldRef := ⟨.INST_CTL, 16, 8⟩
def F.INST_CTL_SOURCE : FieldRef := ⟨.INST_CTL, 24, 10⟩
def F.INST_CTL_GEN : FieldRef := ⟨.INST_CTL, 48, 16⟩
def F.INST_OP_RESET : FieldRef := ⟨.INST_OP, 0, 1⟩
def F.INST_OP_REMOVE : FieldRef := ⟨.INST_OP, 1, 1⟩
def F.INST_XRANGE_BASE : FieldRef := ⟨.INST_XRANGE, 0, 12⟩
def F.INST_XRANGE_COUNT : FieldRef := ⟨.INST_XRANGE, 16, 13⟩
def F.INST_KEYS_BASE : FieldRef := ⟨.INST_KEYS, 0, 12⟩
def F.INST_KEYS_COUNT : FieldRef := ⟨.INST_KEYS, 16, 13⟩
def F.INST_BYTE_RATE_RATE : FieldRef := ⟨.INST_BYTE_RATE, 0, 32⟩
def F.INST_BYTE_RATE_BURST : FieldRef := ⟨.INST_BYTE_RATE, 32, 31⟩
def F.INST_EXCH_RATE_RATE : FieldRef := ⟨.INST_EXCH_RATE, 0, 32⟩
def F.INST_EXCH_RATE_BURST : FieldRef := ⟨.INST_EXCH_RATE, 32, 31⟩
def F.INST_TOKENS_BYTES : FieldRef := ⟨.INST_TOKENS, 0, 32⟩
def F.INST_TOKENS_EXCH : FieldRef := ⟨.INST_TOKENS, 32, 32⟩
def F.INST_LATE_DISCARDS_SEGMENTS : FieldRef := ⟨.INST_LATE_DISCARDS, 0, 32⟩
def F.INST_LATE_DISCARDS_STATUSES : FieldRef := ⟨.INST_LATE_DISCARDS, 32, 32⟩
def F.INST_DROPPED_RQ : FieldRef := ⟨.INST_DROPPED, 0, 32⟩
def F.INST_DROPPED_TQ : FieldRef := ⟨.INST_DROPPED, 32, 32⟩
def F.INST_COMMIT_GROUP : FieldRef := ⟨.INST_COMMIT, 0, 11⟩
def F.INST_CMD_OP : FieldRef := ⟨.INST_CMD, 0, 4⟩
def F.INST_CMD_INSTANCE : FieldRef := ⟨.INST_CMD, 16, 10⟩
def F.INST_CMD_ADDR_ADDR : FieldRef := ⟨.INST_CMD_ADDR, 7, 45⟩
def F.INST_CMD_STATUS_BUSY : FieldRef := ⟨.INST_CMD_STATUS, 0, 1⟩
def F.INST_CMD_STATUS_DONE : FieldRef := ⟨.INST_CMD_STATUS, 1, 1⟩
def F.INST_CMD_STATUS_CODE : FieldRef := ⟨.INST_CMD_STATUS, 8, 4⟩
def F.INST_CMD_STATUS_INSTANCE : FieldRef := ⟨.INST_CMD_STATUS, 16, 10⟩
def F.INST_CMD_EVT_SOURCE : FieldRef := ⟨.INST_CMD_EVT, 0, 12⟩
def F.INST_CMD_EVT_EVENT : FieldRef := ⟨.INST_CMD_EVT, 12, 1⟩
def F.SHB_CFG_ENABLE : FieldRef := ⟨.SHB_CFG, 0, 1⟩
def F.SHB_CFG_PEER : FieldRef := ⟨.SHB_CFG, 8, 5⟩
def F.SHB_CFG_PEER_PORT : FieldRef := ⟨.SHB_CFG, 16, 4⟩
def F.SHB_CTL_TRICKLE : FieldRef := ⟨.SHB_CTL, 0, 1⟩
def F.SHB_CTL_RETRAIN : FieldRef := ⟨.SHB_CTL, 1, 1⟩
def F.SHB_STATUS_STATE : FieldRef := ⟨.SHB_STATUS, 0, 3⟩
def F.SHB_STATUS_WIDTH : FieldRef := ⟨.SHB_STATUS, 4, 2⟩
def F.SHB_STATUS_LANES_GOOD : FieldRef := ⟨.SHB_STATUS, 8, 8⟩
def F.SHB_STATUS_PEER : FieldRef := ⟨.SHB_STATUS, 16, 5⟩
def F.SHB_STATUS_PEER_PORT : FieldRef := ⟨.SHB_STATUS, 24, 4⟩
def F.SHB_ERR_FEC_CORRECTED : FieldRef := ⟨.SHB_ERR, 0, 32⟩
def F.SHB_ERR_REPLAYS : FieldRef := ⟨.SHB_ERR, 32, 16⟩
def F.SHB_ERR_DEGRADES : FieldRef := ⟨.SHB_ERR, 48, 16⟩
def F.SHB_DELAY_DELAY : FieldRef := ⟨.SHB_DELAY, 0, 16⟩
def F.DIR_HOME_BASE : FieldRef := ⟨.DIR_HOME, 0, 22⟩
def F.DIR_HOME_COUNT : FieldRef := ⟨.DIR_HOME, 22, 22⟩
def F.DIR_HOME_HOME : FieldRef := ⟨.DIR_HOME, 48, 5⟩
def F.DIR_HOME_VALID : FieldRef := ⟨.DIR_HOME, 63, 1⟩
def F.DIR_USED_ENTRIES : FieldRef := ⟨.DIR_USED, 0, 24⟩
def F.DIR_COUNT_EVICTIONS : FieldRef := ⟨.DIR_COUNT, 0, 32⟩
def F.DIR_COUNT_RETRIES : FieldRef := ⟨.DIR_COUNT, 32, 32⟩
def F.DIR_PROMOTED_COUNT : FieldRef := ⟨.DIR_PROMOTED, 0, 32⟩
def F.DIR_ECC_CORRECTED : FieldRef := ⟨.DIR_ECC, 0, 32⟩
def F.DIR_ECC_BROADCASTS : FieldRef := ⟨.DIR_ECC, 32, 32⟩
def F.DEV_IMG_CFG_CALLER : FieldRef := ⟨.DEV_IMG_CFG, 0, 5⟩
def F.DEV_IMG_CFG_STANDBY : FieldRef := ⟨.DEV_IMG_CFG, 8, 5⟩
def F.DEV_IMG_CFG_STANDBY_EN : FieldRef := ⟨.DEV_IMG_CFG, 13, 1⟩
def F.DEV_IMG_CFG_HB_TIMEOUT : FieldRef := ⟨.DEV_IMG_CFG, 16, 8⟩
def F.DEV_IMG_MEMBERS_MEMBERS : FieldRef := ⟨.DEV_IMG_MEMBERS, 0, 32⟩
def F.DEV_IMG_STATE_ROLE : FieldRef := ⟨.DEV_IMG_STATE, 0, 2⟩
def F.DEV_IMG_STATE_ACTING_CALLER : FieldRef := ⟨.DEV_IMG_STATE, 8, 5⟩
def F.DEV_IMG_STATE_EPOCH : FieldRef := ⟨.DEV_IMG_STATE, 32, 32⟩
def F.DEV_IMG_EVT_ADMITTED : FieldRef := ⟨.DEV_IMG_EVT, 0, 1⟩
def F.DEV_IMG_EVT_TAKEOVER : FieldRef := ⟨.DEV_IMG_EVT, 1, 1⟩
def F.DEV_IMG_EVT_MEMBER_LOST : FieldRef := ⟨.DEV_IMG_EVT, 2, 1⟩
def F.DEV_IMG_EVT_REFUSED : FieldRef := ⟨.DEV_IMG_EVT, 3, 1⟩
def F.TOD_TIME_NS : FieldRef := ⟨.TOD_TIME, 0, 64⟩
def F.TOD_SET_NS : FieldRef := ⟨.TOD_SET, 0, 64⟩
def F.TOD_CFG_REF_EN : FieldRef := ⟨.TOD_CFG, 0, 1⟩
def F.TOD_CFG_PPS_EN : FieldRef := ⟨.TOD_CFG, 1, 1⟩
def F.TOD_STATUS_LOCKED : FieldRef := ⟨.TOD_STATUS, 0, 1⟩
def F.TOD_STATUS_HOLDOVER : FieldRef := ⟨.TOD_STATUS, 1, 1⟩
def F.TOD_STATUS_PORT : FieldRef := ⟨.TOD_STATUS, 8, 4⟩
def F.TOD_STATUS_OFFSET : FieldRef := ⟨.TOD_STATUS, 32, 32⟩
def F.TMR_CMP_TIME : FieldRef := ⟨.TMR_CMP, 0, 64⟩
def F.TMR_CTL_ARM : FieldRef := ⟨.TMR_CTL, 0, 1⟩
def F.TMR_CTL_PERIODIC : FieldRef := ⟨.TMR_CTL, 1, 1⟩
def F.TMR_CTL_PERIOD : FieldRef := ⟨.TMR_CTL, 32, 32⟩
def F.FLT_STATUS_CLASS_PEND : FieldRef := ⟨.FLT_STATUS, 0, 5⟩
def F.FLT_STATUS_LOG_OVERFLOW : FieldRef := ⟨.FLT_STATUS, 8, 1⟩
def F.FLT_STATUS_DEVICE_FATAL : FieldRef := ⟨.FLT_STATUS, 9, 1⟩
def F.FLT_CTL_LOG_C0 : FieldRef := ⟨.FLT_CTL, 0, 1⟩
def F.FLT_CTL_CONSEQ_NOTICE : FieldRef := ⟨.FLT_CTL, 1, 1⟩
def F.FLT_CTL_BOOT_HOLD : FieldRef := ⟨.FLT_CTL, 2, 1⟩
def F.FLT_CTL_FWD_MIN : FieldRef := ⟨.FLT_CTL, 8, 3⟩
def F.FLT_COUNT_COUNT : FieldRef := ⟨.FLT_COUNT, 0, 32⟩
def F.FLT_LOST_COUNT : FieldRef := ⟨.FLT_LOST, 0, 32⟩
def F.FLT_LOG_NEXT_SEQ : FieldRef := ⟨.FLT_LOG_NEXT, 0, 32⟩
def F.FLT_LOG_ACK_SEQ : FieldRef := ⟨.FLT_LOG_ACK, 0, 32⟩
def F.FLT_RESET_BLOCK : FieldRef := ⟨.FLT_RESET, 0, 7⟩
def F.FLT_RESET_GO : FieldRef := ⟨.FLT_RESET, 8, 1⟩
def F.FLT_RESET_STATUS_BUSY : FieldRef := ⟨.FLT_RESET_STATUS, 0, 1⟩
def F.FLT_RESET_STATUS_DONE : FieldRef := ⟨.FLT_RESET_STATUS, 1, 1⟩
def F.FLT_RESET_STATUS_REFUSED : FieldRef := ⟨.FLT_RESET_STATUS, 2, 1⟩
def F.FLT_RESET_STATUS_BLOCK : FieldRef := ⟨.FLT_RESET_STATUS, 8, 7⟩
def F.FLT_SHADOW_LO_BLOCKS : FieldRef := ⟨.FLT_SHADOW_LO, 0, 64⟩
def F.FLT_SHADOW_HI_BLOCKS : FieldRef := ⟨.FLT_SHADOW_HI, 0, 64⟩
def F.FLT_PEND_PEND : FieldRef := ⟨.FLT_PEND, 0, 5⟩
def F.FLT_CORE_PEND_PEND : FieldRef := ⟨.FLT_CORE_PEND, 0, 5⟩
def F.FLT_LOG_WORD : FieldRef := ⟨.FLT_LOG, 0, 64⟩
def F.PWR_STATUS_STATE : FieldRef := ⟨.PWR_STATUS, 0, 3⟩
def F.PWR_STATUS_TRANSITION : FieldRef := ⟨.PWR_STATUS, 3, 1⟩
def F.PWR_STATUS_BROWNOUT : FieldRef := ⟨.PWR_STATUS, 4, 1⟩
def F.PWR_STATUS_THERMAL : FieldRef := ⟨.PWR_STATUS, 5, 1⟩
def F.PWR_STATUS_CAP_ACTIVE : FieldRef := ⟨.PWR_STATUS, 6, 1⟩
def F.PWR_STATUS_OVERVOLTAGE : FieldRef := ⟨.PWR_STATUS, 7, 1⟩
def F.PWR_STATUS_REFUSED : FieldRef := ⟨.PWR_STATUS, 8, 1⟩
def F.PWR_STATUS_REFUSE_CODE : FieldRef := ⟨.PWR_STATUS, 9, 3⟩
def F.PWR_STATE_REQ_REQ : FieldRef := ⟨.PWR_STATE_REQ, 0, 2⟩
def F.PWR_WAKE_BUDGET_CREDITS : FieldRef := ⟨.PWR_WAKE_BUDGET, 0, 8⟩
def F.PWR_WAKE_REFILL_RATE : FieldRef := ⟨.PWR_WAKE_REFILL, 0, 7⟩
def F.PWR_COMMIT_GROUP : FieldRef := ⟨.PWR_COMMIT, 0, 8⟩
def F.PWR_WAKE_STATE_CREDITS : FieldRef := ⟨.PWR_WAKE_STATE, 0, 8⟩
def F.PWR_WAKE_STATE_QUEUED : FieldRef := ⟨.PWR_WAKE_STATE, 8, 8⟩
def F.PWR_FLOOR_LEVEL : FieldRef := ⟨.PWR_FLOOR, 0, 8⟩
def F.PWR_RAIL_MAX_LEVEL : FieldRef := ⟨.PWR_RAIL_MAX, 0, 8⟩
def F.PWR_CAP_WATTS : FieldRef := ⟨.PWR_CAP, 0, 10⟩
def F.PWR_INPUT_VIN : FieldRef := ⟨.PWR_INPUT, 0, 16⟩
def F.PWR_INPUT_IIN : FieldRef := ⟨.PWR_INPUT, 16, 16⟩
def F.PWR_INPUT_WATTS : FieldRef := ⟨.PWR_INPUT, 32, 10⟩
def F.PWR_TEMP_TJ_MAX : FieldRef := ⟨.PWR_TEMP, 0, 8⟩
def F.PWR_EVT_SOURCE : FieldRef := ⟨.PWR_EVT, 0, 12⟩
def F.PWR_EVT_EVENT : FieldRef := ⟨.PWR_EVT, 12, 1⟩
def F.PWR_DOM_CTL_RAIL : FieldRef := ⟨.PWR_DOM_CTL, 0, 8⟩
def F.PWR_DOM_CTL_ON : FieldRef := ⟨.PWR_DOM_CTL, 8, 1⟩
def F.PWR_DOM_CTL_OFF : FieldRef := ⟨.PWR_DOM_CTL, 9, 1⟩
def F.PWR_DOM_STATUS_STATE : FieldRef := ⟨.PWR_DOM_STATUS, 0, 3⟩
def F.PWR_DOM_STATUS_CAUSE : FieldRef := ⟨.PWR_DOM_STATUS, 4, 2⟩
def F.PWR_DOM_STATUS_ACTUAL : FieldRef := ⟨.PWR_DOM_STATUS, 8, 8⟩
def F.PWR_DOM_STATUS_DONE : FieldRef := ⟨.PWR_DOM_STATUS, 16, 1⟩
def F.CFG_START_STATUS_PHASE : FieldRef := ⟨.CFG_START_STATUS, 0, 4⟩
def F.CFG_START_STATUS_SLOT : FieldRef := ⟨.CFG_START_STATUS, 4, 1⟩
def F.CFG_START_STATUS_FALLBACK : FieldRef := ⟨.CFG_START_STATUS, 5, 1⟩
def F.CFG_START_STATUS_READY : FieldRef := ⟨.CFG_START_STATUS, 6, 1⟩
def F.CFG_START_STATUS_MEM_INIT_DONE : FieldRef := ⟨.CFG_START_STATUS, 7, 1⟩
def F.CFG_START_STATUS_DDR_REDUCED : FieldRef := ⟨.CFG_START_STATUS, 8, 1⟩
def F.CFG_START_STATUS_STOPPED : FieldRef := ⟨.CFG_START_STATUS, 9, 1⟩
def F.CFG_START_STATUS_REJECT : FieldRef := ⟨.CFG_START_STATUS, 12, 4⟩
def F.CFG_START_STATUS_SKIPPED : FieldRef := ⟨.CFG_START_STATUS, 32, 16⟩
def F.CFG_IMG_BUILD : FieldRef := ⟨.CFG_IMG, 0, 32⟩
def F.CFG_IMG_UPDATE_SEQ : FieldRef := ⟨.CFG_IMG, 32, 32⟩
def F.CFG_CTL_APPLY : FieldRef := ⟨.CFG_CTL, 0, 1⟩
def F.CFG_CTL_READY : FieldRef := ⟨.CFG_CTL, 1, 1⟩
def F.CFG_CTL_SVC_RESTART : FieldRef := ⟨.CFG_CTL, 2, 1⟩
def F.CFG_SVC_WDOG_PERIOD : FieldRef := ⟨.CFG_SVC_WDOG, 0, 16⟩
def F.CFG_SVC_KICK_COUNT : FieldRef := ⟨.CFG_SVC_KICK, 0, 32⟩
def F.CFG_SVC_RESTARTS_COUNT : FieldRef := ⟨.CFG_SVC_RESTARTS, 0, 32⟩
def F.CFG_NVM_ADDR_OFFSET : FieldRef := ⟨.CFG_NVM_ADDR, 0, 27⟩
def F.CFG_NVM_MEM_ADDR : FieldRef := ⟨.CFG_NVM_MEM, 0, 52⟩
def F.CFG_NVM_LEN_LEN : FieldRef := ⟨.CFG_NVM_LEN, 0, 27⟩
def F.CFG_NVM_CMD_OP : FieldRef := ⟨.CFG_NVM_CMD, 0, 2⟩
def F.CFG_NVM_CMD_SOURCE : FieldRef := ⟨.CFG_NVM_CMD, 12, 12⟩
def F.CFG_NVM_CMD_EVENT : FieldRef := ⟨.CFG_NVM_CMD, 24, 1⟩
def F.CFG_NVM_STATUS_BUSY : FieldRef := ⟨.CFG_NVM_STATUS, 0, 1⟩
def F.CFG_NVM_STATUS_DONE : FieldRef := ⟨.CFG_NVM_STATUS, 1, 1⟩
def F.CFG_NVM_STATUS_ERROR : FieldRef := ⟨.CFG_NVM_STATUS, 2, 1⟩
def F.CFG_NVM_STATUS_CODE : FieldRef := ⟨.CFG_NVM_STATUS, 3, 3⟩
def F.SEC_STATUS_SVN_FUSED : FieldRef := ⟨.SEC_STATUS, 0, 7⟩
def F.SEC_STATUS_EPOCH : FieldRef := ⟨.SEC_STATUS, 8, 4⟩
def F.SEC_STATUS_REKEY_OK : FieldRef := ⟨.SEC_STATUS, 12, 1⟩
def F.SEC_STATUS_PROVISIONED : FieldRef := ⟨.SEC_STATUS, 13, 1⟩
def F.SEC_STATUS_EXHAUSTED : FieldRef := ⟨.SEC_STATUS, 14, 1⟩
def F.SEC_SERIAL_SERIAL : FieldRef := ⟨.SEC_SERIAL, 0, 64⟩
def F.SEC_RUN_IMAGE_SVN : FieldRef := ⟨.SEC_RUN, 0, 7⟩
def F.SEC_RUN_SLOT : FieldRef := ⟨.SEC_RUN, 8, 1⟩
def F.SEC_RUN_QUALIFICATION : FieldRef := ⟨.SEC_RUN, 9, 1⟩
def F.SEC_SVN_ADVANCE_TO : FieldRef := ⟨.SEC_SVN_ADVANCE, 0, 7⟩
def F.SEC_REKEY_GO : FieldRef := ⟨.SEC_REKEY, 0, 1⟩
def F.SEC_MEAS_WORD : FieldRef := ⟨.SEC_MEAS, 0, 64⟩
def F.SEC_IDPUB_WORD : FieldRef := ⟨.SEC_IDPUB, 0, 64⟩
def F.SEC_ATT_ADDR_ADDR : FieldRef := ⟨.SEC_ATT_ADDR, 12, 40⟩
def F.SEC_ATT_CMD_GO : FieldRef := ⟨.SEC_ATT_CMD, 0, 1⟩
def F.SEC_ATT_CMD_SOURCE : FieldRef := ⟨.SEC_ATT_CMD, 12, 12⟩
def F.SEC_ATT_CMD_EVENT : FieldRef := ⟨.SEC_ATT_CMD, 24, 1⟩
def F.SEC_ATT_STATUS_BUSY : FieldRef := ⟨.SEC_ATT_STATUS, 0, 1⟩
def F.SEC_ATT_STATUS_DONE : FieldRef := ⟨.SEC_ATT_STATUS, 1, 1⟩
def F.SEC_ATT_STATUS_ERROR : FieldRef := ⟨.SEC_ATT_STATUS, 2, 1⟩
def F.SEC_ATT_STATUS_CODE : FieldRef := ⟨.SEC_ATT_STATUS, 3, 3⟩
def F.SEC_ATT_STATUS_INDEX : FieldRef := ⟨.SEC_ATT_STATUS, 32, 21⟩

/-- The registers that the units of a block range hold, block numbers as in R42.  R236 gives blocks 0x11 to 0x1F "the first
four registers" and nothing from 0x100 on; only three lie below, and these they have (DESIGN CHOICE, log entry 132). -/
def regsOfBlock (blk : Nat) : List RegName :=
  if blk = 0x00 then
    [.DEV_IMG_CFG, .DEV_IMG_MEMBERS, .DEV_IMG_STATE, .DEV_IMG_EVT]
  else if blk = 0x01 then
    [.FLT_STATUS, .FLT_CTL, .FLT_COUNT, .FLT_LOST, .FLT_LOG_NEXT, .FLT_LOG_ACK, .FLT_RESET, .FLT_RESET_STATUS,
      .FLT_SHADOW_LO, .FLT_SHADOW_HI, .FLT_PEND, .FLT_CORE_PEND, .FLT_LOG]
  else if blk = 0x02 then
    [.PWR_STATUS, .PWR_STATE_REQ, .PWR_WAKE_BUDGET, .PWR_WAKE_REFILL, .PWR_COMMIT, .PWR_WAKE_STATE, .PWR_FLOOR,
      .PWR_RAIL_MAX, .PWR_CAP, .PWR_INPUT, .PWR_TEMP, .PWR_EVT, .PWR_DOM_CTL, .PWR_DOM_STATUS]
  else if blk = 0x03 then
    [.SEC_STATUS, .SEC_SERIAL, .SEC_RUN, .SEC_SVN_ADVANCE, .SEC_REKEY, .SEC_MEAS, .SEC_IDPUB, .SEC_ATT_ADDR,
      .SEC_ATT_CMD, .SEC_ATT_STATUS]
  else if blk = 0x04 then
    [.CUE_MAP, .CUE_PENDING, .CUE_RAISE]
  else if blk = 0x05 then
    [.TOD_TIME, .TOD_SET, .TOD_CFG, .TOD_STATUS, .TMR_CMP, .TMR_CTL]
  else if blk = 0x06 then
    [.CFG_START_STATUS, .CFG_IMG, .CFG_CTL, .CFG_SVC_WDOG, .CFG_SVC_KICK, .CFG_SVC_RESTARTS, .CFG_NVM_ADDR,
      .CFG_NVM_MEM, .CFG_NVM_LEN, .CFG_NVM_CMD, .CFG_NVM_STATUS]
  else if blk = 0x07 then
    [.FBS_STATUS, .FBS_WDOG, .FBS_KICK]
  else if blk = 0x10 then
    [.PCS_CE_COUNT, .PCS_UE_COUNT, .PCS_ERR_ADDR, .PCS_RES_BASE, .PCS_RES_WAYS, .PCS_RES_STATUS, .PCS_COMMIT,
      .PCS_RNG_BASE, .PCS_RNG_LEN, .PCS_RNG_CMD, .PCS_RNG_STATUS, .PCS_RNG_LINES, .PCS_RNG_SKIPPED, .PCS_RNG_POISONED]
  else if 0x11 ≤ blk ∧ blk ≤ 0x1F then
    [.PCS_CE_COUNT, .PCS_UE_COUNT, .PCS_ERR_ADDR]
  else if 0x20 ≤ blk ∧ blk ≤ 0x27 then
    [.TRE_STATUS, .TRE_CTL, .TRE_BYTES_IN, .TRE_BYTES_OUT, .TRE_JOBS, .TRE_ERR]
  else if blk = 0x28 then
    [.TRS_Q_BASE, .TRS_Q_CTL, .TRS_Q_HEAD, .TRS_DOORBELL, .TRS_KEY_STATE, .TRS_COMMIT, .TRS_SVC_BASE,
      .TRS_SVC_CTL, .TRS_SVC_HEAD, .TRS_SVC_DOORBELL, .TRS_DISCARDS]
  else if blk = 0x30 then
    [.XCH_CTL, .XCH_STATUS, .XCH_ACTIVE, .XCH_SAVE_LIMIT, .XCH_SAVE_ADDR, .XCH_SAVE_TGT, .XCH_SAVE_LBA,
      .XCH_STAGE_BASE, .XCH_STAGE_SIZE, .XCH_TGT_BASE, .XCH_TGT_CTL, .XCH_TIMEOUT, .XCH_COMMIT, .XCH_REPLAY,
      .XCH_REPLAY_COUNT, .XCH_LATE, .XCH_ENT_SEL, .XCH_ENT_DATA, .XCH_RQ_BASE, .XCH_RQ_CTL, .XCH_RQ_HEAD,
      .XCH_RQ_DOORBELL, .XCH_CQ_BASE, .XCH_CQ_CTL, .XCH_CQ_TAIL, .XCH_CQ_HEAD]
  else if 0x31 ≤ blk ∧ blk ≤ 0x38 then
    [.SEQ_STATUS, .SEQ_CTL, .SEQ_COUNT, .SEQ_ADOPT, .SEQ_RETRY_COUNT]
  else if 0x40 ≤ blk ∧ blk ≤ 0x4F then
    [.MC_CFG, .MC_STATUS, .MC_SCRUB, .MC_CE_COUNT, .MC_UE_COUNT, .MC_ERR_ADDR]
  else if 0x50 ≤ blk ∧ blk ≤ 0x59 then
    [.SHB_CFG, .SHB_CTL, .SHB_STATUS, .SHB_ERR, .SHB_DELAY]
  else if blk = 0x5A then
    [.DIR_HOME, .DIR_USED, .DIR_COUNT, .DIR_PROMOTED, .DIR_ECC]
  else if 0x60 ≤ blk ∧ blk ≤ 0x63 then
    [.ETH_CFG, .ETH_STATUS, .ETH_FEC, .ETH_EVT]
  else if 0x64 ≤ blk ∧ blk ≤ 0x67 then
    [.PCIE_CFG, .PCIE_STATUS, .PCIE_PERST, .PCIE_MSI, .PCIE_EVT]
  else if blk = 0x70 then
    [.CORE_PREF_CTL, .CORE_CACHE_ERR, .CORE_PAIR_STATUS, .CORE_PAIR_CTL, .CORE_SPLIT_LEVEL, .CORE_SPLIT_PC,
      .CORE_STAGGER, .CORE_RETRY_LOG, .CORE_RETRY_PC, .CORE_RETRY_COUNT, .CORE_MAP, .CORE_CKPT_SEL,
      .CORE_CKPT_DATA, .CORE_IMAGE, .CORE_IMAGE_LVL_CTL, .CORE_IMAGE_CORE_ID]
  else if blk = 0x71 then
    [.INST_CTL, .INST_OP, .INST_XRANGE, .INST_KEYS, .INST_BYTE_RATE, .INST_EXCH_RATE, .INST_TOKENS,
      .INST_LATE_DISCARDS, .INST_DROPPED, .INST_COMMIT, .INST_CMD, .INST_CMD_ADDR, .INST_CMD_STATUS, .INST_CMD_EVT]
  else []

end Sys2Proof.Machine
end

