-- ==== Sys2Proof/Machine/Units.lean ====
section
/-! DEFINITION. The state of the units beside the cores: memory and the pool cache, the I/O registers, the
cue unit, the fault collector, and every other block of R42. -/

namespace Sys2Proof.Machine

/-! Memory and the pool cache -/

/-- R220: a line of the pool cache.  `home` is what the line's home still holds (its bytes, and whether they
are poisoned) while the line is modified; `owned`: held with ownership (R407); `presence`: R207; `way`: its way of the set;
`used`: when it was last used, 0 at the least-recently-used position (R211). -/
structure PoolLine where
  home : Option (List Byte × Bool)
  owned : Bool
  presence : List Nat
  way : Nat
  used : Nat
  deriving DecidableEq, Repr

/-- R224, R207: a line in its slice's eviction buffer: what its home still holds where it is modified, whether it is owned, whether
its write-back has been issued to memory, the positions whose private copies are still to be invalidated, and whether its
data was found uncorrectable, so that it must come from its home again (R221). -/
structure Evict where
  home : Option (List Byte × Bool)
  owned : Bool
  issued : Bool
  presence : List Nat
  spoilt : Bool
  deriving DecidableEq, Repr

/-- Physical memory as every master of the device sees it through the pool cache. -/
structure Mem where
  /-- byte cells in canonical form: addresses rising, no entry equal to an unlisted byte (log entry 1) -/
  cells : List Host.Cell
  /-- poisoned lines (R222), rising -/
  poison : List Nat
  pool : NMap PoolLine
  /-- the eviction buffers of the slices (R224) -/
  evict : NMap Evict
  /-- uses of pool-cache lines counted (R220) -/
  clock : Nat
  /-- lines asked of their home and not yet answered: line and request kind (R407) -/
  asked : NMap Nat
  /-- the instance for whose work a line was asked for, where that is not 0 (R34) -/
  askInst : NMap Nat
  /-- lines whose WRITEBACK is not yet acknowledged (R407) -/
  wb : List Nat
  /-- lines whose memory is poisoned while a clean copy of them is good (R234), rising -/
  bad : List Nat
  /-- the base and the ways of the resident window that a conversion brings (R227) -/
  conv : Option (Nat × Nat)
  deriving DecidableEq, Repr

/-- R406: what the home's directory holds of a line; no entry is UNCACHED. -/
inductive DirSt where
  | shared (mask : Nat)
  | modified (owner : Nat)
  deriving DecidableEq, Repr

/-- R407, R408: a request in progress at a home: the message, the devices whose answer to a snoop is awaited, and whether
the line was broadcast (R408), after which it is served afresh. -/
structure DirReq where
  msg : Msg
  acks : List Nat
  bcast : Bool
  deriving DecidableEq, Repr

/-- R406 to R408: the coherence directory. -/
structure Dir where
  entries : NMap DirSt
  busy : NMap DirReq
  /-- R419: RETRY answers counted for each line this device asks for -/
  retries : NMap Nat
  /-- promoted requests that wait for their line (R419) -/
  waiting : List Msg
  /-- snoops that wait for private copies here to be invalidated (R207) -/
  snoops : List Msg
  /-- granules homed here whose backing does not fit (R493) -/
  unbacked : List Nat
  /-- granules of DDR5 homed here that have not been written since training, in the order in which they will be (R493) -/
  unwritten : List Nat
  deriving DecidableEq, Repr

/-! I/O registers -/

/-- R23: a commit that waits for its safe point: its group, and the captured values of the group's registers, in order. -/
structure Commit where
  blk : Nat
  group : Nat
  words : List Word
  deriving DecidableEq, Repr

/-- The I/O registers: acting values, values staged or held for class S and G fields (R18, R22), keyed by
block × 2^20 + offset, unlisted = the reset value; the commits that wait, oldest first (R23, R24).  `dirty`: commit
groups written since their last commit (R25). -/
structure IoFile where
  force : NMap Word
  held : NMap Word
  captured : List Commit
  dirty : List (Nat × Nat)
  deriving DecidableEq, Repr

/-- Where the answer of an I/O access goes. -/
inductive IoReply where
  | none
  /-- IN of a logical core (R154) -/
  | core (lc : Nat)
  /-- the board management port (R522) -/
  | bmp
  /-- another device, with its tag (R392) -/
  | remote (m : Msg)
  deriving DecidableEq, Repr

/-- An I/O access held at a block in reset (R45). -/
structure HeldIo where
  who : Master
  addr : Nat
  write : Option Word
  reply : IoReply
  deriving DecidableEq, Repr

/-! Cue unit -/

/-- R66, R68: a source's pending event in the cue unit. -/
structure CueSrc where
  count : Nat
  word : Nat
  absent : Bool
  deriving DecidableEq, Repr

/-- R64 to R68: the pending events of the cue unit, and the order in which they became pending. -/
structure Cue where
  srcs : NMap CueSrc
  order : List Nat
  deriving DecidableEq, Repr

/-! Fault collector -/

/-- R431: a record: the message as logged, time of arrival, SEQ, the class the block sent, ESCALATED, FORWARDED. -/
structure FltRec where
  msg : FaultMsg
  arrival : Nat
  seq : Nat
  base : Nat
  escalated : Bool
  forwarded : Bool
  deriving DecidableEq, Repr

/-- R439: a reset shadow over a block and its neighbours; closed by SHADOW_CLOSE once its reset has ended. -/
structure Shadow where
  blk : Nat
  ended : Bool
  deriving DecidableEq, Repr

/-- R427 to R451: the collector's own state beside its registers. -/
structure Flt where
  /-- records by SEQ mod 1,024 -/
  log : NMap FltRec
  next : Nat
  /-- FLT_PEND, by block -/
  pend : NMap Nat
  /-- FLT_CORE_PEND, by pair position -/
  corePend : NMap Nat
  shadows : List Shadow
  /-- consequential messages of conditions that can outlast the shadow under which they were logged (R439) -/
  conseq : List FaultMsg
  /-- blocks in reset; true if FLT_RESET started it (R438) -/
  resets : List (Nat × Bool)
  held : List HeldIo
  /-- blocks that have stopped until their reset: slices (R221), engines (R316), groups (R430) -/
  stopped : List Nat
  fatal : Bool
  /-- notices withheld by BOOT_HOLD: source and SEQ (R438) -/
  withheld : List (Nat × Nat)
  deriving DecidableEq, Repr

/-- R342: a path descriptor. -/
structure PathDesc where
  state : Nat
  kind : Nat
  group : Nat
  port : Nat
  nsid : Nat
  shift : Nat
  qset : Nat
  maxUnits : Nat
  deriving DecidableEq, Repr

def PathDesc.absent : PathDesc :=
  { state := 0, kind := 0, group := 0, port := 0, nsid := 0, shift := 9, qset := 0, maxUnits := 0 }

/-- R344: a command of an attempt: CID, first logical block, offset in the exchange's data in bytes, 512-byte units. -/
structure NvmeCmd where
  cid : Nat
  lba : Nat
  off : Nat
  units : Nat
  deriving DecidableEq, Repr

/-- What leaves the device: messages on Shabek Link (R391), in-band interrupts (R521), commands and answers to targets. -/
inductive OutMsg where
  /-- a flit on a port of Shabek Link (R390) -/
  | flit (port : Nat) (bytes : List Byte)
  /-- an in-band interrupt with its mandatory data byte (R521) -/
  | ibi (byte : Byte)
  /-- the level that XSPI_RESET_N takes (R514) -/
  | xspiReset (high : Bool)
  /-- the nine bytes of a private read of the board management port (R522) -/
  | bmp (bytes : List Byte)
  /-- what the TAP shifts out (R524) -/
  | tdo (value : Nat)
  /-- a command submitted on a path for an attempt of an exchange, by the request record (R340, R344, R346) -/
  | command (path : PathDesc) (exch attempt : Nat) (c : NvmeCmd) (record : List Byte)
  /-- an NVMe Abort of a command (R347) -/
  | abort (path : PathDesc) (cid : Nat)
  /-- the answer to an inbound read: its data, or a completer abort, which a refused write receives too (R346, R349, R369) -/
  | readData (group port : Nat) (data : List Byte)
  | completerAbort (group port : Nat)
  deriving DecidableEq, Repr

/-! Power controller -/

/-- R462: a wake request in the promenade: domain (the even one of a core pair) and cause, 0 recovery to 3
power-up. -/
structure WakeReq where
  dom : Nat
  cause : Nat
  deriving DecidableEq, Repr

/-- R452 to R473: the power controller beside its registers. -/
structure Pwr where
  /-- VIN54 present (R534) -/
  vin : Bool
  /-- the base regulators (R454) -/
  baseOn : Bool
  /-- wake credits in 1/128,000 (R462) -/
  credits : Nat
  queue : List WakeReq
  /-- converter phases out (R453) -/
  phases : Nat
  /-- cap and thermal limits in 5 mV units while they act, and whether the cap is lowering (R458, R459) -/
  capLimit : Option Nat
  capDown : Option Bool
  thermLimit : Option Nat
  /-- start of the power-fail sequence (R456) -/
  t0 : Option Nat
  /-- the safe state (R456) -/
  safe : Bool
  /-- THERM_TRIP_N is low (R459) -/
  trip : Bool
  /-- RESET_N is low (R516) -/
  resetN : Bool
  /-- CXL groups that back home-map memory (R460) -/
  backing : List Nat
  /-- standby entry waits for its recalls (R467) -/
  recalling : Bool
  /-- PWR_OK is high (R514) -/
  ok : Bool
  deriving DecidableEq, Repr

/-- R269 to R272: the fallback sequencer beside its registers. -/
structure Fbs where
  /-- the watchdog times a period; it has acted, and times none until CALLER_NEEDED is cleared (R271) -/
  timing : Bool
  acted : Bool
  /-- it has failed at the need of the service pair that stands (R270) -/
  gaveUp : Bool
  /-- a member has written FLT_RESET, FLT_PEND or FBS_STATUS since CALLER_NEEDED was set (R444) -/
  answered : Bool
  deriving DecidableEq, Repr

/-! The lands (R514 to R524) -/

/-- R521, R522: the board management port. -/
structure Bmp where
  dyn : Option Nat
  ibi : Bool
  /-- an in-band interrupt is owed: DEV_ALERT_N went low when none could be sent -/
  owed : Bool
  /-- STATUS of the next private read, and its value -/
  status : Nat
  value : Word
  /-- the I/O address of the pending access -/
  addr : Nat
  deriving DecidableEq, Repr

/-- R524: the TAP: the instruction in force, the boundary register, and whether it drives or floats the outputs. -/
structure Tap where
  ir : Nat
  boundary : Nat
  deriving DecidableEq, Repr


/-! Transform engines (R278 to R323) -/

/-- R300, R311: a running digest: the CRC, the SHA-384 chaining words, the bytes of a partial block, the count. -/
structure Digest where
  crc : Nat
  sha : List Nat
  buf : List Byte
  count : Nat
  deriving DecidableEq, Repr

/-- R316, R311: how far a job has come, as of its last completed block. -/
structure Prog where
  nextSeq : Nat
  inDone : Nat
  /-- output of all submissions, and of this one -/
  outTotal : Nat
  outHere : Nat
  blocks : Nat
  /-- the stream's last bytes, newest first, and the ring offset of the next (R292) -/
  hist : List Byte
  histPos : Nat
  /-- DIR of the stream (R292) -/
  dir : Nat
  /-- a LAST block has passed -/
  ended : Bool
  raised : Bool
  /-- XTS: the next data unit; GCM: counter, accumulator, ciphertext bytes -/
  du : Nat
  ctr : Nat
  acc : Nat
  ct : Nat
  dig : Digest
  deriving DecidableEq, Repr

/-- Where a job comes from: a queue (1,024 is the service queue), or an exchange. -/
inductive JobSrc where
  | queue (n : Nat)
  | exch (e : Nat)
  deriving DecidableEq, Repr

/-- A job: its descriptor as read (for an exchange, built from its request, R319), the key it latched (R305), the places
of its input and its output, its progress, and the block that it is writing: what is left of it (none between blocks), and
the progress once it is written (R313). -/
structure Job where
  src : JobSrc
  inst : Option Nat
  gen : Nat
  desc : Nat
  d : List Byte
  key : List Byte
  inMap : List (Nat × Nat)
  outMap : List (Nat × Nat)
  /-- as it started: an exchange's transform is rerun from here (R351) -/
  first : Prog
  prog : Prog
  rest : List Byte
  after : Prog
  deriving DecidableEq, Repr

/-- R379, R380: one deficit round-robin: deficits by instance, the visit that goes on, the instance last served, and in
each instance the ring last taken from. -/
structure Sched where
  deficit : NMap Int
  visit : Option Nat
  last : Nat
  ring : NMap Nat
  deriving DecidableEq, Repr

/-- R302, R316, R379: the key table and the scheduler. -/
structure Trs where
  /-- kind and bytes of each key slot that is not empty -/
  keys : NMap (Nat × List Byte)
  /-- running jobs, by engine -/
  jobs : NMap Job
  /-- jobs to be rerun, oldest first -/
  reruns : List Job
  /-- transforms of exchanges presented to the scheduler, oldest first (R319) -/
  ready : List Job
  /-- statuses and output lengths reported to the sequencers -/
  results : NMap (Nat × Nat)
  sched : Sched
  deriving DecidableEq, Repr

/-! Virtual instances (R371 to R388) -/

/-- R372, R373: what an instance was granted: first exchange / 256 and count, rings, key slots, sources. -/
structure Grant where
  exch : Nat × Nat
  rq : Nat × Nat
  cq : Nat × Nat
  key : Nat × Nat
  src : Nat × Nat
  deriving DecidableEq, Repr

/-- R376: an instance command that service firmware carries out; `granted`: a CREATE has been given its
ranges; of a REMOVE, that it has yet to begin. -/
structure InstCmd where
  op : Nat
  inst : Nat
  granted : Bool
  deriving DecidableEq, Repr

structure Inst where
  /-- the buckets, in 1/1,024,000 KiB and in 1/10^9 exchanges; an instance not listed is full (R377, R378) -/
  bytes : NMap Int
  exch : NMap Int
  /-- resets in progress (R382); true for a removal (R386) -/
  resets : NMap Bool
  /-- removals that wait for a reset in progress (R388) -/
  removes : List Nat
  grants : NMap Grant
  cmd : Option InstCmd
  /-- parameter block and RQ_LIST of a CREATE that waits for its completion rings (R373) -/
  params : List Byte × List Byte
  deriving DecidableEq, Repr

/-! The channel subsystem (R324 to R370) -/

/-- R338: an entry of the exchange table; CHECK is computed. -/
structure Entry where
  state : Nat
  path : Nat
  abort : Bool
  owner : Nat
  retries : Nat
  gen : Nat
  inst : Nat
  attempt : Nat
  cid : Nat
  req : Nat
  cq : Nat
  seq : Nat
  progress : Nat
  tried : Nat
  result : Nat
  tstatus : Nat
  deriving DecidableEq, Repr

/-- R347: an attempt that has not ended: its path as chosen, its commands, the CIDs of those that have completed, whether its
path has failed. -/
structure Attempt where
  exch : Nat
  number : Nat
  target : Nat
  path : Nat
  desc : PathDesc
  cmds : List NvmeCmd
  done : List Nat
  failed : Bool
  deriving DecidableEq, Repr

/-- R347: every CID of an attempt stays allocated until it ends. -/
def Attempt.cids (a : Attempt) : List Nat := a.cmds.map (·.cid)

/-- The commands outstanding. -/
def Attempt.open_ (a : Attempt) : List Nat := a.cids.filter (fun c => !a.done.contains c)

/-- R352: an NVMe queue or RDMA connection of a path's queue set: the pair that it was built for, and the pair that owns it. -/
structure Queue where
  kind : Nat
  group : Nat
  port : Nat
  qset : Nat
  home : Nat
  owner : Nat
  deriving DecidableEq, Repr

/-- What the serving pair holds of an accepted exchange beside its entry: the request record as read last before the take
(R327), the data list, the data length, the block shift, the staging units (R351), the length that staging holds. -/
structure Exch where
  record : List Byte
  dl : List (Nat × Nat)
  len : Nat
  shift : Nat
  stage : List Nat
  outLen : Nat
  /-- the path as read at its last choice (R342), and the bytes moved in the current attempt (R338) -/
  desc : PathDesc
  moved : Nat
  /-- its path failed: a path is to be chosen again (R348) -/
  redrive : Bool
  /-- the status of the first command that failed -/
  tstat : Option Nat
  /-- a poisoned line met (R370) -/
  poison : Bool
  /-- LAST_STATE of its record -/
  lastState : Nat
  /-- XCH_TIMEOUT.TIMEOUT in force as its attempt started (R365) -/
  timeout : Nat
  deriving DecidableEq, Repr

/-- R324, R257 to R260: what a sequencer pair's comparator keeps: its failures, the times of checker faults, the times and slots
of STAGGER failures, and how far its checkpoint has come; what SEQ_STATUS.STATE shows beside OFF, RUNNING and FAILED: 2 RETRYING,
3 ADOPTING, 0 neither. -/
structure SeqPair where
  hist : FailHist
  checkers : List Nat
  staggers : List (Nat × Nat)
  commits : Nat
  shown : Nat
  deriving DecidableEq, Repr

/-- R337 to R361: the exchange table and what the sequencer pairs hold. -/
structure Xch where
  entries : NMap Entry
  work : NMap Exch
  attempts : List Attempt
  scheds : NMap Sched
  /-- completion-ring slots reserved and without a SEQ (R333) -/
  reserved : NMap Nat
  /-- of each ring the SEQs assigned from XCH_CQ_TAIL on: whether the record of each is written (R332) -/
  issued : NMap (List Bool)
  /-- RDMA connections that failed: target and path (R347) -/
  fences : List (Nat × Nat)
  /-- save areas outside the memory of the image, as bytes, by place: kind, target or 0, first block or address (R357, R359) -/
  saves : List ((Nat × Nat × Nat) × List Byte)
  /-- paths whose STATE in the target table is still to be written (R343): target and path -/
  failing : List (Nat × Nat)
  /-- failures whose descriptors in the target table are still awaited (R343): paths with their cause, and links: kind, group, port -/
  lostPaths : List (Nat × Nat × PathCause)
  lostLinks : List (Nat × Nat × Nat)
  queues : List Queue
  /-- the save target, an NVMe namespace, could not be read yet at start (R360) -/
  seek : Bool
  /-- the record that a replay writes next (R360) -/
  replayAt : Option Nat
  seqs : NMap SeqPair
  deriving DecidableEq, Repr

def Sched.reset : Sched := { deficit := [], visit := none, last := 1023, ring := [] }

/-! Shabek Link and the image (R389 to R426) -/

/-- R390 to R401: a Shabek port beside its registers. -/
structure Port where
  /-- SEQ of the next flit sent, and the flits sent and not acknowledged: SEQ, hop class, message -/
  tx : Nat
  sent : List (Nat × Nat × Msg)
  /-- flits that wait for credit, for the port to train, to come out of trickle, or for its HANDOVER (R394 to R401) -/
  wait : List (Nat × Msg)
  /-- flits of credit held, by 4 × channel + class (R394) -/
  credit : NMap Nat
  /-- SEQ of the next flit expected, and whether a NAK awaits it (R395) -/
  rx : Nat
  nak : Bool
  /-- slots of a message that goes on in later flits, by channel and class (R391) -/
  part : NMap (List Byte)
  /-- coming out of trickle (R397) -/
  exiting : Bool
  /-- the lanes given up since the last RETRAIN, bit i for lane i (R396) -/
  off : Nat
  /-- retraining to a wider width: its traffic goes round (R396) -/
  widening : Bool
  /-- DOWN, and its HANDOVER not yet received (R401) -/
  handing : Bool
  /-- flits to be sent again wait for full width (R397) -/
  again : Bool
  /-- SBB was high at training (R514) -/
  sbb : Bool
  deriving DecidableEq, Repr

/-- R399, R401: the ports, ports of other devices that are down (device, port), and messages with no route. -/
structure Shb where
  ports : NMap Port
  far : List (Nat × Nat)
  stuck : List Msg
  deriving DecidableEq, Repr

/-- R410 to R414: the image beside its registers. -/
structure Img where
  /-- listening (R410), and to whom JOIN is sent until it is answered -/
  listening : Bool
  heard : Option Nat
  joining : Option Nat
  admitted : Bool
  /-- the image digest (R411) -/
  digest : List Byte
  /-- a takeover has happened since the start: no standby (R414) -/
  tookOver : Bool
  deriving DecidableEq, Repr

/-- R416 to R418: time of day beside its registers. -/
structure Tod where
  step : Nat
  hops : Nat
  /-- when the last SYNC that it locked to was heard -/
  heard : Nat
  /-- the next SYNC sets the time (R417) -/
  fresh : Bool
  /-- nanoseconds still to be slewed, and the phase of the slew -/
  slew : Int
  phase : Nat
  deriving DecidableEq, Repr

/-! Start-up, flash and trust (R474 to R513) -/

/-- R505: a flash command in progress; the source to raise at its end, and the code it ends with once its bytes have moved. -/
structure NvmCmd where
  op : Nat
  addr : Nat
  mem : Nat
  len : Nat
  src : Option Nat
  code : Option Nat
  deriving DecidableEq, Repr

/-- R485: a configuration record. -/
structure CfgRec where
  off : Nat
  blk : Nat
  cls : Nat
  devices : Nat
  mask : Nat
  value : Nat
  deriving DecidableEq, Repr

/-- R502: a report in progress: its area, the source to raise, the index it signs with, and whether its block of indices
was reserved for it (R503). -/
structure Attest where
  area : Nat
  src : Option Nat
  index : Nat
  fresh : Bool
  deriving DecidableEq, Repr

/-- R488: a home-map entry: its DIR_HOME value, BACKING, CXL group. -/
structure HomeRec where
  value : Nat
  backing : Nat
  cxl : Nat
  deriving DecidableEq, Repr

/-- R474 to R513: start-up and the device's trust, beside the registers: flash, fuses, the running image. -/
structure Boot where
  /-- flash bytes, inverted, so that an unlisted byte is an erased 0xFF -/
  flash : List Host.Cell
  nvm : Option NvmCmd
  svn : Nat
  epoch : Nat
  provisioned : Bool
  /-- R503: the journal: epoch and first index of each reservation, oldest first -/
  journal : List (Nat × Nat)
  attest : Option Attest
  /-- FLAGS of the running image (R477), its records for every device, its home map -/
  flags : Nat
  records : List CfgRec
  homes : List HomeRec
  /-- the ranges of CXL memory that the home map of the image last started homes here: what they hold outlasts the supply (R456,
  R488) -/
  cxl : List (Nat × Nat)
  /-- the start sequence is due (R458, R469, R489, R516) -/
  due : Bool
  /-- the DDR5 channels in service when the base was lost, which are in self-refresh (R494), 0 for none; and that no line is to
  be written under R493 -/
  ddrKept : Nat
  noInit : Bool
  /-- the straps are latched (R515) -/
  latched : Bool
  deriving DecidableEq, Repr

/-- R229: a range command in progress: OP, first line, number of lines, lines passed, source to raise, stop code. -/
structure RngJob where
  op : Nat
  base : Nat
  len : Nat
  next : Nat
  src : Option Nat
  stop : Nat
  deriving DecidableEq, Repr

def Port.reset : Port :=
  { tx := 0, sent := [], wait := [], credit := [], rx := 0, nak := false, part := [], exiting := false, off := 0,
    widening := false, handing := false, again := false, sbb := false }

end Sys2Proof.Machine
end

