-- ==== Sys2Proof/Machine/State.lean ====
section
/-! DEFINITION. The state of the whole block (INVENTORY.md, State), and the state right after reset. -/

namespace Sys2Proof.Machine

/-- No command faults: what goes wrong in the device is a trap, a fault message or a discarded access. -/
inductive Fault where
  deriving DecidableEq, Repr

/-- Why a command has no meaning. -/
inductive Refusal where
  /-- raised by `exec` for a row without a meaning; safe -/
  | notModelled (mnemonic : String)
  deriving DecidableEq, Repr

/-- The state of the device. -/
structure State where
  /-- commands waiting, first in first out -/
  pending : List Instr
  /-- nanoseconds elapsed -/
  now : Nat
  /-- free values drawn (log entry 10) -/
  free : Nat
  cores : NMap Core
  pairs : NMap PairPos
  mem : Mem
  io : IoFile
  cue : Cue
  flt : Flt
  outbox : List OutMsg
  /-- straps DEVNUM and BOARDNUM (log entry 3) -/
  devnum : Nat
  boardnum : Nat
  dir : Dir
  /-- members declared lost since this device was admitted (R405, R409) -/
  lost : List Nat
  pwr : Pwr
  fbs : Fbs
  bmp : Bmp
  tap : Tap
  trs : Trs
  inst : Inst
  xch : Xch
  shb : Shb
  img : Img
  tod : Tod
  boot : Boot
  rng : Option RngJob
  deriving DecidableEq, Repr

/-- The device right after reset: every domain off, every register at its reset value, nothing pending. -/
def State.reset : State :=
  { pending := []
    now := 0
    free := 0
    cores := []
    pairs := []
    mem := { cells := [], poison := [], pool := [], evict := [], clock := 0, asked := [], askInst := [], wb := [], bad := [], conv := none }
    io := { force := [], held := [], captured := [], dirty := [] }
    cue := { srcs := [], order := [] }
    flt := { log := [], next := 0, pend := [], corePend := [], shadows := [], conseq := [], resets := [], held := [], stopped := [],
             fatal := false, withheld := [] }
    outbox := []
    devnum := 0
    boardnum := 0
    dir := { entries := [], busy := [], retries := [], waiting := [], snoops := [], unbacked := [], unwritten := [] }
    lost := []
    pwr := { vin := true, baseOn := false, credits := 64 * 128000, queue := [], phases := 0, capLimit := none,
             capDown := none, thermLimit := none, t0 := none, safe := false, trip := false, resetN := false,
             backing := [], recalling := false, ok := false }
    fbs := { timing := false, acted := false, gaveUp := false, answered := false }
    bmp := { dyn := none, ibi := false, owed := false, status := 2, value := 0, addr := 0 }
    tap := { ir := 2, boundary := 0 }
    trs := { keys := [], jobs := [], reruns := [], ready := [], results := [], sched := Sched.reset }
    inst := { bytes := [], exch := [], resets := [], removes := [], grants := [], cmd := none, params := ([], []) }
    xch := { entries := [], work := [], attempts := [], scheds := [], reserved := [], issued := [], fences := [], saves := [],
             failing := [], lostPaths := [], lostLinks := [], queues := [], replayAt := none, seqs := [], seek := false }
    shb := { ports := [], far := [], stuck := [] }
    img := { listening := false, heard := none, joining := none, admitted := false, digest := [], tookOver := false }
    tod := { step := 0, hops := 0, heard := 0, fresh := false, slew := 0, phase := 0 }
    boot := { flash := [], nvm := none, svn := 0, epoch := 0, provisioned := false, journal := [], attest := none, flags := 0,
              records := [], homes := [], cxl := [], due := true, ddrKept := 0, noInit := false, latched := false }
    rng := none
 }

end Sys2Proof.Machine
end

