-- ==== Sys2Proof/Machine/Ops.lean ====
section
/-! DEFINITION. The named operations on the device's state: cores and pair positions, I/O registers and their
fields, the fault collector, the cue unit, physical memory. -/

namespace Sys2Proof.Machine

/-! Cores and pair positions -/

def State.core (s : State) (lc : Nat) : Core := mapGet Core.reset s.cores lc
def State.setCore (s : State) (lc : Nat) (c : Core) : State := { s with cores := mapSet s.cores lc c }
def State.modCore (s : State) (lc : Nat) (f : Core → Core) : State := s.setCore lc (f (s.core lc))
def State.pair (s : State) (q : Nat) : PairPos := mapGet (PairPos.reset q) s.pairs q
def State.setPair (s : State) (q : Nat) (p : PairPos) : State := { s with pairs := mapSet s.pairs q p }
def State.modPair (s : State) (q : Nat) (f : PairPos → PairPos) : State := s.setPair q (f (s.pair q))

/-- R27: the pair positions. -/
def positions : List Nat := List.range 40

/-- Whether a position is split, or stopped or moving while its cores are (R266). -/
def State.isSplit (s : State) (n : Nat) : Bool := (s.core (2 * n)).split

/-- R29: whether the position carries the logical core. -/
def State.carries (s : State) (q lc : Nat) : Bool :=
  match (s.pair q).logical with
  | some n => lc == 2 * n || (lc == 2 * n + 1 && s.isSplit n)
  | none => false

/-- R29: the position that carries a logical core. -/
def State.posOf (s : State) (lc : Nat) : Option Nat := positions.find? (fun q => s.carries q lc)

/-- R68, R66: a logical core that no position carries, or that is stopped, as all are in the state of R441. -/
def State.coreAbsent (s : State) (lc : Nat) : Bool :=
  match s.posOf lc with
  | none => true
  | some q => s.flt.fatal || (s.core lc).stopped || (s.pair q).st == .stopped || (s.pair q).st == .failed || ((s.pair q).joinReq && lc % 2 == 1)

/-- A position whose two partners are compared: CHECKED, or with a SPLIT accepted and not yet handed over (R266). -/
def PairPos.checks (p : PairPos) : Bool := p.restarts.isEmpty && (p.st == .checked || (p.st == .switching && p.splitReq.isSome))

/-- A position whose cores run, but for one that a retry restarts (R255); of a position that joins, core 2n only (R268). -/
def PairPos.runs (p : PairPos) (lc : Nat) : Bool :=
  p.checks || ((p.st == .split || (p.st == .switching && p.joinReq && lc % 2 == 0)) && !p.restarts.contains lc)

/-- R262: a planned cut-in whose spare is being woken: each core of the position stops at its next commit. -/
def PairPos.planned (p : PairPos) : Bool := p.need == some 8 && p.cutTo.isSome

/-- A core at a commit: its checkpoint covers everything it has retired, and nothing is held (R252). -/
def Core.atCommit (c : Core) : Bool := c.count == c.base && c.acts.isEmpty

/-- A core that can execute: its position runs, it is not stopped, it waits for no I/O answer; a checked pair's stagger FIFO
has room (R244); neither a planned cut-in (R262) nor the hand-over of a split (R266) has stopped it. -/
def State.canIssue (s : State) (lc : Nat) : Bool :=
  match s.posOf lc with
  | none => false
  | some q =>
    (s.pair q).runs lc && !(s.core lc).stopped && (s.core lc).waitIo.isNone && !s.flt.fatal
      && !((s.pair q).checks && decide (64 ≤ (s.pair q).fifo.length))
      && !((s.pair q).planned && (s.core lc).atCommit) && !(s.pair q).atSplit

/-- Whether the core runs as a checked pair. -/
def State.isChecked (s : State) (lc : Nat) : Bool :=
  match s.posOf lc with
  | some q => (s.pair q).checks
  | none => false

/-- A core at work: its position runs, and neither it nor the device has stopped. -/
def State.coreRuns (s : State) (lc : Nat) : Bool :=
  match s.posOf lc with
  | some q => (s.pair q).runs lc && !(s.core lc).stopped && !s.flt.fatal
  | none => false

/-- R55: CORE_ID: logical and physical core numbers, SPLIT.  A checked pair reads its leading partner's number. -/
def State.coreId (s : State) (lc : Nat) : Word :=
  let c := s.core lc
  let q := (s.posOf lc).getD 63
  BitVec.ofNat 64 (lc % 128 + (2 * q + (if c.split then lc % 2 else 0)) * 2 ^ 8 + b2n c.split * 2 ^ 16)

/-- The tokens that a position has produced and not compared, oldest first. -/
def PairPos.tokens (p : PairPos) : List Token := p.fifo ++ p.owed

/-- R244: what the leading partner could not place enters the FIFO of 64 as far as it has room. -/
def PairPos.refill (p : PairPos) : PairPos :=
  { p with fifo := p.fifo ++ p.owed.take (64 - p.fifo.length), owed := p.owed.drop (64 - p.fifo.length) }

/-- R244: a token is produced: it enters the FIFO, or waits for room. -/
def PairPos.push (p : PairPos) (t : Token) : PairPos := ({ p with owed := p.owed ++ [t] } : PairPos).refill

/-- R255: every token that has not been compared is discarded. -/
def PairPos.noTokens (p : PairPos) : PairPos := { p with fifo := [], owed := [] }

/-- R239, R240: a checked pair's leading partner produces a token, named by the core and the count it has retired. -/
def State.pushToken (s : State) (lc : Nat) (t : TokenBody) : State :=
  match s.posOf lc with
  | none => s
  | some q => if (s.pair q).checks then s.modPair q (fun p => p.push ⟨t, lc, (s.core lc).count⟩) else s

/-- R244: the stagger FIFO of a checked pair has room for `n` further tokens. -/
def State.fifoRoom (s : State) (lc n : Nat) : Bool :=
  match s.posOf lc with
  | none => true
  | some q => !(s.pair q).checks || decide ((s.pair q).tokens.length + n ≤ 64)

/-- Whether a token waits in the FIFO. -/
def State.inFifo (s : State) (lc : Nat) (t : TokenBody) : Bool :=
  match s.posOf lc with
  | none => false
  | some q => (s.pair q).tokens.any (fun x => x.body == t && x.core == lc)

/-- R239, R242: what leaves a checked pair on comparison, as the tokens `ts`, the last of them `t`: whether they have been
compared, and the state in which the core has taken note of it or has produced them, if the FIFO has room for them (R244).  A
core that is not checked waits for nothing. -/
def State.compared (s : State) (lc : Nat) (ts : List TokenBody) (t : TokenBody) : State × Bool :=
  if !s.isChecked lc then (s, true)
  else if (s.core lc).released == some t then (s.modCore lc (fun c => { c with released := none }), true)
  else (if s.inFifo lc t || !s.fifoRoom lc (ts.length + 1) then s else (ts ++ [t]).foldl (fun s x => s.pushToken lc x) s, false)

/-- R242: a comparison that is past stays noted while its instruction still waits for a line. -/
def State.stillCompared (s : State) (lc : Nat) (t : TokenBody) : State :=
  s.modCore lc (fun c => { c with released := if s.isChecked lc then some t else none })

/-- A free value is drawn. -/
def State.draw (s : State) : State := { s with free := s.free + 1 }

/-! I/O registers -/

/-- R274: registers of block 0x70 that belong to the pair, not to one core. -/
def pairScope : RegName → Bool
  | .CORE_MAP => false
  | .CORE_CKPT_SEL => false
  | .CORE_CKPT_DATA => false
  | .CORE_IMAGE => false
  | .CORE_IMAGE_LVL_CTL => false
  | .CORE_IMAGE_CORE_ID => false
  | r => (regPlace r).blk == 0x70

/-- Where register `k` of an array lies for unit `u`: block × 2^20 + offset (R42, R44); the two windows of
a pair share its pair-scope registers. -/
def regKey (r : RegName) (u k : Nat) : Nat :=
  let p := regPlace r
  if p.blk = 0x70 then
    0x70 * 2 ^ 20 + (if pairScope r then u - u % 2 else u) * 0x1000 + p.off + 8 * k
  else (p.blk + u) * 2 ^ 20 + p.off + 8 * k

/-- R226: the base of the resident window at power-on. -/
def residentBase (dev : Nat) : Nat := 0xFF00000000000 + dev * 0x8000000

/-- R16: a register's reset value; straps from DEVNUM. -/
def regReset (s : State) (r : RegName) : Word :=
  match r with
  | .PCS_RES_BASE => BitVec.ofNat 64 (residentBase s.devnum)
  | .DEV_IMG_MEMBERS => BitVec.ofNat 64 (2 ^ s.devnum)
  | _ => BitVec.ofNat 64 ((regFields r).foldl (fun x f => x + f.reset * 2 ^ f.lo) 0)

/-- The value in force of a register. -/
def State.acting (s : State) (r : RegName) (u k : Nat) : Word :=
  mapGet (regReset s r) s.io.force (regKey r u k)

def State.setActing (s : State) (r : RegName) (u k : Nat) (v : Word) : State :=
  { s with io := { s.io with force := mapSet s.io.force (regKey r u k) v } }

/-- The value in force of a field. -/
def State.fget (s : State) (f : FieldRef) (u k : Nat) : Nat := fld (s.acting f.reg u k) f.lo f.width

/-- Hardware writes a field. -/
def State.fset (s : State) (f : FieldRef) (u k v : Nat) : State :=
  s.setActing f.reg u k (setFld (s.acting f.reg u k) f.lo f.width v)

/-- Hardware adds to a saturating count. -/
def State.fcount (s : State) (f : FieldRef) (u k d : Nat) : State :=
  s.fset f u k (satAdd f.width (s.fget f u k) d)

/-- A one-bit field. -/
def State.fbit (s : State) (f : FieldRef) (u k : Nat) : Bool := s.fget f u k == 1

/-- The field of the staged or held value (R22). -/
def State.heldWord (s : State) (r : RegName) (u k : Nat) : Word :=
  mapGet (s.acting r u k) s.io.held (regKey r u k)

/-! Members of the image -/

/-- R6: whether a device is a member of the image. -/
def State.isMember (s : State) (d : Nat) : Bool := (s.acting .DEV_IMG_MEMBERS 0 0).toNat.testBit d

/-- The members beside this device, rising. -/
def State.others (s : State) : List Nat := (List.range 32).filter (fun d => s.isMember d && d != s.devnum)

/-! Routes over Shabek Link (R400) -/

def State.port (s : State) (k : Nat) : Port := mapGet Port.reset s.shb.ports k
def State.modPort (s : State) (k : Nat) (f : Port → Port) : State :=
  { s with shb := { s.shb with ports := mapSet s.shb.ports k (f (s.port k)) } }

/-- R397, R400: a port that routes may use: UP or TRICKLE; one that retrains narrower holds its traffic (R396), but not where SBB is
low (R533). -/
def State.portUp (s : State) (k : Nat) : Bool :=
  let st := s.fget F.SHB_STATUS_STATE k 0
  st == 2 || st == 3
    || (st == 1 && !(s.port k).widening && !(s.port k).handing && (s.port k).sbb && s.fget F.SHB_STATUS_WIDTH k 0 != 0)

/-- R514: SHBk_SBA of every port is high: the always-on island is powered. -/
def State.sbaHigh (s : State) : Bool := s.pwr.vin

/-- The device at the far end of a port, as configured (R399). -/
def State.peerOf (s : State) (k : Nat) : Nat := s.fget F.SHB_CFG_PEER k 0

/-- The on-board port from position `c` to position `p`. -/
def boardPort (c p : Nat) : Nat := (p + 15 - c) % 8

/-- Whether another device's port is up; how its neighbours know is not stated (log entry 160). -/
def State.farUp (s : State) (d k : Nat) : Bool := !s.shb.far.contains (d, k)

/-- The off-board ports to a board that are up, rising. -/
def State.portsTo (s : State) (board : Nat) : List Nat :=
  [7, 8, 9].filter (fun k => s.fbit F.SHB_CFG_ENABLE k 0 && s.peerOf k / 8 == board && s.portUp k)

/-- A hop on this board towards position `p`: the direct port, or, but from a detour, the lowest position with both ports
up. -/
def State.boardHop (s : State) (p cls : Nat) : Option (Nat × Nat) :=
  let c := s.devnum % 8
  if s.portUp (boardPort c p) then some (boardPort c p, cls)
  else if 2 ≤ cls then none
  else ((List.range 8).find? (fun r => r != c && r != p && s.portUp (boardPort c r)
      && s.farUp (s.devnum / 8 * 8 + r) (boardPort r p))).map (fun r => (boardPort c r, 1))

/-- R400: position `r` of this board has a port to a board that is up: the ports of one position lead where those of the others do
(R399). -/
def State.crossesAt (s : State) (r board : Nat) : Bool :=
  [7, 8, 9].any (fun k => s.fbit F.SHB_CFG_ENABLE k 0 && s.peerOf k / 8 == board && s.farUp (s.devnum / 8 * 8 + r) k)

/-- R400: the port and hop class on which a message leaves this device, with the class it has on a direct on-board hop. -/
def State.route (s : State) (m : Msg) (cls : Nat) : Option (Nat × Nat) :=
  let b := m.dst / 8
  if b = s.devnum / 8 then s.boardHop (m.dst % 8) cls
  else match s.portsTo b with
    | [] => ((List.range 8).find? (fun r => r != s.devnum % 8 && s.portUp (boardPort (s.devnum % 8) r) && s.crossesAt r b)).map
        (fun r => (boardPort (s.devnum % 8) r, 0))
    | ps => some (ps.getD ((128 * m.mkind + m.unit + m.dst) % ps.length) 0, 1)

/-- R390: whether a message's virtual channel crosses a port in trickle (R397): service and fault. -/
def tricklePasses (m : Msg) : Bool := decide (0x30 ≤ m.kind)

/-- R390, R392: the virtual channel of a message.  IO_DATA and IO_ACK are service messages, as the table of kinds has them; the
table of R31 would have them on the response channel (DESIGN CHOICE, log entry 129). -/
def channelNo (m : Msg) : Nat :=
  if m.kind < 0x10 then 0 else if m.kind < 0x20 then 1 else if m.kind < 0x30 then 2 else if m.kind < 0x38 then 3 else 4

/-- Credit is kept by channel and hop class (R394). -/
def creditKey (m : Msg) (cls : Nat) : Nat := 4 * channelNo m + cls

/-- R395, R32: the replay buffer of 512 has room for a flit; fault flits have theirs apart (DESIGN CHOICE, log entry 134). -/
def Port.roomFor (p : Port) (m : Msg) : Bool :=
  decide ((p.sent.filter (fun y => (channelNo y.2.2 == 4) == (channelNo m == 4))).length < 512)

/-- R390: CRC-64 of ECMA-182, most significant bit first, initial value zero. -/
def crc64Bit (c : Nat) : Nat := if 2 ^ 63 ≤ c then Nat.xor (2 * c - 2 ^ 64) 0x42F0E1EBA9EA3693 else 2 * c
def crc64Byte (c : Nat) (b : Byte) : Nat := (List.range 8).foldl (fun x _ => crc64Bit x) (Nat.xor c (b.toNat * 2 ^ 56))
def crc64 (bs : List Byte) : Nat := bs.foldl crc64Byte 0

/-- R392: the bytes of data of a message kind; none for a reserved kind. -/
def msgData (kind : Nat) : Option Nat :=
  if [0x05, 0x10, 0x11, 0x24].contains kind then some 128
  else if [0x31, 0x32, 0x38].contains kind then some 16
  else if kind = 0x34 then some 64
  else if [0x01, 0x02, 0x03, 0x04, 0x12, 0x13, 0x14, 0x15, 0x20, 0x21, 0x22, 0x23, 0x30, 0x33].contains kind then some 0
  else none

/-- The SEQ of the last flit received in order. -/
def Port.last (p : Port) : Nat := (p.rx + 4095) % 4096

/-- R391: the 16 bytes of a message's header. -/
def msgHeader (m : Msg) : List Byte :=
  natToBytes 1 m.kind ++ natToBytes 1 (m.src % 2 ^ 5 + m.mkind % 2 ^ 3 * 2 ^ 5)
    ++ natToBytes 1 (m.dst % 2 ^ 5 + b2n m.poison * 2 ^ 5 + b2n m.promoted * 2 ^ 6) ++ natToBytes 1 (m.unit % 2 ^ 7)
    ++ natToBytes 2 (m.inst % 2 ^ 10) ++ natToBytes 2 m.tag ++ natToBytes 8 m.addr

/-- R390: the 256 bytes of a flit: channel and class, SEQ, ACK and NAK, the channel and class of one flit of returned credit, the
payload, and the CRC. -/
def flitBytes (vc cls seq ack : Nat) (nak : Bool) (credit : Option Nat) (payload : List Byte) : List Byte :=
  let body := natToBytes 1 (vc + cls * 2 ^ 3) ++ natToBytes 2 seq ++ natToBytes 2 (ack + b2n nak * 2 ^ 15)
    ++ natToBytes 3 (match credit with
      | some key => key / 4 + key % 4 * 2 ^ 3 + 2 ^ 8
      | none => 0)
    ++ (payload ++ List.replicate 240 0).take 240
  body ++ natToBytes 8 (crc64 body)

/-- R390: an idle flit, which carries only ACK and CREDIT. -/
def State.idleFlit (s : State) (k : Nat) (nak : Bool) (credit : Option Nat) : OutMsg :=
  .flit k (flitBytes 5 0 0 (s.port k).last nak credit [])

/-- R390: a message in a flit of its channel; the credit goes back in idle flits (log entry 18). -/
def State.msgFlit (s : State) (k cls seq : Nat) (m : Msg) : OutMsg :=
  .flit k (flitBytes (channelNo m) cls seq (s.port k).last false none (msgHeader m ++ m.data))

/-- R412, R417, R401: a message that belongs to one port or route, and stands in no order with others: SYNC, HANDOVER, and the probe of a
member. -/
def msgPerPort (m : Msg) : Bool :=
  (m.kind == 0x34 && ((m.data.headD 0).toNat == 6 || (m.data.headD 0).toNat == 8)) || (m.kind == 0x30 && m.tag == 129)

/-- R33: the two messages are of one channel, from one originator to one device. -/
def msgInOrder (m n : Msg) : Bool :=
  !msgPerPort m && !msgPerPort n && channelNo m == channelNo n && m.src == n.src && m.mkind == n.mkind && m.unit == n.unit && m.dst == n.dst

/-- R33: an earlier message that must arrive first has left by another port and is not yet acknowledged there, or waits there or
for a route. -/
def State.outrun (s : State) (k : Nat) (m : Msg) : Bool :=
  s.shb.stuck.any (fun y => msgInOrder y m) || (List.range 10).any (fun j => j != k &&
    ((s.port j).sent.any (fun y => msgInOrder y.2.2 m) || (s.port j).wait.any (fun y => msgInOrder y.2 m)))

/-- A waiting flit leaves if its port carries its channel, credit is held, the replay buffer has room (R394, R395, R397), and it
overtakes none that left by another port (R33). -/
def State.tryFlit (s : State) (k : Nat) (x : Nat × Msg) : State :=
  let st := s.fget F.SHB_STATUS_STATE k 0
  let p := s.port k
  let key := creditKey x.2 x.1
  let open_ := (st == 2 || (st == 3 && tricklePasses x.2)) && !p.handing && !p.again && !s.outrun k x.2
  if open_ && decide (0 < mapGet 0 p.credit key) && p.roomFor x.2
      && !p.wait.any (fun y => creditKey y.2 y.1 == key) then
    let s1 := s.modPort k (fun p => { p with
      tx := (p.tx + 1) % 4096
      sent := p.sent ++ [(p.tx, x.1, x.2)]
      credit := mapSet p.credit key (mapGet 0 p.credit key - 1) })
    { s1 with outbox := s1.outbox ++ [s.msgFlit k x.1 p.tx x.2] }
  else s.modPort k (fun p => { p with wait := p.wait ++ [x], exiting := p.exiting || (st == 3 && !tricklePasses x.2) })

/-- The waiting flits of a port, in order, as far as they can leave. -/
def State.pump (s : State) (k : Nat) : State :=
  (s.port k).wait.foldl (fun s x => s.tryFlit k x) (s.modPort k (fun p => { p with wait := [] }))

/-- A message leaves by a port; one flit carries it (log entry 18). -/
def State.sendOn (s : State) (k cls : Nat) (m : Msg) : State := s.tryFlit k (cls, m)

/-- A message leaves on Shabek Link; one with no route stays. -/
def State.sendFrom (s : State) (m : Msg) (cls : Nat) : State :=
  if m.dst = s.devnum then s
  else match s.route m cls with
    | some (k, c) => s.sendOn k c m
    | none => { s with shb := { s.shb with stuck := s.shb.stuck ++ [m] } }

/-- R441: a request of this device: for a line, or of I/O space. -/
def State.ownRequest (s : State) (m : Msg) : Bool :=
  m.src == s.devnum && (decide (m.kind < 0x10) || m.kind == 0x30 || m.kind == 0x31)

/-- A message of this device leaves; no request of its own in the state of R441. -/
def State.send (s : State) (m : Msg) : State := if s.flt.fatal && s.ownRequest m then s else s.sendFrom m 1

/-! Cue unit (R64 to R68) -/

/-- R67, R432: the reserved event sources. -/
def srcReserved (n : Nat) : Bool :=
  (decide (0xC00 ≤ n) && decide (n ≤ 0xEFF)) || (decide (0xF05 ≤ n) && decide (n ≤ 0xF07))
    || (decide (0xF0A ≤ n) && decide (n ≤ 0xF0F)) || decide (0xF31 ≤ n)

/-- R68: the event of a source that waits at a core: in a level's queue, or in the input buffer of a pair (R247); with its
level. -/
def Core.waits (c : Core) (src : Nat) : Option (Nat × Event) :=
  match levelNumbers.findSome? (fun l => ((c.queue l).find? (fun e => e.src == src)).map (fun e => (l, e))) with
  | some x => some x
  | none => c.inboxEvent src

/-- R68: a further event of a source that waits at the core. -/
def Core.mergeAt (c : Core) (src word : Nat) : Core :=
  { levelNumbers.foldl (fun (c : Core) l => if (c.queue l).isEmpty then c else c.setQueue l (mergeEvent src word (c.queue l))) c with
    inbox := c.inbox.map (mergeInput src word) }

/-- R68: the core at which an event of the source waits. -/
def State.queuedAt (s : State) (src : Nat) : Option Nat :=
  (mapKeys s.cores).find? (fun lc => ((s.core lc).waits src).isSome)

/-- R66: the target logical core of a source. -/
def State.srcCore (s : State) (src : Nat) : Nat := s.fget F.CUE_MAP_CORE 0 src
def State.srcLevel (s : State) (src : Nat) : Nat := s.fget F.CUE_MAP_LEVEL 0 src

/-- R68: an event of a source is raised; answers the sources that became pending with ABSENT = 1. -/
def State.raiseOne (s : State) (src word : Nat) : State × Bool :=
  match mapGet? s.cue.srcs src with
  | some c =>
    ({ s with cue := { s.cue with srcs := mapSet s.cue.srcs src { c with count := satAdd 8 c.count 1, word := word } } },
      false)
  | none =>
    match s.queuedAt src with
    | some lc => (s.modCore lc (fun c => c.mergeAt src word), false)
    | none =>
      let ab := s.coreAbsent (s.srcCore src)
      ({ s with cue := { srcs := mapSet s.cue.srcs src ⟨1, word, ab⟩, order := s.cue.order ++ [src] } }, ab)

/-! Fault collector (R427 to R441) -/

/-- R428, R535: a fault message of this device. -/
def State.fault (s : State) (blk unit kind cls akind addr : Nat) : FaultMsg :=
  { dev := s.devnum, blk, unit, kind, cls, conseq := false, akind, addr,
    time := s.fget F.TOD_TIME_NS 0 0 % 2 ^ 39 }

/-- R439: whether a shadow covers the block, by the neighbour sets of R440. -/
def neighbourOf (cxl : Nat → Bool) (r b : Nat) : Bool :=
  if inRange 0x10 16 r then
    inRange 0x10 16 b || inRange 0x40 16 b || b == 0x5A || inRange 0x20 8 b
  else if inRange 0x20 8 r then b == 0x28 || inRange 0x31 8 b
  else if r = 0x28 then inRange 0x20 8 b || b == 0x71
  else if r = 0x30 then inRange 0x31 8 b || b == 0x28 || b == 0x71
  else if inRange 0x31 8 r then
    b == 0x30 || inRange 0x31 8 b || inRange 0x60 8 b || inRange 0x20 8 b
  else if inRange 0x40 16 r then inRange 0x10 16 b || b == 0x5A
  else if inRange 0x50 10 r then inRange 0x50 10 b || b == 0x5A || b == 0x05
  else if r = 0x5A then inRange 0x10 16 b || inRange 0x50 10 b
  else if inRange 0x60 4 r then inRange 0x30 9 b
  else if inRange 0x64 4 r then
    inRange 0x30 9 b || (cxl (r - 0x64) && (inRange 0x10 16 b || b == 0x5A))
  else if r = 0x71 then b == 0x28 || b == 0x30
  else false

/-- Whether block `b` is under an open shadow. -/
def State.shadowed (s : State) (b : Nat) : Bool :=
  s.flt.shadows.any (fun h => h.blk == b || neighbourOf (fun g => s.fbit F.PCIE_CFG_PROTOCOL g 0) h.blk b)

/-- The pending bits of a message's escalation unit (R434). -/
def State.pendOf (s : State) (m : FaultMsg) : Nat :=
  if m.blk = 0x70 then mapGet 0 s.flt.corePend m.unit else mapGet 0 s.flt.pend m.blk

def State.setPend (s : State) (m : FaultMsg) (v : Nat) : State :=
  if m.blk = 0x70 then { s with flt := { s.flt with corePend := mapSet s.flt.corePend m.unit v } }
  else { s with flt := { s.flt with pend := mapSet s.flt.pend m.blk v } }

/-- R427: a fault message as 16 bytes. -/
def FaultMsg.bits (m : FaultMsg) : Nat :=
  m.dev % 2 ^ 5 + (m.blk % 2 ^ 7) * 2 ^ 5 + (m.unit % 2 ^ 7) * 2 ^ 12 + (m.kind % 2 ^ 12) * 2 ^ 19
    + (m.cls % 8) * 2 ^ 31 + b2n m.conseq * 2 ^ 34 + (m.akind % 4) * 2 ^ 35 + (m.time % 2 ^ 39) * 2 ^ 37
    + (m.addr % 2 ^ 52) * 2 ^ 76

/-- R431: word `w` of a record. -/
def FltRec.word (r : FltRec) (w : Nat) : Word :=
  match w with
  | 0 => BitVec.ofNat 64 r.msg.bits
  | 1 => BitVec.ofNat 64 (r.msg.bits / 2 ^ 64)
  | 2 => BitVec.ofNat 64 r.arrival
  | _ => BitVec.ofNat 64 (r.seq % 2 ^ 32 + r.base * 2 ^ 32 + b2n r.escalated * 2 ^ 35
      + b2n r.forwarded * 2 ^ 36 + 2 ^ 37)

/-- R433: a FAULT message to a member. -/
def State.faultMsgTo (s : State) (m : FaultMsg) (d : Nat) : Msg :=
  { kind := 0x38, src := s.devnum, mkind := 6, unit := m.blk, inst := 0, dst := d, poison := false,
    promoted := false, tag := 0, addr := 0, data := natToBytes 16 m.bits }

/-- R433: who receives forwarded records: the acting caller, and the standby where one is named. -/
def State.forwardTo (s : State) : List Nat :=
  let c := s.fget F.DEV_IMG_STATE_ACTING_CALLER 0 0
  let b := s.fget F.DEV_IMG_CFG_STANDBY 0 0
  ((if s.fbit F.DEV_IMG_CFG_STANDBY_EN 0 0 && b != c then [c, b] else [c])).filter
    (fun d => d != s.devnum && s.isMember d)

/-- R431: a record is written; answers the state and whether an unread record was overwritten. -/
def State.addRecord (s : State) (m : FaultMsg) (base : Nat) (escalated forwarded : Bool) : State × Bool :=
  let seq := s.flt.next
  let lost := decide (1024 ≤ seq) && decide ((seq - 1024 + 2 ^ 32 - s.fget F.FLT_LOG_ACK_SEQ 0 0) % 2 ^ 32 < 2 ^ 31)
  let r : FltRec := { msg := m, arrival := s.fget F.TOD_TIME_NS 0 0, seq, base, escalated, forwarded }
  let s1 := { s with flt := { s.flt with log := mapSet s.flt.log (seq % 1024) r, next := seq + 1 } }
  if lost then ((s1.fset F.FLT_STATUS_LOG_OVERFLOW 0 0 1).fcount F.FLT_LOST_COUNT 0 0 1, true) else (s1, false)

/-- R432, R438: a notice is raised at the cue unit, or withheld until BOOT_HOLD is cleared. -/
def State.notice (s : State) (src seq : Nat) : State × List (Nat × Nat) :=
  if s.fbit F.FLT_CTL_BOOT_HOLD 0 0 then
    ({ s with flt := { s.flt with withheld := s.flt.withheld ++ [(src, seq)] } }, [])
  else (s, [(src, seq)])

/-- Every core of a map stopped. -/
def stopAll (m : NMap Core) : NMap Core := m.map (fun (k, c) => (k, { c with stopped := true }))

/-- R68: an event returns to the cue unit; one of its source that is pending there takes it in. -/
def Cue.putBack (c : Cue) (e : Event) : Cue :=
  match mapGet? c.srcs e.src with
  | some x => { c with srcs := mapSet c.srcs e.src { x with count := satAdd 8 x.count e.count } }
  | none => { srcs := mapSet c.srcs e.src ⟨e.count, e.word, false⟩, order := c.order ++ [e.src] }

/-- The events that wait at a core: queued at its levels, to be presented again by a retry (R255), in its input buffer. -/
def Core.waiting (c : Core) : List Event :=
  levelNumbers.flatMap (fun l => c.queue l)
    ++ c.replay.filterMap (fun r => match r.inp with
      | .event _ e _ => some e
      | _ => none)
    ++ c.inboxEvents.map Prod.snd

/-- R68: the events that wait at a core return to the cue unit. -/
def State.returnQueues (s : State) (lc : Nat) : State :=
  let evs := (s.core lc).waiting
  let s1 := s.modCore lc (fun c => { c with queues := [], replay := [], inbox := c.inbox.filter (fun i => match i with
    | .event _ _ _ => false
    | _ => true) })
  evs.foldl (fun s e => { s with cue := s.cue.putBack e }) s1

/-- R514: DEV_ALERT_N is driven low: CALLER_NEEDED (R270), the state of R441, or a start that has stopped (R481). -/
def State.alertLow (s : State) : Bool :=
  s.fbit F.FBS_STATUS_CALLER_NEEDED 0 0 || s.flt.fatal || s.fbit F.CFG_START_STATUS_STOPPED 0 0

/-- R521: an in-band interrupt that is owed is sent once ENEC has enabled it and the port has its dynamic address. -/
def State.sendIbi (s : State) : State :=
  if s.bmp.owed && s.alertLow && s.bmp.ibi && s.bmp.dyn.isSome then
    { s with outbox := s.outbox ++ [.ibi 0x01#8], bmp := { s.bmp with owed := false } }
  else s

/-- R521: an in-band interrupt when DEV_ALERT_N goes low. -/
def State.alertEdge (before s : State) : State :=
  if !before.alertLow && s.alertLow then ({ s with bmp := { s.bmp with owed := true } }).sendIbi else s

/-- R441: DEV_ALERT_N low, the record to every member; every core and every master stops; the exchange table is saved
from now on if a save target is configured and a copy can be read. -/
def State.deviceFatal (s : State) (m : FaultMsg) : State :=
  let s1 := State.alertEdge s { s with flt := { s.flt with fatal := true } }
  let s2 := s1.others.foldl (fun s d => s.send (s.faultMsgTo m d)) s1
  let save := s2.fget F.XCH_CTL_SAVE_KIND 0 0 != 0
    && (s2.fbit F.XCH_STATUS_COPY_A_OK 0 0 || s2.fbit F.XCH_STATUS_COPY_B_OK 0 0)
  let s3 := (mapKeys s2.cores).foldl (fun s lc => s.returnQueues lc) s2
  { s3 with
    cores := stopAll s3.cores
    pwr := { s2.pwr with t0 := if s2.pwr.t0.isNone && save then some s2.now else s2.pwr.t0 } }

/-- R439: the kinds by which a block reports a condition, and not an event: LINK_DOWN, GROUP_FATAL, PATH_FAILED, XCH_COPY_OUT,
XCH_REBUILD_FAILED, SEQ_FAILED, PCS_TAG_FATAL, SHB_DEGRADE, SHB_ROUTE_CHANGE, SHB_MISMATCH, TOD_HOLDOVER (DEDUCED, log entry 158). -/
def conditionKind (k : Nat) : Bool :=
  [0x520, 0x521, 0x504, 0x502, 0x503, 0x506, 0x205, 0x601, 0x602, 0x603, 0x60B].contains k

/-- Whether two messages report one condition. -/
def FaultMsg.sameAs (m n : FaultMsg) : Bool := m.blk == n.blk && m.unit == n.unit && m.kind == n.kind && m.addr == n.addr

/-- R439: a consequential message of a condition is remembered until its shadow closes. -/
def State.rememberFault (s : State) (m : FaultMsg) : State :=
  if conditionKind m.kind then { s with flt := { s.flt with conseq := s.flt.conseq.filter (fun n => !n.sameAs m) ++ [m] } }
  else s

/-- One message at the collector (R431 to R437, R441): the new state and the events it raises. -/
def State.collect (s : State) (m : FaultMsg) : State × List (Nat × Nat) :=
  let s0 := s.fcount F.FLT_COUNT_COUNT 0 m.cls 1
  if m.cls = 0 && !s.fbit F.FLT_CTL_LOG_C0 0 0 then (s0, [])
  else
    let conseq := s.shadowed m.blk && m.kind != 0x401
    let pend := s.pendOf m
    let esc := !conseq && pend.testBit m.cls && decide (m.cls < 4)
    let cls := if esc then m.cls + 1 else m.cls
    let m1 : FaultMsg := { m with cls := cls, conseq := conseq }
    let s1 := if conseq then s0.rememberFault m else s0.setPend m (pend ||| 2 ^ cls)
    let (s2, lost) := s1.addRecord m1 m.cls esc false
    let seq := s.flt.next
    let (s3, ev1) :=
      if conseq then (if s2.fbit F.FLT_CTL_CONSEQ_NOTICE 0 0 then s2.notice 0xF08 seq else (s2, []))
      else s2.notice (0xF00 + cls) seq
    let (s4, ev2) := if lost then s3.notice 0xF09 seq else (s3, [])
    let fwd := decide (s.fget F.FLT_CTL_FWD_MIN 0 0 ≤ cls) && decide (s.fget F.FLT_CTL_FWD_MIN 0 0 < 5)
      || (s.fbit F.FBS_STATUS_CALLER_NEEDED 0 0 && decide (1 ≤ cls))
    let s5 := if cls = 4 then s4.deviceFatal m1
      else if fwd then s4.forwardTo.foldl (fun s d => s.send (s.faultMsgTo m1 d)) s4 else s4
    (s5, ev1 ++ ev2)

/-- What remains to be reported: fault messages and events, oldest first. -/
inductive Report where
  | fault (m : FaultMsg)
  | event (src word : Nat)
  deriving DecidableEq, Repr

/-- R68: CUE_ABSENT for a source. -/
def State.absentFault (s : State) (src : Nat) : FaultMsg := s.fault 0x04 0 0x106 1 3 src

/-- R68: ABSENT of every pending source, and the sources at which it changes from 0 to 1. -/
def State.absentPass (s : State) : State × List Nat :=
  s.cue.order.foldl (fun a src =>
    match mapGet? a.1.cue.srcs src with
    | none => a
    | some c =>
      let ab := a.1.coreAbsent (a.1.srcCore src)
      ({ a.1 with cue := { a.1.cue with srcs := mapSet a.1.cue.srcs src { c with absent := ab } } },
        if ab && !c.absent then a.2 ++ [src] else a.2)) (s, [])

/-- Faults are collected and events raised, in order.  A report can bring further ones (a notice; CUE_ABSENT
when a source becomes absent, as those of every core do with R441); the chain ends because a source becomes absent once. -/
def State.report : Nat → List Report → State → State
  | 0, _, s => s
  | _, [], s => s
  | n + 1, .fault m :: rs, s =>
    let (s1, evs) := s.collect m
    let rs1 := rs ++ evs.map (fun e => .event e.1 e.2)
    if s1.flt.fatal && !s.flt.fatal then
      let (s2, gone) := s1.absentPass
      State.report n (rs1 ++ gone.map (fun src => .fault (s2.absentFault src))) s2
    else State.report n rs1 s1
  | n + 1, .event src word :: rs, s =>
    let (s1, ab) := s.raiseOne src word
    State.report n (rs ++ if ab then [.fault (s1.absentFault src)] else []) s1

/-- A bound on the chain of one report: its notices, and a CUE_ABSENT with its notice for each source. -/
def State.reportFuel (s : State) : Nat :=
  64 + 4 * (s.cue.order.length
    + (s.cores.map (fun p => p.2.waiting.length)).sum)

/-- R428: a block sends a fault message to the collector. -/
def State.logFault (s : State) (m : FaultMsg) : State := s.report s.reportFuel [.fault m]

/-- R68: an event is raised at the cue unit. -/
def State.raise (s : State) (src word : Nat) : State := s.report s.reportFuel [.event src word]

/-- R68: pending sources whose target core has come or gone have ABSENT changed, with a fault at each change
from 0 to 1. -/
def State.refreshAbsent (s : State) : State :=
  let (s1, gone) := s.absentPass
  gone.foldl (fun s src => s.logFault (s.absentFault src)) s1

/-- The logical cores that a position carries. -/
def State.coresAt (s : State) (q : Nat) : List Nat :=
  match (s.pair q).logical with
  | some n => if s.isSplit n then [2 * n, 2 * n + 1] else [2 * n]
  | none => []

/-- The line that an input of a core invalidates. -/
def Input.line? : Input → Option Nat
  | .inval line => some line
  | _ => none

/-- The line whose invalidation a token acknowledges. -/
def Token.acked? (t : Token) : Option Nat :=
  match t.body with
  | .invAck line => some line
  | _ => none

/-- R207: the positions that may hold a line: of one in the pool cache, or in an eviction buffer (R224). -/
def State.presence (s : State) (line : Nat) : List Nat :=
  match mapGet? s.mem.pool line, mapGet? s.mem.evict line with
  | some p, _ => p.presence
  | none, some e => e.presence
  | none, none => []

def State.setPresence (s : State) (line : Nat) (qs : List Nat) : State :=
  match mapGet? s.mem.pool line, mapGet? s.mem.evict line with
  | some p, _ => { s with mem := { s.mem with pool := mapSet s.mem.pool line { p with presence := qs } } }
  | none, some e => { s with mem := { s.mem with evict := mapSet s.mem.evict line { e with presence := qs } } }
  | none, none => s

/-- R207: a position acknowledges an invalidation: its presence bit for the line clears. -/
def State.clearBit (s : State) (line q : Nat) : State := s.setPresence line ((s.presence line).filter (· != q))

/-- R256: invalidations that a position has not yet agreed on, or not yet acknowledged, are applied to it directly and
acknowledged at once. -/
def State.applyInvals (s : State) (q : Nat) : State :=
  let lines := (s.coresAt q).flatMap (fun lc => (s.core lc).inbox.filterMap Input.line?) ++ (s.pair q).tokens.filterMap Token.acked?
  let s1 := (s.coresAt q).foldl (fun s lc => s.modCore lc (fun c => { c with
    priv := lines.foldl Priv.drop c.priv
    inbox := c.inbox.filter (fun i => i.line?.isNone) })) s
  let s2 := if lines.isEmpty then s1 else s1.modPair q (fun p => ({ p with
    fifo := p.fifo.filter (fun t => t.acked?.isNone), owed := p.owed.filter (fun t => t.acked?.isNone) } : PairPos).refill)
  lines.foldl (fun s line => s.clearBit line q) s2

/-- R75, R87: a core stops with a machine check, logged for its pair position (R535). -/
def State.machineCheck (s : State) (lc : Nat) : State :=
  let q := (s.posOf lc).getD 63
  let s1 := ((s.returnQueues lc).modCore lc (fun c => { c with stopped := true })).applyInvals q
  (s1.logFault (s1.fault 0x70 q 0x105 3 3 (lc * 2 ^ 8 + 63 * 2 ^ 16))).refreshAbsent

/-- A core after an operation that may have stopped it (R75). -/
def State.putCore (s : State) (lc : Nat) (c : Core) : State :=
  if c.stopped && !(s.core lc).stopped then (s.setCore lc { c with stopped := false }).machineCheck lc
  else s.setCore lc c

end Sys2Proof.Machine
end

