-- ==== Sys2Proof/Machine/Memory.lean ====
section
/-! DEFINITION. Physical memory: byte cells in canonical form, homes (R403, R405, R490), poison (R222, R223),
the pool cache's record of what a home holds (R228), private copies (R205 to R209). -/

namespace Sys2Proof.Machine

/-! Byte cells -/

/-- What an unlisted byte reads as (log entry 1). -/
def unlistedByte : Byte := 0

def cellGet : List Host.Cell → Nat → Byte
  | [], _ => unlistedByte
  | (a', b) :: m, a => if a' = a then b else cellGet m a

/-- A byte is written; the value an unlisted byte has removes the entry. -/
def cellSet : List Host.Cell → Nat → Byte → List Host.Cell
  | [], a, b => if b = unlistedByte then [] else [(a, b)]
  | (a', b') :: m, a, b =>
    if a' = a then (if b = unlistedByte then m else (a, b) :: m)
    else if a < a' then (if b = unlistedByte then (a', b') :: m else (a, b) :: (a', b') :: m)
    else (a', b') :: cellSet m a b

/-- The canonical form: addresses strictly rising above `lo`, no entry equal to an unlisted byte. -/
def cellsWf : Option Nat → List Host.Cell → Bool
  | _, [] => true
  | lo, (a, b) :: m => (match lo with | none => true | some l => decide (l < a)) && b != unlistedByte && cellsWf (some a) m

/-- The canonical form of memory. -/
def Memory.wf (m : Mem) : Bool := cellsWf none m.cells

def cellsRead (m : List Host.Cell) (a : Nat) : Nat → List Byte
  | 0 => []
  | n + 1 => cellGet m a :: cellsRead m (a + 1) n

def cellsWrite (m : List Host.Cell) (a : Nat) : List Byte → List Host.Cell
  | [] => m
  | b :: bs => cellsWrite (cellSet m a b) (a + 1) bs

/-- The byte at a physical address. -/
def State.byteAt (s : State) (a : Nat) : Byte := cellGet s.mem.cells a
def State.bytesAt (s : State) (a n : Nat) : List Byte := cellsRead s.mem.cells a n
def State.natAt (s : State) (a n : Nat) : Nat := bytesToNat (s.bytesAt a n)

/-! The flash (R474, R475) -/

/-- Flash bytes. -/
def State.flashBytes (s : State) (off n : Nat) : List Byte := (cellsRead s.boot.flash off n).map (~~~ ·)
def State.flashNat (s : State) (off n : Nat) : Nat := bytesToNat (s.flashBytes off n)

/-- Bytes are programmed: a NOR cell only goes from 1 to 0. -/
def State.flashProgram (s : State) (off : Nat) (bs : List Byte) : State :=
  let new := List.zipWith (fun (a b : Byte) => a &&& b) (s.flashBytes off bs.length) bs
  { s with boot := { s.boot with flash := cellsWrite s.boot.flash off (new.map (~~~ ·)) } }

/-- A range is erased to 0xFF. -/
def State.flashErase (s : State) (off n : Nat) : State :=
  { s with boot := { s.boot with flash := s.boot.flash.filter (fun c => !inRange off n c.1) } }

/-! Lines -/

/-- The address of the 128-byte line that holds a byte. -/
def lineOf (a : Nat) : Nat := a / 128 * 128

/-- The lines of `n` bytes from `a`, rising. -/
def linesOf (a n : Nat) : List Nat :=
  if n = 0 then [] else (List.range ((a + n - 1) / 128 - a / 128 + 1)).map (fun k => lineOf a + 128 * k)

/-! Homes -/

/-- R490: the mask ROM, and the granule that holds it. -/
def romBase : Nat := 0xFFFFFFFFD0000
def romGranule : Nat := 0xFFFFFC0000000
def inRom (a : Nat) : Bool := inRange romBase 0x30000 a

/-- Where a line's home is (R403, R405). -/
inductive Home where
  | nowhere
  | dev (d : Nat)
  deriving DecidableEq, Repr

/-- The DIR_HOME entry that homes a granule, among the registers as they stand (R403). -/
def homeEntry (g : Nat) : NMap Word → Option Nat
  | [] => none
  | (k, v) :: m =>
    if inRange (0x5A * 2 ^ 20) 0x800 k && bitOf v 63 && inRange (fld v 0 22) (fld v 22 22) g then
      some (fld v 48 5)
    else homeEntry g m

/-- R403: the home of an address: the last granule none, the fixed region by 128 MiB units, else the map. -/
def State.homeOf (s : State) (a : Nat) : Home :=
  if romGranule ≤ a then .nowhere
  else if inRange 0xFF00000000000 (2 ^ 32) a then .dev ((a - 0xFF00000000000) / 2 ^ 27)
  else match homeEntry (a / 2 ^ 30) s.io.force with
    | some d => if d = s.devnum ∧ s.dir.unbacked.contains (a / 2 ^ 30) then .nowhere else .dev d
    | none => .nowhere

/-- R225: whether an address lies in the resident window in force. -/
def State.resident (s : State) (a : Nat) : Bool :=
  inRange (s.fget F.PCS_RES_BASE_BASE 0 0 * 2 ^ 24) (s.fget F.PCS_RES_WAYS_WAYS 0 0 * 2 ^ 24) a

/-- How a line answers a master (R405, R409, R490). -/
inductive LineSt where
  /-- served here -/
  | here
  /-- this device's mask ROM -/
  | rom
  | noHome
  /-- homed on a lost member (R409) -/
  | lost
  /-- must be asked of its home, this device's own directory included: a request kind to that device -/
  | ask (kind dst : Nat)
  deriving DecidableEq, Repr

/-- Whether a line is poisoned. -/
def State.poisoned (s : State) (line : Nat) : Bool := s.mem.poison.contains line

def State.poolLine (s : State) (line : Nat) : Option PoolLine := mapGet? s.mem.pool line

/-! Room in the directory (R406) -/

/-- R406: the directory has an entry for a line: one that other devices hold, or that this device's own pool cache holds, what its
eviction buffer holds included. -/
def State.dirHas (s : State) (line : Nat) : Bool :=
  (mapGet? s.dir.entries line).isSome
    || (((s.poolLine line).isSome || (mapGet? s.mem.evict line).isSome) && s.homeOf line == .dev s.devnum && !s.resident line)

/-- R406: the lines that have an entry. -/
def State.dirLines (s : State) : List Nat :=
  mapKeys s.dir.entries
    ++ (mapKeys s.mem.pool ++ mapKeys s.mem.evict).eraseDups.filter (fun l => (mapGet? s.dir.entries l).isNone && s.dirHas l)

/-- R406: the directory is 16-way, of 8,388,608 entries; the set of a line is not given, nor which entry gives way. -/
def dirWays : Nat := 16
def dirSets : Nat := 8388608 / dirWays

/-- The lines that have an entry in the set of a line. -/
def State.dirMates (s : State) (line : Nat) : List Nat :=
  s.dirLines.filter (fun x => Config.dirSet x % dirSets == Config.dirSet line % dirSets)

/-- R406: a line has no entry, and its set has no room for one. -/
def State.dirFull (s : State) (line : Nat) : Bool :=
  decide (dirWays ≤ s.dirLines.length) && !s.dirHas line && !s.resident line && decide (dirWays ≤ (s.dirMates line).length)

/-- The request for a line that is not here (R407). -/
def requestKind (write whole : Bool) : Nat := if whole then 0x04 else if write then 0x02 else 0x01

/-- The state of a line for a read or a write by this device (R405 to R407, R490).  A line of its own for which the directory has no
room waits there as one that is elsewhere does (R406). -/
def State.lineState (s : State) (byCore write whole : Bool) (line : Nat) : LineSt :=
  if inRom line && byCore then .rom
  else match s.homeOf line with
    | .nowhere => .noHome
    | .dev d =>
      if d = s.devnum then
        match mapGet? s.mem.asked line with
        | some k => .ask k d
        | none =>
        match mapGet? s.dir.entries line with
        | some (.modified o) => if o = s.devnum then .here else .ask (requestKind write whole) d
        | some (.shared mask) =>
          if write && decide (mask % 2 ^ 32 - (if mask.testBit s.devnum then 2 ^ s.devnum else 0) ≠ 0) then
            .ask (if whole then 0x04 else 0x02) d
          else .here
        | none => if s.dirFull line then .ask (requestKind write whole) d else .here
      else if s.lost.contains d then .lost
      else if !s.isMember d || mapGet? s.mem.asked line == some 0x14 then .noHome
      else match s.poolLine line, mapGet? s.mem.evict line with
        | some p, _ =>
          if write && !p.owned then .ask 0x03 d
          else if !p.owned && mapGet? s.mem.asked line == some 0x01 then .ask 0x01 d
          else .here
        | none, some e =>
          if e.spoilt then .ask (requestKind write whole) d
          else if write && (e.issued || !e.owned) then .ask 0x03 d else .here
        | none, none => .ask (requestKind write whole) d

/-- R219: the pool-cache slice of a line. -/
def sliceOf (line : Nat) : Nat :=
  let a := line / 128
  ((List.range 11).foldl (fun x k => Nat.xor x (nfld a (4 * k) 4)) (nfld a 44 1))

/-- A NO_HOME answer has been delivered (R405). -/
def State.clearAsked (s : State) (line : Nat) : State :=
  { s with mem := { s.mem with asked := mapErase s.mem.asked line, askInst := mapErase s.mem.askInst line } }

/-- On whose behalf a line is read or written: a logical core; a transform engine or a channel sequencer working for an
instance; any other master. -/
inductive By where
  | core (lc : Nat)
  | eng (inst : Nat)
  | dev
  deriving DecidableEq, Repr

def By.isCore : By → Bool
  | .core _ => true
  | _ => false

/-- R34: the virtual-instance number that a request carries. -/
def By.inst : By → Nat
  | .eng n => n
  | _ => 0

/-- R207: the position of a master that is a core. -/
def State.posBy (s : State) : By → Option Nat
  | .core lc => s.posOf lc
  | _ => none

/-- R407, R34: a request for a line, sent once until it is answered; one of a line that this device homes waits at its own
directory. -/
def State.askLine (s : State) (by_ : By) (line kind dst : Nat) : State :=
  if (mapGet? s.mem.asked line).isSome || s.flt.fatal then s
  else
    let s1 := { s with mem := { s.mem with
      asked := mapSet s.mem.asked line kind
      askInst := if by_.inst = 0 then s.mem.askInst else mapSet s.mem.askInst line by_.inst } }
    let m : Msg := { kind, src := s.devnum, mkind := 4, unit := sliceOf line, inst := by_.inst, dst, poison := false,
                     promoted := false, tag := line / 128 % 2 ^ 16, addr := line, data := [] }
    if dst = s.devnum then { s1 with dir := { s1.dir with waiting := s1.dir.waiting ++ [m] } } else s1.send m

/-- A line is asked of its home; a checked pair that had it agreed on, and lost it again, must produce its request anew (R240). -/
def State.askRead (s : State) (by_ : By) (line kind dst : Nat) : State :=
  match by_ with
  | .core lc =>
    if s.isChecked lc then s.modCore lc (fun c => { c with given := c.given.filter (·.1 != line) })
    else s.askLine by_ line kind dst
  | _ => s.askLine by_ line kind dst

/-! Requests of a checked pair (R239, R240, R246) -/

/-- Whether an input is the answer for a line. -/
def Input.answers (line : Nat) : Input → Bool
  | .resp l _ => l == line
  | _ => false

/-- R240, R255: a checked pair produces a request for a line, as a token; one that is outstanding, or that the log answers, is not
produced again. -/
def State.produce (s : State) (lc : Nat) (a : Await) : State :=
  let c := s.core lc
  if c.awaited.any (·.line == a.line) || c.inbox.any (Input.answers a.line) then s
  else if c.logAnswers (Input.answers a.line) then s.modCore lc (fun c => { c with awaited := c.awaited ++ [{ a with released := true }] })
  else if !s.fifoRoom lc 1 then s
  else (s.modCore lc (fun c => { c with awaited := c.awaited ++ [a] })).pushToken lc (if a.own then .own a.line else .read a.line 128)

/-- R240, R246: an instruction of a checked pair needs a line that its private structures do not hold: it waits until the partners
have agreed on the answer.  True where it may go on. -/
def State.demand (s : State) (lc line : Nat) (instr : Bool) : State × Bool :=
  if !s.isChecked lc || (s.core lc).given.any (·.1 == line) then (s, true)
  else ((s.produce lc ⟨line, instr, true, false, false⟩).modCore lc (fun c => { c with stalls := true }), false)

/-! Private copies (R205 to R209) -/

/-- R255, R268: L1, L2, side buffer, TLB, table-entry cache and loop buffer emptied. -/
def Priv.empty (p : Priv) : Priv :=
  { p with l1i := [], l1d := [], l2 := [], side := [], tlb := [], tec := [], ring := [], loop := none, streams := [], misses := [] }

/-- A line enters a set-associative structure; a full set loses one way (R205). -/
def cacheFill (ways sets pick line : Nat) (index : Nat → Nat) (l : List Nat) : List Nat :=
  if l.contains line then l
  else
    let same := l.filter (fun x => index x % sets == index line % sets)
    if same.length < ways then l ++ [line]
    else (l.filter (· != same.getD (pick % ways) 0)) ++ [line]

/-- R219: l2_set of a line. -/
def l2Set (line : Nat) : Nat :=
  let a := line / 128
  Nat.xor (Nat.xor (Nat.xor (nfld a 0 11) (nfld a 11 11)) (Nat.xor (nfld a 22 11) (nfld a 33 11))) (nfld a 44 1)

/-- R219: the DDR5 index of a line, 4 bits. -/
def ddrIndex (line : Nat) : Nat :=
  let b := line / 512
  ((List.range 10).foldl (fun x k => Nat.xor x (nfld b (4 * k) 4)) (nfld b 40 3))

/-- R233: every populated channel is one side of a mirrored pair; MIRROR is set alike in both controllers of every pair. -/
def State.mirrored (s : State) : Bool :=
  let ks := (List.range 16).filter (fun k => s.fbit F.MC_CFG_ENABLE k 0)
  !ks.isEmpty && ks.all (fun k => s.fbit F.MC_CFG_MIRROR k 0)

/-- The other side of a mirrored pair. -/
def mirrorOf (k : Nat) : Nat := if k % 2 = 0 then k + 1 else k - 1

/-- R233, R489: a channel is served: by itself, or, mirrored, by the other side of its pair. -/
def State.served (s : State) (k : Nat) : Bool :=
  s.fbit F.MC_STATUS_TRAINED k 0 || (s.mirrored && s.fbit F.MC_STATUS_TRAINED (mirrorOf k) 0)

/-- R231, R489: the DDR5 channels in service: 16, 8 or 4, the highest count whose channels are all served. -/
def State.channels (s : State) : Nat :=
  if (List.range 16).all s.served then 16 else if (List.range 8).all s.served then 8 else 4

/-- A channel is in service: trained, and its block neither in reset nor stopped. -/
def State.inService (s : State) (k : Nat) : Bool :=
  s.fbit F.MC_STATUS_TRAINED k 0 && !s.flt.resets.any (fun r => r.1 == 0x40 + k) && !s.flt.stopped.contains (0x40 + k)

/-- R233, R237: MIRROR_DEGRADED: one side of a mirrored pair is out of service. -/
def State.degraded (s : State) (k : Nat) : Bool := s.mirrored && s.inService k != s.inService (mirrorOf k)

/-- R233: the memory controller of a line: with mirroring the side that serves the pair, the lower one where both do. -/
def State.channelOf (s : State) (line : Nat) : Nat :=
  if s.mirrored then
    let k := ddrIndex line % (s.channels / 2) * 2
    if s.inService k || !s.inService (k + 1) then k else k + 1
  else ddrIndex line % s.channels

/-- R219: pool_set and pool_tag of a line. -/
def poolSet (line : Nat) : Nat :=
  let a := line / 128
  Nat.xor (Nat.xor (nfld a 4 13) (nfld a 17 13)) (Nat.xor (nfld a 30 13) (nfld a 43 2))

def poolTag (line : Nat) : Nat := nfld (line / 128) 17 28

/-- R207: the line leaves the private structures of a position. -/
def State.dropAt (s : State) (line q : Nat) : State :=
  (s.coresAt q).foldl (fun s lc => s.modCore lc (fun c => { c with priv := c.priv.drop line })) s


/-- R207: a position that applies invalidations at its agreement points: a checked pair that has not stopped. -/
def State.agrees (s : State) (q : Nat) : Bool :=
  (s.pair q).checks && !s.flt.fatal && (s.coresAt q).all (fun lc => !(s.core lc).stopped)

/-- R207, R247: an invalidation reaches the input buffer of a checked pair. -/
def State.offerInval (s : State) (line q : Nat) : State :=
  (s.coresAt q).foldl (fun s lc =>
    if (s.core lc).inbox.contains (.inval line) || s.inFifo lc (.invAck line) then s
    else s.modCore lc (fun c => { c with inbox := c.inbox ++ [.inval line] })) s

/-- R207, R256: before a write to a line becomes visible, or the line leaves the pool cache, every other position that may hold it
is told to invalidate it.  A checked pair does so at an agreement point and acknowledges with a token; any other position at
once.  True when every acknowledgement has come. -/
def State.invalAsk (s : State) (line : Nat) (except_ : Option Nat) : State × Bool :=
  let out := (s.presence line).filter (fun q => some q != except_)
  let later := out.filter s.agrees
  let s1 := (out.filter (fun q => !s.agrees q)).foldl (fun s q => (s.dropAt line q).clearBit line q) s
  (later.foldl (fun s q => s.offerInval line q) s1, later.isEmpty)

/-- R207: the private copies of a line are told to go. -/
def State.invalidate (s : State) (line : Nat) (except_ : Option Nat) : State := (s.invalAsk line except_).1

/-- A line is marked poisoned or not. -/
def State.setPoison (s : State) (line : Nat) (b : Bool) : State :=
  { s with mem := { s.mem with
      poison := if b then (if s.mem.poison.contains line then s.mem.poison else s.mem.poison.insertIdx
          (s.mem.poison.filter (· < line)).length line)
        else s.mem.poison.filter (· != line) } }

/-- A line leaves the pool cache; what its memory holds is then all there is of it (R234). -/
def State.erasePool (s : State) (line : Nat) : State :=
  let s1 := { s with mem := { s.mem with pool := mapErase s.mem.pool line } }
  if s.mem.bad.contains line then
    ({ s1 with mem := { s1.mem with bad := s1.mem.bad.filter (· != line) } }).setPoison line true
  else s1

/-- R407, R224: a line leaves the pool cache; one whose write-back is on its way stays in the eviction buffer until WB_ACK. -/
def State.leavePool (s : State) (line : Nat) : State :=
  if s.mem.wb.contains line && (s.poolLine line).isSome then
    { s with mem := { s.mem with pool := mapErase s.mem.pool line, evict := mapSet s.mem.evict line ⟨none, false, true, [], false⟩ } }
  else s.erasePool line

/-- The memory of a line is written. -/
def State.mendMem (s : State) (line : Nat) : State :=
  if s.mem.bad.contains line then { s with mem := { s.mem with bad := s.mem.bad.filter (· != line) } } else s

/-! Lines enter and leave the pool cache (R220, R224) -/

/-- R225: the ways that serve as cache are those from this one on. -/
def State.firstWay (s : State) : Nat := s.fget F.PCS_RES_WAYS_WAYS 0 0

/-- The cached lines of the slice and set of a line. -/
def State.setMates (s : State) (line : Nat) : List (Nat × PoolLine) :=
  s.mem.pool.filter (fun x => sliceOf x.1 == sliceOf line && poolSet x.1 == poolSet line && !s.resident x.1)

/-- R220: which of a full set is replaced: a line at the least-recently-used position if there is one, else any but the one
used last (log entry 32). -/
def State.victimOf (s : State) (mates : List (Nat × PoolLine)) : Option Nat :=
  let newest := (mates.map (fun x => x.2.used)).foldl max 0
  match mates.find? (fun x => x.2.used == 0) with
  | some x => some x.1
  | none =>
    let old := mates.filter (fun x => x.2.used != newest)
    (old[Config.victim s.free % old.length]?).map Prod.fst

/-- R207, R224: a line is evicted: its private copies are invalidated, and it waits in the eviction buffer until they are and, if
it is modified, for its write-back. -/
def State.evictLine (s : State) (line : Nat) : State :=
  let s1 := s.invalidate line none
  match s1.poolLine line with
  | none => s1
  | some p =>
    if p.home.isNone && p.presence.isEmpty then s1.leavePool line
    else
      let s2 := if p.home.isSome then s1.mendMem line else s1
      { s2 with mem := { s2.mem with
          pool := mapErase s2.mem.pool line
          evict := mapSet s2.mem.evict line ⟨p.home, p.owned, p.home.isNone && s2.mem.wb.contains line, p.presence, false⟩ } }

/-- A free way for a line: the lowest that no line of its set has. -/
def State.freeWay (s : State) (line : Nat) : Nat :=
  let taken := (s.setMates line).map (fun x => x.2.way)
  ((List.range 24).find? (fun w => decide (s.firstWay ≤ w) && !taken.contains w)).getD 23

/-- R220: room for a line in its set. -/
def State.makeWay (s : State) (line : Nat) : State :=
  let mates := s.setMates line
  if mates.length + s.firstWay < 24 then s
  else match s.victimOf mates with
    | some v => ({ s with free := s.free + 1 } : State).evictLine v
    | none => s

/-- A line is put into the pool cache, used now. -/
def State.putLine (s : State) (line : Nat) (home : Option (List Byte × Bool)) (owned : Bool) : State :=
  let s1 := if s.resident line then s else s.makeWay line
  { s1 with mem := { s1.mem with
      clock := s1.mem.clock + 1
      pool := mapSet s1.mem.pool line ⟨home, owned, [], s1.freeWay line, s1.mem.clock + 1⟩ } }

/-- R220, R224: a line is in the pool cache, and used now.  One in the eviction buffer comes back: as it was if its write-back has
not been issued, else clean, and the write-back completes; one whose data was lost is as its home gives it, its private copies still to
go (R221). -/
def State.install (s : State) (line : Nat) : State :=
  match s.poolLine line with
  | some p => { s with mem := { s.mem with
      clock := s.mem.clock + 1
      pool := mapSet s.mem.pool line { p with used := s.mem.clock + 1 } } }
  | none =>
    let here := s.homeOf line == .dev s.devnum
    match mapGet? s.mem.evict line with
    | some e =>
      if e.issued then s.putLine line none here
      else if e.spoilt then
        ((({ s with mem := { s.mem with evict := mapErase s.mem.evict line } }).erasePool line).putLine line none here).setPresence line
          e.presence
      else (({ s with mem := { s.mem with evict := mapErase s.mem.evict line } }).putLine line e.home e.owned).setPresence line e.presence
    | none => s.putLine line none here

/-- R224: a request finds its line in the eviction buffer; one whose data was lost comes from its home (R221). -/
def State.takeBack (s : State) (line : Nat) : State :=
  match mapGet? s.mem.evict line with
  | none => s
  | some e => if (s.poolLine line).isNone && (!e.spoilt || s.homeOf line == .dev s.devnum) then s.install line else s

/-- R211: a line moves to the least-recently-used position of its set. -/
def State.toLru (s : State) (line : Nat) : State :=
  match s.poolLine line with
  | some p => { s with mem := { s.mem with pool := mapSet s.mem.pool line { p with used := 0 } } }
  | none => s

/-- R207: a position now may hold the line. -/
def State.notePresence (s : State) (line q : Nat) : State :=
  let s1 := s.install line
  match s1.poolLine line with
  | some p => { s1 with mem := { s1.mem with
      pool := mapSet s1.mem.pool line { p with presence := if p.presence.contains q then p.presence else p.presence ++ [q] } } }
  | none => s1

/-! Reads and writes of lines that are here -/

/-- The 128 bytes of a line. -/
def State.lineBytes (s : State) (line : Nat) : List Byte := s.bytesAt line 128

/-- R228: what the home holds is kept while the line is modified; a resident line has no home copy (R225). -/
def State.markModified (s : State) (line : Nat) : State :=
  if s.resident line then s
  else
    let s1 := s.install line
    match s1.poolLine line with
    | some p =>
      if p.home.isSome then s1
      else { s1 with mem := { s1.mem with
              pool := mapSet s1.mem.pool line { p with home := some (s.lineBytes line, s.poisoned line) } } }
    | none => s1

/-- R223, R535: a store merged into a poisoned line is logged for the line's slice. -/
def State.poisonStore (s : State) (line : Nat) : FaultMsg := s.fault (0x10 + sliceOf line) 0 0x204 1 1 line

/-- R223, R240: the message of a store merged into a poisoned line: of a core that runs it is held until a group commits, as a token of
a checked pair. -/
def State.mergeMsg (s : State) (by_ : By) (line : Nat) : State :=
  let m := s.poisonStore line
  match by_ with
  | .core lc =>
    if s.coreRuns lc then (s.modCore lc (fun c => { c with acts := c.acts ++ [(c.count, .merged m)] })).pushToken lc (.faultMsg m true)
    else s.logFault m
  | _ => s.logFault m

/-- R223: a full-line write by a transform engine or a channel sequencer clears poison. -/
def By.clears : By → Nat → Bool
  | .eng _, n => n == 128
  | _, _ => false

/-- Bytes of one line are written; a store that does not clear poison is merged into a poisoned line (R223). -/
def State.writeLine (s : State) (by_ : By) (a : Nat) (bs : List Byte) : State :=
  let line := lineOf a
  let s1 := (s.markModified line).invalidate line (s.posBy by_)
  let s2 := { s1 with mem := { s1.mem with cells := cellsWrite s1.mem.cells a bs } }
  if s.poisoned line then
    if by_.clears bs.length then s2.setPoison line false else s2.mergeMsg by_ line
  else s2

/-- The bytes that fall in each line of a span: (address, bytes), rising. -/
def splitLines (a : Nat) (bs : List Byte) : List (Nat × List Byte) :=
  (linesOf a bs.length).map (fun line =>
    let lo := max a line
    let hi := min (a + bs.length) (line + 128)
    (lo, (bs.drop (lo - a)).take (hi - lo)))

/-- R490: a write of the ROM is refused, and logged by the slice of its line. -/
def State.romRefused (s : State) (line : Nat) : State := s.logFault (s.fault (0x10 + sliceOf line) 0 0x007 1 1 line)

/-- What a write meets at a line: it is written here, refused (R490), or discarded (R405). -/
def State.storeLine (s : State) (by_ : By) (a : Nat) (bs : List Byte) : State :=
  let line := lineOf a
  match s.lineState by_.isCore true (bs.length == 128) line with
  | .here => s.writeLine by_ a bs
  | .rom => s.romRefused line
  | .noHome => (s.clearAsked line).logFault (s.fault 0x5A 0 0x605 1 1 line)
  | .lost => s.logFault (s.fault 0x5A 0 0x607 2 1 line)
  | .ask _ _ => s.writeLine by_ a bs

/-- Bytes are written to physical memory, line by line, rising (R146). -/
def State.storeBytes (s : State) (by_ : By) (a : Nat) (bs : List Byte) : State :=
  (splitLines a bs).foldl (fun s p => s.storeLine by_ p.1 p.2) s

/-- What a read of some lines meets first. -/
inductive ReadSt where
  | ok
  /-- a contained data fault that names the line (R222, R405, R409) -/
  | poison (line : Nat)
  /-- a line is not here yet; it has been asked for -/
  | wait
  deriving DecidableEq, Repr

/-- R227: the resident window that a conversion in progress brings. -/
def State.inNewWindow (s : State) (a : Nat) : Bool :=
  match s.mem.conv with
  | some (base, ways) => inRange base (ways * 2 ^ 24) a
  | none => false

/-- R221, R227, R493: the slice of a line has not stopped, no conversion holds the line, and its granule has been written. -/
def State.sliceUp (s : State) (line : Nat) : Bool :=
  !s.flt.stopped.contains (0x10 + sliceOf line) && !s.dir.unwritten.contains (line / 2 ^ 30)
    && !(s.fbit F.PCS_RES_STATUS_CONVERTING 0 0 && (s.resident line || s.inNewWindow line))

/-- R493: a granule that an access waits for is the next to be written. -/
def State.wantGranule (s : State) (line : Nat) : State :=
  let g := line / 2 ^ 30
  if s.dir.unwritten.contains g then { s with dir := { s.dir with unwritten := g :: s.dir.unwritten.filter (· != g) } } else s

/-- Lines are readied for reading by this device: asked for where they are elsewhere, refused where no home
answers (R405 logs DIR_NO_HOME, R409 LINE_OF_LOST_MEMBER). -/
def State.readyRead (s : State) (by_ : By) : List Nat → State × ReadSt
  | [] => (s, .ok)
  | line :: ls =>
    if !s.sliceUp line then (s.wantGranule line, .wait)
    else match s.lineState by_.isCore false false line with
    | .rom => s.readyRead by_ ls
    | .here => if s.poisoned line then (s.takeBack line, .poison line) else (s.takeBack line).readyRead by_ ls
    | .noHome => ((s.clearAsked line).logFault (s.fault 0x5A 0 0x605 1 1 line), .poison line)
    | .lost => (s.logFault (s.fault 0x5A 0 0x607 2 1 line), .poison line)
    | .ask k d => (s.askRead by_ line k d, .wait)

/-- Lines are readied for writing: asked for with ownership where they are elsewhere, and invalidated in every other
position that may hold them (R207). -/
def State.readyWrite (s : State) (by_ : By) (whole : Bool) : List Nat → State × Bool
  | [] => (s, true)
  | line :: ls =>
    if !s.sliceUp line then (s.wantGranule line, false)
    else match s.lineState by_.isCore true whole line with
    | .ask k d => (s.askLine by_ line k d, false)
    | .here =>
      match (s.takeBack line).invalAsk line (s.posBy by_) with
      | (s1, true) => s1.readyWrite by_ whole ls
      | (s1, false) => (s1, false)
    | _ => s.readyWrite by_ whole ls

/-- The byte a core reads: the ROM's own at its addresses (R490). -/
def State.coreByte (s : State) (a : Nat) : Byte :=
  if inRom a then Config.romByte (a - romBase) else s.byteAt a

/-- `n` bytes as a core reads them, lowest first. -/
def State.coreBytes (s : State) : Nat → Nat → List Byte
  | _, 0 => []
  | a, n + 1 => s.coreByte a :: s.coreBytes (a + 1) n

/-! Actions on whole lines (R228) -/

/-- Whether a line is modified here and homed on another device, or its write-back there is not yet acknowledged. -/
def State.dirtyElsewhere (s : State) (line : Nat) : Bool :=
  match s.homeOf line with
  | .dev d => d != s.devnum && (s.mem.wb.contains line || ((s.poolLine line).any (fun p => p.home.isSome))
      || (mapGet? s.mem.evict line).isSome)
  | .nowhere => false

/-- R407, R419: WRITEBACK of a line to its home; its tag tells it from a request for the line. -/
def State.sendWriteBack (s : State) (line d : Nat) (promoted : Bool) : State :=
  s.send { kind := 0x05, src := s.devnum, mkind := 4, unit := sliceOf line, inst := 0, dst := d,
           poison := s.poisoned line, promoted, tag := Nat.xor (line / 128 % 2 ^ 16) 0x8000, addr := line,
           data := s.lineBytes line }

/-- The pool cache's record of a line. -/
def State.setPool (s : State) (line : Nat) (p : PoolLine) : State :=
  { s with mem := { s.mem with pool := mapSet s.mem.pool line p } }

/-- R407: the write-back of a line homed elsewhere is issued. -/
def State.issueWriteBack (s : State) (line d : Nat) : State :=
  if s.mem.wb.contains line then s
  else ({ s with mem := { s.mem with wb := s.mem.wb ++ [line] } }).sendWriteBack line d false

/-- A write-back: the home now holds what the line holds.  To another device it is sent; the line stays, clean and without
ownership, until WB_ACK (R407). -/
def State.writeBack (s : State) (line : Nat) : State :=
  let s := s.takeBack line
  match s.poolLine line, s.homeOf line with
  | some p, .dev d =>
    if d = s.devnum then
      if p.home.isNone then s
      else (s.mendMem line).setPool line { p with home := none }
    else if p.home.isNone then s
    else ({ s with mem := { s.mem with pool := mapSet s.mem.pool line { p with home := none, owned := false } } }).issueWriteBack
      line d
  | _, _ => s

/-- A line leaves the pool cache and every private copy; a modified line's stores are lost (R228).  A write-back already
issued completes (R238). -/
def State.discardLine (s : State) (line : Nat) : State :=
  let s1 := (s.takeBack line).invalidate line none
  match s1.poolLine line with
  | none => s1
  | some p =>
    match p.home with
    | none => s1.erasePool line
    | some (bs, poi) =>
      let s2 := ({ s1 with mem := { s1.mem with cells := cellsWrite s1.mem.cells line bs } }).setPoison line poi
      s2.erasePool line

/-- A line leaves the pool cache after its write-back (R228, FLUSH_INVAL). -/
def State.flushInval (s : State) (line : Nat) : State :=
  ((s.writeBack line).invalidate line none).leavePool line

/-! The eviction buffer at work (R224) -/

/-- One entry of the eviction buffer goes on, once the private copies of its line are gone: a clean line leaves; the write-back
of a modified one is issued, and once issued to this device's memory it is done. -/
def State.evictStep (s : State) (line : Nat) (e : Evict) : State :=
  if !e.presence.isEmpty then s
  else if e.home.isNone && !e.issued then ({ s with mem := { s.mem with evict := mapErase s.mem.evict line } }).erasePool line
  else match e.issued, s.homeOf line with
  | false, .dev d =>
    let s1 := { s with mem := { s.mem with evict := mapSet s.mem.evict line { e with issued := true } } }
    if d = s.devnum then s1 else s1.issueWriteBack line d
  | true, .dev d =>
    if d = s.devnum || !s.mem.wb.contains line then { s with mem := { s.mem with evict := mapErase s.mem.evict line } } else s
  | _, .nowhere => { s with mem := { s.mem with evict := mapErase s.mem.evict line } }

/-- The eviction buffers go on. -/
def State.evictGo (s : State) : State := s.mem.evict.foldl (fun s x => s.evictStep x.1 x.2) s

end Sys2Proof.Machine
end

