-- ==== Sys2Proof/Machine/Range.lean ====
section
/-! DEFINITION. The action on one line of CINV, CFLUSH and the range engine (R228). -/

namespace Sys2Proof.Machine

/-- R228: the operations on lines. -/
inductive LineOp where
  | flush | flushInval | inval | zero
  deriving DecidableEq, Repr

/-- What became of a line: acted on (and whether it was poisoned), skipped as resident, in no home, or awaited
from another device. -/
inductive LineRes where
  | acted (poisoned : Bool)
  | skipped
  | noHome
  | wait
  deriving DecidableEq, Repr

/-- R228: ZERO sets a cached line to zero, and writes zero to the memory behind a line that no cache holds; poison is
cleared.  A clean line of another device's memory, which ownership alone may have brought here, is written back. -/
def State.zeroLine (s : State) (line : Nat) : State :=
  let s1 := s.takeBack line
  let zeros : List Byte := List.replicate 128 0
  if s1.homeOf line == .dev s1.devnum then
    if (s1.poolLine line).isNone then
      ({ s1 with mem := { s1.mem with cells := cellsWrite s1.mem.cells line zeros } }).setPoison line false
    else s1.writeLine (.eng 0) line zeros
  else
    let s2 := s1.writeLine (.eng 0) line zeros
    if (s1.poolLine line).any (fun p => p.home.isNone) then s2.evictLine line else s2

/-- R228: what is done to a line that is here and that no other position holds. -/
def State.lineAct (s : State) (op : LineOp) (line : Nat) : State × LineRes :=
  let p := s.poisoned line
  match op with
  | .flush => let s1 := s.writeBack line
    (s1, if s1.dirtyElsewhere line then .wait else .acted p)
  | .flushInval =>
    if s.dirtyElsewhere line then (s.writeBack line, .wait) else (s.flushInval line, .acted p)
  | .inval => (s.discardLine line, .acted p)
  | .zero => (s.zeroLine line, .acted false)

/-- R228: one line.  A line held by another device is first fetched back through its home (R407); a line of a window that is
being converted is held (R227); an action that takes the line from every cache waits for the acknowledgements of R207.  A
line homed on a lost member counts as acted on, nothing being done to it (DESIGN CHOICE, log entry 116); a poisoned line that
ZERO overwrites is not counted as met (DESIGN CHOICE, log entry 117).  ZERO of a line of the ROM is refused (R490), and the line
lies in no home. -/
def State.lineOp (s : State) (op : LineOp) (line : Nat) : State × LineRes :=
  if !s.sliceUp line then (s.wantGranule line, .wait)
  else if op == .zero && inRom line then (s.romRefused line, .noHome)
  else if s.resident line && op != .zero then (s, .skipped)
  else match s.lineState false (op != .flush) (op == .zero) line with
    | .noHome => (s, .noHome)
    | .lost => (s, .acted false)
    | .rom => (s, .noHome)
    | .ask k d => (s.askLine .dev line k d, .wait)
    | .here =>
      if op = .flush then s.lineAct op line
      else match (s.takeBack line).invalAsk line none with
        | (s1, true) => s1.lineAct op line
        | (s1, false) => (s1, .wait)

end Sys2Proof.Machine
end

