-- ==== Sys2Proof/Machine/Power.lean ====
section
/-! DEFINITION. The power controller: domains (R460), wake credits and the promenade (R462), rails (R458), device
power states (R466), and which blocks have power (R46, R454, R472, R534, R536). -/

namespace Sys2Proof.Machine

/-- R64, R68: an event raised by a block; no rule states its word (log entry 12). -/
def State.raiseBlock (s : State) (src : Nat) : State :=
  s.draw.raise src ((Config.freeWord s.free).toNat % 2 ^ 32)

/-! Domains -/

/-- PWR_DOM_STATUS.STATE (R472). -/
def domOff : Nat := 0
def domQueued : Nat := 1
def domWaking : Nat := 2
def domOn : Nat := 3
def domStopping : Nat := 4
def domFailed : Nat := 5

/-- R462: a core's request covers its pair position, named by its even domain. -/
def domKey (d : Nat) : Nat := if d < 80 then d - d % 2 else d

/-- The domains that act together (R460). -/
def domPeers (d : Nat) : List Nat := if d < 80 then [d - d % 2, d - d % 2 + 1] else [d]

def State.domState (s : State) (d : Nat) : Nat := s.fget F.PWR_DOM_STATUS_STATE 0 d

def State.setDom (s : State) (d v : Nat) : State :=
  (domPeers d).foldl (fun s x => s.fset F.PWR_DOM_STATUS_STATE 0 x v) s

def State.setDomCause (s : State) (d c : Nat) : State :=
  (domPeers d).foldl (fun s x => s.fset F.PWR_DOM_STATUS_CAUSE 0 x c) s

/-- Whether a domain is powered: ON, or STOPPING and not yet off. -/
def State.domPowered (s : State) (d : Nat) : Bool := s.domState d == domOn || s.domState d == domStopping

/-- R460: the wake cost in credits; a core pair's is that of both cores (R462). -/
def domCost (d : Nat) : Nat :=
  if d < 80 then 8
  else if d < 96 then 6
  else if d < 104 then 4
  else if d < 108 then 3
  else if d < 118 then 2
  else if d < 126 then 3
  else 5

/-- R454: the domain that powers a block, if it is not base logic or the always-on island. -/
def blockDomain (b : Nat) : Option Nat :=
  if inRange 0x10 16 b then some (80 + (b - 0x10))
  else if inRange 0x20 8 b then some (96 + (b - 0x20))
  else if inRange 0x31 8 b then some (104 + (b - 0x31) / 2)
  else if inRange 0x50 10 b then some (108 + (b - 0x50))
  else if inRange 0x60 4 b then some (118 + (b - 0x60))
  else if inRange 0x64 4 b then some (122 + (b - 0x64))
  else none

/-- R534: the blocks of the always-on island. -/
def alwaysOn (b : Nat) : Bool := b == 0x01 || b == 0x05 || b == 0x07

/-- R46, R454, R472: whether a register of a block has power. -/
def State.powered (s : State) (b off : Nat) : Bool :=
  if alwaysOn b then true
  else if b = 0x02 && decide (off % 0x80000 < 0x10) then true
  else if !s.pwr.baseOn then false
  else match blockDomain b with
    | some d => s.domPowered d
    | none => true

/-! Events and refusals -/

/-- R472: PWR_EVT raised when a state changes, or a software wake or an OFF completes. -/
def State.pwrEvent (s : State) : State :=
  if s.fbit F.PWR_EVT_EVENT 0 0 then s.raiseBlock (s.fget F.PWR_EVT_SOURCE 0 0) else s

/-- R467, R460: a request or an OFF is refused. -/
def State.pwrRefuse (s : State) (code : Nat) : State :=
  let s1 := (s.fset F.PWR_STATUS_REFUSED 0 0 1).fset F.PWR_STATUS_REFUSE_CODE 0 0 code
  s1.logFault (s1.fault 0x02 0 0x718 1 0 0)

/-- PWR_STATUS.STATE changes. -/
def State.setPwrState (s : State) (v : Nat) : State :=
  if s.fget F.PWR_STATUS_STATE 0 0 = v then s else (s.fset F.PWR_STATUS_STATE 0 0 v).pwrEvent

/-- R466: active becomes idle when the last compute pair goes off, and idle active when one wakes. -/
def State.idleCheck (s : State) : State :=
  let any := (List.range 76).any (fun d => s.domPowered d)
  match s.fget F.PWR_STATUS_STATE 0 0 with
  | 0 => if any then s else s.setPwrState 1
  | 1 => if any then s.setPwrState 0 else s
  | _ => s

/-! The promenade -/

/-- R462: a request enters behind those of its cause and before later causes. -/
def wakeInsert (r : WakeReq) (q : List WakeReq) : List WakeReq :=
  q.takeWhile (fun x => x.cause ≤ r.cause) ++ r :: q.dropWhile (fun x => x.cause ≤ r.cause)

def State.setQueue (s : State) (q : List WakeReq) : State :=
  { s with pwr := { s.pwr with queue := q } }

/-- R462: a wake request.  A queued domain takes the earlier cause; a domain that is on, waking or failed, or whose cores are
marked FAILED (R264), takes none; none is taken during the power-fail sequence (R456). -/
def State.wake (s : State) (dom cause : Nat) : State :=
  let d := domKey dom
  let st := s.domState d
  let marked := decide (d < 80) && ((s.pair (d / 2)).failed0 || (s.pair (d / 2)).failed1)
  if s.pwr.t0.isSome || st == domOn || st == domWaking || st == domFailed || marked then s
  else match s.pwr.queue.find? (fun r => r.dom == d) with
    | some r =>
      if cause < r.cause then
        (s.setQueue (wakeInsert ⟨d, cause⟩ (s.pwr.queue.filter (fun x => x.dom != d)))).setDomCause d cause
      else s
    | none =>
      let s1 := (s.setQueue (wakeInsert ⟨d, cause⟩ s.pwr.queue)).setDomCause d cause
      if st = domStopping then s1 else s1.setDom d domQueued

/-- R473: a queued wake is withdrawn. -/
def State.unwake (s : State) (d : Nat) : State := s.setQueue (s.pwr.queue.filter (fun x => x.dom != d))

/-- R462: the head is granted when the credits cover its cost. -/
def State.grant (s : State) : State :=
  match s.pwr.queue with
  | [] => s
  | r :: rs =>
    let cost := domCost r.dom * 128000
    if s.domState r.dom == domStopping || decide (s.pwr.credits < cost) || s.pwr.t0.isSome then s
    else
      let s1 := { s with pwr := { s.pwr with queue := rs, credits := s.pwr.credits - cost } }
      let s2 := s1.setDom r.dom domWaking
      if r.dom < 80 then s2.modPair (r.dom / 2) (fun p => if p.st == .off then { p with st := .waking } else p) else s2

/-- R462, R455: one nanosecond of refill, halved in brownout. -/
def Pwr.refill (p : Pwr) (rate budget : Nat) (brownout : Bool) : Pwr :=
  { p with credits := min (budget * 128000) (p.credits + (if brownout then rate else 2 * rate)) }

/-! Rails -/

/-- R458: the actual rail of a domain, in 5 mV units; an unpowered domain has none. -/
def State.rail (s : State) (d : Nat) : Nat :=
  if !s.domPowered d then 0
  else
    let set := s.fget F.PWR_DOM_CTL_RAIL 0 d
    let floor := s.fget F.PWR_FLOOR_LEVEL 0 0
    let lims := (if s.fbit F.PWR_STATUS_BROWNOUT 0 0 then [floor] else [])
      ++ s.pwr.thermLimit.toList ++ (if d < 76 then s.pwr.capLimit.toList else [])
    min set (max floor (lims.foldl min set))

/-- The highest set rail among powered domains. -/
def State.topRail (s : State) (ds : List Nat) : Nat :=
  ds.foldl (fun m d => if s.domPowered d then max m (s.fget F.PWR_DOM_CTL_RAIL 0 d) else m) 0

/-- A limit one 10 mV step lower, not below the floor; or higher, gone once it limits nothing (R459). -/
def limitStep (down : Bool) (floor top : Nat) (l : Nat) : Option Nat :=
  if down then some (max floor (l - 2)) else if top ≤ l + 2 then none else some (l + 2)

/-! OFF -/

/-- R460: the codes of a refused OFF. -/
def refBusy : Nat := 1
def refPairsOn : Nat := 2
def refWork : Nat := 3
def refBadDomain : Nat := 4

/-- R460: every level of the cores of a position is inactive or waiting. -/
def State.pairQuiet (s : State) (q : Nat) : Bool :=
  (s.coresAt q).all (fun lc => levelNumbers.all (fun l =>
    ((s.core lc).level l).run == .inactive || ((s.core lc).level l).run == .waiting))

/-- R460: why an OFF is refused, given whether the work condition of its row holds. -/
def State.offRefused (s : State) (d : Nat) (workDone : Bool) : Option Nat :=
  let idle := s.domState d == domOff || s.domState d == domQueued
  if d < 80 then
    let q := d / 2
    if d = 76 || d = 77 then some refBadDomain
    else if idle || ((s.pair q).st == .checked || (s.pair q).st == .split) && s.pairQuiet q then none else some refWork
  else if d < 96 then some refBadDomain
  else if d < 104 then none
  else if d < 108 then (if workDone then none else some refWork)
  else if d < 118 then some refBadDomain
  else if d < 122 then none
  else if d < 126 then (if s.pwr.backing.contains (d - 122) then some refBadDomain else none)
  else some refBadDomain

/-- R460, R473: an accepted OFF: a queued wake is withdrawn, a powered domain begins to stop. -/
def State.domStop (s : State) (d : Nat) : State :=
  let s1 := s.unwake (domKey d)
  match s.domState d with
  | 1 => s1.setDom d domOff
  | 2 => s1.setDom d domStopping
  | 3 => s1.setDom d domStopping
  | _ => s1

/-! Rest and standby (R466 to R469) -/

/-- R467: a power-state request that the device may take now. -/
def State.pairsOn (s : State) : Bool := (List.range 76).any (fun d => s.domPowered d || s.domState d == domWaking)

/-- R467: some level of a compute pair is waiting. -/
def State.anyWaiting (s : State) : Bool :=
  (List.range 64).any (fun lc => levelNumbers.any (fun l => ((s.core lc).level l).run == .waiting))

/-- R397: the ports that rest alone has put in trickle start their return to full width. -/
def State.wakePorts (s : State) : State :=
  (List.range 10).foldl (fun s k =>
    if s.fget F.SHB_STATUS_STATE k 0 == 3 && !s.fbit F.SHB_CTL_TRICKLE k 0 then s.modPort k (fun p => { p with exiting := true }) else s) s

/-- R468: rest ends: DDR5 leaves self-refresh, the engines and Ethernet groups are woken with cause event. -/
def State.endRest (s : State) : State :=
  if s.fget F.PWR_STATUS_STATE 0 0 = 2 then
    ((List.range 8).map (96 + ·) ++ (List.range 4).map (118 + ·)).foldl (fun s d => s.wake d 1) (s.wakePorts.setPwrState 1)
  else s

/-- R468: an access that reaches a memory controller ends rest: to a line homed here that neither resident memory nor the
pool cache holds. -/
def State.mcAccess (s : State) (line : Nat) : State :=
  if s.fget F.PWR_STATUS_STATE 0 0 = 2 && s.homeOf line == .dev s.devnum && !s.resident line && (s.poolLine line).isNone then
    s.endRest
  else s

/-- A line is modified here: in the pool cache, or in the eviction buffer. -/
def State.modifiedHere (s : State) (line : Nat) : Bool :=
  (s.poolLine line).any (fun p => p.home.isSome) || (mapGet? s.mem.evict line).any (fun e => e.home.isSome && !e.issued)

/-- R468: whether an action on a line (R228) reaches a memory controller of this device: the write-back of a modified line, and ZERO
of a line that no cache holds. -/
def State.reachesMc (s : State) (op : LineOp) (line : Nat) : Bool :=
  s.homeOf line == .dev s.devnum && !s.resident line && match op with
    | .flush | .flushInval => s.modifiedHere line
    | .zero => (s.poolLine line).isNone && (mapGet? s.mem.evict line).isNone
    | .inval => false

/-- R468: such an action ends rest. -/
def State.lineAwake (s : State) (op : LineOp) (line : Nat) : State := if s.reachesMc op line then s.endRest else s

/-- R468, R224: a write-back that the eviction buffer issues to this device's memory ends rest. -/
def State.evictAwake (s : State) : State :=
  if s.mem.evict.any (fun x => x.2.home.isSome && !x.2.issued && x.2.presence.isEmpty && s.homeOf x.1 == .dev s.devnum) then s.endRest
  else s

end Sys2Proof.Machine
end

