-- ==== Sys2Proof/Machine/Pairs.lean ====
section
/-! DEFINITION. Pair positions: retry (R254 to R260), containment and cut-in (R261 to R265), split and join (R266 to
R268), the fallback sequencer (R269 to R272), power-off and wake of a pair (R461, R492). -/

namespace Sys2Proof.Machine

/-! Cause codes (R273) and reports -/

def causeMiscompare : Nat := 1
def causeStagger : Nat := 2
def causeInternal : Nat := 3
def causeTimeout : Nat := 4
def causeChecker : Nat := 5
def causeRepeat : Nat := 6
def causeHard : Nat := 7
def causeSoftware : Nat := 8
def causeNoSpare : Nat := 9
def causeCkpt : Nat := 10

/-- The first logical core of a position, 127 for none (R430). -/
def PairPos.logicalCore (p : PairPos) : Nat :=
  match p.logical with
  | some n => 2 * n
  | none => 127

/-- R430, R535: a fault of a pair: cause, logical core, position cut in (63 for none). -/
def State.pairFault (s : State) (q kind cls cause cutTo : Nat) : State :=
  s.logFault (s.fault 0x70 q kind cls 3 (cause + (s.pair q).logicalCore * 2 ^ 8 + cutTo * 2 ^ 16))

/-- R276: a command is refused. -/
def State.pairRefuse (s : State) (q code : Nat) : State :=
  (s.fset F.CORE_PAIR_STATUS_REFUSED (2 * q) 0 1).fset F.CORE_PAIR_STATUS_REFUSE_CODE (2 * q) 0 code

/-- R273: a retry, cut-in or stop of a position carries its cause: in LAST_CAUSE and in CORE_RETRY_LOG (DEDUCED, log
entry 174). -/
def State.putCause (s : State) (q cause : Nat) : State :=
  (s.modPair q (fun p => { p with cause })).fset F.CORE_RETRY_LOG_CAUSE (2 * q) 0 cause

/-- R270: the service pair has a need that the fallback sequencer has not failed at. -/
def State.newNeed (s : State) (q : Nat) : State := if q = 38 ∨ q = 39 then { s with fbs := { s.fbs with gaveUp := false } } else s

/-- R251, R255: a position's CORE_PREF_CTL in force is that of a checkpoint. -/
def State.putPref (s : State) (q : Nat) (w : Word) : State := s.setActing .CORE_PREF_CTL (2 * q) 0 w

/-- R235, R261: the CORE_PREF_CTL of position `q`, in force and staged, becomes that of position `r`. -/
def State.movePref (s : State) (q r : Nat) : State :=
  let s1 := s.putPref r (s.acting .CORE_PREF_CTL (2 * q) 0)
  { s1 with io := { s1.io with held := mapSet s1.io.held (regKey .CORE_PREF_CTL (2 * r) 0) (s.heldWord .CORE_PREF_CTL (2 * q) 0) } }

/-- R240: the messages of merged stores that a restart finds are tokens again. -/
def State.againMerged (s : State) (q : Nat) : State :=
  (s.coresAt q).foldl (fun s lc => ((s.core lc).acts.filterMap (fun a => a.2.merged?)).foldl (fun s m =>
    s.pushToken lc (.faultMsg m true)) s) s

/-- Cores of a position return to their checkpoints (R255); invalidations for them are applied directly (R256). -/
def State.rollbackCores (s : State) (q : Nat) (deep : Bool) (lcs : List Nat) : State :=
  let s1 := lcs.foldl (fun s lc => s.modCore lc (fun c => c.rollback deep)) (s.applyInvals q)
  let s2 := match lcs with
    | lc :: _ => s1.putPref q (s1.core lc).ckpt.pref
    | [] => s1
  s2.modPair q (fun p => { p.noTokens with notices := [], atSplit := false })

def State.rollbackAt (s : State) (q : Nat) (deep : Bool) : State := s.rollbackCores q deep (s.coresAt q)

/-- R275: what the images of the cores of a position read from now on. -/
def State.imagesOf (s : State) (q : Nat) : List Image :=
  (s.coresAt q).map (fun lc =>
    { lc, arch := (s.core lc).ckpt, queued := levelNumbers.map (fun l => ((s.core lc).queue l).length), coreId := s.coreId lc })

/-- R258, R263: the logical pair stops at its checkpoint; events not acknowledged stay pending (R68, R241). -/
def State.stopPair (s : State) (q cause : Nat) : State :=
  let s0 := s.rollbackAt q false
  let s1 := ((s0.putCause q cause).newNeed q).modPair q (fun p => { p with
    st := .stopped, need := none, cutTo := none, splitReq := none, joinReq := false, restarts := [], image := s0.imagesOf q })
  let s2 := (s0.coresAt q).foldl (fun s lc => s.returnQueues lc) s1
  (s2.pairFault q 0x102 3 cause 63).refreshAbsent

/-- R261 step 1, R265: the comparator reports the need for a cut-in of a compute pair: the collector raises the notice of
class C2, and the record is written at step 7 (DEDUCED, log entry 118). -/
def State.reportNeed (s : State) (q : Nat) : State :=
  if q = 38 ∨ q = 39 then s
  else
    let (s1, evs) := s.notice 0xF02 s.flt.next
    evs.foldl (fun s e => s.raise e.1 e.2) s1

/-- R257, R261: the position is contained and needs a cut-in.  An accepted SPLIT or JOIN that has not been carried out is
dropped (DESIGN CHOICE, log entry 119). -/
def State.contain (s : State) (q cause : Nat) : State :=
  ((((s.applyInvals q).putCause q cause).newNeed q).modPair q (fun p => { p with
    st := .cuttingIn, need := some cause, splitReq := none, joinReq := false, atSplit := false, restarts := [] }.noTokens)).reportNeed q

/-! Retry -/

/-- A failure of a position: its cause, the kind of token held (R276), the partner that found it, the FIFO slot, the slot
of an uncorrectable entry seen beside a checker fault (R277), and whether a self-check calls it permanent. -/
structure Failure where
  cause : Nat
  token : Nat
  partner : Nat
  slot : Nat
  slotSeen : Option Nat
  permanent : Bool
  deriving DecidableEq, Repr

/-- A moment within the last 1 ms. -/
def State.recent (s : State) (t : Nat) : Bool := decide (s.now < t + 1000000)

/-- CORE_RETRY_LOG (R276). -/
def State.logFailure (s : State) (q : Nat) (f : Failure) : State :=
  let u := 2 * q
  ((((s.fset F.CORE_RETRY_LOG_VALID u 0 1).fset F.CORE_RETRY_LOG_CAUSE u 0 f.cause).fset
    F.CORE_RETRY_LOG_TOKEN u 0 f.token).fset F.CORE_RETRY_LOG_PARTNER u 0 f.partner).fset
    F.CORE_RETRY_LOG_SLOT u 0 (f.slotSeen.getD f.slot)

/-- R257, R259, R260: whether a failure is hard: permanent, recurring at one checkpoint on two retries in a row, a
second checker fault, or a stagger fault at the same slot, within 1 ms. -/
def State.isHard (s : State) (q : Nat) (f : Failure) (recurs : Nat) : Bool :=
  let p := s.pair q
  f.permanent || decide (2 ≤ recurs) || (f.cause == causeChecker && p.checkers.any s.recent)
    || (f.cause == causeStagger && p.staggers.any (fun x => s.recent x.1 && x.2 == f.slot))

/-- The checkpoint PC of a core, as CORE_RETRY_PC shows it: that of the most urgent level that runs, of level 7 where none
does (DESIGN CHOICE, log entry 120). -/
def Core.ckptPc (c : Core) : Word :=
  match levelNumbers.find? (fun l => (c.ckpt.level l).run == .active) with
  | some l => (c.ckpt.level l).pc
  | none => (c.ckpt.level 7).pc

/-- R267: the cores of a split position fail and retry on their own. -/
def PairPos.apart (p : PairPos) : Bool := p.st == .split || p.joinReq

/-- The failures kept of the core that failed (R267), or of the pair. -/
def PairPos.hist (p : PairPos) (partner : Nat) : FailHist := if p.apart && partner == 1 then p.hist1 else p.hist0
def PairPos.setHist (p : PairPos) (partner : Nat) (h : FailHist) : PairPos :=
  if p.apart && partner == 1 then { p with hist1 := h } else { p with hist0 := h }

/-- R267: the logical cores that a failure returns to their checkpoints. -/
def State.failingCores (s : State) (q partner : Nat) : List Nat :=
  if (s.pair q).apart then ((s.coresAt q).drop partner).take 1 else s.coresAt q

/-- R255: the retry itself; its cores stand at their checkpoints, and run again at the next tick (DESIGN CHOICE, log entry 53). -/
def State.doRetry (s : State) (q : Nat) (f : Failure) : State :=
  let u := 2 * q
  let h := (s.pair q).hist f.partner
  let lcs := s.failingCores q f.partner
  let h1 : FailHist := { h with
    retries := h.retries.filter s.recent ++ (if f.cause = causeChecker then [] else [s.now])
    every := h.every.filter s.recent ++ [s.now] }
  let s1 := (s.rollbackCores q (h.every.any s.recent) lcs).modPair q (fun p => { p.setHist f.partner h1 with cause := f.cause, restarts := lcs })
  let s2 := ((s1.fset F.CORE_PAIR_STATUS_RETRY_EVT u 0 1).fcount F.CORE_RETRY_COUNT_RETRIES u 0 1).fset
    F.CORE_RETRY_PC_PC u 0 (s.core (lcs.headD 127)).ckptPc.toNat
  s2.pairFault q 0x100 1 f.cause 63

/-- R257: how often in a row a failure has recurred, with the same cause at the same checkpoint. -/
def FailHist.recurs (h : FailHist) (cause ckpt : Nat) : Nat :=
  match h.last with
  | some (c, k, n) => if c = cause ∧ k = ckpt then n + 1 else 0
  | none => 0

/-! The fallback sequencer's call (R270, R271) -/

/-- R393: an SVC message of this device: subkind, EPOCH and body bytes from byte 8 on. -/
def State.svcMsg (s : State) (dst sub : Nat) (body : List Byte) : Msg :=
  { kind := 0x34, src := s.devnum, mkind := 6, unit := 0, inst := 0, dst, poison := false, promoted := false, tag := 0,
    addr := 0,
    data := ((natToBytes 4 sub ++ natToBytes 4 (s.fget F.DEV_IMG_STATE_EPOCH 0 0) ++ body)
      ++ List.replicate 64 0).take 64 }

/-- R270: the caller, or the standby where this device is the caller. -/
def State.alertTo (s : State) : Nat :=
  let c := s.fget F.DEV_IMG_STATE_ACTING_CALLER 0 0
  if c = s.devnum && s.fbit F.DEV_IMG_CFG_STANDBY_EN 0 0 then s.fget F.DEV_IMG_CFG_STANDBY 0 0 else c

/-- R270, R271: the sequencer fails, or its watchdog expires: DEV_ALERT_N, an ALERT, CALLER_NEEDED, a C3 fault naming
the service pair concerned. -/
def State.callerNeeded (s : State) (reason q : Nat) : State :=
  let s1 := ((s.fset F.FBS_STATUS_CALLER_NEEDED 0 0 1).fset F.FBS_STATUS_REASON 0 0 reason)
  let s2 := if reason = 2 then s1 else s1.fset F.FBS_STATUS_STATE 0 0 3
  let s3 : State := { s2 with fbs := if reason = 2 then { s2.fbs with timing := false, acted := true, answered := false }
    else { s2.fbs with gaveUp := true, answered := false } }
  let s4 := State.alertEdge s s3
  let d := s4.alertTo
  let s5 := if d = s4.devnum || !s4.isMember d then s4 else s4.send (s4.svcMsg d 7 (natToBytes 1 reason))
  s5.logFault (s5.fault 0x07 0 0x701 3 3 (reason + q * 2 ^ 16))

/-! Cut-in -/

/-- R68, R242: the events of a core's input buffer return to the cue unit; what else waits in it stays. -/
def State.returnInbox (s : State) (lc : Nat) : State :=
  let evs := (s.core lc).inboxEvents
  let s1 := s.modCore lc (fun c => { c with inbox := c.inbox.filter (fun i => !i.isEvent) })
  evs.foldl (fun s e => { s with cue := s.cue.putBack e.2 }) s1

/-- R27: the spare positions of the role of a position. -/
def sparesOf (q : Nat) : List Nat := if q = 38 ∨ q = 39 then [39] else [32, 33, 34, 35, 36, 37]

/-- A spare position that is free: no logical number, not failed, not being cut in for another. -/
def State.spareFree (s : State) (r : Nat) : Bool :=
  let p := s.pair r
  p.logical.isNone && !p.failed0 && !p.failed1 && p.st != .failed && s.domState (2 * r) != domFailed
    && !positions.any (fun q => (s.pair q).cutTo == some r)

def State.freeSpare (s : State) (q : Nat) : Option Nat := (sparesOf q).find? s.spareFree

/-- R207, R261 step 6: the presence bits of a position are cleared. -/
def State.clearPresence (s : State) (q : Nat) : State :=
  { s with mem := { s.mem with
    pool := s.mem.pool.map (fun (k, p) => (k, { p with presence := p.presence.filter (· != q) })),
    evict := s.mem.evict.map (fun (k, e) => (k, { e with presence := e.presence.filter (· != q) })) } }

/-- R261 steps 4 to 7: the spare `r`, awake, takes the logical pair of `q` with its checkpoint and log. -/
def State.cutinDone (s : State) (q r : Nat) : State :=
  let p := s.pair q
  let cause := p.need.getD causeSoftware
  let s1 := (s.coresAt q).foldl (fun s lc => s.modCore lc (fun c => { c with stopped := false })) (s.rollbackAt q true)
  let img := s1.imagesOf q
  let split := match p.logical with
    | some n => s.isSplit n
    | none => false
  let s2 := (s1.pairFault q 0x101 2 cause r).clearPresence q
  let s3 := s2.modPair r (fun x => { x with
    logical := p.logical, st := if split then .split else .checked, single := split, fifo := [], owed := [], restarts := [], notices := [],
    hist0 := FailHist.reset, hist1 := FailHist.reset, checkers := [], staggers := [] })
  let s4 := s3.modPair q (fun x => { x with
    logical := none, st := .failed, failed0 := true, failed1 := true, need := none, cutTo := none, cause, image := img,
    fifo := [], owed := [], single := false })
  let s5 := (((s4.movePref q r).againMerged r).setDom (2 * q) domOff).fset F.CORE_PAIR_STATUS_CUTIN_EVT (2 * r) 0 1
  let s6 := if r = 39 then (s5.fset F.FBS_STATUS_STATE 0 0 2).fset F.FBS_STATUS_SPARE_USED 0 0 1 else s5
  s6.refreshAbsent.idleCheck

/-- A cut-in whose old position is contained and whose spare is awake and tested goes through; in the power-fail sequence the pair
stays contained (R473). -/
def State.tryCutin (s : State) (q : Nat) : State :=
  match (s.pair q).cutTo with
  | some r =>
    if s.pwr.t0.isNone && (s.pair q).st == .cuttingIn && s.domState (2 * r) == domOn && (s.pair r).tested then s.cutinDone q r else s
  | none => s

/-- R254 to R260, R267: a failure of a position: a stop, a containment, or a retry.  A checkpoint that cannot be read comes first,
and a failure that is both hard and the fourth is HARD (DESIGN CHOICE, log entry 153).  A spare that a planned cut-in has woken takes a
contained pair at once (R261). -/
def State.pairFail (s : State) (q : Nat) (f : Failure) : State :=
  let p := s.pair q
  if !(p.checks || (p.apart && !(s.failingCores q f.partner).any p.restarts.contains)) then s
  else
    let h := p.hist f.partner
    let ckpt := ((s.failingCores q f.partner).map (fun lc => (s.core lc).commits)).sum
    let hard := s.isHard q f (h.recurs f.cause ckpt)
    let full := f.cause != causeChecker && decide (3 ≤ (h.retries.filter s.recent).length)
    let slots := (if f.cause = causeStagger then [(s.now, f.slot)] else []) ++ (f.slotSeen.map (fun k => (s.now, k))).toList
    let s1 := (s.logFailure q f).modPair q (fun p => { p.setHist f.partner { h with last := some (f.cause, ckpt, h.recurs f.cause ckpt) } with
      checkers := p.checkers.filter s.recent ++ (if f.cause = causeChecker then [s.now] else [])
      staggers := p.staggers.filter (fun x => s.recent x.1) ++ slots })
    let s2 := if f.cause = causeChecker then s1.fcount F.CORE_RETRY_COUNT_CHECKER (2 * q) 0 1 else s1
    if p.ckptBad then s2.stopPair q causeCkpt
    else if hard then (s2.contain q causeHard).tryCutin q
    else if full then (s2.contain q causeRepeat).tryCutin q
    else s2.doRetry q f

/-- A cut-in towards `r` begins: the spare is woken with cause recovery.  The fallback sequencer carries out the one of
the service pair (R269), planned or not, with REASON 1. -/
def State.cutinBegin (s : State) (q r : Nat) : State :=
  let s1 := if r = 39 then (s.fset F.FBS_STATUS_STATE 0 0 1).fset F.FBS_STATUS_REASON 0 0 1 else s
  ((s1.modPair q (fun p => { p with cutTo := some r })).wake (2 * r) 0).tryCutin q

/-- R262: the planned cut-in has failed: the pair resumes from its checkpoint, or, not yet contained, runs on. -/
def State.plannedFails (s : State) (q : Nat) : State :=
  let split := match (s.pair q).logical with
    | some n => s.isSplit n
    | none => false
  let s1 := if (s.pair q).st == .cuttingIn then
      ((s.rollbackAt q false).modPair q (fun p => { p with st := if split then .split else .checked })).againMerged q
    else s
  ((s1.newNeed q).modPair q (fun p => { p with need := none })).pairRefuse q 5

/-- R262, R263, R270: the spare of a cut-in failed: the next free one is tried; with none, the pair stops, or, for a planned
cut-in, resumes. -/
def State.nextSpare (s : State) (q : Nat) : State :=
  let s1 := s.modPair q (fun p => { p with cutTo := none })
  match s1.freeSpare q with
  | some r => s1.cutinBegin q r
  | none =>
    let s2 := if q = 38 ∨ q = 39 then s1.callerNeeded 4 q else s1
    if (s1.pair q).need = some causeSoftware then s2.plannedFails q
    else if q = 38 ∨ q = 39 then s2
    else s2.stopPair q causeNoSpare

/-- R262: a planned cut-in contains its pair once every core of it is at a commit. -/
def State.plannedContain (s : State) (q : Nat) : State :=
  let p := s.pair q
  if p.planned && (p.checks || p.st == .split) && (s.coresAt q).all (fun lc => (s.core lc).atCommit) then
    (((s.applyInvals q).putCause q causeSoftware).modPair q (fun p => { p with
      st := .cuttingIn, splitReq := none, joinReq := false, atSplit := false, restarts := [] }.noTokens)).tryCutin q
  else s

/-- R262: a core has committed. -/
def State.afterCommit (s : State) (lc : Nat) : State :=
  match s.posOf lc with
  | some q => s.plannedContain q
  | none => s

/-- R276: a command of a position is in progress. -/
def PairPos.busy (p : PairPos) : Bool :=
  p.cutTo.isSome || p.splitReq.isSome || p.joinReq || !p.restarts.isEmpty || (p.need == some causeSoftware)

/-- R261, R262, R276: CORE_PAIR_CTL.CUTIN. -/
def State.cmdCutin (s : State) (q spare : Nat) : State :=
  let p := s.pair q
  if p.busy then s.pairRefuse q 2
  else if !(p.checks || p.st == .split || p.st == .cuttingIn) || p.logical.isNone then s.pairRefuse q 3
  else match s.freeSpare q with
    | none =>
      if p.need.isNone then s.pairRefuse q 5
      else if q = 38 ∨ q = 39 then s.callerNeeded 3 q
      else s.stopPair q causeNoSpare
    | some low =>
      let r := if spare = 0xFF then low else spare / 2
      if spare ≠ 0xFF ∧ (spare % 2 = 1 ∨ ¬ (sparesOf q).contains r ∨ ¬ s.spareFree r) then s.pairRefuse q 6
      else
        let c := p.need.getD causeSoftware
        ((s.modPair q (fun p => { p with need := some c, cause := c })).cutinBegin q r).plannedContain q

/-! Split, join, retire -/

/-- R266, R30: CORE_PAIR_CTL.SPLIT. -/
def State.cmdSplit (s : State) (q : Nat) : State :=
  let p := s.pair q
  if p.busy then s.pairRefuse q 2
  else if p.logical = some 38 then s.pairRefuse q 1
  else if p.st != .checked || p.logical.isNone then s.pairRefuse q 3
  else if s.fget F.CORE_SPLIT_LEVEL_LEVEL (2 * q) 0 = 0 then s.pairRefuse q 7
  else s.modPair q (fun p => { p with
    st := .switching
    splitReq := some (s.fget F.CORE_SPLIT_LEVEL_LEVEL (2 * q) 0, s.acting .CORE_SPLIT_PC (2 * q) 0) })

/-- R266 step 4: core 2n + 1 as it begins. -/
def splitArch (a : Arch) (level : Nat) (pc : Word) : Arch :=
  let levels := levelNumbers.map (fun l =>
    let v := a.level l
    let v1 := { v with run := .inactive, waitLen := 0, ops := [], fpSave := setFld v.fpSave 0 1 0 }
    (l, if l = level then { v1 with run := .active, pc, sw := swEvent v1.sw, evtCurrent := 0 } else v1))
  { a with levels, lvlCtl := setFld (setFld a.lvlCtl 8 4 8) 13 1 0, fpSaved := false }

/-- R266: the leading partner goes on alone: the answer to an IN or a CAS that has come completes it, the lines it asked for are
prefetches from now on, and its events return to the cue unit. -/
def State.unpaired (s : State) (lc : Nat) : State :=
  let s1 := s.modCore lc (fun c => c.inbox.foldl (fun c i => match i with
    | .answer v => c.ioAnswer v
    | _ => c) { c with awaited := c.awaited.map (fun a => { a with demand := false }), given := [], stalls := false })
  (s1.returnInbox lc).modCore lc (fun c => { c with inbox := [] })

/-- R266 steps 2 to 5, the pair's groups having committed: logical core 2n + 1 begins. -/
def State.splitNow (s : State) (q n level : Nat) (pc : Word) : State :=
  let c := ((s.applyInvals q).unpaired (2 * n)).core (2 * n)
  let a := splitArch (s.core (2 * n)).arch level pc
  let c1 : Core := { Core.reset with arch := a, ckpt := a, fcwIss := a.fcw, priv := c.priv, split := true }
  let s1 := (((s.applyInvals q).unpaired (2 * n)).setCore (2 * n) { c with split := true }).setCore (2 * n + 1) c1
  let s2 := s1.modPair q (fun p => { p with st := .split, splitReq := none, atSplit := false, single := true, fifo := [], owed := [], hist1 := FailHist.reset })
  (s2.fset F.CORE_PAIR_STATUS_SPLIT_DONE (2 * q) 0 1).refreshAbsent

/-- R268: CORE_PAIR_CTL.JOIN. -/
def State.cmdJoin (s : State) (q : Nat) : State :=
  let p := s.pair q
  if p.busy then s.pairRefuse q 2
  else match p.logical with
    | none => s.pairRefuse q 3
    | some n =>
      if p.st != .split then s.pairRefuse q 3
      else if levelNumbers.any (fun l => ((s.core (2 * n + 1)).level l).run == .active
          || ((s.core (2 * n + 1)).level l).run == .frozen) then s.pairRefuse q 4
      else ((s.modPair q (fun p => { p with st := .switching, joinReq := true })).returnQueues (2 * n + 1)).refreshAbsent

/-- R268 steps 3 to 6, core 2n having committed. -/
def State.joinNow (s : State) (q n : Nat) : State :=
  let s1 := s.modCore (2 * n) (fun c => { c with priv := Priv.reset, split := false, retired := 0, due := false, released := none, issuedAt := none })
  let s2 := { s1 with cores := mapErase s1.cores (2 * n + 1) }
  let s3 := (s2.modPair q (fun p => { p with st := .checked, joinReq := false, single := false, fifo := [], owed := [], notices := [] })).clearPresence q
  (s3.fset F.CORE_PAIR_STATUS_JOIN_DONE (2 * q) 0 1).refreshAbsent

/-- R263, R276: CORE_PAIR_CTL.RETIRE. -/
def State.cmdRetire (s : State) (q : Nat) : State :=
  let p := s.pair q
  if p.busy then s.pairRefuse q 2
  else if p.st != .stopped then s.pairRefuse q 3
  else
    let s1 := s.modPair q (fun p => { p with st := .failed, logical := none, failed0 := true, failed1 := true })
    (s1.setDom (2 * q) domOff).idleCheck

/-- R276: a write of CORE_PAIR_CTL: more than one command is refused with MULTIPLE.  Of several refusals that apply, the code is
that of the first of MULTIPLE, BUSY and the command's own; a SPLIT's own are WRONG_ROLE, WRONG_STATE, BAD_LEVEL, a JOIN's
WRONG_STATE, NOT_IDLE, a CUTIN's WRONG_STATE, NO_SPARE, BAD_SPARE, in this order (DESIGN CHOICE, log entry 154). -/
def State.pairCommand (s : State) (q : Nat) (w : Word) : State :=
  match fld w 0 4 with
  | 0 => s
  | 1 => s.cmdSplit q
  | 2 => s.cmdJoin q
  | 4 => s.cmdCutin q (fld w 8 8)
  | 8 => s.cmdRetire q
  | _ => s.pairRefuse q 8

/-! Power -/

/-- R461, R492: a position has woken and its test has ended: a spare being cut in takes its pair, a position with a
logical number loads its checkpoint and runs.  The core that fails its test, 2q + 1 where `odd`, is marked FAILED; the logical pair
of its position waits for the CUTIN that gives it to a spare, or, where none is free, does not exist. -/
def State.pairAwake (s : State) (q : Nat) (pass odd : Bool) : State :=
  let client := positions.find? (fun x => (s.pair x).cutTo == some q)
  if pass then
    let s1 := s.modPair q (fun p => { p with tested := true })
    match client with
    | some x => (s1.modPair q (fun p => { p with st := .checked })).tryCutin x
    | none =>
      let split := match (s1.pair q).logical with
        | some n => s1.isSplit n
        | none => false
      (((s1.rollbackAt q true).modPair q (fun p => { p with st := if split then .split else .checked })).againMerged q).idleCheck
  else
    let s0 := (s.modPair q (fun p => { p with tested := false, failed0 := p.failed0 || !odd, failed1 := p.failed1 || odd })).setDom
      (2 * q) domFailed
    let s1 := s0.pairFault q 0x102 3 causeHard 63
    match client with
    | some x => ((s1.putCause q causeHard).modPair q (fun p => { p with st := .failed })).nextSpare x
    | none =>
      if (s1.pair q).logical.isSome && (s1.freeSpare q).isSome then s1.contain q causeHard
      else
        let img := s1.imagesOf q
        let s2 := (s1.coresAt q).foldl (fun s lc => s.returnQueues lc) s1
        (s2.modPair q (fun p => { p with st := .failed, cause := causeHard, logical := none, image := img })).refreshAbsent

/-- R461, R242: a committed position goes off; its checkpoint slot keeps its state, and a request that has been released stays
outstanding. -/
def State.pairOff (s : State) (q : Nat) : State :=
  let s1 := (s.coresAt q).foldl (fun s lc => (s.returnInbox lc).modCore lc (fun c =>
    { c with priv := Priv.reset, awaited := c.awaited.filter (·.released), given := [] })) (s.applyInvals q)
  (s1.modPair q (fun p => { p with st := .off, restarts := [], tested := false })).clearPresence q

end Sys2Proof.Machine
end

