-- ==== Sys2Proof/Machine/Safe.lean ====
section
/-! DEFINITION. Staged, held and captured values of class S and G fields taking force (R21 to R26), and deficit
round-robin (R379). -/

namespace Sys2Proof.Machine

/-- A word with the fields of a class taken from another. -/
def mergeFields (c : ChangeClass) (r : RegName) (base new : Word) : Word :=
  (regFields r).foldl (fun w f => if f.cls == c then setFld w f.lo f.width (fld new f.lo f.width) else w) base

/-- R18, R21: the staged values of a register take force. -/
def State.takeStaged (s : State) (r : RegName) (u k : Nat) : State :=
  match mapGet? s.io.held (regKey r u k) with
  | none => s
  | some w => s.setActing r u k (mergeFields .staged r (s.acting r u k) w)

/-- Firmware writes a live or staged field, and the value is in force before it goes on: what is staged of the field gives way
to it. -/
def State.putField (s : State) (f : FieldRef) (u k v : Nat) : State :=
  let key := regKey f.reg u k
  let s1 := s.fset f u k v
  match mapGet? s1.io.held key with
  | some w => { s1 with io := { s1.io with held := mapSet s1.io.held key (setFld w f.lo f.width v) } }
  | none => s1

/-- The registers of an array that hold a value other than at reset. -/
def State.listedOf (s : State) (r : RegName) : List Nat :=
  let p := regPlace r
  (s.io.force.filter (fun x => inRange (p.blk * 2 ^ 20 + p.off) (8 * p.count) x.1)).map
    (fun x => (x.1 - (p.blk * 2 ^ 20 + p.off)) / 8)

/-- Whether an I/O key belongs to a block. -/
def inBlock (b key : Nat) : Bool := key / 2 ^ 20 == b

/-- R17: staged and held values of a block that have not taken effect are discarded. -/
def State.discardHeld (s : State) (b : Nat) : State :=
  { s with io := { s.io with
      held := s.io.held.filter (fun x => !inBlock b x.1)
      captured := s.io.captured.filter (fun c => c.blk != b)
      dirty := s.io.dirty.filter (fun x => x.1 != b) } }

/-- R17, R439, R45: the reset of a block is under way, and its shadow is open; `byFlt`: FLT_RESET started it. -/
def State.openReset (s : State) (b : Nat) (byFlt : Bool) : State :=
  let s1 := s.discardHeld b
  { s1 with flt := { s1.flt with
      resets := s1.flt.resets ++ [(b, byFlt)]
      shadows := s1.flt.shadows ++ [⟨b, false⟩] } }

/-! Commit groups (R23 to R26) -/

/-- The registers of a commit group of a block, and none where the number names no group (R227, R322, R365, R387, R472). -/
def groupRegs (blk g : Nat) : List (RegName × Nat) :=
  if blk = 0x10 then (if g = 1 then [(.PCS_RES_BASE, 0), (.PCS_RES_WAYS, 0)] else [])
  else if blk = 0x02 then (if g = 1 then [(.PWR_WAKE_BUDGET, 0), (.PWR_WAKE_REFILL, 0)] else [])
  else if blk = 0x28 then
    if g = 1025 then [(.TRS_SVC_BASE, 0), (.TRS_SVC_CTL, 0)]
    else if 1 ≤ g ∧ g ≤ 1024 then [(.TRS_Q_BASE, g - 1), (.TRS_Q_CTL, g - 1)] else []
  else if blk = 0x30 then
    if g = 1 then [(.XCH_TGT_BASE, 0), (.XCH_TGT_CTL, 0)]
    else if 2 ≤ g ∧ g ≤ 4097 then [(.XCH_RQ_BASE, g - 2), (.XCH_RQ_CTL, g - 2)]
    else if 4098 ≤ g ∧ g ≤ 8193 then [(.XCH_CQ_BASE, g - 4098), (.XCH_CQ_CTL, g - 4098)] else []
  else if blk = 0x71 then (if 1 ≤ g ∧ g ≤ 1024 then [(.INST_XRANGE, g - 1), (.INST_KEYS, g - 1)] else [])
  else []

/-- The block and commit group of a register with class G fields. -/
def regGroup : RegName → Nat → Option (Nat × Nat)
  | .PCS_RES_BASE, _ | .PCS_RES_WAYS, _ => some (0x10, 1)
  | .PWR_WAKE_BUDGET, _ | .PWR_WAKE_REFILL, _ => some (0x02, 1)
  | .TRS_Q_BASE, k | .TRS_Q_CTL, k => some (0x28, k + 1)
  | .TRS_SVC_BASE, _ | .TRS_SVC_CTL, _ => some (0x28, 1025)
  | .XCH_TGT_BASE, _ | .XCH_TGT_CTL, _ => some (0x30, 1)
  | .XCH_RQ_BASE, k | .XCH_RQ_CTL, k => some (0x30, k + 2)
  | .XCH_CQ_BASE, k | .XCH_CQ_CTL, k => some (0x30, k + 4098)
  | .INST_XRANGE, k | .INST_KEYS, k => some (0x71, k + 1)
  | _, _ => none

/-- Whether a commit of a group waits for its safe point. -/
def State.groupWaits (s : State) (blk g : Nat) : Bool := s.io.captured.any (fun c => c.blk == blk && c.group == g)

/-- R23, R24: a commit of a group waits with these values; the commits before it wait too. -/
def State.capture (s : State) (blk g : Nat) (ws : List Word) : State :=
  { s with io := { s.io with
      captured := s.io.captured ++ [⟨blk, g, ws⟩]
      dirty := s.io.dirty.filter (· != (blk, g)) } }

/-- Firmware writes the registers of a group and commits it. -/
def State.commitValues (s : State) (blk g : Nat) (ws : List Word) : State :=
  ({ s with io := { s.io with
      held := ((groupRegs blk g).zip ws).foldl (fun m (x : (RegName × Nat) × Word) => mapSet m (regKey x.1.1 0 x.1.2) x.2) s.io.held } }).capture blk g ws

/-- R23: captured values of a group take force. -/
def State.takeGroup (s : State) (blk g : Nat) (ws : List Word) : State :=
  ((groupRegs blk g).zip ws).foldl (fun s x =>
    s.setActing x.1.1 0 x.1.2 (mergeFields .grouped x.1.1 (s.acting x.1.1 0 x.1.2) x.2)) s

/-- Whether two ranges (first, count) overlap. -/
def overlaps (a b : Nat × Nat) : Bool := decide (0 < a.2) && decide (0 < b.2) && decide (a.1 < b.1 + b.2) && decide (b.1 < a.1 + a.2)

/-- R387: a captured range overlaps that of another present instance. -/
def State.rangeClash (s : State) (n : Nat) (x k : Word) : Bool :=
  let range (w : Word) : Nat × Nat := (fld w 0 12, fld w 16 13)
  (s.listedOf .INST_CTL).any (fun m => m != n && s.fbit F.INST_CTL_PRESENT 0 m &&
    (overlaps (range x) (range (s.acting .INST_XRANGE 0 m))
      || overlaps (range k) (range (s.acting .INST_KEYS 0 m))))

/-- The SIZE_LOG2 of a queue or ring is 4 to 16 (R322, R365). -/
def sizeOk (w : Word) : Bool := decide (4 ≤ fld w 0 5) && decide (fld w 0 5 ≤ 16)

/-- R365: the instance test of a request ring's commit. -/
def State.rqClash (s : State) (base w : Word) : Bool :=
  fld base 12 40 != 0
    && fld w 8 10 != fld (s.acting .XCH_CQ_CTL 0 (fld w 20 12)) 32 10

/-- R365: the instance test of a completion ring's commit. -/
def State.cqClash (s : State) (c : Nat) (base w : Word) : Bool :=
  let n := fld w 32 10
  fld base 12 40 != 0
    && (s.listedOf .XCH_RQ_BASE).any (fun r => fld (s.acting .XCH_RQ_BASE 0 r) 12 40 != 0
      && fld (s.acting .XCH_RQ_CTL 0 r) 20 12 == c && fld (s.acting .XCH_RQ_CTL 0 r) 8 10 != n)

/-- Whether the block refuses captured values of a group: of its first register and of its second (R227, R322, R365, R387,
R465). -/
def State.groupBad (s : State) (blk g : Nat) (ws : List Word) : Bool :=
  let w1 := ws.getD 0 0
  let w2 := ws.getD 1 0
  if blk = 0x10 then decide (8 < fld w2 0 4)
  else if blk = 0x02 then !inRange 16 113 (fld w1 0 8) || !inRange 16 49 (fld w2 0 7)
  else if blk = 0x28 then !sizeOk w2
  else if blk = 0x30 then
    if g = 1 then false
    else if g ≤ 4097 then !sizeOk w2 || s.rqClash w1 w2
    else !sizeOk w2 || s.cqClash (g - 4098) w1 w2
  else if blk = 0x71 then s.rangeClash (g - 1) w1 w2
  else false

/-- COMMIT_REFUSED: a commit has no effect, the values stay held (R535). -/
def State.commitRefused (s : State) (blk g : Nat) : State := s.logFault (s.fault blk 0 0x008 1 3 g)

/-- R23, R24: the commits of a group that wait, at their one safe point: each that the block refuses is reported, and of the
others the last prevails. -/
def State.resolve (s : State) (blk g : Nat) : State × Option (List Word) :=
  let mine := s.io.captured.filter (fun c => c.blk == blk && c.group == g)
  let s0 := { s with io := { s.io with captured := s.io.captured.filter (fun c => !(c.blk == blk && c.group == g)) } }
  mine.foldl (fun x c => if x.1.groupBad blk g c.words then (x.1.commitRefused blk g, x.2) else (x.1, some c.words)) (s0, none)

/-- A committed group at its safe point: refused, or in force together, followed by what the block does then. -/
def State.commitActs (s : State) (blk g : Nat) (andThen : State → State) : State :=
  match s.resolve blk g with
  | (s1, some ws) => andThen (s1.takeGroup blk g ws)
  | (s1, none) => s1

/-! Deficit round-robin (R379) -/

/-- How far `i` lies after the instance last served. -/
def rrDist (last i : Nat) : Nat := (i + 1024 - last - 1) % 1024

/-- How many visits instance `i` needs until its deficit is above zero. -/
def visitsNeeded (d : Int) (quantum : Nat) : Nat :=
  if 0 ≤ d then 1 else ((-d).toNat / (max 1 quantum)) + 1

/-- R379: the instance that is served next among those with work, and the scheduler after its visits: the visit that
goes on, if its instance has work and a deficit above zero, else the first in order whose deficit its visits raise
above zero, each earlier visit counted.  `keep`: the instances whose work is still awaited. -/
def Sched.next (c : Sched) (quantum : Nat → Nat) (keep : Nat → Bool) (work : List Nat) : Option (Nat × Sched) :=
  let def_ (i : Nat) : Int := mapGet 0 c.deficit i
  let fresh : Sched := { c with deficit := c.deficit.filter (fun p => work.contains p.1 || keep p.1), visit := none }
  match c.visit with
  | some i =>
    if work.contains i && decide (0 < def_ i) then some (i, fresh) else pick fresh def_
  | none => pick fresh def_
where
  pick (c : Sched) (def_ : Nat → Int) : Option (Nat × Sched) :=
    let better (a b : Nat × Nat × Nat) : Bool := decide (a.1 < b.1) || (a.1 == b.1 && decide (a.2.1 < b.2.1))
    let cand := work.map (fun i => (visitsNeeded (def_ i) (quantum i), rrDist c.last i, i))
    match cand with
    | [] => none
    | x :: xs =>
      let w := xs.foldl (fun a b => if better b a then b else a) x
      let visits (i : Nat) : Nat := if rrDist c.last i ≤ w.2.1 then w.1 else w.1 - 1
      some (w.2.2, { c with
        deficit := work.foldl (fun m i => mapSet m i (def_ i + ((visits i * quantum i : Nat) : Int))) c.deficit
        last := w.2.2 })

/-- After work of instance `i` has started at a cost: with no more work its deficit is zero; the visit goes on while its deficit is
above zero and `more` says that work can start. -/
def Sched.served (c : Sched) (i cost : Nat) (work more : Bool) : Sched :=
  let left := mapGet 0 c.deficit i - (cost : Int)
  { c with
    deficit := if work then mapSet c.deficit i left else mapErase c.deficit i
    visit := if work && more && decide (0 < left) then some i else none }

/-- R379: the deficits and the visit of instances that have no work are gone; `keep`: those that have some. -/
def Sched.idle (c : Sched) (keep : Nat → Bool) : Sched :=
  { c with deficit := c.deficit.filter (fun p => keep p.1), visit := c.visit.filter keep }

/-- R387: a visit of the scheduler or of a pair to an instance goes on. -/
def State.visited (s : State) (n : Nat) : Bool :=
  s.trs.sched.visit == some n || s.xch.scheds.any (fun p => p.2.visit == some n)

/-- R387: the end of a visit is the safe point of the instance's weights. -/
def State.visitsOver (s : State) (ns : List Nat) : State :=
  ns.foldl (fun s n => if s.visited n then s else s.takeStaged .INST_CTL 0 n) s

end Sys2Proof.Machine
end

