-- ==== Sys2Proof/Machine/Trs.lean ====
section
/-! DEFINITION. Jobs of the transform engines: descriptors (R308, R309), progress block by block (R287 to R294, R310 to
R313), endings, keys (R302 to R305), the scheduler (R379), errors and reruns (R316). -/

namespace Sys2Proof.Machine

/-! Queue registers (R306, R307, R322); queue 1,024 is the service queue -/

def svcQueue : Nat := 1024
def State.qBase (s : State) (q : Nat) : Nat :=
  (if q = svcQueue then s.fget F.TRS_SVC_BASE_BASE 0 0 else s.fget F.TRS_Q_BASE_BASE 0 q) * 2 ^ 12

def State.qSize (s : State) (q : Nat) : Nat :=
  2 ^ (if q = svcQueue then s.fget F.TRS_SVC_CTL_SIZE_LOG2 0 0 else s.fget F.TRS_Q_CTL_SIZE_LOG2 0 q)

def State.qEnabled (s : State) (q : Nat) : Bool :=
  if q = svcQueue then s.fbit F.TRS_SVC_CTL_ENABLE 0 0 else s.fbit F.TRS_Q_CTL_ENABLE 0 q

def State.qSource (s : State) (q : Nat) : Nat :=
  if q = svcQueue then s.fget F.TRS_SVC_CTL_SOURCE 0 0 else s.fget F.TRS_Q_CTL_SOURCE 0 q

def State.qHead (s : State) (q : Nat) : Nat :=
  if q = svcQueue then s.fget F.TRS_SVC_HEAD_HEAD 0 0 else s.fget F.TRS_Q_HEAD_HEAD 0 q

def State.qTail (s : State) (q : Nat) : Nat :=
  if q = svcQueue then s.fget F.TRS_SVC_DOORBELL_TAIL 0 0 else s.fget F.TRS_DOORBELL_TAIL 0 q

def State.setHead (s : State) (q v : Nat) : State :=
  if q = svcQueue then s.fset F.TRS_SVC_HEAD_HEAD 0 0 v else s.fset F.TRS_Q_HEAD_HEAD 0 q v

def State.setTail (s : State) (q v : Nat) : State :=
  if q = svcQueue then s.fset F.TRS_SVC_DOORBELL_TAIL 0 0 v else s.fset F.TRS_DOORBELL_TAIL 0 q v

/-- R322: the registers of a queue's commit group. -/
def trsGroup (q : Nat) : List (RegName × Nat) :=
  if q = svcQueue then [(.TRS_SVC_BASE, 0), (.TRS_SVC_CTL, 0)] else [(.TRS_Q_BASE, q), (.TRS_Q_CTL, q)]

/-- A job in an engine or waiting for one. -/
def State.liveJobs (s : State) : List Job := s.trs.jobs.map Prod.snd ++ s.trs.reruns

/-- R322: the safe point of a queue: no job taken from it is in an engine. -/
def State.trsIdle (s : State) (q : Nat) : Bool := !s.liveJobs.any (fun j => j.src == .queue q)

/-- R322: a committed queue group takes force; HEAD and TAIL become zero. -/
def State.trsSafe (s : State) (q : Nat) : State :=
  if s.trsIdle q then s.commitActs 0x28 (q + 1) (fun s => (s.setHead q 0).setTail q 0) else s

/-! Instances as the engines see them -/

/-- R381: the generation of an instance. -/
def State.instGen (s : State) (n : Nat) : Nat := s.fget F.INST_CTL_GEN 0 n

/-- The scale of the buckets: 1/1,024,000 KiB, 1/10^9 exchanges (R377). -/
def byteUnit : Nat := 1024000
def exchUnit : Nat := 1000000000

/-- R377: the buckets of an instance. -/
def State.byteTokens (s : State) (n : Nat) : Int :=
  mapGet ((s.fget F.INST_BYTE_RATE_BURST 0 n * byteUnit : Nat) : Int) s.inst.bytes n

def State.exchTokens (s : State) (n : Nat) : Int :=
  mapGet ((s.fget F.INST_EXCH_RATE_BURST 0 n * exchUnit : Nat) : Int) s.inst.exch n

/-- R377: a charge, taken whether or not the bucket is consulted. -/
def State.chargeBytes (s : State) (n kib : Nat) : State :=
  { s with inst := { s.inst with bytes := mapSet s.inst.bytes n (s.byteTokens n - ((kib * byteUnit : Nat) : Int)) } }

def State.chargeExch (s : State) (n : Nat) : State :=
  { s with inst := { s.inst with exch := mapSet s.inst.exch n (s.exchTokens n - (exchUnit : Int)) } }

/-- R378: a bucket whose rate is 0 is not consulted. -/
def State.bytesOk (s : State) (n : Nat) : Bool := s.fget F.INST_BYTE_RATE_RATE 0 n == 0 || decide (0 < s.byteTokens n)
def State.exchOk (s : State) (n : Nat) : Bool := s.fget F.INST_EXCH_RATE_RATE 0 n == 0 || decide (0 < s.exchTokens n)

/-- R382 step 1: a reset of the instance is in progress. -/
def State.instResetting (s : State) (n : Nat) : Bool := (mapGet? s.inst.resets n).isSome

/-! Descriptor fields (R308) -/

def Job.op (j : Job) : Nat := dn j.d 0 1
def Job.comp (j : Job) : Nat := dn j.d 1 1
def Job.cipher (j : Job) : Nat := dn j.d 2 1
def Job.digest (j : Job) : Nat := dn j.d 3 1
def Job.flag (j : Job) (k : Nat) : Bool := (dn j.d 4 1).testBit k
def Job.resume (j : Job) : Bool := j.flag 0
def Job.flush (j : Job) : Bool := j.flag 1
def Job.last (j : Job) : Bool := j.flag 2
def Job.independent (j : Job) : Bool := j.flag 3
def Job.newStream (j : Job) : Bool := j.flag 4
def Job.event (j : Job) : Bool := j.flag 5
def Job.duSize (j : Job) : Nat := if j.flag 6 then 4096 else 512
def Job.target (j : Job) : Nat := dn j.d 5 1
def Job.blockSize (j : Job) : Nat := (if dn j.d 6 1 = 0 then 128 else dn j.d 6 1) * 512
def Job.keyIndex (j : Job) : Nat := dn j.d 8 2 % 4096
def Job.srcLen (j : Job) : Nat := dn j.d 24 8
def Job.dstLen (j : Job) : Nat := dn j.d 40 8
def Job.ctx (j : Job) : Nat := dn j.d 80 8
def Job.iv (j : Job) : List Nat := bytesNat (sub j.d 48 12)
def Job.xts (j : Job) : Bool := j.cipher == 1 || j.cipher == 2
def Job.gcm (j : Job) : Bool := j.cipher == 3 || j.cipher == 4
def Job.encrypts (j : Job) : Bool := j.cipher == 1 || j.cipher == 3
def Job.isExch (j : Job) : Bool := match j.src with
  | .exch _ => true
  | .queue _ => false

def allZero (bs : List Byte) : Bool := bs.all (· == 0#8)

/-- R308, R293, R296, R297: the checks that give BAD_DESCRIPTOR, on software's fields; which fields an operation leaves unused is log
entry 133 (DEDUCED). -/
def badTransform (d : List Byte) : Bool :=
  let comp := dn d 1 1
  let ci := dn d 2 1
  let fl := dn d 4 1
  let isXts := ci == 1 || ci == 2
  let isGcm := ci == 3 || ci == 4
  -- a field that the operation does not use (log entry 133)
  let unused := (comp == 0 && (fl.testBit 1 || fl.testBit 2 || dn d 12 4 != 0))
    || (comp == 2 && (fl.testBit 1 || fl.testBit 2 || fl.testBit 3 || dn d 6 1 != 0))
  unused || decide (2 < comp) || decide (4 < ci) || decide (4 < dn d 3 1)
    || (comp == 1 && !(ci == 0 || ci == 1 || ci == 3)) || (comp == 2 && !(ci == 0 || ci == 2 || ci == 4))
    || fl.testBit 7 || (fl.testBit 6 && (!isXts || comp == 1))
    || decide (129 < dn d 5 1) || (dn d 5 1 != 0 && comp != 1)
    || decide (127 < dn d 6 1)
    || !allZero (sub d 7 1) || decide (4096 ≤ dn d 8 2) || (ci == 0 && dn d 8 2 != 0) || !allZero (sub d 10 2)
    || (isXts && !allZero (sub d 56 8)) || (isGcm && !allZero (sub d 60 4)) || (ci == 0 && !allZero (sub d 48 16))
    || (!isGcm && !allZero (sub d 64 12)) || (isGcm && decide (4096 < dn d 72 4)) || (isGcm && decide (2 ^ 32 ≤ dn d 24 8))
    || !allZero (sub d 76 4) || decide (dn d 80 8 % 256 ≠ 0)
    || (comp == 0 && (dn d 80 8 != 0 || fl.testBit 4 || fl.testBit 3))
    || !allZero (sub d 88 8) || !allZero (sub d 200 56)

/-- R304, R308: KEY_LOAD and KEY_ERASE use FLAGS.EVENT, KEY_INDEX and, for a load, SRC and SRC_LEN. -/
def badKeyOp (d : List Byte) (load : Bool) : Bool :=
  !allZero (sub d 1 3) || dn d 4 1 % 32 != 0 || decide (64 ≤ dn d 4 1) || !allZero (sub d 5 3) || decide (4096 ≤ dn d 8 2)
    || !allZero (sub d 10 6) || (!load && !allZero (sub d 16 16)) || !allZero (sub d 32 64) || !allZero (sub d 200 56)

/-- R320: the verifications use bytes 16 to 63; keys and ECDSA signatures have one length (log entry 14). -/
def badVerify (d : List Byte) (ecdsa : Bool) : Bool :=
  !allZero (sub d 1 15) || !allZero (sub d 64 32) || !allZero (sub d 200 56)
    || (ecdsa && (dn d 40 8 != 97 || dn d 56 8 != 96))

/-! Reading and writing memory -/

/-- The pieces of a map that cover `n` bytes from offset `off`. -/
def spans : List (Nat × Nat) → Nat → Nat → List (Nat × Nat)
  | [], _, _ => []
  | (a, k) :: m, off, n =>
    if n = 0 then []
    else if k ≤ off then spans m (off - k) n
    else (a + off, min n (k - off)) :: spans m 0 (n - min n (k - off))

/-- R34: a job's accesses carry its instance. -/
def Job.by_ (j : Job) : By := .eng (j.inst.getD 0)

/-- What a read by an engine or a sequencer answers. -/
inductive Got where
  | bytes (s : State) (bs : List Byte)
  | poison (s : State) (line : Nat)
  | wait (s : State)
  deriving DecidableEq, Repr

/-- R34, R222: bytes are read; a poisoned line is logged by the reading block. -/
def State.readSpans (s : State) (blk n : Nat) (ps : List (Nat × Nat)) : Got :=
  match s.readyRead (.eng n) (ps.flatMap (fun p => linesOf p.1 p.2)) with
  | (s1, .ok) => .bytes s1 (ps.flatMap (fun p => s1.bytesAt p.1 p.2))
  | (s1, .poison line) => .poison (s1.logFault (s1.fault blk 0 0x206 2 1 line)) line
  | (s1, .wait) => .wait s1

/-- Bytes are written to pieces; nothing is written while a line is awaited. -/
def State.writeSpans (s : State) (n : Nat) (ps : List (Nat × Nat)) (bs : List Byte) : State × Bool :=
  match s.readyWrite (.eng n) true (ps.flatMap (fun p => linesOf p.1 p.2)) with
  | (s1, false) => (s1, false)
  | (s1, true) =>
    ((ps.foldl (fun (x : State × List Byte) p => (x.1.storeBytes (.eng n) p.1 (x.2.take p.2), x.2.drop p.2)) (s1, bs)).1, true)

/-! Digests (R300) -/

def Digest.start : Digest := { crc := crcStart, sha := sha384Start, buf := [], count := 0 }

def Digest.feed (d : Digest) (kind : Nat) (bs : List Byte) : Digest :=
  if kind = 3 ∨ kind = 4 then { d with crc := crcRun d.crc bs, count := d.count + bs.length }
  else if kind = 1 ∨ kind = 2 then
    let all := d.buf ++ bs
    let (h, rest) := sha512Kind.blocks (all.length / 128 + 1) d.sha all
    { d with sha := h, buf := rest, count := d.count + bs.length }
  else d

/-- The digest's 48 bytes; a CRC fills four, and the rest is zero (DESIGN CHOICE, log entry 190). -/
def Digest.out (d : Digest) (kind : Nat) : List Byte :=
  if kind = 1 ∨ kind = 2 then sha384Out (sha512Kind.finish d.sha d.buf d.count)
  else natToBytes 4 (crcEnd d.crc) ++ List.replicate 44 0

/-! Progress -/

/-- A job's progress when it starts with sequence number `seq`. -/
def Prog.start (seq du : Nat) : Prog :=
  { nextSeq := seq, inDone := 0, outTotal := 0, outHere := 0, blocks := 0, hist := [], histPos := 0, dir := 0, ended := false,
    raised := false, du, ctr := 2, acc := 0, ct := 0, dig := Digest.start }

/-- R311: the progress that a resume state gives. -/
def Prog.ofResume (d : List Byte) : Prog :=
  { Prog.start (dn d 260 4) (dn d 280 8) with
    inDone := dn d 264 8
    outTotal := dn d 272 8
    ctr := bytesToNat (sub d 280 4)
    acc := bytesToNatBE (sub d 288 16)
    ct := dn d 304 8
    dig := { crc := dn d 312 4, sha := (List.range 8).map (fun k => dn d (312 + 8 * k) 8),
             buf := sub d 384 (dn d 258 1 % 128), count := dn d 376 8 } }

/-- R311: the resume state, bytes 256 to 511; the GHASH accumulator highest byte first (DESIGN CHOICE, log entry 168). -/
def Job.resumeState (j : Job) : List Byte :=
  let p := j.prog
  let ci : List Byte := if j.xts then natToBytes 8 p.du ++ List.replicate 24 0
    else if j.gcm then natToBytes 4 p.ctr ++ List.replicate 4 0 ++ natToBytesBE 16 p.acc ++ natToBytes 8 p.ct
    else List.replicate 32 0
  let isSha := j.digest == 1 || j.digest == 2
  let ds : List Byte := if isSha then p.dig.sha.flatMap (natToBytes 8)
    else if j.digest = 0 then List.replicate 64 0 else natToBytes 4 p.dig.crc ++ List.replicate 60 0
  let buf := if isSha then p.dig.buf else []
  [1#8, 1#8, BitVec.ofNat 8 buf.length, 0#8] ++ natToBytes 4 p.nextSeq ++ natToBytes 8 p.inDone ++ natToBytes 8 p.outTotal
    ++ ci ++ ds ++ natToBytes 8 (if j.digest = 0 then 0 else p.dig.count) ++ buf ++ List.replicate (128 - buf.length) 0

/-- R292: the history of a context area, newest first.  A length or a place beyond the ring is clipped to it or wraps in it (DESIGN
CHOICE, log entry 187). -/
def ctxHist (c : List Byte) : List Byte :=
  let len := min (dn c 4 4) histMax
  let pos := dn c 8 4 % histMax
  let ring := c.drop 256
  ((ring.drop pos ++ ring.take pos).reverse).take len

/-- R308: FLAGS without RESUME. -/
def Job.flags (j : Job) : Nat := dn j.d 4 1 / 2 * 2

/-- R312: the fields of a descriptor that every submission of a job has alike. -/
def Job.keeps (j : Job) : List Byte := sub j.d 0 4 ++ natToBytes 1 j.flags ++ sub j.d 5 27 ++ sub j.d 48 48

/-- R292, R294: a context as written: the ring bytes outside the history are free, and alike however many submissions a job takes
(R312). -/
def Job.context (j : Job) (valid : Bool) : List Byte :=
  let p := j.prog
  let ring := (List.range (histMax - p.hist.length)).map (Config.ringByte j.keeps) ++ p.hist.reverse
  let at_ := histMax - p.histPos
  natToBytes 4 p.nextSeq ++ natToBytes 4 p.hist.length ++ natToBytes 4 p.histPos
    ++ [BitVec.ofNat 8 (b2n valid + 2 * b2n p.ended + 4 * p.dir)] ++ List.replicate 243 0 ++ ring.drop at_ ++ ring.take at_

/-! Ciphers -/

/-- R296, R297: the next bytes of a job through its cipher, and the progress after them.  For XTS, `n0` is the offset of
the bytes within their data unit, whose bytes before them are given too.  The number of a data unit has 64 bits, as the resume state
holds it (DEDUCED, log entry 181). -/
def Job.crypt (j : Job) (p : Prog) (pre bs : List Byte) : List Byte × Prog :=
  if j.xts then
    let all := pre ++ bs
    ((xtsBytes j.encrypts j.key j.duSize p.du all).drop pre.length, { p with du := (p.du + all.length / j.duSize) % 2 ^ 64 })
  else if j.gcm then
    let keys := aesKeys (bytesNat j.key)
    let out := gcmCrypt keys j.iv p.ctr (bytesNat bs)
    let ct := if j.encrypts then out else bytesNat bs
    (natsBytes out, { p with ctr := (p.ctr + (bs.length + 15) / 16) % 2 ^ 32, acc := ghash (gcmH keys) p.acc ct,
                             ct := p.ct + bs.length })
  else (bs, p)

/-! Ending a job -/

/-- The block number of an engine. -/
def engBlk (e : Nat) : Nat := 0x20 + e

/-- The engine is free again (R323: its ENABLE may take force); the queue's group may. -/
def State.freeEngine (s : State) (e : Nat) (j : Job) : State :=
  let s1 := ({ s with trs := { s.trs with jobs := mapErase s.trs.jobs e } }).takeStaged .TRE_CTL e 0
  match j.src with
  | .queue q => s1.trsSafe q
  | .exch _ => s1

/-- R313, R384: a job whose instance has a new generation stops: no status, no event; what is withheld is counted.
R456: at a power failure it stops as well. -/
def State.stopJob (s : State) (e : Nat) (j : Job) (segment : Bool) : State :=
  let s1 := match j.inst with
    | some n =>
      if s.instGen n ≠ j.gen then
        let s2 := s.fcount F.INST_LATE_DISCARDS_SEGMENTS 0 n (b2n segment + b2n (j.ctx != 0 && !j.isExch))
        if j.isExch then s2 else s2.fcount F.INST_LATE_DISCARDS_STATUSES 0 n 1
      else s
    | none => s
  s1.freeEngine e j

/-- R313, R456: whether a running job must stop before its next segment. -/
def State.jobStale (s : State) (j : Job) : Bool :=
  s.pwr.t0.isSome || match j.inst with
    | some n => s.instGen n != j.gen
    | none => false

/-- R309, R311, R317, R294: a job ends: context, bytes 96 to 511, then STATUS, then the event. -/
def State.endJob (s : State) (e : Nat) (j : Job) (st : Nat) (err : Nat × Nat) (errAddr : Nat) (tag : Option (List Byte)) :
    State :=
  if s.jobStale j then s.stopJob e j false
  else match j.src with
  | .exch x =>
    let s1 := { s with trs := { s.trs with results := mapSet s.trs.results x (st, j.prog.outTotal) } }
    (s1.fcount F.TRE_JOBS_ENDED e 0 1).freeEngine e j
  | .queue q =>
    let hasCtx := j.op == 1 && j.ctx != 0 && st != stBadDesc
    match s.readyWrite j.by_ true (linesOf j.desc 512 ++ if hasCtx then linesOf j.ctx 33024 else []) with
    | (s0, false) => s0
    | (s, true) =>
    let valid := st == stDone || st == stOutFull
    let s1 := if hasCtx then
        s.storeBytes j.by_ j.ctx (j.context valid)
      else s
    let p := j.prog
    let tagBytes := tag.getD (sub j.d 96 16)
    let dig := if st = stDone ∧ j.op = 1 ∧ j.digest ≠ 0 then p.dig.out j.digest else sub j.d 112 48
    let head := tagBytes ++ dig
    let tail := [BitVec.ofNat 8 (b2n (p.raised && j.op == 1) + 2 * b2n hasCtx)] ++ natToBytes 2 j.gen ++ natToBytes 4 err.1
      ++ natToBytes 4 err.2 ++ natToBytes 4 (if j.comp = 0 then 0 else p.blocks) ++ natToBytes 8 p.inDone
      ++ natToBytes 8 p.outHere ++ natToBytes 8 errAddr
    let res := if st = stOutFull then j.resumeState else [sub j.d 256 1, [0#8], sub j.d 258 254].flatten
    let s2 := ((s1.storeBytes j.by_ (j.desc + 96) head).storeBytes j.by_ (j.desc + 161) tail).storeBytes
      j.by_ (j.desc + 256) res
    let s3 := (s2.storeBytes j.by_ (j.desc + 160) [BitVec.ofNat 8 st]).fcount F.TRE_JOBS_ENDED e 0 1
    let s4 := s3.freeEngine e j
    if j.event then s4.raiseBlock (s.qSource q) else s4

/-- A job that met a poisoned line (R314). -/
def State.poisonJob (s : State) (e : Nat) (j : Job) (line : Nat) : State := s.endJob e j stPoison (0, 0) line none

/-- R297, R309: the end of the input: the tag is written or compared. -/
def State.jobDone (s : State) (e : Nat) (j : Job) : State :=
  if j.gcm then
    let t := natsBytes (gcmTag (aesKeys (bytesNat j.key)) j.iv j.prog.acc (dn j.d 72 4) j.prog.ct)
    if j.encrypts then s.endJob e j stDone (0, 0) 0 (some t)
    else if t = sub j.d 96 16 then s.endJob e j stDone (0, 0) 0 none
    else s.endJob e j stTagFail (0, 0) 0 none
  else s.endJob e j stDone (0, 0) 0 none

/-- Progress after a block or piece: input consumed, output written, uncompressed data seen. -/
def Job.advance (j : Job) (p : Prog) (inp out plain : List Byte) (blocks : Nat) : Job :=
  let dig := if j.digest = 1 ∨ j.digest = 3 then p.dig.feed j.digest inp else p.dig.feed j.digest out
  { j with prog := { p with
      inDone := p.inDone + inp.length
      outTotal := p.outTotal + out.length
      outHere := p.outHere + out.length
      blocks := p.blocks + blocks
      hist := if j.comp = 0 then [] else (plain.reverse ++ p.hist).take histMax
      histPos := if j.comp = 0 then 0 else (p.histPos + plain.length) % histMax
      dig } }

def State.setJob (s : State) (e : Nat) (j : Job) : State := { s with trs := { s.trs with jobs := mapSet s.trs.jobs e j } }

/-- R313: where the next segment of the block being written lies: at most 4 KiB, within one 4 KiB-aligned region. -/
def Job.segment (j : Job) : Option (Nat × Nat) :=
  ((spans j.outMap (j.after.outHere - j.rest.length) j.rest.length).head?).map (fun p => (p.1, min p.2 (4096 - p.1 % 4096)))

/-- R290, R310: a block or piece has been written whole; the job goes on, or ends with its input. -/
def State.blockDone (s : State) (e : Nat) (j : Job) : State :=
  let s1 := (s.fcount F.TRE_BYTES_IN_BYTES e 0 (j.after.inDone - j.prog.inDone)).fcount F.TRE_BYTES_OUT_BYTES e 0
    (j.after.outHere - j.prog.outHere)
  let j1 := { j with prog := j.after, rest := [] }
  if j.srcLen ≤ j1.prog.inDone then (s1.setJob e j1).jobDone e j1 else s1.setJob e j1

/-- R313: up to `n` segments of the block that an engine holds are written, the generation checked before each. -/
def State.writeSegs (e : Nat) : Nat → State → State
  | 0, s => s
  | n + 1, s =>
    match mapGet? s.trs.jobs e with
    | none => s
    | some j =>
      if j.rest.isEmpty then s
      else if s.jobStale j then s.stopJob e j true
      else match j.segment with
      | none => s.blockDone e j
      | some (a, k) => match s.writeSpans (j.inst.getD 0) [(a, k)] (j.rest.take k) with
        | (s1, false) => s1
        | (s1, true) =>
          let j1 := { j with rest := j.rest.drop k }
          if j1.rest.isEmpty then s1.blockDone e j1 else State.writeSegs e n (s1.setJob e j1)

/-! Starting a job -/

/-- The place of a job's key: absolute on the service queue, within the instance's slots elsewhere (R303); one past 4,095 is a slot as
any other (DESIGN CHOICE, log entry 188). -/
def State.keySlot (s : State) (j : Job) : Option Nat :=
  match j.inst with
  | none => some j.keyIndex
  | some n =>
    if j.keyIndex < s.fget F.INST_KEYS_COUNT 0 n then some (s.fget F.INST_KEYS_BASE 0 n + j.keyIndex) else none

/-- R303, R305: the key latched at the start, or the error. -/
def State.latchKey (s : State) (j : Job) : Nat × List Byte :=
  if j.cipher = 0 then (0, [])
  else match s.keySlot j with
    | none => (stKeyRange, [])
    | some k => match mapGet? s.trs.keys k with
      | none => (stKeyEmpty, [])
      | some (kind, key) => if kind = (if j.xts then 1 else 2) then (0, key) else (stKeyKind, [])

/-- R291, R296: BAD_LENGTH of a transform; an exchange is not held to whole blocks (R319). -/
def Job.badLength (j : Job) : Bool :=
  (j.comp == 1 && !j.isExch && !j.flush && !j.last && j.srcLen % j.blockSize != 0)
    || (j.xts && j.comp != 1 && j.srcLen % j.duSize != 0)

/-- R312: the resume state is not valid. -/
def Job.badResume (j : Job) : Bool :=
  j.resume && (dn j.d 256 1 != 1 || !(dn j.d 257 1).testBit 0 || decide (j.srcLen < dn j.d 264 8))

/-- How the checks before any input end. -/
inductive Checked where
  | run (s : State) (j : Job)
  | stop (s : State) (j : Job) (st line : Nat)
  | wait (s : State)
  deriving DecidableEq, Repr

/-- R293, R294, R312: a job that takes its stream from a context, `c` being the area; the checks of it, after those of R291
and R296. -/
def Job.withCtx (j : Job) (c : List Byte) : Job × Nat :=
  let p := { j.prog with hist := ctxHist c, histPos := dn c 8 4 % histMax, nextSeq := dn c 0 4, ended := (dn c 12 1).testBit 1,
                         dir := dn c 12 1 / 4 % 4 }
  let j1 := { j with prog := p }
  if j.badLength then (j1, stBadLength)
  else if j.badResume || j.resume && dn c 0 4 != j.prog.nextSeq then (j1, stBadResume)
  else if !j.newStream && (!(dn c 12 1).testBit 0 || (dn c 12 1).testBit 1 || dn c 12 1 / 4 % 4 != j.comp) then (j1, stCtx)
  else ({ j1 with prog := { p with ended := false, dir := j.comp } }, 0)

/-- R297: the GHASH of the additional data starts a GCM job. -/
def Job.withAad (j : Job) (aad : List Byte) : Job :=
  if j.gcm && !j.resume then
    { j with prog := { j.prog with acc := ghash (gcmH (aesKeys (bytesNat j.key))) 0 (bytesNat aad) } }
  else j

/-- A job takes its stream from its context (R293, R312). -/
def Job.needCtx (j : Job) : Bool := j.ctx != 0 && (j.resume || !j.newStream)

/-- What a transform reads before any input: its context and its additional data (R293, R297). -/
def Job.firstSpans (j : Job) : List (Nat × Nat) :=
  (if j.needCtx then [(j.ctx, 33024)] else []) ++ (if j.gcm && !j.resume then [(dn j.d 64 8, dn j.d 72 4)] else [])

/-- The checks of a transform, in the order of R309; the context is read before them, so that every ending can write it as it
stands (R294), and poison in it comes before the checks of the key (DESIGN CHOICE, log entry 191).  Of two queues that name one
context each job has the one that it read (DESIGN CHOICE, log entry 193). -/
def State.checkTransform (s : State) (e : Nat) (j : Job) : Checked :=
    match (if j.needCtx then s.readSpans (engBlk e) (j.inst.getD 0) [(j.ctx, 33024)] else .bytes s []) with
    | .wait s1 => .wait s1
    | .poison s1 line =>
      if j.badLength then .stop s1 j stBadLength 0
      else if j.badResume then .stop s1 j stBadResume 0
      else .stop s1 j stPoison line
    | .bytes s1 c =>
      let (j1, st) := if j.needCtx then j.withCtx c
        else (j, if j.badLength then stBadLength else if j.badResume then stBadResume else 0)
      if st ≠ 0 then .stop s1 j1 st 0
      else
        let (ks, key) := s1.latchKey j1
        if ks ≠ 0 then .stop s1 j1 ks 0
        else
          let j2 := { j1 with key }
          match (if j2.gcm && !j2.resume then s1.readSpans (engBlk e) (j.inst.getD 0) [(dn j.d 64 8, dn j.d 72 4)] else .bytes s1 []) with
          | .wait s2 => .wait s2
          | .poison s2 line => .stop s2 j2 stPoison line
          | .bytes s2 aad =>
            let j3 := j2.withAad aad
            .run s2 { j3 with first := j3.prog }

/-- A transform job starts on an engine, or ends at once. -/
def State.startTransform (s : State) (e : Nat) (j : Job) : State :=
  match s.checkTransform e j with
  | .wait s1 => s1
  | .stop s1 j1 st line => s1.endJob e j1 st (0, 0) line none
  | .run s1 j1 =>
    let s2 := { s1 with trs := { s1.trs with jobs := mapSet s1.trs.jobs e j1 } }
    if j1.srcLen ≤ j1.prog.inDone then s2.jobDone e j1 else s2

/-- A job of a queue, from its descriptor. -/
def State.queueJob (s : State) (q desc : Nat) (d : List Byte) : Job :=
  let inst := if q = svcQueue then none else some q
  let p := { (if (dn d 4 1).testBit 0 then Prog.ofResume d else Prog.start (dn d 12 4) (dn d 48 8)) with dir := dn d 1 1 }
  { src := .queue q, inst, gen := (inst.map s.instGen).getD 0, desc, d, key := [],
    inMap := [(dn d 16 8, dn d 24 8)], outMap := [(dn d 32 8, dn d 40 8)], first := p, prog := p, rest := [], after := p }

/-! Key operations (R304) -/

def State.eraseKey (s : State) (k : Nat) : State := { s with trs := { s.trs with keys := mapErase s.trs.keys k } }
def State.putKey (s : State) (k kind : Nat) (key : List Byte) : State :=
  { s with trs := { s.trs with keys := mapSet s.trs.keys k (kind, key) } }

/-- R304: what a key record gives: its kind and key, or the error. -/
def keyRecord (r : List Byte) : Nat × List Byte :=
  let kind := dn r 0 1
  if kind ≠ 1 ∧ kind ≠ 2 ∨ !allZero (sub r 1 15) ∨ (kind = 2 ∧ !allZero (sub r 48 32)) then (stBadDesc, [])
  else if kind = 1 ∧ sub r 16 32 = sub r 48 32 then (stBadKey, [])
  else (0, sub r 16 (if kind = 1 then 64 else 32))

def State.startKeyLoad (s : State) (e : Nat) (j : Job) : State :=
  if badKeyOp j.d true then s.endJob e j stBadDesc (0, 0) 0 none
  else if j.srcLen ≠ 80 then s.endJob e j stBadLength (0, 0) 0 none
  else match s.keySlot j with
  | none => s.endJob e j stKeyRange (0, 0) 0 none
  | some k =>
    match s.readSpans (engBlk e) (j.inst.getD 0) [(dn j.d 16 8, 80)] with
    | .wait s1 => s1
    | .poison s1 line => s1.poisonJob e j line
    | .bytes s1 r =>
      let (st, key) := keyRecord r
      if st ≠ 0 then s1.endJob e j st (0, 0) 0 none
      else if s1.jobStale j then s1.stopJob e j true
      else ((s1.putKey k (dn r 0 1) key).storeBytes j.by_ (dn j.d 16 8) (List.replicate 80 0)).endJob e j stDone (0, 0) 0 none

/-- R305: KEY_ERASE, of an empty slot too (DEDUCED, log entry 189). -/
def State.startKeyErase (s : State) (e : Nat) (j : Job) : State :=
  if badKeyOp j.d false then s.endJob e j stBadDesc (0, 0) 0 none
  else match s.keySlot j with
  | none => s.endJob e j stKeyRange (0, 0) 0 none
  | some k => if s.jobStale j then s.stopJob e j false else (s.eraseKey k).endJob e j stDone (0, 0) 0 none

/-- R320: message, key and signature. -/
def Job.verifySpans (j : Job) : List (Nat × Nat) :=
  [(dn j.d 16 8, dn j.d 24 8), (dn j.d 32 8, dn j.d 40 8), (dn j.d 48 8, dn j.d 56 8)]

/-- R320: a verification; the first poisoned line met ends it. -/
def State.startVerify (s : State) (e : Nat) (j : Job) (ecdsa : Bool) : State :=
  if badVerify j.d ecdsa then s.endJob e j stBadDesc (0, 0) 0 none
  else
    match s.readSpans (engBlk e) (j.inst.getD 0) j.verifySpans with
    | .wait s1 => s1
    | .poison s1 line => s1.poisonJob e j line
    | .bytes s1 bs =>
      let msg := bs.take (dn j.d 24 8)
      let key := sub bs (dn j.d 24 8) (dn j.d 40 8)
      let sig := bs.drop (dn j.d 24 8 + dn j.d 40 8)
      let v := if ecdsa then Verdict.ofBool (ecdsaOk msg key sig) else hssVerify msg key sig
      s1.endJob e j (match v with
        | .passes => stDone
        | .fails => stSigFail
        | .badSet => stBadDesc) (0, 0) 0 none

/-! The scheduler (R307, R379) -/

/-- R316, R471, R318: an engine that can be given a job. -/
def State.engineFree (s : State) (e : Nat) : Bool :=
  decide (e < 8) && (mapGet? s.trs.jobs e).isNone && s.fbit F.TRE_STATUS_IN_SERVICE e 0 && s.fbit F.TRE_CTL_ENABLE e 0
    && s.domState (96 + e) == domOn && !s.flt.resets.any (fun r => r.1 == engBlk e || r.1 == 0x28) && !s.flt.fatal
    && s.pwr.t0.isNone && !s.flt.stopped.contains (engBlk e)

/-- An entry skipped (R307): HEAD advances, it is counted, and logged. -/
def State.skipEntry (s : State) (q : Nat) (m : FaultMsg) : State :=
  ((s.setHead q (s.qHead q + 1)).fcount F.TRS_DISCARDS_SKIPPED 0 0 1).logFault m

/-- The head of a queue, with the entries skipped that R307 says. -/
inductive Head where
  | none
  | entry (desc : Nat)
  | wait
  deriving DecidableEq, Repr

def State.headOf (q : Nat) : Nat → State → State × Head
  | 0, s => (s, .none)
  | n + 1, s =>
    if s.qHead q = s.qTail q then (s, .none)
    else
      let a := s.qBase q + 8 * (s.qHead q % s.qSize q)
      match s.readyRead (.eng (if q = svcQueue then 0 else q)) (linesOf a 8) with
      | (s1, .wait) => (s1, .wait)
      | (s1, .poison line) => State.headOf q n (s1.skipEntry q (s1.fault 0x28 0 0x206 2 1 line))
      | (s1, .ok) =>
        let v := s1.natAt a 8
        if v % 64 ≠ 0 ∨ 2 ^ 52 ≤ v then State.headOf q n (s1.skipEntry q (s1.fault 0x28 0 0x007 1 0 0))
        else (s1, .entry v)

/-- R382: entries of a queue may be taken. -/
def State.qTakes (s : State) (q : Nat) : Bool := s.qEnabled q && (q == svcQueue || !s.instResetting q)

/-- Every queue with entries to be taken, the skipped ones gone. -/
def State.tidyQueues (s : State) : State :=
  let qs := (if s.qTakes svcQueue then [svcQueue] else []) ++ (s.listedOf .TRS_DOORBELL).filter s.qTakes
  qs.foldl (fun s q => (State.headOf q 65536 (s.trsSafe q)).1) s

/-- R295: an earlier job of the queue with the same context has not ended. -/
def State.ctxBusy (s : State) (q ctx : Nat) : Bool :=
  ctx != 0 && s.liveJobs.any (fun j => j.src == .queue q && j.op == 1 && j.ctx == ctx)

/-- R295, R378: the head of a queue can start now. -/
def State.queueWork (s : State) (q : Nat) : Bool :=
  s.qTakes q && match (State.headOf q 65536 s).2 with
    | .entry d => !s.ctxBusy q (s.natAt (d + 80) 8) && (q == svcQueue || s.bytesOk q)
    | _ => false

/-- The instances with work, rising. -/
def State.trsWork (s : State) : List Nat :=
  (List.range 1024).filter (fun n =>
    s.trs.ready.any (fun j => j.inst == some n) ||
      ((mapGet? s.io.force (regKey .TRS_DOORBELL 0 n)).isSome && s.queueWork n))

/-- An instance whose next work is not known yet: the entry at the head of its queue is awaited. -/
def State.trsAwaits (s : State) (n : Nat) : Bool := s.qTakes n && (State.headOf n 65536 s).2 == .wait

/-- ENGINE_WEIGHT; 0 acts as 1 (R380). -/
def State.engineWeight (s : State) (n : Nat) : Nat := max 1 (s.fget F.INST_CTL_ENGINE_WEIGHT 0 n)

/-- What the scheduler starts next. -/
inductive Work where
  | none
  | rerun (j : Job) (rest : List Job)
  | ready (j : Job) (c : Sched)
  | queue (q desc : Nat) (c : Sched)
  deriving DecidableEq, Repr

/-- R316, R379: reruns first, then the service queue, then the instances; within an instance what became ready first. -/
def State.nextWork (s : State) : Work :=
  match s.trs.reruns with
  | j :: rest => .rerun j rest
  | [] =>
    if s.queueWork svcQueue then
      match (State.headOf svcQueue 65536 s).2 with
      | .entry d => .queue svcQueue d s.trs.sched
      | _ => .none
    else match s.trs.sched.next (fun n => s.engineWeight n * 65536) s.trsAwaits s.trsWork with
      | none => .none
      | some (n, c) =>
        match s.trs.ready.find? (fun j => j.inst == some n) with
        | some j => .ready j c
        | none => match (State.headOf n 65536 s).2 with
          | .entry d => .queue n d c
          | _ => .none

/-- R379: work of instance `n` has started on engine `e` at a cost. -/
def State.afterStart (s : State) (e : Nat) (c : Sched) (n cost : Nat) : Sched :=
  let work := s.trsWork.contains n || s.trsAwaits n
  c.served n cost work (work && ((List.range 8).filter (· != e)).any s.engineFree)

/-- R379, R330: the cost of the transform of an exchange: its data length. -/
def State.exchCost (s : State) (j : Job) : Nat :=
  match j.src with
  | .exch x => ((s.xch.work.find? (fun w => w.1 == x)).map (fun w => w.2.len)).getD j.srcLen
  | .queue _ => j.srcLen

def State.setSched (s : State) (c : Sched) : State := { s with trs := { s.trs with sched := c } }

/-- R379, R387: the scheduler goes on from `c`, by which instances have been visited. -/
def State.schedOn (s : State) (c : Sched) (ns : List Nat) : State := (s.setSched c).visitsOver (s.trs.sched.visit.toList ++ ns)

/-- R379: work of the engines that has vanished leaves no deficit and no visit. -/
def State.schedIdle (s : State) : State :=
  if s.trs.sched.deficit.isEmpty && s.trs.sched.visit.isNone then s
  else
    let work := s.trsWork
    s.schedOn (s.trs.sched.idle (fun n => work.contains n || s.trsAwaits n)) []

/-- R377, R307: the entry at the head is taken for a job whose descriptor reads `d`. -/
def State.takeEntry (s : State) (e q : Nat) (c : Sched) (d : List Byte) : State :=
  let left := dn d 24 8 - (if (dn d 4 1).testBit 0 then dn d 264 8 else 0)
  let kib := max 1 ((left + 1023) / 1024)
  let s1 := s.setHead q (s.qHead q + 1)
  if q = svcQueue then s1
  else
    let s2 := s1.chargeBytes q kib
    s2.schedOn (s2.afterStart e c q (kib * 1024)) [q]

/-- R308: the operations by code; every other code, and a service operation on a host queue, is a job that ends with
BAD_DESCRIPTOR. -/
def opKnown (q op : Nat) : Bool := op == 1 || op == 2 || op == 3 || (q == svcQueue && (op == 0x10 || op == 0x11))

/-- A job of a queue starts on engine `e`. -/
def State.startQueued (s : State) (e q : Nat) (j : Job) : State :=
  if !opKnown q j.op then s.endJob e j stBadDesc (0, 0) 0 none
  else if j.op = 1 then (if badTransform j.d then s.endJob e j stBadDesc (0, 0) 0 none else s.startTransform e j)
  else if j.op = 2 then s.startKeyLoad e j
  else if j.op = 3 then s.startKeyErase e j
  else s.startVerify e j (j.op == 0x10)

/-- What a job reads as it starts, beside its descriptor; nothing where its descriptor is bad. -/
def Job.startSpans (q : Nat) (j : Job) : List (Nat × Nat) :=
  if !opKnown q j.op then []
  else if j.op = 1 then (if badTransform j.d then [] else j.firstSpans)
  else if j.op = 2 then (if badKeyOp j.d true || j.srcLen != 80 then [] else [(dn j.d 16 8, 80)])
  else if j.op = 3 ∨ badVerify j.d (j.op == 0x10) then []
  else j.verifySpans

/-- What a job writes as it starts or ends: its descriptor, its context, the key record that it clears (R294, R304, R309). -/
def Job.ownLines (j : Job) : List Nat :=
  linesOf j.desc 512 ++ (if j.op = 1 ∧ j.ctx ≠ 0 ∧ badTransform j.d = false then linesOf j.ctx 33024 else [])
    ++ (if j.op = 2 ∧ badKeyOp j.d true = false then linesOf (dn j.d 16 8) 80 else [])

/-- Whether reading some lines would have to wait before it meets poison. -/
def State.mustWait (s : State) : List Nat → Bool
  | [] => false
  | line :: ls =>
    if !s.sliceUp line then true
    else match s.lineState false false false line with
    | .ask _ _ => true
    | .here => !s.poisoned line && s.mustWait ls
    | .rom => s.mustWait ls
    | _ => false

/-- Which operation a command of the table starts: `none` for TRANSFORM, which also takes what is no operation. -/
def rowTakes (want : Option Nat) (q op : Nat) : Bool :=
  match want with
  | some o => opKnown q op && op == o
  | none => op == 1 || !opKnown q op

/-- R305: the key of a rerun is the one latched; an exchange's transform starts over (R351). -/
def Job.rerun (j : Job) : Job := { (if j.isExch then { j with prog := j.first } else j) with rest := [] }

/-- The scheduler gives engine `e` its next work, if that is of the kind the command names. -/
def State.dispatchJob (s : State) (e : Nat) (want : Option Nat) : State :=
  let s0 := if (mapGet? s.trs.jobs e).isNone then s.takeStaged .TRE_CTL e 0 else s
  let s1 := if s0.flt.resets.any (fun r => r.1 == 0x28) || s0.pwr.t0.isSome || s0.flt.fatal then s0 else s0.tidyQueues
  if !s1.engineFree e then s1
  else match s1.nextWork with
  | .none => s1.schedIdle
  | .rerun j rest =>
    if want.isSome then s1
    else
      { s1 with trs := { s1.trs with reruns := rest, jobs := mapSet s1.trs.jobs e j.rerun } }
  | .ready j c =>
    if want.isSome then s1
    else
      let n := j.inst.getD 0
      let s2 := { s1 with trs := { s1.trs with ready := s1.trs.ready.erase j } }
      (s2.schedOn (s2.afterStart e c n (max 1 (s2.exchCost j))) [n]).startTransform e j
  | .queue q desc c =>
    match s1.readyRead (.eng (if q = svcQueue then 0 else q)) (linesOf desc 512) with
    | (s2, .wait) => s2
    | (s2, .poison line) =>
      -- R314: the job does not run, and leaves no status (DESIGN CHOICE, log entry 192)
      (s2.takeEntry e q c (s2.bytesAt desc 512)).logFault (s2.fault (engBlk e) 0 0x402 2 1 line)
    | (s2, .ok) =>
      let d := s2.bytesAt desc 512
      let j := s2.queueJob q desc d
      let first := (j.startSpans q).flatMap (fun p => linesOf p.1 p.2)
      if !rowTakes want q j.op then s2
      else if s2.mustWait first then (s2.readyRead j.by_ first).1
      else match s2.readyWrite j.by_ true j.ownLines with
        | (s3, false) => s3
        | (s3, true) => (s3.takeEntry e q c d).startQueued e q j

/-! Blocks and pieces -/

/-- R296: XTS of decompressed or plain input: the bytes of a data unit before offset `off`, and the units that cover
`n` bytes from it. -/
def Job.duSpan (j : Job) (off n : Nat) : Nat × Nat :=
  if j.xts && !j.encrypts then (off / j.duSize * j.duSize, (off + n + j.duSize - 1) / j.duSize * j.duSize)
  else (off, off + n)

/-- The input bytes at an offset, deciphered where the job deciphers; with the progress after them. -/
inductive JobIn where
  | ok (s : State) (raw plain : List Byte) (p : Prog)
  | poison (s : State) (line : Nat)
  | wait (s : State)
  deriving DecidableEq, Repr

def State.jobInput (s : State) (e : Nat) (j : Job) (n : Nat) : JobIn :=
  let off := j.prog.inDone
  let (lo, hi) := j.duSpan off n
  match s.readSpans (engBlk e) (j.inst.getD 0) (spans j.inMap lo (min hi j.srcLen - lo)) with
  | .wait s1 => .wait s1
  | .poison s1 line => .poison s1 line
  | .bytes s1 bs =>
    let raw := sub bs (off - lo) n
    if j.cipher = 0 || j.encrypts then .ok s1 raw raw j.prog
    else if j.xts then
      let out := xtsBytes false j.key j.duSize j.prog.du bs
      .ok s1 raw (sub out (off - lo) n) { j.prog with du := (j.prog.du + ((off + n) / j.duSize - lo / j.duSize)) % 2 ^ 64 }
    else
      let (out, p) := j.crypt j.prog [] raw
      .ok s1 raw out p

/-- How an engine's next block or piece turns out: to be written, `j` being the job after it; or the job has ended or waits. -/
inductive NextBlock where
  | put (s : State) (j : Job) (out : List Byte)
  | fin (s : State)
  deriving DecidableEq, Repr

/-- R287, R310, R315: a block is compressed; HIST is set with a context unless INDEPENDENT is, in the first block of a new stream too
(DESIGN CHOICE, log entry 169). -/
def State.compressNext (s : State) (e : Nat) (j : Job) : NextBlock :=
  let p := j.prog
  let n := min j.blockSize (j.srcLen - p.inDone)
  let space := j.dstLen - p.outHere
  if space < 512 * max 1 j.target then .fin (s.endJob e j stOutFull (0, 0) 0 none)
  else match s.jobInput e j n with
  | .wait s1 => .fin s1
  | .poison s1 line => .fin (s1.poisonJob e j line)
  | .ok s1 raw _ _ =>
    let useHist := j.ctx != 0 && !j.independent
    let body := compressed raw (if useHist then p.hist else []) j.blockSize j.flags
    let lastB := (j.last || j.isExch) && decide (j.srcLen ≤ p.inDone + n)
    let blk := blockBytes raw body j.target p.nextSeq useHist lastB (decide (n < j.blockSize))
    if space < blk.length then .fin (s1.endJob e j stOutFull (0, 0) 0 none)
    else
      let (out, p1) := j.crypt p [] blk
      let p2 := { p1 with
        nextSeq := (p.nextSeq + 1) % 2 ^ 32
        raised := p.raised || (j.target != 0 && decide (j.target < (emitClass raw.length body.length).1))
        ended := p.ended || lastB }
      .put s1 (j.advance p2 raw out raw 1) out

/-- R288 to R290, R310: a block is read whole, checked and decoded, or ends the job (DESIGN CHOICE, log entry 171); ERR_SEQ of a header
of which not all is left, and of a block after LAST (DESIGN CHOICE, log entry 170).  The block of an exchange that its data list does
not hold ends it alike (DESIGN CHOICE, log entry 194). -/
def State.decompressNext (s : State) (e : Nat) (j : Job) : NextBlock :=
  let p := j.prog
  let avail := j.srcLen - p.inDone
  match s.jobInput e j (min avail 16) with
  | .wait s1 => .fin s1
  | .poison s1 line => .fin (s1.poisonJob e j line)
  | .ok s1 _ hd _ =>
    let size := if 16 ≤ avail ∧ 1 ≤ hdrClass hd ∧ hdrClass hd ≤ 129 then min avail (hdrClass hd * 512) else min avail 16
    match s1.jobInput e j size with
    | .wait s2 => .fin s2
    | .poison s2 line => .fin (s2.poisonJob e j line)
    | .ok s2 raw blk p1 =>
      let seqHere := if 16 ≤ avail then hdrSeq blk else p.nextSeq
      if p.ended then .fin (s2.endJob e j dcHeader (seqHere, 0) 0 none)
      else match decodeBlock blk avail p.nextSeq (if j.ctx = 0 then [] else p.hist) with
      | .bad code off => .fin (s2.endJob e j code (if code = dcHeader ∧ off < 2 then p.nextSeq else seqHere, off) 0 none)
      | .ok out =>
        if j.dstLen - p.outHere < out.length then .fin (s2.endJob e j stOutFull (0, 0) 0 none)
        else
          let p2 := { p1 with nextSeq := (hdrSeq blk + 1) % 2 ^ 32, ended := hdrLast blk }
          .put s2 (j.advance p2 raw out out 1) out

/-- R310: the length of the pieces of a job with COMP = 0. -/
def Job.pieceSize (j : Job) : Nat := if j.flag 6 then (j.blockSize + 4095) / 4096 * 4096 else j.blockSize

/-- R310: a piece of a job with COMP = 0. -/
def State.pieceNext (s : State) (e : Nat) (j : Job) : NextBlock :=
  let p := j.prog
  let n := min j.pieceSize (j.srcLen - p.inDone)
  if j.dstLen - p.outHere < n then .fin (s.endJob e j stOutFull (0, 0) 0 none)
  else match s.jobInput e j n with
  | .wait s1 => .fin s1
  | .poison s1 line => .fin (s1.poisonJob e j line)
  | .ok s1 raw plain p1 =>
    let (out, p2) := if j.encrypts then j.crypt p [] raw else (plain, p1)
    .put s1 (j.advance p2 raw out raw 0) out

/-- A block is held for writing, and its first segments are written (R313). -/
def State.putBlock (s : State) (e segs : Nat) (j j' : Job) (out : List Byte) : State :=
  State.writeSegs e segs (s.setJob e { j with rest := out, after := j'.prog })

/-- A running transform of kind COMP goes on: with the rest of its block, or with its next block; up to `segs` segments are
written. -/
def State.runBlock (s : State) (e segs comp : Nat) (next : State → Job → NextBlock) : State :=
  match mapGet? s.trs.jobs e with
  | none => s
  | some j =>
    if j.comp ≠ comp ∨ j.op ≠ 1 then s
    else if !j.rest.isEmpty then State.writeSegs e segs s
    else if j.srcLen ≤ j.prog.inDone then s.jobDone e j
    else match next s j with
    | .fin s1 => s1
    | .put s1 j' out => s1.putBlock e segs j j' out

/-! Internal errors and resets (R316, R318) -/

/-- R316: of the block that an engine has not finished, up to `n` further segments reach DST before it fails, never all of it. -/
def State.spillSegs (s : State) (e n : Nat) : State :=
  match mapGet? s.trs.jobs e with
  | none => s
  | some j => if n * 4096 < j.rest.length then State.writeSegs e n s else s

/-- The job of an engine is stopped and waits for a rerun. -/
def State.abortJob (s : State) (e : Nat) : State :=
  match mapGet? s.trs.jobs e with
  | none => s
  | some j => { s with trs := { s.trs with jobs := mapErase s.trs.jobs e, reruns := s.trs.reruns ++ [{ j with rest := [] }] } }

/-- R316: an internal error of an engine: its kind, and whether the reset clears it.  What it had written of the failing block
stays in DST. -/
def State.engineError (s : State) (e kind : Nat) (clears : Bool) : State :=
  if !s.fbit F.TRE_STATUS_IN_SERVICE e 0 || !s.domPowered (96 + e) then s
  else
    let j := mapGet? s.trs.jobs e
    let n := (j.bind (·.inst)).getD 0
    let s1 := if j.isSome then s.fcount F.TRE_JOBS_RERUN e 0 1 else s
    let s2 := ((s1.fset F.TRE_ERR_VALID e 0 1).fset F.TRE_ERR_KIND e 0 kind).fset F.TRE_ERR_INSTANCE e 0 n
    let s3 := (s2.abortJob e).logFault (s2.fault (engBlk e) 0 0x400 1 3 (kind % 16 + n * 2 ^ 16))
    let s4 : State := if s3.flt.resets.any (fun r => r.1 == engBlk e) then s3
      else s3.openReset (engBlk e) false
    if clears then s4 else { s4 with flt := { s4.flt with stopped := engBlk e :: s4.flt.stopped } }

/-- R316: the reset of an engine has ended; one whose error it did not clear goes out of service. -/
def State.engineResetEnd (s : State) (e : Nat) : State :=
  if s.flt.stopped.contains (engBlk e) then
    let s1 := s.fset F.TRE_STATUS_IN_SERVICE e 0 0
    let s2 := { s1 with flt := { s1.flt with stopped := s1.flt.stopped.filter (· != engBlk e) } }
    s2.logFault (s2.fault (engBlk e) 0 0x401 3 3 (s2.fget F.TRE_ERR_KIND e 0 + s2.fget F.TRE_ERR_INSTANCE e 0 * 2 ^ 16))
  else s.fset F.TRE_STATUS_IN_SERVICE e 0 1

end Sys2Proof.Machine
end

