-- ==== Sys2Proof/Machine/Xch.lean ====
section
/-! DEFINITION. The exchange table (R337, R338), requests (R326 to R331, R339), completion rings (R332 to R336), paths and
attempts (R342 to R350). -/

namespace Sys2Proof.Machine

/-! States of an entry (R338) -/

def stIdle : Nat := 0
def stPosted : Nat := 1
def stStarted : Nat := 2
def stOnPath : Nat := 3
def stData : Nat := 4
def stStatus : Nat := 5
def stWritten : Nat := 6
def stReported : Nat := 7

def Entry.idle : Entry :=
  { state := 0, path := 0, abort := false, owner := 0, retries := 0, gen := 0, inst := 0, attempt := 0, cid := 0, req := 0,
    cq := 0, seq := 0, progress := 0, tried := 0, result := 0, tstatus := 0 }

def Exch.none_ : Exch :=
  { record := [], dl := [], len := 0, shift := 9, stage := [], outLen := 0, desc := PathDesc.absent, moved := 0,
    redrive := false, tstat := none, poison := false, lastState := 0, timeout := 0 }

def State.entry (s : State) (x : Nat) : Entry := mapGet Entry.idle s.xch.entries x
def State.exch (s : State) (x : Nat) : Exch := mapGet Exch.none_ s.xch.work x
def State.setEntry (s : State) (x : Nat) (e : Entry) : State :=
  { s with xch := { s.xch with entries := mapSet s.xch.entries x e } }

def State.setExch (s : State) (x : Nat) (w : Exch) : State := { s with xch := { s.xch with work := mapSet s.xch.work x w } }
def State.modEntry (s : State) (x : Nat) (f : Entry → Entry) : State := s.setEntry x (f (s.entry x))
def State.modExch (s : State) (x : Nat) (f : Exch → Exch) : State := s.setExch x (f (s.exch x))

/-- R340, R349: an entry becomes IDLE, and what the pair held of it is gone.  Its other fields stay until the entry is
taken again: ATTEMPT counts on, so that what is left of an earlier attempt is known as late. -/
def State.entryIdle (s : State) (x : Nat) : State :=
  { s with xch := { s.xch with entries := mapSet s.xch.entries x { s.entry x with state := stIdle }
                               work := mapErase s.xch.work x } }

/-- The entries that are not IDLE. -/
def State.liveEntries (s : State) : List Nat := (mapKeys s.xch.entries).filter (fun x => (s.entry x).state != stIdle)

/-- R338: the 224 bits of an entry below CHECK, and the whole entry. -/
def Entry.low (e : Entry) : Nat :=
  e.state + e.path * 2 ^ 4 + b2n e.abort * 2 ^ 7 + e.owner * 2 ^ 8 + e.retries * 2 ^ 12 + e.gen * 2 ^ 16 + e.inst * 2 ^ 32
    + e.attempt * 2 ^ 42 + e.cid * 2 ^ 48 + e.req / 64 * 2 ^ 64 + e.cq * 2 ^ 112 + e.seq * 2 ^ 128 + e.progress * 2 ^ 160
    + e.tried * 2 ^ 192 + e.result * 2 ^ 200 + e.tstatus * 2 ^ 208

def Entry.bits (e : Entry) : Nat := e.low + crc32c (natToBytes 28 e.low) * 2 ^ 224

/-- R338: an entry read from its bits. -/
def Entry.ofBits (b : Nat) : Entry :=
  { state := nfld b 0 4, path := nfld b 4 3, abort := nfld b 7 1 == 1, owner := nfld b 8 3, retries := nfld b 12 4,
    gen := nfld b 16 16, inst := nfld b 32 10, attempt := nfld b 42 6, cid := nfld b 48 16, req := nfld b 64 46 * 64,
    cq := nfld b 112 12, seq := nfld b 128 32, progress := nfld b 160 32, tried := nfld b 192 8, result := nfld b 200 8,
    tstatus := nfld b 208 16 }

/-- XCH_ACTIVE: the number of non-IDLE entries. -/
def State.activeCount (s : State) : Nat := s.liveEntries.length

/-! STATUS codes (R335) -/

def xSuccess : Nat := 0x00
def xTarget : Nat := 0x01
def xExhausted : Nat := 0x02
def xTransform : Nat := 0x03
def xPoison : Nat := 0x04
def xAborted : Nat := 0x05
def xResumed : Nat := 0x06
def xInDoubt : Nat := 0x07
def xRefRange : Nat := 0x10
def xRefBusy : Nat := 0x11
def xBadReq : Nat := 0x12
def xBadTarget : Nat := 0x13

/-! Request records (R328) -/

def opRead : Nat := 1
def opWrite : Nat := 2
def opFlush : Nat := 3
def opZeroes : Nat := 4
def opDsm : Nat := 5
def opMgmt : Nat := 0x10

def rqOp (r : List Byte) : Nat := dn r 0 1
def rqFua (r : List Byte) : Bool := (dn r 1 1).testBit 0
def rqEvent (r : List Byte) : Bool := (dn r 1 1).testBit 1
def rqComp (r : List Byte) : Nat := dn r 2 1
def rqCipher (r : List Byte) : Nat := dn r 3 1
def rqExch (r : List Byte) : Nat := dn r 8 4 % 2 ^ 20
def rqTarget (r : List Byte) : Nat := dn r 14 2 % 4096
def rqMask (r : List Byte) : Nat := dn r 16 1
def rqCq (r : List Byte) : Nat := dn r 20 2 % 4096
def rqTag (r : List Byte) : Nat := dn r 24 8
def rqBlocks (r : List Byte) : Nat := dn r 40 4
def rqDlCount (r : List Byte) : Nat := dn r 44 4
def rqDlAddr (r : List Byte) : Nat := dn r 48 8
def rqTransforms (r : List Byte) : Bool := rqComp r != 0 || rqCipher r != 0

/-- R328, R362: the checks on the fields of a record that belong to one instance. -/
def badRecord (r : List Byte) (inst : Nat) : Bool :=
  let op := rqOp r
  let ci := rqCipher r
  let rd := op == opRead
  let wr := op == opWrite
  let io := rd || wr || op == opZeroes
  !(rd || wr || op == opFlush || op == opZeroes || op == opDsm || op == opMgmt)
    || decide (4 ≤ dn r 1 1) || (rqFua r && !(rd || wr || op == opZeroes))
    || decide (2 < rqComp r) || (rqComp r == 1 && !wr) || (rqComp r == 2 && !rd)
    || decide (4 < ci) || ((ci == 1 || ci == 3) && !wr) || ((ci == 2 || ci == 4) && !rd)
    || decide (129 < dn r 4 1) || (dn r 4 1 != 0 && rqComp r != 1)
    || decide (127 < dn r 5 1) || (dn r 5 1 != 0 && (rqComp r == 2 || !rqTransforms r))
    || decide (4096 ≤ dn r 6 2) || (ci == 0 && dn r 6 2 != 0)
    || decide (2 ^ 20 ≤ dn r 8 4) || dn r 12 2 != inst || decide (4096 ≤ dn r 14 2)
    || (op != opMgmt && (dn r 17 1 != 0 || !allZero (sub r 72 24)))
    || (op == opMgmt && !(dn r 17 1 == 0x06 || dn r 17 1 == 0x02 || dn r 17 1 == 0x0A))
    || !allZero (sub r 18 2) || decide (4096 ≤ dn r 20 2) || !allZero (sub r 22 2)
    || (!io && (!allZero (sub r 32 8) || rqBlocks r != 0)) || (io && (rqBlocks r == 0 || decide (65536 < rqBlocks r)))
    || decide (4096 < rqDlCount r) || decide (rqDlAddr r % 16 ≠ 0) || (rqDlCount r == 0 && rqDlAddr r != 0)
    || ((op == opFlush || op == opZeroes) && rqDlCount r != 0)
    || ((ci == 1 || ci == 2) && !allZero (sub r 64 8)) || (decide (3 ≤ ci) && !allZero (sub r 68 4))
    || (ci == 0 && !allZero (sub r 56 16)) || !allZero (sub r 96 32)

/-! Targets and paths (R342) -/

def State.pathAddr (s : State) (t k : Nat) : Nat := s.fget F.XCH_TGT_BASE_BASE 0 0 * 2 ^ 12 + 256 * t + 32 * k

/-- A target is defined (R335). -/
def State.targetDefined (s : State) (t : Nat) : Bool := decide (t < s.fget F.XCH_TGT_CTL_COUNT 0 0)

/-- R342: the path descriptor as it stands; one in a poisoned line is absent, and one marked failed reads so from then on
(R343). -/
def State.pathDesc (s : State) (t k : Nat) : PathDesc :=
  let d := s.bytesAt (s.pathAddr t k) 32
  { state := if !(s.targetDefined t && !s.poisoned (lineOf (s.pathAddr t k))) then 0
      else if s.xch.failing.contains (t, k) then 2 else dn d 0 1
    kind := dn d 1 1, group := dn d 2 1, port := dn d 3 1, nsid := dn d 4 4, shift := dn d 8 1, qset := dn d 10 2,
    maxUnits := dn d 12 4 }

/-- The descriptors of a target are here to be read, for work of an instance (R34); false while a line is awaited. -/
def State.pathsReady (s : State) (inst t : Nat) : State × Bool :=
  if !s.targetDefined t then (s, true)
  else match s.readyRead (.eng inst) (linesOf (s.pathAddr t 0) 256) with
    | (s1, .wait) => (s1, false)
    | (s1, _) => (s1, true)

/-- R343: STATE = 2 is written for the paths marked failed, as far as their lines are here. -/
def State.markPaths (s : State) : State :=
  s.xch.failing.foldl (fun s x =>
    match s.readyWrite (.eng 0) false [lineOf (s.pathAddr x.1 x.2)] with
    | (s1, true) =>
      let s2 := s1.storeBytes (.eng 0) (s1.pathAddr x.1 x.2) [2#8]
      { s2 with xch := { s2.xch with failing := s2.xch.failing.filter (· != x) } }
    | (s1, false) => s1) s

/-- The paths of a mask, rising. -/
def maskPaths (mask : Nat) : List Nat := (List.range 8).filter (fun k => mask.testBit k)

/-- R344: the largest command on a path, in 512-byte units: whole blocks of the target for what is addressed by block, and no
limit where MAX_UNITS is zero. -/
def chunkUnits (op shift units maxUnits : Nat) : Nat :=
  if maxUnits = 0 then max 1 units
  else if op = opRead ∨ op = opWrite ∨ op = opZeroes then max 1 (maxUnits / 2 ^ (shift - 9)) * 2 ^ (shift - 9)
  else maxUnits

/-- R344: the commands that an amount of data takes. -/
def commandCount (units chunk : Nat) : Nat := if units = 0 then 1 else (units + chunk - 1) / chunk

/-! Data lists (R329, R330) -/

/-- The entries of a data list; none where a length or a reserved byte is wrong. -/
def parseList : Nat → List Byte → Option (List (Nat × Nat))
  | 0, _ => some []
  | n + 1, b =>
    if dn b 8 4 = 0 ∨ 2 ^ 28 < dn b 8 4 ∨ dn b 12 4 ≠ 0 then none
    else match parseList n (b.drop 16) with
      | none => none
      | some ps => some ((dn b 0 8, dn b 8 4) :: ps)

def listTotal (ps : List (Nat × Nat)) : Nat := (ps.map Prod.snd).sum

/-- R287, R330: the worst case of a compressed input, for a target class, 0 for none. -/
def worstCase (len blockUnits target : Nat) : Nat :=
  let b := (if blockUnits = 0 then 128 else blockUnits) * 512
  let whole (l : Nat) : Nat := if l = 0 then 0 else max (512 * target) (512 * ((l + 511) / 512) + 512)
  len / b * whole b + whole (len % b)

/-- A request as checked: a refusal, or what its exchange starts with. -/
inductive Checked_ where
  | refuse (code : Nat)
  | accept (w : Exch) (stageUnits : Nat)
  | wait
  deriving DecidableEq, Repr

/-- R345, R362: the CQ of a record is one of the ring's instance. -/
def State.cqOwned (s : State) (c inst : Nat) : Bool :=
  s.fget F.XCH_CQ_CTL_INSTANCE 0 c == inst && s.fget F.XCH_CQ_BASE_BASE 0 c != 0

/-- R329, R330, R344: the data list and the lengths, given the paths of the mask that are present. -/
def State.checkLengths (s : State) (r : List Byte) (ps : List PathDesc) : State × Checked_ :=
  let op := rqOp r
  let shift := (ps.headD PathDesc.absent).shift
  let tb := rqBlocks r * 2 ^ shift
  let known := op == opRead || op == opWrite || op == opZeroes
  match s.readyRead (.eng (dn r 12 2)) (linesOf (rqDlAddr r) (16 * rqDlCount r)) with
  | (s1, .wait) => (s1, .wait)
  | (s1, rs) =>
    let pois := rs != .ok
    let dl? := if pois then some [] else parseList (rqDlCount r) (s1.bytesAt (rqDlAddr r) (16 * rqDlCount r))
    match dl? with
    | none => (s1, .refuse xBadReq)
    | some dl =>
      let total := listTotal dl
      let len := if op = opFlush then 0 else if known && rqComp r == 0 then tb else if op == opZeroes then tb else total
      let worst := worstCase total (dn r 5 1) (dn r 4 1)
      let units := if rqComp r = 1 then worst / 512 else if known then tb / 512 else (len + 511) / 512
      let bad :=
        (!pois && known && op != opZeroes && rqComp r == 0 && total != tb)
        || (!pois && rqComp r == 1 && decide (tb < worstCase total (dn r 5 1) 0))
        || (rqComp r != 0 && shift != 9)
        || decide ((if rqTransforms r then 2 ^ 22 else 2 ^ 28) < len)
        || ps.any (fun p => decide (256 < commandCount units (chunkUnits op shift units p.maxUnits)))
      if bad then (s1, .refuse xBadReq)
      else
        -- R351: the input and its bound, whatever the transform (log entry 163)
        let input := if rqComp r = 1 then total else tb
        let stage := if rqTransforms r then (worstCase input (dn r 5 1) (dn r 4 1) + 65535) / 65536 else 0
        (s1, .accept { Exch.none_ with record := r, dl, len, shift, poison := pois } stage)

/-- R328, R335, R339: a request record checked; the order of the refusals is log entry 15. -/
def State.checkRecord (s : State) (r : List Byte) (inst : Nat) : State × Checked_ :=
  if badRecord r inst || !s.cqOwned (rqCq r) inst then (s, .refuse xBadReq)
  else match s.pathsReady inst (rqTarget r) with
  | (s, false) => (s, .wait)
  | (s, true) =>
    let ps := ((maskPaths (rqMask r)).map (s.pathDesc (rqTarget r))).filter (fun p => p.state != 0)
    if ps.isEmpty then (s, .refuse xBadTarget)
    else match s.checkLengths r ps with
      | (s1, .accept w n) =>
        let lo := s1.fget F.INST_XRANGE_BASE 0 inst * 256
        if !inRange lo (s1.fget F.INST_XRANGE_COUNT 0 inst * 256) (rqExch r) then (s1, .refuse xRefRange)
        else if (s1.entry (rqExch r)).state ≠ stIdle then (s1, .refuse xRefBusy)
        else (s1, .accept w n)
      | x => x

/-! Completion rings (R332, R333, R334) -/

def State.cqHead (s : State) (c : Nat) : Nat := s.fget F.XCH_CQ_HEAD_HEAD 0 c
def State.cqTail (s : State) (c : Nat) : Nat := s.fget F.XCH_CQ_TAIL_TAIL 0 c
def State.cqSize (s : State) (c : Nat) : Nat := 2 ^ s.fget F.XCH_CQ_CTL_SIZE_LOG2 0 c
def State.cqReserved (s : State) (c : Nat) : Nat := mapGet 0 s.xch.reserved c

/-- R332: the SEQs assigned from TAIL on, with whether each record is written. -/
def State.cqIssued (s : State) (c : Nat) : List Bool := mapGet [] s.xch.issued c
def State.setIssued (s : State) (c : Nat) (l : List Bool) : State :=
  { s with xch := { s.xch with issued := if l.isEmpty then mapErase s.xch.issued c else mapSet s.xch.issued c l } }

/-- The SEQ that is assigned next. -/
def State.nextSeq (s : State) (c : Nat) : Nat := (s.cqTail c + (s.cqIssued c).length) % 2 ^ 32

/-- R333: slots reserved and unconsumed. -/
def State.cqUsed (s : State) (c : Nat) : Nat := s.cqReserved c + (s.cqIssued c).length + (s.cqTail c + 2 ^ 32 - s.cqHead c) % 2 ^ 32
def State.cqFree (s : State) (c : Nat) : Bool := s.fbit F.XCH_CQ_CTL_ENABLE 0 c && decide (s.cqUsed c < s.cqSize c)

def State.reserve (s : State) (c : Nat) : State :=
  { s with xch := { s.xch with reserved := mapSet s.xch.reserved c (s.cqReserved c + 1) } }

/-- R332, R336: the next SEQ of a ring is assigned to a reserved slot. -/
def State.takeSeq (s : State) (c : Nat) : State × Nat :=
  let s1 := { s with xch := { s.xch with reserved :=
    (let n := s.cqReserved c - 1
     if n = 0 then mapErase s.xch.reserved c else mapSet s.xch.reserved c n) } }
  (s1.setIssued c (s.cqIssued c ++ [false]), s.nextSeq c)

/-- R332: the record of a SEQ is written: TAIL moves past every record that is. -/
def State.seqWritten (s : State) (c q : Nat) : State :=
  let l := (s.cqIssued c).set ((q + 2 ^ 32 - s.cqTail c) % 2 ^ 32) true
  let n := (l.takeWhile id).length
  (s.setIssued c (l.drop n)).fset F.XCH_CQ_TAIL_TAIL 0 c (s.cqTail c + n)

/-- A record's 32 bytes (R334). -/
def recordBytes (seq exch inst tag status last path count gen tstatus units origCq origSeq : Nat) : List Byte :=
  natToBytes 4 seq ++ natToBytes 4 (exch % 2 ^ 20 + inst % 1024 * 2 ^ 20) ++ natToBytes 8 tag
    ++ [BitVec.ofNat 8 status, BitVec.ofNat 8 last, BitVec.ofNat 8 path, BitVec.ofNat 8 count]
    ++ natToBytes 2 gen ++ natToBytes 2 tstatus ++ natToBytes 4 (units % 2 ^ 20 + origCq % 4096 * 2 ^ 20) ++ natToBytes 4 origSeq

def State.cqSlot (s : State) (c seq : Nat) : Nat := s.fget F.XCH_CQ_BASE_BASE 0 c * 2 ^ 12 + 32 * (seq % s.cqSize c)

/-- The slot of a record is here to be written; false while its line is awaited. -/
def State.slotReady (s : State) (c seq : Nat) : State × Bool :=
  s.readyWrite (.eng (s.fget F.XCH_CQ_CTL_INSTANCE 0 c)) false [lineOf (s.cqSlot c seq)]

/-- R341, R335: a record is written whole. -/
def State.writeRecord (s : State) (c seq : Nat) (bs : List Byte) : State :=
  (s.storeBytes (.eng (s.fget F.XCH_CQ_CTL_INSTANCE 0 c)) (s.cqSlot c seq) bs).seqWritten c seq

/-! Entry to STATUS (R340) -/

/-- What is left of the transform of an exchange is dropped: its result, its place in a queue, its engine.  A job of an old
generation stops by itself (R313). -/
def State.cancelTransform (s : State) (x : Nat) : State :=
  let mine (j : Job) : Bool := j.src == .exch x
  let s1 := { s with trs := { s.trs with
    results := mapErase s.trs.results x
    ready := s.trs.ready.filter (fun j => !mine j)
    reruns := s.trs.reruns.filter (fun j => !mine j) } }
  s1.trs.jobs.foldl (fun s p => if mine p.2 && !s.jobStale p.2 then s.freeEngine p.1 p.2 else s) s1

/-- R340: the decision of a completion: SEQ assigned, RESULT and TSTATUS set. -/
def State.toStatus (s : State) (x result tstatus : Nat) : State :=
  let e := s.entry x
  let (s1, q) := (s.cancelTransform x).takeSeq e.cq
  ((s1.setEntry x { e with state := stStatus, seq := q, result, tstatus }).modExch x (fun w =>
    { w with lastState := e.state, redrive := false }))

/-- R334: UNITS of a live completion: the data moved to or from the data list; of a WRITE with a transform the units emitted
(R351). -/
def State.unitsOf (s : State) (x : Nat) : Nat :=
  let e := s.entry x
  let w := s.exch x
  if rqTransforms w.record && rqOp w.record == opRead then (w.outLen + 511) / 512
  else if e.result ≠ xSuccess then e.progress
  else if rqComp w.record = 1 then w.outLen / 512
  else if rqOp w.record = opZeroes then 0
  else if rqOp w.record = opMgmt then (w.moved + 511) / 512
  else (w.len + 511) / 512

/-- R334, R356, R383: the record of an entry in STATUS becomes visible; one decided before a reset is of the old generation. -/
def State.recordVisible (s : State) (x : Nat) : State :=
  let e := s.entry x
  let w := s.exch x
  let gen := if e.result = xAborted then s.instGen e.inst else e.gen
  let fromTarget := e.result == xSuccess || e.result == xTarget
  let doubt := e.result == xInDoubt
  let bs := recordBytes e.seq x e.inst (rqTag w.record) e.result (if e.result = xAborted ∨ doubt then w.lastState else 0)
    (e.path + b2n fromTarget * 2 ^ 7) (if doubt then 0 else e.retries) gen e.tstatus (s.unitsOf x)
    (if doubt then e.cq else 0) (if doubt then 0xFFFFFFFF else 0)
  let s1 := (s.writeRecord e.cq e.seq bs).fcount F.SEQ_COUNT_COMPLETED e.owner 0 1
  (s1.modEntry x (fun e => { e with state := stWritten })).modExch x (fun w => { w with stage := [] })

/-- R340: the event of a record, then REPORTED. -/
def State.reportRecord (s : State) (x : Nat) : State :=
  let e := s.entry x
  let s1 := if rqEvent (s.exch x).record then s.raiseBlock (s.fget F.XCH_CQ_CTL_SOURCE 0 e.cq) else s
  s1.modEntry x (fun e => { e with state := stReported })

/-! Attempts (R347) -/

def State.attemptsOf (s : State) (x : Nat) : List Attempt := s.xch.attempts.filter (fun a => a.exch == x)
def State.setAttempts (s : State) (as : List Attempt) : State := { s with xch := { s.xch with attempts := as } }

/-- The attempt that is the entry's own. -/
def State.current (s : State) (x : Nat) : Option Attempt :=
  s.xch.attempts.find? (fun a => a.exch == x && a.number == (s.entry x).attempt)

/-- Paths of one queue set (R347). -/
def PathDesc.sameQueues (p q : PathDesc) : Bool := p.kind == q.kind && p.group == q.group && p.port == q.port && p.qset == q.qset

/-- Every CID allocated on a path's queue, but for one that exchange `x` itself starts with: of attempts (R347), and of exchanges
that have started and whose transform comes first (R340). -/
def State.cidsOn (s : State) (x : Nat) (p : PathDesc) : List Nat :=
  (s.xch.attempts.filter (fun a => a.desc.sameQueues p)).flatMap Attempt.cids
    ++ (s.liveEntries.filter (fun y => y != x && (s.entry y).state == stStarted && (s.exch y).desc.sameQueues p)).map
      (fun y => (s.entry y).cid)

/-- `n` CIDs that are free, those offered first. -/
def allocCids (offered used : List Nat) (n : Nat) : List Nat :=
  (((offered.map (· % 65536)) ++ List.range (min 65536 (used.length + n))).filter (fun c => !used.contains c)).eraseDups.take n

/-- R345: commands outstanding at a pair on a path. -/
def State.outstanding (s : State) (owner t k : Nat) : Nat :=
  ((s.xch.attempts.filter (fun a => a.target == t && a.path == k && (s.entry a.exch).owner == owner)).map (·.open_.length)).sum

/-- R345: a path is usable. -/
def State.usable (s : State) (t k : Nat) : Bool := (s.pathDesc t k).state == 1

/-- R345: the choice among paths: the fewest commands outstanding, the lowest number on a tie. -/
def State.bestPath (s : State) (owner t : Nat) : List Nat → Option Nat
  | [] => none
  | k :: ks =>
    match s.bestPath owner t ks with
    | none => some k
    | some j => if s.outstanding owner t k ≤ s.outstanding owner t j then some k else some j

/-- R345, R348: a path for an entry, and TRIED after the choice. -/
def State.choosePath (s : State) (x : Nat) : Option (Nat × Nat) :=
  let e := s.entry x
  let t := rqTarget (s.exch x).record
  let up := (maskPaths (rqMask (s.exch x).record)).filter (s.usable t)
  match s.bestPath e.owner t (up.filter (fun k => !e.tried.testBit k)) with
  | some k => some (k, e.tried ||| 2 ^ k)
  | none => (s.bestPath e.owner t up).map (fun k => (k, 2 ^ k))

/-- The length of the commands of an exchange, in 512-byte units: of its data, or of the range that they clear. -/
def Exch.units (w : Exch) : Nat :=
  let op := rqOp w.record
  if op = opFlush then 0
  else if rqComp w.record = 1 then w.outLen / 512
  else if rqComp w.record = 2 ∨ op = opZeroes then rqBlocks w.record * 2 ^ w.shift / 512
  else (w.len + 511) / 512

def Exch.chunk (w : Exch) : Nat := chunkUnits (rqOp w.record) w.shift w.units w.desc.maxUnits

/-- R344: the commands of an exchange, one for each CID: from unit `off` on, of which `left` remain. -/
def Exch.split (w : Exch) : List Nat → Nat → Nat → List NvmeCmd
  | [], _, _ => []
  | cid :: cids, off, left =>
    { cid, lba := dn w.record 32 8 + off * 512 / 2 ^ w.shift, off := off * 512, units := min w.chunk left }
      :: w.split cids (off + w.chunk) (left - w.chunk)

/-- CIDs for the commands of an attempt; fewer than they are where the queue has not so many free. -/
def State.cidsFor (s : State) (x : Nat) (w : Exch) (offered : List Nat) : List Nat :=
  allocCids offered (s.cidsOn x w.desc) (commandCount w.units w.chunk)

def State.cidsFree (s : State) (x : Nat) (w : Exch) : Bool := (s.cidsFor x w []).length == commandCount w.units w.chunk

/-- R352: the pair has a queue of the path's queue set. -/
def State.useQueue (s : State) (p : PathDesc) (pair : Nat) : State :=
  if s.xch.queues.any (fun q => q.kind == p.kind && q.group == p.group && q.port == p.port && q.qset == p.qset && q.owner == pair)
  then s
  else { s with xch := { s.xch with queues := s.xch.queues ++
    [{ kind := p.kind, group := p.group, port := p.port, qset := p.qset, home := pair, owner := pair }] } }

/-- R340, R344: the commands of an attempt are submitted on its path. -/
def State.submit (s : State) (x : Nat) (offered : List Nat) : State :=
  let e := s.entry x
  let w := s.exch x
  let t := rqTarget w.record
  let cmds := w.split (s.cidsFor x w (e.cid :: offered)) 0 w.units
  let a : Attempt := { exch := x, number := e.attempt, target := t, path := e.path, desc := w.desc, cmds, done := [],
                       failed := (s.pathDesc t e.path).state == 2 }
  let s1 := ((s.setAttempts (s.xch.attempts ++ [a])).modEntry x (fun e => { e with
    state := stOnPath, cid := (cmds.head?.map (·.cid)).getD 0 })).modExch x (fun w => { w with redrive := a.failed })
  let s2 := s1.useQueue w.desc e.owner
  { s2 with outbox := s2.outbox ++ cmds.map (fun c => .command w.desc x e.attempt c w.record) }

/-! Inline transforms (R319, R351) -/

def stageBase (s : State) : Nat := s.fget F.XCH_STAGE_BASE_BASE 0 0 * 2 ^ 16

/-- Staging units in use. -/
def State.stageUsed (s : State) : List Nat := s.xch.work.flatMap (fun w => w.2.stage)

/-- `n` staging units that are free, those offered first; fewer if there are not so many. -/
def State.stageFree (s : State) (offered : List Nat) (n : Nat) : List Nat :=
  let top := s.fget F.XCH_STAGE_SIZE_UNITS 0 0
  let used := s.stageUsed
  ((offered ++ List.range (min top (used.length + n))).filter (fun u => decide (u < top) && !used.contains u)).eraseDups.take n

/-- The staging area of an exchange as pieces. -/
def State.stageMap (s : State) (w : Exch) : List (Nat × Nat) := w.stage.map (fun u => (stageBase s + u * 65536, 65536))

/-- R319: the descriptor of an exchange's job.  The request gives no SEQ and no tag: both are free (log entry 16); it gives no DIGEST
either, which is 0 (DESIGN CHOICE, log entry 195). -/
def State.exchDesc (s : State) (w : Exch) (srcLen dstLen : Nat) : List Byte :=
  let r := w.record
  [1#8] ++ sub r 2 1 ++ sub r 3 1 ++ [0#8, 4#8] ++ sub r 4 1 ++ sub r 5 1 ++ [0#8] ++ sub r 6 2 ++ [0#8, 0#8]
    ++ (List.range 4).map (Config.freeByte s.free) ++ natToBytes 8 0 ++ natToBytes 8 srcLen ++ natToBytes 8 0
    ++ natToBytes 8 dstLen ++ sub r 56 16 ++ List.replicate 32 0 ++ (List.range 16).map (Config.freeByte (s.free + 1))
    ++ List.replicate 400 0

/-- R319, R351: an exchange's transform is presented to the scheduler: into staging for a WRITE, out of it for a READ. -/
def State.presentTransform (s : State) (x : Nat) : State :=
  let e := s.entry x
  let w := s.exch x
  let wr := rqOp w.record == opWrite
  let stage := s.stageMap w
  let inMap := if wr then w.dl else stage
  let outMap := if wr then stage else w.dl
  let srcLen := if wr then w.len else rqBlocks w.record * 2 ^ w.shift
  let d := s.exchDesc w srcLen (listTotal outMap)
  let p := { Prog.start (dn d 12 4) (dn d 48 8) with dir := dn d 1 1 }
  let j : Job := { src := .exch x, inst := some e.inst, gen := e.gen, desc := 0, d, key := [], inMap, outMap, first := p,
                   prog := p, rest := [], after := p }
  { s.draw.draw with trs := { s.trs with ready := s.trs.ready ++ [j] } }

/-- R340, R345: a path is chosen for an entry: STARTED, and ON_PATH where no transform comes first.  A staged XCH_TIMEOUT acts for the
attempts that start from then on (R365). -/
def State.startAttempt (s : State) (x k tried : Nat) (cids : List Nat) : State :=
  let s1 := (s.takeStaged .XCH_TIMEOUT 0 0).modEntry x (fun e => { e with
    state := stStarted, path := k, tried, attempt := (e.attempt + 1) % 64, progress := 0 })
  let p := s1.pathDesc (rqTarget (s1.exch x).record) k
  let cid := (allocCids cids (s1.cidsOn x p) 1).headD 0
  let s2 := (s1.modEntry x (fun e => { e with cid })).modExch x (fun w => { w with
    redrive := false, tstat := none, desc := p, moved := 0, timeout := s1.fget F.XCH_TIMEOUT_TIMEOUT 0 0 })
  let w := s2.exch x
  if rqTransforms w.record && rqOp w.record == opWrite && w.outLen == 0 then s2.presentTransform x else s2.submit x cids

/-- R348: whether the entry's own attempt is still running. -/
def State.attemptRuns (s : State) (x : Nat) : Bool := (s.current x).isSome

/-- R366: a sequencer pair that carries exchanges. -/
def State.seqRuns (s : State) (p : Nat) : Bool :=
  decide (p < 8) && s.fbit F.SEQ_CTL_ENABLE p 0 && s.fget F.SEQ_STATUS_STATE p 0 != 4 && s.domPowered (104 + p / 2)
    && !s.flt.resets.any (fun r => r.1 == 0x31 + p || r.1 == 0x30)

/-- R357, R441: no command is submitted. -/
def State.submitsNone (s : State) : Bool := s.pwr.t0.isSome || s.flt.fatal

/-- The pair that carries an exchange runs. -/
def State.ownerRuns (s : State) (x : Nat) : Bool := s.seqRuns (s.entry x).owner

/-- R347, R356, R370: what an exchange does once its attempt has ended without a completion of its own; with no pair to carry
it, it waits for its adoption. -/
def State.afterAttempt (s : State) (x : Nat) : State :=
  let e := s.entry x
  if e.state < stPosted ∨ stStatus ≤ e.state ∨ s.attemptRuns x ∨ !s.ownerRuns x then s
  else if e.abort then s.toStatus x xAborted 0
  else if (s.exch x).poison then s.toStatus x xPoison 0
  else s

/-- R345, R348, R350: PATH_CHOICE. -/
def State.pathChoice (s : State) (x : Nat) (cids : List Nat) : State :=
  let e := s.entry x
  let w := s.exch x
  let rd := rqOp w.record == opRead
  let again := w.redrive && (e.state == stOnPath || e.state == stData) && (rd || !s.attemptRuns x)
  if s.submitsNone || !s.ownerRuns x then s
  else if e.state ≠ stPosted ∧ !again ∧ !(w.redrive && e.state == stStarted) then s
  else if e.abort then s.toStatus x xAborted 0
  else if w.poison then s.toStatus x xPoison 0
  else if again && decide (s.fget F.XCH_CTL_MAX_RETRY 0 0 < e.retries + 1) then s.toStatus x xExhausted 0
  else match s.pathsReady e.inst (rqTarget w.record) with
  | (s, false) => s
  | (s, true) => match s.choosePath x with
    | none => s.toStatus x xExhausted 0
    | some (k, tried) =>
      if !s.cidsFree x { w with desc := s.pathDesc (rqTarget w.record) k } then s
      else
      let s1 := if again then (s.modEntry x (fun e => { e with retries := e.retries + 1 })).fcount F.SEQ_COUNT_REDRIVES e.owner 0 1
        else s
      s1.startAttempt x k tried cids

/-- R337, R361: an entry that can be read from neither copy is in doubt: an exchange that has no SEQ yet ends IN_DOUBT, a decided
completion stands (R336), and an idle entry is written afresh (DESIGN CHOICE, log entry 135). -/
def State.inDoubt (s : State) (x : Nat) : State :=
  let e := s.entry x
  if e.state = stIdle then { s with xch := { s.xch with entries := mapErase s.xch.entries x } }
  else if e.state < stStatus then s.toStatus x xInDoubt 0
  else s

/-- R337: an entry that cannot be read is in doubt. -/
def State.entryLost (s : State) (x : Nat) : State := (s.inDoubt x).logFault (s.fault 0x30 0 0x501 2 3 x)

/-- R337: one copy is rewritten from the other; with both failed, or the only one in service (R355), the entry is in doubt. -/
def State.copyCheck (s : State) (x : Nat) : CopyCheck → State
  | .fine => s
  | .one => if s.fbit F.XCH_STATUS_SINGLE 0 0 then s.entryLost x else s.logFault (s.fault 0x30 0 0x500 0 3 x)
  | .both => s.entryLost x

/-- R337: what CHECK finds of the entries that a command reads (DEDUCED for the writes without it, log entry 178). -/
def State.copyChecks (s : State) (reads : Nat → Bool) (chks : List (Nat × CopyCheck)) : State :=
  (chks.filter (fun c => reads c.1)).foldl (fun s c => s.copyCheck c.1 c.2) s

/-- The entries that a command may read: those that are not IDLE; those of instance `n`; those whose records a completion ring
holds; those with an attempt on a path. -/
def State.isLive (s : State) (x : Nat) : Bool := (s.entry x).state != stIdle
def State.liveOf (s : State) (n x : Nat) : Bool := (s.entry x).state != stIdle && (s.entry x).inst == n
def State.reportedIn (s : State) (ring x : Nat) : Bool :=
  (s.entry x).cq == ring && ((s.entry x).state == stWritten || (s.entry x).state == stReported)

def State.onPath (s : State) (t k x : Nat) : Bool := (s.attemptsOf x).any (fun a => a.target == t && a.path == k)

/-! Taking a request (R327, R333, R358, R377, R380) -/

def State.rqHead (s : State) (r : Nat) : Nat := s.fget F.XCH_RQ_HEAD_HEAD 0 r
def State.rqTail (s : State) (r : Nat) : Nat := s.fget F.XCH_RQ_DOORBELL_TAIL 0 r
def State.rqInst (s : State) (r : Nat) : Nat := s.fget F.XCH_RQ_CTL_INSTANCE 0 r

/-- R365: the registers of the commit groups of rings. -/
def rqGroup (r : Nat) : List (RegName × Nat) := [(.XCH_RQ_BASE, r), (.XCH_RQ_CTL, r)]
def cqGroup (c : Nat) : List (RegName × Nat) := [(.XCH_CQ_BASE, c), (.XCH_CQ_CTL, c)]

/-- R365: ring registers committed and staged take force; no request of the ring is being taken between commands. -/
def State.rqSafe (s : State) (r : Nat) : State :=
  let s1 := s.takeStaged .XCH_RQ_CTL 0 r
  s1.commitActs 0x30 (r + 2) (fun s => (s.fset F.XCH_RQ_HEAD_HEAD 0 r 0).fset F.XCH_RQ_DOORBELL_TAIL 0 r 0)

/-- R365: a completion ring's group acts when no slot is reserved and HEAD equals TAIL. -/
def State.cqSafe (s : State) (c : Nat) : State :=
  let s1 := s.takeStaged .XCH_CQ_CTL 0 c
  if s1.cqReserved c == 0 && (s1.cqIssued c).isEmpty && s1.cqHead c == s1.cqTail c then s1.commitActs 0x30 (c + 4098) id else s1

/-- R327, R337, R357, R360: whether requests may be taken at all: not before the save target has been read. -/
def State.xchTakes (s : State) : Bool :=
  !s.xch.seek && s.fbit F.XCH_CTL_ENABLE 0 0 && (s.fbit F.XCH_STATUS_COPY_A_OK 0 0 || s.fbit F.XCH_STATUS_COPY_B_OK 0 0)
    && !s.fbit F.XCH_STATUS_IMAGE 0 0 && s.pwr.t0.isNone && !s.flt.fatal

/-- R326, R307: an entry skipped. -/
def State.skipRequest (s : State) (r : Nat) (m : FaultMsg) : State :=
  (s.fset F.XCH_RQ_HEAD_HEAD 0 r (s.rqHead r + 1)).logFault m

/-- The request record at the head of a ring. -/
inductive RqHead where
  | none
  | wait
  | record (addr : Nat) (r : Option (List Byte))
  deriving DecidableEq, Repr

def State.rqHeadOf (p r : Nat) : Nat → State → State × RqHead
  | 0, s => (s, .none)
  | n + 1, s =>
    if s.rqHead r = s.rqTail r then (s, .none)
    else
      let size := 2 ^ s.fget F.XCH_RQ_CTL_SIZE_LOG2 0 r
      let a := s.fget F.XCH_RQ_BASE_BASE 0 r * 2 ^ 12 + 8 * (s.rqHead r % size)
      match s.readyRead (.eng (s.fget F.XCH_RQ_CTL_INSTANCE 0 r)) (linesOf a 8) with
      | (s1, .wait) => (s1, .wait)
      | (s1, .poison line) => State.rqHeadOf p r n (s1.skipRequest r (s1.fault (0x31 + p) 0 0x206 2 1 line))
      | (s1, .ok) =>
        let v := s1.natAt a 8
        if v % 64 ≠ 0 ∨ 2 ^ 52 ≤ v then State.rqHeadOf p r n (s1.skipRequest r (s1.fault (0x31 + p) 0 0x007 1 0 0))
        else match s1.readyRead (.eng (s.fget F.XCH_RQ_CTL_INSTANCE 0 r)) (linesOf v 128) with
          | (s2, .wait) => (s2, .wait)
          | (s2, .poison _) => (s2, .record v none)
          | (s2, .ok) => (s2, .record v (some (s2.bytesAt v 128)))

/-- R327, R335: the completion ring of an entry's record. -/
def State.cqFor (s : State) (ring : Nat) (r : Option (List Byte)) : Nat :=
  match r with
  | some b => if dn b 20 2 < 4096 && s.cqOwned (rqCq b) (s.rqInst ring) then rqCq b else s.fget F.XCH_RQ_CTL_CQ 0 ring
  | none => s.fget F.XCH_RQ_CTL_CQ 0 ring

/-- What taking the head of a ring would do. -/
inductive Take where
  | none
  | refuse (addr : Nat) (r : Option (List Byte)) (cq code : Nat)
  | accept (addr : Nat) (r : List Byte) (cq : Nat) (w : Exch) (stage : Nat)
  deriving DecidableEq, Repr

/-- R327, R333, R358, R378: the head of a ring, if it can be taken now. -/
def State.takeable (s : State) (p ring : Nat) (offered : List Nat) : State × Take :=
  match State.rqHeadOf p ring 65536 s with
  | (s1, .none) => (s1, .none)
  | (s1, .wait) => (s1, .none)
  | (s1, .record a r) =>
    let c := s1.cqFor ring r
    if !s1.cqFree c then (s1, .none)
    else match r with
      | none => (s1, .refuse a none c xBadReq)
      | some b => match s1.checkRecord b (s1.rqInst ring) with
        | (s2, .wait) => (s2, .none)
        | (s2, .refuse code) => (s2, .refuse a r c code)
        | (s2, .accept w n) =>
          if !(s2.bytesOk (s2.rqInst ring) && s2.exchOk (s2.rqInst ring)) then (s2, .none)
          else if s2.fget F.XCH_CTL_SAVE_KIND 0 0 ≠ 0 ∧ s2.fget F.XCH_SAVE_LIMIT_LIMIT 0 0 ≤ s2.activeCount then (s2, .none)
          else if (s2.stageFree offered n).length < n then (s2, .none)
          else (s2, .accept a b c w n)

/-- R380: the rings that pair `p` serves and that hold entries, by instance. -/
def State.ringsOf (s : State) (p : Nat) : List Nat :=
  (s.listedOf .XCH_RQ_DOORBELL).filter (fun r =>
    s.fbit F.XCH_RQ_CTL_ENABLE 0 r && s.fget F.XCH_RQ_CTL_PAIR 0 r == p && s.fget F.XCH_RQ_BASE_BASE 0 r != 0
      && !s.instResetting (s.rqInst r))

def State.canTake (s : State) (p r : Nat) (offered : List Nat) : Bool :=
  match (s.takeable p r offered).2 with
  | .none => false
  | _ => true

def State.seqSched (s : State) (p : Nat) : Sched := mapGet Sched.reset s.xch.scheds p
def State.setSeqSched (s : State) (p : Nat) (c : Sched) : State :=
  { s with xch := { s.xch with scheds := mapSet s.xch.scheds p c } }

/-- R380, R387: the pair goes on from `c`, by which instances have been visited. -/
def State.seqSchedOn (s : State) (p : Nat) (c : Sched) (ns : List Nat) : State :=
  (s.setSeqSched p c).visitsOver ((s.seqSched p).visit.toList ++ ns)

/-- R380: SEQ_WEIGHT, 0 acting as 1. -/
def State.seqWeight (s : State) (n : Nat) : Nat := max 1 (s.fget F.INST_CTL_SEQ_WEIGHT 0 n)

/-- The next ring in turn after `last` (R380). -/
def nextRing (last : Option Nat) (rs : List Nat) : Option Nat :=
  match last with
  | none => rs.head?
  | some k => match rs.find? (fun r => decide (k < r)) with
    | some r => some r
    | none => rs.head?

/-- R377: the charge of an accepted exchange. -/
def State.chargeRequest (s : State) (n len : Nat) : State := (s.chargeBytes n ((len + 1023) / 1024)).chargeExch n

/-- R327, R337, R340: the entry at the head of a ring is taken. -/
def State.takeRequest (s : State) (p ring : Nat) (offered : List Nat) : Take → State
  | .none => s
  | .refuse a r c code =>
    match s.slotReady c (s.nextSeq c) with
    | (s, false) => s
    | (s, true) =>
    let n := s.rqInst ring
    let (s1, q) := ((s.reserve c).fset F.XCH_RQ_HEAD_HEAD 0 ring (s.rqHead ring + 1)).takeSeq c
    let b := r.getD (List.replicate 128 0)
    let bs := match r with
      | some b => recordBytes q (dn b 8 4) n (rqTag b) code 0 0 0 (s1.instGen n) 0 0 0 0
      | none =>
        -- the record could not be read: EXCH and TAG are free (log entry 17)
        recordBytes q (Config.freeWord s.free).toNat n (Config.freeWord (s.free + 1)).toNat code 0 0 0 (s1.instGen n) 0 0 0 0
    let s2 := (s1.writeRecord c q bs).fcount F.SEQ_COUNT_COMPLETED p 0 1
    let s3 := if r.isNone then (s2.draw.draw).logFault (s2.fault (0x31 + p) 0 0x206 2 1
        (((linesOf a 128).find? s2.poisoned).getD (lineOf a))) else s2
    if r.isSome && rqEvent b then s3.raiseBlock (s3.fget F.XCH_CQ_CTL_SOURCE 0 c) else s3
  | .accept a b c w n =>
    let i := s.rqInst ring
    let x := rqExch b
    let s1 := ((s.reserve c).fset F.XCH_RQ_HEAD_HEAD 0 ring (s.rqHead ring + 1)).chargeRequest i w.len
    let e : Entry := { Entry.idle with attempt := (s1.entry x).attempt, state := stPosted, owner := p, gen := s1.instGen i, inst := i, req := a, cq := c }
    let s2 := (s1.setEntry x e).setExch x { w with stage := s1.stageFree offered n }
    if w.poison then
      let dl := linesOf (rqDlAddr b) (16 * rqDlCount b)
      s2.logFault (s2.fault (0x31 + p) 0 0x206 2 1 ((dl.find? s2.poisoned).getD (lineOf (rqDlAddr b))))
    else s2

/-- Which row a request record belongs to: READ also takes what no other row does. -/
def rowOp (r : Option (List Byte)) : Nat :=
  match r with
  | some b => if [opWrite, opFlush, opZeroes, opDsm, opMgmt].contains (rqOp b) then rqOp b else opRead
  | none => opRead

def Take.row : Take → Nat
  | .none => 0
  | .refuse _ r _ _ => rowOp r
  | .accept _ b _ _ _ => rowOp (some b)

/-- Whether what the head of a ring asks for is still awaited: the entry, its record, or what the checks of it read. -/
def State.ringAwaits (s : State) (p r : Nat) : Bool :=
  match State.rqHeadOf p r 65536 s with
  | (_, .wait) => true
  | (s1, .record _ (some b)) => (s1.checkRecord b (s1.rqInst r)).2 == .wait
  | _ => false

/-- An instance whose next request is not known yet. -/
def State.instAwaits (s : State) (p n : Nat) : Bool := (s.ringsOf p).any (fun r => s.rqInst r == n && s.ringAwaits p r)

/-- The instances with a request that pair `p` can take. -/
def State.seqWork (s : State) (p : Nat) (offered : List Nat) : List Nat :=
  (((s.ringsOf p).filter (fun r => s.canTake p r offered)).map s.rqInst).eraseDups

/-- R379, R380: requests that have vanished leave pair `p` no deficit and no visit. -/
def State.seqIdle (s : State) (p : Nat) : State :=
  let c := s.seqSched p
  if c.deficit.isEmpty && c.visit.isNone then s
  else
    let work := s.seqWork p []
    s.seqSchedOn p (c.idle (fun n => work.contains n || s.instAwaits p n)) []

/-- R327, R380: pair `p` takes the request that is next, if it is of the row's operation. -/
def State.serve (s : State) (p op : Nat) (offered : List Nat) (chk : CopyCheck) : State :=
  if !s.xchTakes || !s.seqRuns p then s
  else
    let s0 := (s.listedOf .XCH_RQ_DOORBELL).foldl (fun s r => s.rqSafe r) s
    let s1 := (s0.ringsOf p).foldl (fun s r => (State.rqHeadOf p r 65536 s).1) s0
    match (s1.seqSched p).next s1.seqWeight (s1.instAwaits p) (s1.seqWork p offered) with
    | none => s1.seqIdle p
    | some (n, c) =>
      match nextRing (mapGet? c.ring n) ((s1.ringsOf p).filter (fun r => s1.rqInst r == n && s1.canTake p r offered)) with
      | none => s1
      | some ring =>
        let (s2, t) := s1.takeable p ring offered
        if t.row ≠ op then s2
        else
          let s3 := match t with
            | .accept _ b _ _ _ => s2.copyCheck (rqExch b) chk
            | .refuse _ (some b) _ code => if code = xRefBusy then s2.copyCheck (rqExch b) chk else s2
            | _ => s2
          let s4 := s3.takeRequest p ring offered t
          -- the slot of a refusal is awaited: nothing has been taken
          if s4.rqHead ring = s3.rqHead ring then s4
          else
            let more := (s4.seqWork p offered).contains n
            let c1 := c.served n 1 (more || s4.instAwaits p n) more
            s4.seqSchedOn p { c1 with ring := mapSet c1.ring n ring } [n]

end Sys2Proof.Machine
end

