-- ==== Sys2Proof/Machine/Paths.lean ====
section
/-! DEFINITION. What happens to running exchanges: window transfers (R346, R349), target completions, path failures and
re-drives (R343, R347, R348), transforms ending (R351), failover (R352), table copies (R355), supply loss and replay
(R357 to R361), links and device interrupts (R367 to R369). -/

namespace Sys2Proof.Machine

/-! Windows (R346, R349) -/

/-- What an endpoint or a target is answered. -/
def State.answer (s : State) (m : OutMsg) : State := { s with outbox := s.outbox ++ [m] }

/-- A request outside every window is refused by a completer abort: WINDOW_OUTSIDE from the group (R346, R369, R535). -/
def State.windowOutside (s : State) (group port : Nat) : State :=
  (s.answer (.completerAbort group port)).logFault (s.fault (0x64 + group) port 0x507 1 0 0)

/-- R349: a transfer is discarded as late; a read is answered with a completer abort. -/
def State.lateTransfer (s : State) (o : WindowOp) : State :=
  let s1 := s.fcount F.XCH_LATE_DMA 0 0 1
  if o.write then s1 else s1.answer (.completerAbort o.group o.port)

/-- R367: what the FEC of Ethernet group `g` found; of traffic without a command of its own, with the next of the group's that says so
(DEDUCED, log entry 182). -/
def State.fecFound (s : State) (g fixed bad : Nat) : State :=
  if g < 4 then (s.fcount F.ETH_FEC_CORRECTED g 0 fixed).fcount F.ETH_FEC_UNCORRECTED g 0 bad else s

/-- R367: code words on the way of a transfer. -/
def State.fecSeen (s : State) (o : WindowOp) : State := if o.rdma then s.fecFound o.group o.fecFixed o.fecBad else s

/-- Where a window's offset lies: staging for a transform, else the data list. -/
def State.windowMap (s : State) (w : Exch) : List (Nat × Nat) := if rqTransforms w.record then s.stageMap w else w.dl

/-- The bytes that a window covers. -/
def windowLen (w : Exch) : Nat :=
  if rqComp w.record = 1 then w.outLen
  else if rqComp w.record = 2 then rqBlocks w.record * 2 ^ w.shift
  else w.len

/-- R346: whether the operation moves data through a window in this direction. -/
def windowMoves (r : List Byte) (write : Bool) : Bool :=
  (rqOp r == opRead && write) || (rqOp r == opWrite && !rqFua r && !write) || (rqOp r == opDsm && !write)

/-- The exchange that a window address names. -/
def windowExch (o : WindowOp) : Nat := nfld o.addr.toNat 28 20

/-- R346: a transfer belongs to the current attempt of an exchange. -/
def State.windowCurrent (s : State) (o : WindowOp) : Bool :=
  let e := s.entry (windowExch o)
  (e.state == stOnPath || e.state == stData) && e.attempt == nfld o.addr.toNat 48 6 && e.gen == s.instGen e.inst

/-- R338, R340: `n` bytes of an attempt have moved: DATA, with PROGRESS in whole units. -/
def State.dataMoved (s : State) (x n : Nat) : State :=
  let m := (s.exch x).moved + n
  (s.modExch x (fun w => { w with moved := m })).modEntry x (fun e => { e with state := stData, progress := m / 512 % 2 ^ 32 })

/-- R346, R349: one transfer. -/
def State.windowTransfer (s : State) (o : WindowOp) : State :=
  let x := windowExch o
  let off := nfld o.addr.toNat 0 28
  let n := if o.write then o.data.length else o.len
  if !o.rdma && !o.addr.toNat.testBit 63 then s.windowOutside o.group o.port
  else
    let s := s.copyCheck x o.chk
    let e := s.entry x
    let w := s.exch x
    if !s.windowCurrent o then s.lateTransfer o
    else if !windowMoves w.record o.write || windowLen w < off + n || n == 0 then
      if o.rdma then s.lateTransfer o else s.windowOutside o.group o.port
    else
      let ps := spans (s.windowMap w) off n
      if o.write then match s.writeSpans e.inst ps o.data with
        | (s1, true) => s1.dataMoved x n
        | (s1, false) => s1
      else match s.readSpans (0x31 + e.owner) e.inst ps with
        | .bytes s1 bs => (s1.dataMoved x n).answer (.readData o.group o.port bs)
        | .poison s1 _ => (s1.modExch x (fun w => { w with poison := true })).answer (.completerAbort o.group o.port)
        | .wait s1 => s1

/-! The checkpoints of the sequencer pairs (R251, R324) -/

def SeqPair.reset : SeqPair := { hist := FailHist.reset, checkers := [], staggers := [], commits := 0, shown := 0 }
def State.seqPair (s : State) (p : Nat) : SeqPair := mapGet SeqPair.reset s.xch.seqs p
def State.setSeqPair (s : State) (p : Nat) (c : SeqPair) : State := { s with xch := { s.xch with seqs := mapSet s.xch.seqs p c } }

/-- R251, R324: the checkpoint of a sequencer pair moves on with what the pair has changed; each command of a pair is compared whole
(DESIGN CHOICE, log entry 180). -/
def State.byPair (s : State) (p : Nat) (f : State → State) : State :=
  let s1 := f s
  if s1.xch = s.xch then s1 else s1.setSeqPair p { s1.seqPair p with commits := (s1.seqPair p).commits + 1 }

/-- R251, R324: what a pair carries: its entries and its attempts. -/
def State.pairWork (s : State) (p : Nat) : List (Nat × Entry) × List Attempt :=
  (s.xch.entries.filter (fun x => x.2.owner == p), s.xch.attempts.filter (fun a => (s.entry a.exch).owner == p))

/-- R251, R324: the checkpoint of each pair moves on whose entries or attempts a command has changed. -/
def State.byPairs (s : State) (f : State → State) : State :=
  let s1 := f s
  (List.range 8).foldl (fun t p =>
    if s1.pairWork p = s.pairWork p then t else t.setSeqPair p { t.seqPair p with commits := (t.seqPair p).commits + 1 }) s1

/-! Attempts that end (R347) -/

/-- An attempt is over: its CIDs are free. -/
def State.dropAttempt (s : State) (x number : Nat) : State :=
  s.setAttempts (s.xch.attempts.filter (fun a => !(a.exch == x && a.number == number)))

/-- R340, R350, R351: every command of the entry's own attempt has completed; there is nothing left to re-drive. -/
def State.attemptComplete (s : State) (x : Nat) : State :=
  let s := s.modExch x (fun w => { w with redrive := false })
  let e := s.entry x
  let w := s.exch x
  if e.abort then s.toStatus x xAborted 0
  else if w.poison then s.toStatus x xPoison 0
  else match w.tstat with
    | some t => s.toStatus x xTarget t
    | none =>
      if rqTransforms w.record && rqOp w.record == opRead then s.presentTransform x else s.toStatus x xSuccess 0

/-- A command of an attempt has completed: the attempt goes on with the rest, or is over; its CIDs stay allocated until then
(R347). -/
def State.commandDone (s : State) (a : Attempt) (cid : Nat) : State :=
  if (a.open_.filter (· != cid)).isEmpty then s.dropAttempt a.exch a.number
  else s.setAttempts (s.xch.attempts.map (fun b =>
    if b.exch == a.exch && b.number == a.number then { b with done := cid :: b.done } else b))

/-- R349: a completion belongs to the current attempt of its exchange. -/
def State.completionCurrent (s : State) (a : Attempt) : Bool :=
  let e := s.entry a.exch
  a.number == e.attempt && (e.state == stOnPath || e.state == stData)

/-- R329, R344: the data of a MGMT command is here to be written into its part of the list, or there is none; false while a line is
awaited. -/
def State.mgmtData (s : State) (a : Attempt) (cid : Nat) (data : List (BitVec 8)) : State × Bool :=
  let w := s.exch a.exch
  if s.completionCurrent a && rqOp w.record == opMgmt then
    let c := a.cmds.find? (·.cid == cid)
    let off := (c.map NvmeCmd.off).getD 0
    let n := min data.length (min (w.len - off) ((c.map NvmeCmd.units).getD 0 * 512))
    let (s1, ok) := s.writeSpans (s.entry a.exch).inst (spans w.dl off n) (data.take n)
    (if ok then s1.modExch a.exch (fun w => { w with moved := w.moved + n }) else s1, ok)
  else (s, true)

/-- R340, R349: a command of an attempt completes, with its status. -/
def State.completeCommand (s : State) (a : Attempt) (cid status : Nat) : State :=
  let x := a.exch
  let last := (a.open_.filter (· != cid)).isEmpty
  if s.completionCurrent a then
    let s1 := if status % 2 ^ 15 = 0 then s
      else s.modExch x (fun w => { w with tstat := some (w.tstat.getD (status % 2 ^ 15)) })
    let s2 := s1.commandDone a cid
    if last then s2.attemptComplete x else s2
  else
    let s1 := (s.fcount F.XCH_LATE_COMPLETIONS 0 0 1).commandDone a cid
    if last then s1.afterAttempt x else s1

/-- R349: the attempt that a completion on a path belongs to, by its CID. -/
def State.attemptBy (s : State) (target path cid : Nat) : Option Attempt :=
  s.xch.attempts.find? (fun a => a.target == target && a.path == path && a.open_.contains cid)

/-- R367: code words on the way of a completion over RDMA. -/
def State.fecCompletion (s : State) (target path cid fixed bad : Nat) : State :=
  let p := ((s.attemptBy target path cid).map Attempt.desc).getD (s.pathDesc target path)
  if p.kind = 2 then s.fecFound p.group fixed bad else s

/-- R340, R349: the completion of a command: found by its path's queue and its CID.  With no pair to carry the exchange it stays
in its queue (R352). -/
def State.targetCompletion (s : State) (target path cid status : Nat) (data : List (BitVec 8)) (chk : CopyCheck) : State :=
  match s.attemptBy target path cid with
  | none => s.fcount F.XCH_LATE_COMPLETIONS 0 0 1
  | some a =>
    if !s.ownerRuns a.exch then s
    else match (s.copyCheck a.exch chk).mgmtData a cid data with
      | (s1, false) => s1
      | (s1, true) => s1.completeCommand a cid status

/-- R347: an attempt ends by controller reset, deleted queues or successful Aborts. -/
def State.attemptEnd (s : State) (x number : Nat) : State :=
  match s.xch.attempts.find? (fun a => a.exch == x && a.number == number) with
  | none => s
  | some a =>
    if a.failed || (s.entry x).abort || (s.exch x).poison || a.number != (s.entry x).attempt then
      (s.dropAttempt x number).afterAttempt x
    else s

/-! Path failures (R343) -/

/-- R343: the descriptor of a path that fails; where it cannot be read, as an attempt on the path had read it. -/
def State.failDesc (s : State) (t k : Nat) : PathDesc :=
  if s.poisoned (lineOf (s.pathAddr t k)) && !s.xch.failing.contains (t, k) then
    ((s.xch.attempts.find? (fun a => a.target == t && a.path == k && !a.failed)).map Attempt.desc).getD PathDesc.absent
  else s.pathDesc t k

/-- R343, R347, R348: a path is marked failed, and its exchanges are to be re-driven; on a lost PCIe link every command of
the path has ended.  The record counts the exchanges that have a retry and a path left (R350, R430). -/
def State.pathGone (s : State) (t k : Nat) (cause : PathCause) : State :=
  let p := s.failDesc t k
  if p.state ≠ 1 ∧ p.state ≠ 3 then s
  else
    let s1 := ({ s with xch := { s.xch with failing := s.xch.failing ++ [(t, k)] } } : State).markPaths
    let hit := s1.liveEntries.filter (fun x =>
      rqTarget (s1.exch x).record == t && (s1.entry x).path == k
        && ((s1.entry x).state == stOnPath || (s1.entry x).state == stData) && (s1.attemptRuns x))
    let redrive := hit.filter (fun x => !(s1.entry x).abort && !(s1.exch x).poison)
    let s2 := redrive.foldl (fun s x => s.modExch x (fun w => { w with redrive := true })) s1
    let s3 := s2.setAttempts (s2.xch.attempts.map (fun a => if a.target == t && a.path == k then { a with failed := true } else a))
    let s4 := if p.kind = 1 ∧ cause = .link then
        (s3.setAttempts (s3.xch.attempts.filter (fun a => !(a.target == t && a.path == k))))
      else if p.kind = 2 then { s3 with xch := { s3.xch with fences := (t, k) :: s3.xch.fences } }
      else s3
    let s5 := if p.kind = 1 ∧ cause = .link then hit.foldl (fun s x => s.afterAttempt x) s4 else s4
    let n := (redrive.filter (fun x => decide ((s.entry x).retries < s.fget F.XCH_CTL_MAX_RETRY 0 0) && (s5.choosePath x).isSome)).length
    let blk := match hit with
      | x :: _ => 0x31 + (s.entry x).owner
      | [] => 0x30
    s5.logFault (s5.fault blk 0 0x504 2 3 (t % 4096 + k % 8 * 2 ^ 12 + n % 2 ^ 20 * 2 ^ 16))

/-- R343: a path fails; where its descriptor is awaited, once it is here. -/
def State.pathFail (s : State) (t k : Nat) (cause : PathCause) : State :=
  match s.pathsReady 0 t with
  | (s1, true) => s1.pathGone t k cause
  | (s1, false) => { s1 with xch := { s1.xch with lostPaths := s1.xch.lostPaths ++ [(t, k, cause)] } }

/-- Every path of a defined target over a port. -/
def State.pathsOver (s : State) (kind group port : Nat) : List (Nat × Nat) :=
  (List.range (s.fget F.XCH_TGT_CTL_COUNT 0 0)).flatMap (fun t =>
    ((List.range 8).filter (fun k =>
      let p := s.failDesc t k
      p.state != 0 && p.kind == kind && p.group == group && p.port == port)).map (fun k => (t, k)))

/-- The descriptors of every target are here to be read; false while a line is awaited. -/
def State.targetsReady (s : State) : State × Bool :=
  (List.range (s.fget F.XCH_TGT_CTL_COUNT 0 0)).foldl (fun x t =>
    let y := x.1.pathsReady 0 t
    (y.1, x.2 && y.2)) (s, true)

/-- R343, R369: a port's link is lost: the paths over it fail, once the target table is here. -/
def State.linkLost (s : State) (kind group port : Nat) : State :=
  match s.targetsReady with
  | (s1, true) => s1.byPairs (fun s => (s.pathsOver kind group port).foldl (fun s x => s.pathFail x.1 x.2 .link) s)
  | (s1, false) => { s1 with xch := { s1.xch with lostLinks := s1.xch.lostLinks ++ [(kind, group, port)] } }

/-- R343: the failures whose descriptors were awaited. -/
def State.failuresGo (s : State) : State :=
  if s.xch.lostPaths.isEmpty && s.xch.lostLinks.isEmpty then s
  else
    let s1 : State := { s with xch := { s.xch with lostPaths := [], lostLinks := [] } }
    let s2 := s.xch.lostLinks.foldl (fun s l => s.linkLost l.1 l.2.1 l.2.2) s1
    s2.byPairs (fun t => s.xch.lostPaths.foldl (fun t f => t.pathFail f.1 f.2.1 f.2.2) t)

/-- R343: a command exceeds the timeout: its path fails. -/
def State.commandTimeout (s : State) (x : Nat) : State :=
  match s.current x with
  | some a => if a.failed then s else s.pathFail a.target a.path .timeout
  | none => s

/-- R347: the fence of a failed RDMA connection has elapsed. -/
def State.fenceExpiry (s : State) (t k : Nat) : State :=
  if s.xch.fences.contains (t, k) then
    let gone := s.xch.attempts.filter (fun a => a.target == t && a.path == k && a.failed)
    let s1 := { s with xch := { s.xch with
      fences := s.xch.fences.filter (· != (t, k))
      attempts := s.xch.attempts.filter (fun a => !(a.target == t && a.path == k && a.failed)) } }
    gone.foldl (fun s a => s.afterAttempt a.exch) s1
  else s

/-! Transforms (R351) -/

/-- R351, R357: the transform of an exchange has ended; no command is submitted once the power fails. -/
def State.transformDone (s : State) (x : Nat) (cids : List Nat) (chk : CopyCheck) : State :=
  match mapGet? s.trs.results x with
  | none => s
  | some (st, out) =>
    if !s.ownerRuns x then s
    else
      let s0 := s.copyCheck x chk
      let s1 := { s0 with trs := { s0.trs with results := mapErase s0.trs.results x } }.modExch x (fun w => { w with outLen := out })
      let e := s1.entry x
      if e.state < stStarted ∨ stStatus ≤ e.state then s1
      else if e.abort then s1.toStatus x xAborted 0
      else if st = stPoison then s1.toStatus x xPoison 0
      else if st ≠ stDone then s1.toStatus x xTransform st
      else if rqOp (s1.exch x).record = opWrite then
        (if s1.submitsNone || !s1.cidsFree x (s1.exch x) then s0
         else match s1.pathsReady e.inst (rqTarget (s1.exch x).record) with
           | (s2, true) => s2.submit x cids
           | (_, false) => (s0.pathsReady e.inst (rqTarget (s1.exch x).record)).1)
      else s1.toStatus x xSuccess 0

/-! Completion ring heads (R332, R340) -/

/-- Whether SEQ `q` lies from `lo` up to `hi`. -/
def seqBetween (lo hi q : Nat) : Bool := decide ((q + 2 ^ 32 - lo) % 2 ^ 32 < (hi + 2 ^ 32 - lo) % 2 ^ 32)

/-- R332: whether a HEAD value moves neither backward nor past TAIL. -/
def State.headOk (s : State) (c v : Nat) : Bool :=
  decide ((v + 2 ^ 32 - s.cqHead c) % 2 ^ 32 ≤ (s.cqTail c + 2 ^ 32 - s.cqHead c) % 2 ^ 32)

/-- R332, R340: records are consumed; their entries become IDLE. -/
def State.consume (s : State) (c v : Nat) : State :=
  let lo := s.cqHead c
  let done := s.liveEntries.filter (fun x =>
    let e := s.entry x
    e.cq == c && (e.state == stWritten || e.state == stReported) && seqBetween lo v e.seq)
  ((s.byPairs (fun s => done.foldl (fun s x => s.entryIdle x) s)).fset F.XCH_CQ_HEAD_HEAD 0 c v).cqSafe c

/-! Sequencer pairs (R324, R352) -/

/-- The rings that a pair serves, and how many. -/
def State.servedBy (s : State) (p : Nat) : List Nat :=
  ((s.listedOf .XCH_RQ_BASE).filter (fun r => s.fget F.XCH_RQ_BASE_BASE 0 r != 0 && s.fget F.XCH_RQ_CTL_PAIR 0 r == p)).eraseDups

def State.ringCount (s : State) (p : Nat) : Nat := (s.servedBy p).length

/-- The pair with the fewest rings, the lowest on a tie. -/
def fewest (count : Nat → Nat) : List Nat → Option Nat
  | [] => none
  | p :: ps =>
    match fewest count ps with
    | none => some p
    | some q => if count p ≤ count q then some p else some q

/-- R347, R356: an entry of the old generation: ABORT is set; a READ, or an entry that has no attempt, goes to STATUS at once, and
the commands of any other are aborted, once.  With no pair to carry it the entry waits for its adoption (R370), or for its pair. -/
def State.abortEntry (s : State) (x : Nat) : State :=
  let e := s.entry x
  if !(inRange stPosted 4 e.state) || e.gen == s.instGen e.inst || !s.ownerRuns x || e.abort then s
  else
    let s1 := s.modEntry x (fun e => { e with abort := true })
    match s.current x with
    | some a =>
      if rqOp (s.exch x).record == opRead then s1.toStatus x xAborted 0
      else { s1 with outbox := s1.outbox ++ a.open_.map (fun c => .abort a.desc c) }
    | none => s1.toStatus x xAborted 0

/-- R356, R370: an entry of the old generation in STATUS: one whose record is partly written keeps its result, and that record is
finished; of any other the result becomes ABORTED_BY_RESET, at its SEQ.  Which it is is a free value (log entry 164). -/
def State.statusAtReset (s : State) (x : Nat) : State :=
  let e := s.entry x
  if e.state ≠ stStatus || e.gen == s.instGen e.inst || e.abort then s
  else if (Config.freeWord s.free).toNat % 2 = 0 then s.draw
  else (s.draw.modEntry x (fun e => { e with abort := true, result := xAborted, tstatus := 0 })).modExch x (fun w =>
    { w with lastState := stStatus })

/-- R366: SEQ_STATUS.STATE shows a retry (2) or an adoption (3) until the pair goes on (DESIGN CHOICE, log entry 53). -/
def State.showSeq (s : State) (p code : Nat) : State := s.setSeqPair p { s.seqPair p with shown := code }

/-- R366: the pairs go on. -/
def State.seqsGo (s : State) : State :=
  ((mapKeys s.xch.seqs).filter (fun p => (s.seqPair p).shown != 0)).foldl (fun s p => s.showSeq p 0) s

/-- R352: how an adopted entry goes on: the transform of one that had not yet been sent is dropped, to be made again. -/
def State.adoptEntry (s : State) (x owner : Nat) : State :=
  let s1 := s.modEntry x (fun e => { e with owner })
  let s2 := match (s1.entry x).state with
    | 2 => (s1.cancelTransform x).modExch x (fun w => { w with redrive := true, outLen := 0 })
    | 6 => s1.reportRecord x
    | _ => s1
  (s2.abortEntry x).afterAttempt x

/-- R352: the queues and connections of a pair are shared among others, each to the pair with the fewest. -/
def State.adoptQueues (s : State) (p : Nat) (others : List Nat) : State :=
  { s with xch := { s.xch with queues := (s.xch.queues.foldl (fun (done : List Queue × List Queue) q =>
      let rest := done.2.drop 1
      let owned (n : Nat) : Nat := ((done.1 ++ rest).filter (fun r => r.owner == n)).length
      (done.1 ++ [if q.owner == p then { q with owner := (fewest owned others).getD p } else q], rest)) ([], s.xch.queues)).1 } }

/-- R352: the work of pair `p` is adopted by the others; which of them takes an entry, and the time it takes, are free. -/
def State.adopt (s : State) (p : Nat) : State :=
  let others := (List.range 8).filter (fun q => q != p && s.seqRuns q)
  if others.isEmpty || s.seqRuns p then s
  else
    let s1 := (s.servedBy p).foldl (fun s r => match fewest s.ringCount others with
      | some q => s.putField F.XCH_RQ_CTL_PAIR 0 r q
      | none => s) s
    let mine := s1.liveEntries.filter (fun x => (s1.entry x).owner == p)
    let s2 := s1.adoptQueues p others
    let s3 := mine.foldl (fun (s : State) x =>
      (s.adoptEntry x (others.getD ((Config.freeWord s.free).toNat % others.length) 0)).draw) s2
    others.foldl (fun s q =>
      let n := (mine.filter (fun x => (s.entry x).owner == q)).length
      ((((s.fset F.SEQ_ADOPT_ENTRIES q 0 n).fset F.SEQ_ADOPT_FROM q 0 p).fset F.SEQ_ADOPT_TIME q 0
        ((Config.freeWord s.free).toNat % 2 ^ 16)).draw).showSeq q 3) s3

/-- R324: a sequencer pair is declared failed and is powered off: its domain, which it shares with another pair, once that has
failed too (DEDUCED, log entry 137). -/
def State.seqFail (s : State) (p cause : Nat) : State :=
  let s1 := (((s.fset F.SEQ_STATUS_STATE p 0 4).fset F.SEQ_STATUS_FAILED_EVT p 0 1).fset F.SEQ_STATUS_LAST_CAUSE p 0 cause)
  let s2 := s1.logFault (s1.fault (0x31 + p) 0 0x506 3 3 cause)
  let other := if p % 2 = 0 then p + 1 else p - 1
  if s2.fget F.SEQ_STATUS_STATE other 0 = 4 ∧ s2.domState (104 + p / 2) = domOn then s2.setDom (104 + p / 2) domOff else s2

/-- R324, R257 to R260: a failure of a sequencer pair.  A hard one, a fourth within 1 ms, or a checkpoint that cannot be read ends
its service; any other is a retry. -/
def State.seqRetry (s : State) (p : Nat) (f : Failure) (unreadable : Bool) : State :=
  if !s.seqRuns p then s
  else
    let c := s.seqPair p
    let recurs := c.hist.recurs f.cause c.commits
    let hard := f.permanent || decide (2 ≤ recurs) || (f.cause == causeChecker && c.checkers.any s.recent)
      || (f.cause == causeStagger && c.staggers.any (fun x => s.recent x.1 && x.2 == f.slot))
    let times := c.hist.retries.filter s.recent
    let full := f.cause != causeChecker && decide (3 ≤ times.length)
    let s1 := s.setSeqPair p { c with
      shown := 0
      hist := { retries := times ++ (if f.cause = causeChecker then [] else [s.now])
                every := c.hist.every.filter s.recent ++ [s.now]
                last := some (f.cause, c.commits, recurs) }
      checkers := c.checkers.filter s.recent ++ (if f.cause = causeChecker then [s.now] else [])
      staggers := c.staggers.filter (fun x => s.recent x.1) ++ (if f.cause = causeStagger then [(s.now, f.slot)] else [])
        ++ (f.slotSeen.map (fun k => (s.now, k))).toList }
    if unreadable then s1.seqFail p causeCkpt
    else if hard then s1.seqFail p causeHard
    else if full then s1.seqFail p causeRepeat
    else
      let s2 := ((s1.fset F.SEQ_STATUS_LAST_CAUSE p 0 f.cause).fset F.SEQ_STATUS_RETRY_EVT p 0 1).fcount F.SEQ_RETRY_COUNT_RETRIES p 0 1
      (s2.showSeq p 2).logFault (s2.fault (0x31 + p) 0 0x505 1 3 f.cause)

/-! Table copies (R355) -/

def copyField (copy : Nat) : FieldRef := if copy = 0 then F.XCH_STATUS_COPY_A_OK else F.XCH_STATUS_COPY_B_OK

/-- R355, R337: a copy fails as a whole; with the other out of service already, every entry is in doubt. -/
def State.copyFail (s : State) (copy : Nat) : State :=
  if 2 ≤ copy ∨ !s.fbit (copyField copy) 0 0 then s
  else
    let was := s.fbit F.XCH_STATUS_SINGLE 0 0
    let s1 := ((s.fset (copyField copy) 0 0 0).fset F.XCH_STATUS_SINGLE 0 0 1).setDom (126 + copy) domOff
    let s2 := s1.logFault (s1.fault 0x30 0 0x502 2 0 0)
    if was then s2.liveEntries.foldl (fun s x => s.inDoubt x) s2
    else s2.wake (126 + copy) 0

/-- R355: the failed copy's domain has woken: the rebuild begins. -/
def State.rebuildBegin (s : State) : State :=
  if s.fbit F.XCH_STATUS_SINGLE 0 0 then s.fset F.XCH_STATUS_REBUILDING 0 0 1 else s

/-- R355: a rebuild completes or fails. -/
def State.rebuildDone (s : State) (ok : Bool) : State :=
  if !s.fbit F.XCH_STATUS_REBUILDING 0 0 then s
  else
    let s1 := s.fset F.XCH_STATUS_REBUILDING 0 0 0
    if ok then ((s1.fset F.XCH_STATUS_COPY_A_OK 0 0 1).fset F.XCH_STATUS_COPY_B_OK 0 0 1).fset F.XCH_STATUS_SINGLE 0 0 0
    else s1.logFault (s1.fault 0x30 0 0x503 3 0 0)

/-! Supply loss (R357 to R361) -/

/-- R359: the header of a save image; `crc`: bytes 16 to 19. -/
def saveHeader (state count dev : Nat) (crc : List Byte) : List Byte :=
  let h := [0x5A#8, 0xC7#8, 1#8, BitVec.ofNat 8 state] ++ natToBytes 4 count ++ [BitVec.ofNat 8 dev] ++ List.replicate 7 0
    ++ crc
  h ++ natToBytes 4 (crc32c h) ++ List.replicate 488 0

/-- R359: the record of a saved entry. -/
def State.saveRecord (s : State) (x : Nat) : List Byte := natToBytes 32 (s.entry x).bits ++ (s.exch x).record

/-- R357: where the save area lies: CXL memory at XCH_SAVE_ADDR, or the namespace of XCH_SAVE_TGT from XCH_SAVE_LBA on. -/
def State.saveAddr (s : State) : Nat := s.fget F.XCH_SAVE_ADDR_BASE 0 0 * 2 ^ 12
def State.saveKey (s : State) : Nat × Nat × Nat :=
  if s.fget F.XCH_CTL_SAVE_KIND 0 0 = 1 then (1, 0, s.saveAddr)
  else (2, s.fget F.XCH_SAVE_TGT_TARGET 0 0, s.fget F.XCH_SAVE_LBA_LBA 0 0)

/-- The save area is memory that the image homes on this device. -/
def State.saveHomed (s : State) : Bool :=
  s.fget F.XCH_CTL_SAVE_KIND 0 0 == 1 && s.homeOf (lineOf s.saveAddr) == .dev s.devnum

/-- The save area can be reached: on a namespace, over its path. -/
def State.saveReached (s : State) : Bool :=
  let p := s.pathDesc (s.fget F.XCH_SAVE_TGT_TARGET 0 0) (s.fget F.XCH_SAVE_TGT_PATH 0 0)
  s.fget F.XCH_CTL_SAVE_KIND 0 0 == 1 || p.state == 1 || p.state == 3

def State.saveBytes (s : State) : List Byte := ((s.xch.saves.find? (fun x => x.1 == s.saveKey)).map (·.2)).getD []

/-- `n` bytes of the save area from offset `off`; what was never written reads as zero. -/
def State.saveRead (s : State) (off n : Nat) : List Byte :=
  if s.saveHomed then s.bytesAt (s.saveAddr + off) n
  else let b := sub s.saveBytes off n; b ++ List.replicate (n - b.length) 0

/-- Bytes are written from the start of the save area; to persistent memory they go at once (R357). -/
def State.saveWrite (s : State) (bs : List Byte) : State :=
  if s.saveHomed then
    (linesOf s.saveAddr bs.length).foldl (fun s l => s.writeBack l) (s.storeBytes (.eng 0) s.saveAddr bs)
  else
    let entry := (s.saveKey, bs ++ s.saveBytes.drop bs.length)
    { s with xch := { s.xch with saves := entry :: s.xch.saves.filter (fun x => x.1 != s.saveKey) } }

/-- R361: ON_PATH, DATA and STATUS first, the others after them. -/
def State.doubtOrder (s : State) : List Nat :=
  let first (x : Nat) : Bool := inRange stOnPath 3 (s.entry x).state
  let xs := s.liveEntries
  xs.filter first ++ xs.filter (fun x => !first x)

/-- R361, R474: the in-doubt area of the flash.  The manual names what a record and the header hold; their layout is the model's
(DESIGN CHOICE, log entry 136): exchange number, instance, state, generation, SEQ; and the number of non-IDLE entries. -/
def doubtBase : Nat := 0x6120000
def doubtSize : Nat := 0x1EE0000
def State.doubtRec (s : State) (x : Nat) : List Byte :=
  let e := s.entry x
  natToBytes 4 x ++ natToBytes 2 e.inst ++ natToBytes 2 e.state ++ natToBytes 4 e.gen
    ++ natToBytes 4 (if e.state < stStatus then 0xFFFFFFFF else e.seq)

def doubtHeader (count : Nat) : List Byte := natToBytes 4 count ++ List.replicate 12 0

/-- R361: the records of the in-doubt area, as they were written; at most `n`. -/
def doubtRecs : Nat → List Byte → List (List Byte)
  | 0, _ => []
  | n + 1, bs =>
    let r := bs.take 16
    if r.length < 16 ∨ r.all (· == 0xFF#8) then [] else r :: doubtRecs n (bs.drop 16)

/-- R361: what the in-doubt area holds: the number of non-IDLE entries, and the records. -/
def State.doubts (s : State) : Option (Nat × List (List Byte)) :=
  let h := s.flashBytes doubtBase 16
  if h.all (· == 0xFF#8) then none
  else
    let n := min (dn h 0 4) (2 ^ 20)
    some (n, doubtRecs n (s.flashBytes (doubtBase + 16) (16 * n)))

/-- R357, R359, R361: the drain has ended: the table is saved; `done` of its records are written before power is gone.  An OPEN
header does not yet have the CRC of its records. -/
def State.drainEnd (s : State) (done : Nat) : State :=
  if s.pwr.t0.isNone || s.fbit F.XCH_STATUS_IMAGE 0 0 || s.pwr.safe then s
  else if s.fget F.XCH_CTL_SAVE_KIND 0 0 = 0 then
    (s.flashErase doubtBase doubtSize).flashProgram doubtBase
      (doubtHeader s.activeCount ++ (s.doubtOrder.take done).flatMap s.doubtRec)
  else if !s.saveReached then s
  else
    let xs := s.liveEntries
    let recs := (xs.take done).flatMap s.saveRecord
    if xs.length ≤ done then s.saveWrite (saveHeader 2 xs.length s.devnum (natToBytes 4 (crc32c recs)) ++ recs)
    else s.draw.saveWrite (saveHeader 1 xs.length s.devnum ((List.range 4).map (Config.freeByte s.free)) ++ recs)

/-- An entry's CHECK passes. -/
def checkPasses (r : List Byte) : Bool := dn r 28 4 == crc32c (sub r 0 28)

/-- R359: whether bytes are the header of an image. -/
def isHeader (h : List Byte) : Bool :=
  dn h 0 2 == 0xC75A && dn h 2 1 == 1 && (dn h 3 1 == 1 || dn h 3 1 == 2) && dn h 20 4 == crc32c (sub h 0 20)

/-- R360: the image that the save area holds: whether it is OPEN, and the records to be replayed. -/
def State.saveImage (s : State) : Option (Bool × List (List Byte)) :=
  let h := s.saveRead 0 512
  if s.saveReached && isHeader h then
    let rs := (List.range (min (dn h 4 4) (2 ^ 20))).map (fun k => s.saveRead (512 + 160 * k) 160)
    let isOpen := dn h 3 1 == 1
    some (isOpen, if isOpen then rs.filter checkPasses else rs)
  else none

/-- R360, R361: at start block 0x30 reads the save target; a namespace as soon as its path is there (R489). -/
def State.findImage (s0 : State) : State :=
  let away := s0.fget F.XCH_CTL_SAVE_KIND 0 0 != 0 && !s0.saveReached
  let s := { s0 with xch := { s0.xch with seek := away } }
  if s.fget F.XCH_CTL_SAVE_KIND 0 0 = 0 then
    match s.doubts with
    | none => s
    | some (total, rs) => ((s.fset F.XCH_STATUS_IMAGE 0 0 1).fset F.XCH_REPLAY_COUNT_RECORDS 0 0 rs.length).fset
        F.XCH_REPLAY_COUNT_MISSING 0 0 (total - rs.length)
  else match s.saveImage with
    | none => s
    | some (isOpen, rs) =>
      ((s.fset F.XCH_STATUS_IMAGE 0 0 1).fset F.XCH_REPLAY_COUNT_RECORDS 0 0 rs.length).fset
        F.XCH_REPLAY_INCOMPLETE 0 0 (b2n isOpen)

/-- R360: the save target is read once it can be (DEDUCED, log entry 172). -/
def State.seekImage (s : State) : State := if s.xch.seek && s.saveReached then s.findImage else s

/-- R334, R360, R361: a record of a replay but for SEQ and GENERATION: exchange number, instance, and the record's bytes given
both. -/
structure Replayed where
  exch : Nat
  inst : Nat
  bytes : Nat → Nat → List Byte

/-- R361: the IN_DOUBT record of a record of the flash. -/
def doubtReplay (r : List Byte) : Replayed :=
  let x := dn r 0 4
  let i := dn r 4 2
  { exch := x, inst := i, bytes := fun q gen => recordBytes q x i 0 xInDoubt (dn r 6 2) 0 0 gen 0 0 0 (dn r 12 4) }

/-- R360: the RESUMED record of a saved entry and its request record; PATH as in the entry, valid where a target's status had been
decided (R334). -/
def savedReplay (r : List Byte) : Replayed :=
  let e := Entry.ofBits (dn r 0 32)
  let q := r.drop 32
  let decided := decide (stStatus ≤ e.state)
  let fromTarget := decided && (e.result == xSuccess || e.result == xTarget)
  { exch := rqExch q, inst := e.inst, bytes := fun seq gen =>
      recordBytes seq (rqExch q) e.inst (rqTag q) xResumed e.state (e.path + b2n fromTarget * 2 ^ 7)
        (if decided then e.result else 0) gen e.tstatus e.progress e.cq (if decided then e.seq else 0xFFFFFFFF) }

/-- A list of records by exchange number. -/
def insertReplay (r : Replayed) : List Replayed → List Replayed
  | [] => [r]
  | x :: xs => if r.exch ≤ x.exch then r :: x :: xs else x :: insertReplay r xs

/-- R360: the records of a replay, in exchange-number order. -/
def State.replayRecords (s : State) : List Replayed :=
  (if s.fget F.XCH_CTL_SAVE_KIND 0 0 = 0 then ((s.doubts.map (·.2)).getD []).map doubtReplay
    else ((s.saveImage.map (·.2)).getD []).map savedReplay).foldr insertReplay []

/-- Replay records written while the ring has room. -/
def State.replayOn (c : Nat) : Nat → State → State
  | 0, s => s
  | n + 1, s =>
    match s.xch.replayAt with
    | none => s
    | some k =>
      match (s.replayRecords.drop k).head? with
      | none => s
      | some r =>
        if !s.cqFree c then s
        else match s.slotReady c (s.nextSeq c) with
        | (s0, false) => s0
        | (s0, true) =>
          let (s1, q) := (s0.reserve c).takeSeq c
          let s2 := s1.writeRecord c q (r.bytes q (s1.instGen r.inst))
          State.replayOn c n { s2 with xch := { s2.xch with replayAt := some (k + 1) } }

/-- R360: XCH_REPLAY.START. -/
def State.replayStart (s : State) : State :=
  if s.fbit F.XCH_STATUS_IMAGE 0 0 then
    let s1 := { s with xch := { s.xch with replayAt := some 0 } }
    State.replayOn (s1.fget F.XCH_REPLAY_CQ 0 0) (s1.replayRecords.length + 1) s1
  else s

/-- R360 step 3: the replay has finished. -/
def State.replayDone (s : State) : State :=
  match s.xch.replayAt with
  | none => s
  | some k0 =>
    let c := s.fget F.XCH_REPLAY_CQ 0 0
    let s1 := State.replayOn c (s.replayRecords.length + 1 - k0) s
    match s1.xch.replayAt with
    | some k =>
      if s1.replayRecords.length ≤ k then
        let s2 := ({ s1 with xch := { s1.xch with replayAt := none } }).fset F.XCH_REPLAY_DONE 0 0 1
        s2.raiseBlock (s2.fget F.XCH_CQ_CTL_SOURCE 0 c)
      else s1
    | none => s1

/-- R360 step 4: the image is erased. -/
def State.replayConsume (s : State) : State :=
  if s.fbit F.XCH_STATUS_IMAGE 0 0 then
    let s0 := if s.fget F.XCH_CTL_SAVE_KIND 0 0 = 0 then s.flashErase doubtBase doubtSize else s.saveWrite (List.replicate 512 0)
    let s1 := { s0 with xch := { s0.xch with replayAt := none } }
    (((s1.fset F.XCH_STATUS_IMAGE 0 0 0).fset F.XCH_REPLAY_COUNT_RECORDS 0 0 0).fset F.XCH_REPLAY_COUNT_MISSING 0 0 0).fset
      F.XCH_REPLAY_INCOMPLETE 0 0 0
  else s

/-! Links and interrupts (R367 to R369) -/

/-- R367, R368: the ports that the mode or split of a group gives it. -/
def State.portsOf (s : State) (g : Nat) : Nat :=
  if g < 4 then 2 ^ s.fget F.ETH_CFG_MODE g 0
  else if s.fget F.PCIE_CFG_SPLIT (g % 4) 0 = 3 then 0 else 2 ^ s.fget F.PCIE_CFG_SPLIT (g % 4) 0

/-- R369, R343, R430: a port's link changes: groups 0 to 3 are Ethernet, 4 to 7 PCIe/CXL.  FLIT mode is that of 64 GT/s (R362). -/
def State.linkSet (s : State) (g p : Nat) (up flit : Bool) : State :=
  let eth := decide (g < 4)
  let n := g % 4
  let f : FieldRef := if eth then ⟨.ETH_STATUS, p, 1⟩ else ⟨.PCIE_STATUS, p, 1⟩
  if s.fbit f n 0 = up then s
  else
    let s1 := s.fset f n 0 (b2n up)
    let s2 := if eth then s1
      else s1.fset ⟨.PCIE_STATUS, p + 4, 1⟩ n 0 (b2n (up && flit && s.fget F.PCIE_CFG_MAX_GEN n 0 == 6))
    let ev : FieldRef := if eth then ⟨.ETH_EVT, p, 1⟩ else ⟨.PCIE_EVT, p, 1⟩
    let s3 := if s2.fbit ev n 0 then s2.raiseBlock ((if eth then 0xB00 else 0xA00 + 60) + 64 * n + p) else s2
    if up then s3
    else
      (s3.logFault (s3.fault ((if eth then 0x60 else 0x64) + n) p 0x520 1 0 0)).linkLost (if eth then 2 else 1) n p

/-- R368, R514: the PERST_N land of root port `p` of a PCIe/CXL group is low: PCIE_PERST drives it. -/
def State.perstLow (s : State) (g p : Nat) : Bool := inRange 4 4 g && s.fbit ⟨.PCIE_PERST, p, 1⟩ (g % 4) 0

/-- R368, R533: a link comes up on a port that its powered group has and whose PERST is released, or goes down; a root port that does
not train once PERST is released fails its paths. -/
def State.linkChange (s : State) (g p : Nat) (up flit : Bool) : State :=
  if ¬ (p < (if up then s.portsOf g else if g < 4 then 8 else 4) ∧ s.powered (0x60 + g) 0 ∧ (up → s.perstLow g p = false)) then s
  else if !up && inRange 4 4 g && !s.fbit ⟨.PCIE_STATUS, p, 1⟩ (g % 4) 0 then
    (if s.perstLow g p then s else s.linkLost 1 (g % 4) p)
  else s.linkSet g p up flit

/-- R368: the ports whose PERST PCIE_PERST asserts lose their links. -/
def State.perstActs (s : State) (g : Nat) : State :=
  (List.range 4).foldl (fun s p => if s.perstLow g p then s.linkSet g p false false else s) s

/-- Every link of a group goes down (R460, R471). -/
def State.groupDown (s : State) (g : Nat) : State :=
  (List.range (if g < 4 then 8 else 4)).foldl (fun s p => s.linkSet g p false false) s

/-- R369: an endpoint's inbound write of `data` to a bus address outside the windows. -/
def State.interruptWrite (s : State) (g port : Nat) (addr : BitVec 64) (data : List (BitVec 8)) : State :=
  let base := s.fget F.PCIE_MSI_ADDR g 0 * 2 ^ 12
  let w := bytesToNat data
  if 4 ≤ g then s
  else if base ≠ 0 ∧ addr.toNat = base ∧ data.length = 4 ∧ w % 64 < 60 then s.raise (0xA00 + 64 * g + w % 64) w
  else s.windowOutside g port

/-- R430: an Ethernet or PCIe/CXL group cannot continue; the cause stands until it is reset. -/
def State.groupFatal (s : State) (g : Nat) : State :=
  let b := 0x60 + g
  if 8 ≤ g ∨ s.flt.stopped.contains b ∨ !s.powered b 0 then s
  else
    let s1 := { s with flt := { s.flt with stopped := b :: s.flt.stopped } }
    (s1.groupDown g).logFault (s1.fault b 0 0x521 3 0 0)

end Sys2Proof.Machine
end

