-- ==== Sys2Proof/Machine/Instances.lean ====
section
/-! DEFINITION. Virtual instances: buckets (R377, R378), reset and removal (R382 to R386), the instance manager's commands
(R372 to R376), commits of ranges (R387). -/

namespace Sys2Proof.Machine

/-! Buckets -/

/-- R378: a write of BURST or RATE: a new BURST clips the count of a present instance, and is the count of one not
present. -/
def State.burstBytes (s : State) (n : Nat) (v : Word) : State :=
  let old := s.byteTokens n
  let s1 := s.setActing .INST_BYTE_RATE 0 n v
  let top : Int := ((s1.fget F.INST_BYTE_RATE_BURST 0 n * byteUnit : Nat) : Int)
  let c := if s.fbit F.INST_CTL_PRESENT 0 n then min old top else top
  { s1 with inst := { s1.inst with bytes := if c = top then mapErase s1.inst.bytes n else mapSet s1.inst.bytes n c } }

def State.burstExch (s : State) (n : Nat) (v : Word) : State :=
  let old := s.exchTokens n
  let s1 := s.setActing .INST_EXCH_RATE 0 n v
  let top : Int := ((s1.fget F.INST_EXCH_RATE_BURST 0 n * exchUnit : Nat) : Int)
  let c := if s.fbit F.INST_CTL_PRESENT 0 n then min old top else top
  { s1 with inst := { s1.inst with exch := if c = top then mapErase s1.inst.exch n else mapSet s1.inst.exch n c } }

/-- R382 step 6: both buckets are full. -/
def State.fillBuckets (s : State) (n : Nat) : State :=
  { s with inst := { s.inst with bytes := mapErase s.inst.bytes n, exch := mapErase s.inst.exch n } }

/-- One bucket after one nanosecond. -/
def refill1 (unit burst rate : Nat) (c : Int) : Option Int :=
  let top : Int := ((burst * unit : Nat) : Int)
  if rate = 0 then some c
  else if top ≤ c + (rate : Int) then none else some (c + (rate : Int))

/-- R377: one nanosecond of refill of every bucket below its BURST. -/
def State.refillBuckets (s : State) : State :=
  let b := s.inst.bytes.filterMap (fun p =>
    (refill1 byteUnit (s.fget F.INST_BYTE_RATE_BURST 0 p.1) (s.fget F.INST_BYTE_RATE_RATE 0 p.1) p.2).map (fun c => (p.1, c)))
  let x := s.inst.exch.filterMap (fun p =>
    (refill1 exchUnit (s.fget F.INST_EXCH_RATE_BURST 0 p.1) (s.fget F.INST_EXCH_RATE_RATE 0 p.1) p.2).map (fun c => (p.1, c)))
  { s with inst := { s.inst with bytes := b, exch := x } }

/-- INST_TOKENS: the whole KiB and exchanges of the buckets, signed. -/
def State.tokensWord (s : State) (n : Nat) : Word :=
  BitVec.ofInt 64 ((s.byteTokens n).fdiv (byteUnit : Int) % 2 ^ 32 + (s.exchTokens n).fdiv (exchUnit : Int) % 2 ^ 32 * 2 ^ 32)

/-! Reset and removal (R382, R386, R356) -/

/-- R382 steps 1 to 3: the generation advances and every unit applies it. -/
def State.newGeneration (s : State) (n : Nat) : State := s.byPairs fun s =>
  let s1 := (s.fset F.INST_CTL_RESETTING 0 n 1).fset F.INST_CTL_GEN 0 n (s.instGen n + 1)
  let s2 := { s1 with trs := { s1.trs with ready := s1.trs.ready.filter (fun j => j.inst != some n) } }
  (s2.liveEntries.filter (fun x => (s2.entry x).inst == n)).foldl (fun s x => (s.abortEntry x).statusAtReset x) s2

/-- R382 step 3: a pair that runs again applies the new generation to the entries that it carries. -/
def State.resetGo (s : State) : State :=
  if s.inst.resets.isEmpty then s
  else s.byPairs (fun s => s.inst.resets.foldl (fun s r =>
    (s.liveEntries.filter (fun x => (s.entry x).inst == r.1)).foldl (fun s x => s.abortEntry x) s) s)

/-- R382: a write of RESET. -/
def State.instReset (s : State) (n : Nat) : State :=
  if s.instResetting n then s
  else ({ s with inst := { s.inst with resets := mapSet s.inst.resets n false } }).newGeneration n

/-- R386, R388: a write of REMOVE; during a reset the removal follows its acknowledgements. -/
def State.instRemove (s : State) (n : Nat) : State :=
  match mapGet? s.inst.resets n with
  | some true => s
  | some false => { s with inst := { s.inst with removes := if s.inst.removes.contains n then s.inst.removes else n :: s.inst.removes } }
  | none => ({ s with inst := { s.inst with resets := mapSet s.inst.resets n true } }).newGeneration n

/-- R382 step 4, R356: every unit has acknowledged: no entry of an old generation is short of COMPLETE_WRITTEN. -/
def State.instAcked (s : State) (n : Nat) : Bool :=
  s.xch.entries.all (fun p => !(p.2.inst == n && inRange stPosted 5 p.2.state && p.2.gen != s.instGen n))

/-- The request rings of an instance. -/
def State.rqsOf (s : State) (n : Nat) : List Nat :=
  ((List.range 4096).filter (fun r => (mapGet? s.io.force (regKey .XCH_RQ_BASE 0 r)).isSome)).filter
    (fun r => s.fget F.XCH_RQ_BASE_BASE 0 r != 0 && s.rqInst r == n)

def State.cqsOf (s : State) (n : Nat) : List Nat := (s.listedOf .XCH_CQ_BASE).filter (fun c => s.cqOwned c n)

/-- R382 step 5: what was not taken is dropped. -/
def State.dropUntaken (s : State) (n : Nat) : State :=
  let s1 := (s.rqsOf n).foldl (fun s r =>
    (s.fcount F.INST_DROPPED_RQ 0 n ((s.rqTail r + 65536 - s.rqHead r) % 65536)).fset F.XCH_RQ_HEAD_HEAD 0 r (s.rqTail r)) s
  (s1.fcount F.INST_DROPPED_TQ 0 n ((s1.qTail n + 65536 - s1.qHead n) % 65536)).setHead n (s1.qTail n)

/-- R386 steps 2 to 5. -/
def State.removeHardware (s : State) (n : Nat) : State :=
  let s1 := (s.rqsOf n).foldl (fun s r => s.fset F.XCH_RQ_CTL_ENABLE 0 r 0) s
  let s2 := ((s.cqsOf n).foldl (fun s c => s.fset F.XCH_CQ_CTL_ENABLE 0 c 0) s1).fset F.TRS_Q_CTL_ENABLE 0 n 0
  let lo := s2.fget F.INST_XRANGE_BASE 0 n * 256
  let hi := s2.fget F.INST_XRANGE_COUNT 0 n * 256
  let s3 := (s2.liveEntries.filter (fun x =>
    inRange lo hi x && decide (stWritten ≤ (s2.entry x).state))).foldl (fun s x => s.entryIdle x) s2
  let k0 := s3.fget F.INST_KEYS_BASE 0 n
  let kn := s3.fget F.INST_KEYS_COUNT 0 n
  let s4 := { s3 with trs := { s3.trs with keys := s3.trs.keys.filter (fun p => !inRange k0 kn p.1) } }
  s4.fset F.INST_CTL_PRESENT 0 n 0

/-- INST_CMD_STATUS at the end of a command, and its event. -/
def State.instCmdEnd (s : State) (code : Nat) : State :=
  let s1 := (((s.fset F.INST_CMD_STATUS_BUSY 0 0 0).fset F.INST_CMD_STATUS_DONE 0 0 1).fset F.INST_CMD_STATUS_CODE 0 0 code)
  let s2 := { s1 with inst := { s1.inst with cmd := none } }
  if s2.fbit F.INST_CMD_EVT_EVENT 0 0 then s2.raiseBlock (s2.fget F.INST_CMD_EVT_SOURCE 0 0) else s2

/-- R386 step 6: service firmware disables the sources, writes zero to the instance's registers, commits them and gives the
ranges back.  SIZE_LOG2 it writes as 4, without which no such commit would act (DESIGN CHOICE, log entry 130). -/
def State.removeFirmware (s : State) (n : Nat) : State :=
  let g := (mapGet? s.inst.grants n).getD ⟨(0, 0), (0, 0), (0, 0), (0, 0), (0, 0)⟩
  let rqs := ((List.range g.rq.2).map (g.rq.1 + ·) ++ s.rqsOf n).eraseDups
  let cqs := ((List.range g.cq.2).map (g.cq.1 + ·) ++ s.cqsOf n).eraseDups
  -- commits of the command that still wait are taken back with it (R376)
  let s0 := { s with io := { s.io with captured := s.io.captured.filter (fun c =>
    !(c.blk == 0x30 && (rqs.any (fun r => c.group == r + 2) || cqs.any (fun q => c.group == q + 4098)))) } }
  let s1 := (List.range g.src.2).foldl (fun s k => s.putField F.CUE_MAP_ENABLE 0 (g.src.1 + k) 0) s0
  let s2 := rqs.foldl (fun s r => (s.commitValues 0x30 (r + 2) [0, 4]).rqSafe r) s1
  let s3 := cqs.foldl (fun s c => (s.commitValues 0x30 (c + 4098) [0, 4]).cqSafe c) s2
  let s4 := ((s3.commitValues 0x28 (n + 1) [0, 4]).trsSafe n).commitValues 0x71 (n + 1) [0, 0] |>.commitActs 0x71 (n + 1) id
  { s4 with inst := { s4.inst with grants := mapErase s4.inst.grants n } }

/-- R382 steps 5 and 6, R386: every unit of instance `n` has acknowledged. -/
def State.acksComplete (s : State) (n : Nat) : State :=
  match mapGet? s.inst.resets n with
  | none => s
  | some removal =>
    if !s.instAcked n then s
    else
      let s1 := s.dropUntaken n
      if removal then
        let s2 := ((s1.removeHardware n).fset F.INST_CTL_RESETTING 0 n 0).fset F.INST_CTL_RESET_DONE 0 n 1
        let s3 := ({ s2 with inst := { s2.inst with resets := mapErase s2.inst.resets n } }).fillBuckets n
        -- the rest of a REMOVE is a duty of service firmware, and waits while its duties stop (R443)
        if s3.inst.cmd = some ⟨2, n, false⟩ ∧ s3.fbit F.FBS_STATUS_CALLER_NEEDED 0 0 = false then
          (s3.removeFirmware n).instCmdEnd 0
        else s3
      else if s1.inst.removes.contains n then
        -- R388: the removal follows the reset's acknowledgements
        ({ s1 with inst := { s1.inst with
          removes := s1.inst.removes.filter (· != n), resets := mapSet s1.inst.resets n true } }).newGeneration n
      else
        let s2 := ((s1.fillBuckets n).fset F.INST_CTL_RESETTING 0 n 0).fset F.INST_CTL_RESET_DONE 0 n 1
        let s3 := { s2 with inst := { s2.inst with resets := mapErase s2.inst.resets n } }
        s3.raiseBlock (s3.fget F.INST_CTL_SOURCE 0 n)

/-! The instance manager (R372 to R376) -/

/-- The lowest multiple of `align` at which `n` units are free, below `size`. -/
def lowestFit (size align n : Nat) (used : List (Nat × Nat)) : Option Nat :=
  ((List.range (size / align)).map (· * align)).find? (fun a =>
    decide (a + n ≤ size) && used.all (fun u => decide (a + n ≤ u.1) || decide (u.1 + u.2 ≤ a)))

def State.grantsOf (s : State) (f : Grant → Nat × Nat) : List (Nat × Nat) :=
  (s.inst.grants.map (fun p => f p.2)).filter (fun u => u.2 != 0)

/-- R374: the checks on a parameter block of CREATE. -/
def badParams (b : List Byte) : Bool :=
  dn b 0 1 != 1 || !inRange 1 64 (dn b 1 1) || !(decide (dn b 2 1 < 64) || dn b 2 1 == 76) || !inRange 1 7 (dn b 3 1)
    || !inRange 1 4096 (dn b 4 2) || !inRange 1 4096 (dn b 6 2) || decide (4096 < dn b 8 2) || dn b 10 1 == 0 || dn b 11 1 == 0
    || dn b 12 4 % 256 != 0 || !inRange 256 (2 ^ 20 - 255) (dn b 12 4)
    || !inRange 1 (2 ^ 31 - 1) (dn b 20 4) || !inRange 1 (2 ^ 31 - 1) (dn b 28 4)
    || dn b 32 8 % 4096 != 0 || decide (2 ^ 52 ≤ dn b 32 8) || !inRange 4 13 (dn b 40 1) || !allZero (sub b 41 7)
    || !allZero (sub b 76 52)

/-- R374: an entry of RQ_LIST or CQ_LIST out of range. -/
def badRing (b : List Byte) (isRq : Bool) (cqs : Nat) : Bool :=
  dn b 0 8 % 4096 != 0 || decide (2 ^ 52 ≤ dn b 0 8) || dn b 0 8 == 0 || !inRange 4 13 (dn b 8 1)
    || (if isRq then !(decide (dn b 9 1 < 8) || dn b 9 1 == 0xFF) || decide (cqs ≤ dn b 10 2) || !allZero (sub b 12 4)
        else !allZero (sub b 9 7))

/-- The 16-byte entries of a list. -/
def ringEntries (n : Nat) (b : List Byte) : List (List Byte) := (List.range n).map (fun k => sub b (16 * k) 16)

/-- R373: a completion ring's registers, written and committed. -/
def State.grantCq (s : State) (n : Nat) (g : Grant) (i : Nat) (b : List Byte) : State :=
  let c := g.cq.1 + i
  let ctl := BitVec.ofNat 64 (dn b 8 1 + (g.src.1 + i % max 1 g.src.2) * 2 ^ 8 + n * 2 ^ 32)
  (s.commitValues 0x30 (c + 4098) [BitVec.ofNat 64 (dn b 0 8), ctl]).cqSafe c

/-- R373: a request ring's registers, committed and enabled; PAIR 0xFF is the pair that serves the fewest rings. -/
def State.grantRq (s : State) (n : Nat) (g : Grant) (i : Nat) (b : List Byte) : State :=
  let r := g.rq.1 + i
  let p := if dn b 9 1 = 0xFF then (fewest s.ringCount (List.range 8)).getD 0 else dn b 9 1
  let ctl := BitVec.ofNat 64 (dn b 8 1 + n * 2 ^ 8 + (g.cq.1 + dn b 10 2) * 2 ^ 20 + p * 2 ^ 32)
  ((s.commitValues 0x30 (r + 2) [BitVec.ofNat 64 (dn b 0 8), ctl]).rqSafe r).fset F.XCH_RQ_CTL_ENABLE 0 r 1

/-- Applied to each entry of a list with its index. -/
def foldIdx (f : State → Nat → List Byte → State) (s : State) (bs : List (List Byte)) : State :=
  (bs.zip (List.range bs.length)).foldl (fun s p => f s p.2 p.1) s

/-- R21, R387: firmware writes a weight, which is in force at once but during a visit to the instance: then it is staged. -/
def State.putWeight (s : State) (f : FieldRef) (n v : Nat) : State :=
  if s.visited n then
    { s with io := { s.io with held := mapSet s.io.held (regKey f.reg 0 n) (setFld (s.heldWord f.reg 0 n) f.lo f.width v) } }
  else s.putField f 0 n v

/-- R373: the rest of a CREATE, once every completion ring of the grant is in force. -/
def State.createFinish (s : State) (n : Nat) (g : Grant) (b rqs : List Byte) : State :=
  let s1 := (List.range g.cq.2).foldl (fun s i => s.fset F.XCH_CQ_CTL_ENABLE 0 (g.cq.1 + i) 1) s
  let s2 := foldIdx (fun s i e => s.grantRq n g i e) s1 (ringEntries g.rq.2 rqs)
  let qctl := BitVec.ofNat 64 (dn b 40 1 + g.src.1 * 2 ^ 8)
  let s3 := (((s2.commitValues 0x28 (n + 1) [BitVec.ofNat 64 (dn b 32 8), qctl]).trsSafe n).putField F.TRS_Q_CTL_SOURCE 0 n
    g.src.1).fset F.TRS_Q_CTL_ENABLE 0 n 1
  let s4 := (s3.commitValues 0x71 (n + 1) [BitVec.ofNat 64 (g.exch.1 + g.exch.2 * 2 ^ 16),
    BitVec.ofNat 64 (g.key.1 + g.key.2 * 2 ^ 16)]).commitActs 0x71 (n + 1) id
  let s5 := (s4.burstBytes n (BitVec.ofNat 64 (dn b 16 4 + dn b 20 4 * 2 ^ 32))).burstExch n
    (BitVec.ofNat 64 (dn b 24 4 + dn b 28 4 * 2 ^ 32))
  let s6 := (List.range g.src.2).foldl (fun s k =>
    ((s.putField F.CUE_MAP_CORE 0 (g.src.1 + k) (dn b 2 1)).putField F.CUE_MAP_LEVEL 0 (g.src.1 + k) (dn b 3 1)).putField
      F.CUE_MAP_ENABLE 0 (g.src.1 + k) 1) s5
  let a := s6.fget F.INST_CMD_ADDR_ADDR 0 0 * 128
  let out := natToBytes 4 (g.exch.1 * 256) ++ natToBytes 2 g.rq.1 ++ natToBytes 2 g.cq.1 ++ natToBytes 2 g.key.1
    ++ natToBytes 2 g.src.1
  let s7 := (((s6.putWeight F.INST_CTL_ENGINE_WEIGHT n (dn b 10 1)).putWeight F.INST_CTL_SEQ_WEIGHT n (dn b 11 1)).fset
    F.INST_CTL_SOURCE 0 n g.src.1)
  ((s7.storeBytes .dev (a + 64) out).fset F.INST_CTL_PRESENT 0 n 1).instCmdEnd 0

/-- R373: whether every completion ring of a grant is in force. -/
def State.cqsInForce (s : State) (n : Nat) (g : Grant) : Bool :=
  (List.range g.cq.2).all (fun i => s.cqOwned (g.cq.1 + i) n && !s.groupWaits 0x30 (g.cq.1 + i + 4098))

/-- R372: the grants of a CREATE, or the code of the pool that is short. -/
def State.makeGrant (s : State) (b : List Byte) : Nat × Grant :=
  let none_ : Grant := ⟨(0, 0), (0, 0), (0, 0), (0, 0), (0, 0)⟩
  match lowestFit 4096 1 (dn b 12 4 / 256) (s.grantsOf (·.exch)) with
  | none => (2, none_)
  | some x => match lowestFit 4096 1 (dn b 4 2) (s.grantsOf (·.rq)), lowestFit 4096 1 (dn b 6 2) (s.grantsOf (·.cq)) with
    | some r, some c => match (if dn b 8 2 = 0 then some 0 else lowestFit 4096 1 (dn b 8 2) (s.grantsOf (·.key))) with
      | none => (4, none_)
      | some k => match lowestFit 1024 1 (dn b 1 1) (s.grantsOf (·.src)) with
        | none => (5, none_)
        | some q => (0, ⟨(x, dn b 12 4 / 256), (r, dn b 4 2), (c, dn b 6 2), (k, dn b 8 2), (q, dn b 1 1)⟩)
    | _, _ => (3, none_)

/-- Bytes that service firmware reads: none where a line is poisoned or in no home. -/
def State.fwRead (s : State) (a n : Nat) : State × Option (List Byte) × Bool :=
  match s.readyRead .dev (linesOf a n) with
  | (s1, .ok) => (s1, some (s1.bytesAt a n), true)
  | (s1, .poison _) => (s1, none, true)
  | (s1, .wait) => (s1, none, false)

/-- R373, R375: a CREATE whose ranges are granted goes on, by the block that it has read, once its completion rings are in force and the line
that it writes is here. -/
def State.createOn (s : State) (n : Nat) : State :=
  match mapGet? s.inst.grants n with
  | some g =>
    if !s.cqsInForce n g then s
    else match s.readyWrite .dev true (linesOf (s.fget F.INST_CMD_ADDR_ADDR 0 0 * 128 + 64) 12) with
      | (s1, true) => s1.createFinish n g s1.inst.params.1 s1.inst.params.2
      | (s1, false) => s1
  | none => s

/-- R373, R375: CREATE from its start; it goes on later where a completion ring is not yet in force or a line is awaited.  What an
instance of this number that software removed by INST_OP still had is given back first (DESIGN CHOICE, log entry 131). -/
def State.createGo (s : State) (n : Nat) : State :=
  if s.fbit F.INST_CTL_PRESENT 0 n then s.instCmdEnd 6
  else match s.fwRead (s.fget F.INST_CMD_ADDR_ADDR 0 0 * 128) 128 with
  | (s1, _, false) => s1
  | (s1, none, true) => s1.instCmdEnd 1
  | (s1, some b, true) =>
    if badParams b then s1.instCmdEnd 1
    else match s1.fwRead (dn b 48 8) (16 * dn b 4 2), s1.fwRead (dn b 56 8) (16 * dn b 6 2) with
    | (_, some rqs, true), (_, some cqs, true) =>
      if (ringEntries (dn b 4 2) rqs).any (fun e => badRing e true (dn b 6 2))
          || (ringEntries (dn b 6 2) cqs).any (fun e => badRing e false 0) then s1.instCmdEnd 1
      else
        let (code, g) := ({ s1 with inst := { s1.inst with grants := mapErase s1.inst.grants n } }).makeGrant b
        if code ≠ 0 then s1.instCmdEnd code
        else
          let s2 := { s1 with inst := { s1.inst with
            grants := mapSet s1.inst.grants n g, cmd := some ⟨1, n, true⟩, params := (b, rqs) } }
          (foldIdx (fun s i e => s.grantCq n g i e) s2 (ringEntries g.cq.2 cqs)).createOn n
    | (s2, _, false), _ => s2
    | _, (s2, _, false) => s2
    | _, _ => s1.instCmdEnd 1

/-- R374, R375, R388: MODIFY. -/
def State.modifyGo (s : State) (n : Nat) : State :=
  if !s.fbit F.INST_CTL_PRESENT 0 n then s.instCmdEnd 7
  else match s.fwRead (s.fget F.INST_CMD_ADDR_ADDR 0 0 * 128) 128 with
  | (s1, _, false) => s1
  | (s1, none, true) => s1.instCmdEnd 1
  | (s1, some b, true) =>
    if dn b 10 1 = 0 ∨ dn b 11 1 = 0 ∨ !inRange 1 (2 ^ 31 - 1) (dn b 20 4) ∨ !inRange 1 (2 ^ 31 - 1) (dn b 28 4) then
      s1.instCmdEnd 1
    else
      let s2 := (s1.burstBytes n (BitVec.ofNat 64 (dn b 16 4 + dn b 20 4 * 2 ^ 32))).burstExch n
        (BitVec.ofNat 64 (dn b 24 4 + dn b 28 4 * 2 ^ 32))
      ((s2.putWeight F.INST_CTL_ENGINE_WEIGHT n (dn b 10 1)).putWeight F.INST_CTL_SEQ_WEIGHT n (dn b 11 1)).instCmdEnd 0

/-- R375: REMOVE begins; a set third component of a REMOVE says that it has not. -/
def State.removeBegin (s : State) (n : Nat) : State :=
  let s1 := { s with inst := { s.inst with cmd := some ⟨2, n, false⟩ } }
  if s1.fbit F.INST_CTL_PRESENT 0 n then s1.instRemove n else s1.instCmdEnd 7

/-- The command that runs goes on, but while the duties of service firmware stop: CALLER_NEEDED is set (R443). -/
def State.instGo (s : State) : State :=
  if s.fbit F.FBS_STATUS_CALLER_NEEDED 0 0 then s
  else match s.inst.cmd with
  | some ⟨1, n, true⟩ => s.createOn n
  | some ⟨1, n, false⟩ => s.createGo n
  | some ⟨2, n, true⟩ => s.removeBegin n
  | some ⟨2, n, false⟩ =>
    if s.instResetting n || s.fbit F.INST_CTL_PRESENT 0 n then s else (s.removeFirmware n).instCmdEnd 0
  | some ⟨3, n, _⟩ => s.modifyGo n
  | _ => s

/-- R375, R376: a write of INST_CMD, of known OP, while none runs. -/
def State.instCommand (s : State) (op n : Nat) : State :=
  let s1 := ((s.fset F.INST_CMD_STATUS_BUSY 0 0 1).fset F.INST_CMD_STATUS_INSTANCE 0 0 n)
  ({ s1 with inst := { s1.inst with cmd := some ⟨op, n, decide (op = 2)⟩ } }).instGo

/-- R376: service firmware was restarted: what the command had granted is taken back, and it runs again. -/
def State.instRestart (s : State) : State :=
  match s.inst.cmd with
  | some ⟨1, n, true⟩ =>
    let s1 := s.removeFirmware n
    ({ s1 with inst := { s1.inst with cmd := some ⟨1, n, false⟩ } }).instGo
  | some ⟨2, n, false⟩ => if s.instResetting n then s
      else if s.fbit F.INST_CTL_PRESENT 0 n then ({ s with inst := { s.inst with cmd := some ⟨2, n, true⟩ } }).instGo else s.instGo
  | _ => s.instGo

end Sys2Proof.Machine
end

