-- ==== Sys2Proof/Machine/LineErr.lean ====
section
/-! DEFINITION. Errors of a line that the pool cache (R221, R222, R236) and the memory controllers (R232, R233, R237) find. -/

namespace Sys2Proof.Machine

/-- PCS_ERR_ADDR (R236). -/
def State.pcsErrAddr (s : State) (line : Nat) : State :=
  (s.fset F.PCS_ERR_ADDR_VALID (sliceOf line) 0 1).fset F.PCS_ERR_ADDR_LINE (sliceOf line) 0 (line / 128)

/-- R221, R222: a line becomes poisoned in its slice. -/
def State.pcsPoison (s : State) (line : Nat) : State :=
  let k := sliceOf line
  let s1 := ((s.setPoison line true).fcount F.PCS_UE_COUNT_POISONED k 0 1).pcsErrAddr line
  s1.logFault (s1.fault (0x10 + k) 0 0x203 2 1 line)

/-- R221: a line that waits in the eviction buffer for its private copies to go cannot be taken back. -/
def State.spoil (s : State) (line : Nat) : State :=
  match mapGet? s.mem.evict line with
  | some e => { s with mem := { s.mem with evict := mapSet s.mem.evict line { e with spoilt := true } } }
  | none => s

/-- R221: uncorrectable data: a clean line is fetched again from its home, a modified or resident one is poisoned. -/
def State.pcsUe (s : State) (line : Nat) : State :=
  let k := sliceOf line
  let modified := match s.poolLine line with
    | some p => p.home.isSome
    | none => false
  if modified || s.resident line then s.pcsPoison line
  else
    let s1 := (((s.evictLine line).spoil line).fcount F.PCS_UE_COUNT_CLEAN k 0 1).pcsErrAddr line
    s1.logFault (s1.fault (0x10 + k) 0 0x202 1 1 line)

/-- R221: both copies of the tags are lost: the slice stops. -/
def State.sliceStop (s : State) (line : Nat) : State :=
  let b := 0x10 + sliceOf line
  let s1 := { s with flt := { s.flt with stopped := if s.flt.stopped.contains b then s.flt.stopped else b :: s.flt.stopped } }
  s1.logFault (s1.fault b 0 0x205 3 0 0)

/-- R222, R232, R237: controller `k` reports a read that it cannot correct.  An uncorrectable read of CXL memory is reported
alike, by the memory-controller block that the line's address selects (DESIGN CHOICE, log entry 121). -/
def State.mcUeLog (s : State) (k line : Nat) : State :=
  let s1 := ((s.fcount F.MC_UE_COUNT_COUNT k 0 1).fset F.MC_ERR_ADDR_VALID k 0 1).fset F.MC_ERR_ADDR_LINE k 0 (line / 128)
  s1.logFault (s1.fault (0x40 + k) 0 0x302 2 1 line)

/-- R222, R232: a read that the controller cannot correct delivers a poisoned line. -/
def State.mcUe (s : State) (k line : Nat) : State := (s.setPoison line true).mcUeLog k line

/-- One error of the pool cache or of memory controller `k`, met by a read of a line. -/
def State.lineErrAt (s : State) (k line : Nat) : ErrSeen → State
  | .priv _ => s
  | .pcsData =>
    let s1 := s.fcount F.PCS_CE_COUNT_DATA (sliceOf line) 0 1
    s1.logFault (s1.fault (0x10 + sliceOf line) 0 0x200 0 1 line)
  | .pcsTag =>
    let s1 := s.fcount F.PCS_CE_COUNT_TAG (sliceOf line) 0 1
    s1.logFault (s1.fault (0x10 + sliceOf line) 0 0x200 0 1 line)
  | .pcsTagCopy =>
    let s1 := s.fcount F.PCS_CE_COUNT_TAG (sliceOf line) 0 1
    s1.logFault (s1.fault (0x10 + sliceOf line) 0 0x201 0 1 line)
  | .pcsTagFatal => s.sliceStop line
  | .pcsUe => s.pcsUe line
  | .mcCe =>
    let s1 := s.fcount F.MC_CE_COUNT_COUNT k 0 1
    s1.logFault (s1.fault (0x40 + k) 0 0x300 0 1 line)
  | .mcMarked =>
    let s1 := s.fset F.MC_STATUS_DEV_MARKED k 0 1
    s1.logFault (s1.fault (0x40 + k) 0 0x301 0 0 0)
  | .mcUe => s.mcUe k line
  | .mcMirror => s.logFault (s.fault (0x40 + k) 0 0x303 1 1 line)

/-- An error met by a read through the pool cache: the controller is the one that serves the line (R233). -/
def State.lineErr (s : State) (line : Nat) (e : ErrSeen) : State := s.lineErrAt (s.channelOf line) line e

end Sys2Proof.Machine
end

