-- ==== Sys2Proof/Machine/Directory.lean ====
section
/-! DEFINITION. The coherence directory and the requester's side of it (R405 to R409, R419, R469, R470). -/

namespace Sys2Proof.Machine

/-- A bit of a holder mask (R406). -/
def maskBit (mask d : Nat) : Bool := mask.testBit d

/-- The devices of a mask, rising. -/
def maskList (mask : Nat) : List Nat := (List.range 32).filter mask.testBit

def maskOf (ds : List Nat) : Nat := ds.foldl (fun m d => m ||| 2 ^ d) 0

def State.setDir (s : State) (line : Nat) (e : Option DirSt) : State :=
  { s with dir := { s.dir with entries := match e with
      | some v => mapSet s.dir.entries line v
      | none => mapErase s.dir.entries line } }

def State.setBusy (s : State) (line : Nat) (r : Option DirReq) : State :=
  { s with dir := { s.dir with busy := match r with
      | some v => mapSet s.dir.busy line v
      | none => mapErase s.dir.busy line } }

/-! Lines that arrive -/

/-- R407: a line that was asked for arrives: DATA_SHARED, DATA_OWN or GRANT from a device.  Ownership that comes from
another device than the home brings stores that the home does not hold. -/
def State.gotLine (s : State) (line kind sender : Nat) (data : List Byte) (poison : Bool) : State :=
  let here := s.homeOf line == .dev s.devnum
  let s0 := { (s.clearAsked line) with dir := { s.dir with retries := mapErase s.dir.retries line } }
  let s1 := if kind = 0x11 ∧ s.homeOf line ≠ .dev sender then s0.markModified line else s0
  -- while its write-back is on its way the line here is what the home is about to hold
  let s2 := if kind = 0x12 || s.mem.wb.contains line then s1
    else ({ s1 with mem := { s1.mem with cells := cellsWrite s1.mem.cells line data } }).setPoison line poison
  let s3 := s2.install line
  match s3.poolLine line with
  | some p => { s3 with mem := { s3.mem with pool := mapSet s3.mem.pool line { p with owned := here || kind != 0x10 } } }
  | none => s3

/-! The home -/

/-- A home's message about a line to a device. -/
def State.dirMsg (s : State) (kind dst tag line : Nat) (poison : Bool) (data : List Byte) : Msg :=
  { kind, src := s.devnum, mkind := 5, unit := 0, inst := 0, dst, poison, promoted := false, tag, addr := line, data }

/-- The home answers a request from what its memory and its own pool cache hold. -/
def State.dirReply (s : State) (m : Msg) (kind : Nat) : State :=
  let line := lineOf m.addr
  let data := if kind = 0x12 then [] else s.lineBytes line
  let poison := kind != 0x12 && s.poisoned line
  if m.src = s.devnum then s.gotLine line kind s.devnum data poison
  else s.send (s.dirMsg kind m.src m.tag line poison data)

/-- R207, R407: the private copies of a line that another device is about to own are told to go; true when all have gone. -/
def State.clearCopies (s : State) (line : Nat) : State × Bool := (s.takeBack line).invalAsk line none

/-- Ownership is granted.  To another device, once no private copy of the line is left here: what the home's own copy holds goes to
memory first, or, where the requester has no use for it, is discarded with the copy. -/
def State.grantOwn (s : State) (m : Msg) (kind : Nat) : State :=
  let line := lineOf m.addr
  if m.src = s.devnum then (s.dirReply m kind).setDir line (some (.modified m.src))
  else match s.clearCopies line with
    | (s1, false) => s1.setBusy line (some ⟨m, [s.devnum], false⟩)
    | (s1, true) =>
      let s2 := if kind = 0x11 then s1.flushInval line else s1.discardLine line
      (s2.dirReply m kind).setDir line (some (.modified m.src))

/-- A snoop carries the identity of the request's originator (R400). -/
def State.snoop (s : State) (m : Msg) (kind d : Nat) : State :=
  s.send { m with kind, dst := d, poison := false, promoted := false, addr := lineOf m.addr, data := [] }

/-- Snoops go out, and the request is in progress until they are answered. -/
def State.snoopAll (s : State) (m : Msg) (kind : Nat) (ds : List Nat) : State :=
  ds.foldl (fun s d => s.snoop m kind d) (s.setBusy (lineOf m.addr) (some ⟨m, ds, false⟩))

/-- The holders of a line that a request must reach: neither the home nor the requester. -/
def State.farHolders (s : State) (m : Msg) (mask : Nat) : List Nat :=
  (maskList mask).filter (fun d => d != s.devnum && d != m.src)

/-- A request that takes ownership: other holders are invalidated first. -/
def State.serveOwn (s : State) (m : Msg) (snoopOwner reply : Nat) : State :=
  match mapGet? s.dir.entries (lineOf m.addr) with
  | some (.modified o) =>
    if o = s.devnum ∨ o = m.src then s.grantOwn m reply else s.snoopAll m snoopOwner [o]
  | some (.shared mask) =>
    match s.farHolders m mask with
    | [] => s.grantOwn m reply
    | ds => s.snoopAll m 0x20 ds
  | none => s.grantOwn m reply

/-- READ_SHARED from memory; the home's own modified copy is written back first. -/
def State.serveShared (s : State) (m : Msg) (mask : Nat) : State :=
  let line := lineOf m.addr
  let own := if (s.poolLine line).isSome then [s.devnum] else []
  ((s.writeBack line).dirReply m 0x10).setDir line (some (.shared (mask ||| maskOf (m.src :: own))))

/-- R407: one row of the table, for a line with no request in progress; a member that has been lost meanwhile is not served. -/
def State.dirServe (s : State) (m : Msg) : State :=
  let line := lineOf m.addr
  if s.lost.contains m.src then s
  else match m.kind with
  | 0x01 =>
    match mapGet? s.dir.entries line with
    | some (.modified o) =>
      if o = s.devnum ∨ o = m.src then s.serveShared m 0 else s.snoopAll m 0x21 [o]
    | some (.shared mask) => s.serveShared m mask
    | none => s.serveShared m 0
  | 0x02 => s.serveOwn m 0x22 0x11
  | 0x03 =>
    match mapGet? s.dir.entries line with
    | some (.shared mask) => if maskBit mask m.src then s.serveOwn m 0x22 0x12 else s.serveOwn { m with kind := 0x02 } 0x22 0x11
    | _ => s.serveOwn { m with kind := 0x02 } 0x22 0x11
  | 0x04 => s.serveOwn m 0x20 0x12
  | _ => s

/-- R419: a request is kept until its line can be served. -/
def State.keepRequest (s : State) (m : Msg) : State :=
  { s with dir := { s.dir with waiting := s.dir.waiting ++ [m] } }

/-- R419: one more refusal of what this device has asked of a line; the sixteenth promotes it. -/
def State.countRetry (s : State) (line : Nat) : State × Nat :=
  let n := mapGet 0 s.dir.retries line + 1
  let s1 := { s with dir := { s.dir with retries := mapSet s.dir.retries line n } }
  (if n = 16 then s1.fcount F.DIR_PROMOTED_COUNT 0 0 1 else s1, n)

/-- R408, R419: RETRY.  A request of this device itself is made again as soon as the directory acts next (DESIGN CHOICE, log entry
176). -/
def State.dirRetry (s : State) (m : Msg) : State :=
  let line := lineOf m.addr
  let s1 := s.fcount F.DIR_COUNT_RETRIES 0 0 1
  if m.src = s.devnum then
    let (s2, n) := s1.countRetry line
    s2.keepRequest { m with promoted := decide (16 ≤ n) }
  else s1.send (s1.dirMsg 0x13 m.src m.tag line false [])

/-- R408, R419: a request is refused, or, if promoted, kept. -/
def State.refuseOrKeep (s : State) (m : Msg) : State := if m.promoted then s.keepRequest m else s.dirRetry m

/-- R469, R470: the device is in standby, or on its way out of it: its DDR5 is still in self-refresh. -/
def State.standby (s : State) : Bool := s.fget F.PWR_STATUS_STATE 0 0 == 3 || s.boot.noInit

/-- R406: a line is invalidated at devices, by SNP_INV of the directory itself, and here, once no private copy of it is left.  True
where that is done at once, and the line has no entry any more. -/
def State.dirInvalidate (s : State) (m : Msg) (ds : List Nat) : State × Bool :=
  let line := lineOf m.addr
  let (s1, clear) := (s.lineAwake .flushInval line).clearCopies line
  let acks := ds ++ (if clear then [] else [s.devnum])
  let s2 := ds.foldl (fun s d => s.send (s.dirMsg 0x20 d 0 line false [])) s1
  if acks.isEmpty then ((s2.flushInval line).setDir line none, true) else (s2.setBusy line (some ⟨m, acks, true⟩), false)

/-- The devices that a directory entry names. -/
def DirSt.members : DirSt → List Nat
  | .modified o => [o]
  | .shared mask => maskList mask

/-- R406: an entry is needed for another line: its own line is invalidated everywhere first. -/
def State.dirEvict (s : State) (line : Nat) : State :=
  if (mapGet? s.dir.busy line).isSome || !s.dirHas line then s
  else
    let ds := (((mapGet? s.dir.entries line).map DirSt.members).getD []).filter (· != s.devnum)
    ((s.fcount F.DIR_COUNT_EVICTIONS 0 0 1).dirInvalidate (s.dirMsg 0 s.devnum 0 line false []) ds).1

/-- R426: the entry of the line is being evicted: a request for the line waits behind that. -/
def State.evicting (s : State) (line : Nat) : Bool :=
  (mapGet? s.dir.busy line).any (fun r => r.bcast && r.msg.kind == 0)

/-- R406: room for the entry of a line: where its set is full, one whose requests are not in progress gives way first, one at a time.
False while that is in progress. -/
def State.dirRoom (s : State) (line : Nat) : State × Bool :=
  if !s.dirFull line then (s, true)
  else if (s.dirMates line).any s.evicting then (s, false)
  else
    let old := (s.dirMates line).filter (fun x => (mapGet? s.dir.busy x).isNone)
    match old[Config.victim s.free % old.length]? with
    | some v => let s1 := s.draw.dirEvict v; (s1, !s1.dirFull line)
    | none => (s, false)

/-- R470, R469: a request for memory in standby starts the exit, and waits. -/
def State.asleep (s : State) (m : Msg) : State :=
  ({ s with boot := { s.boot with due := s.boot.due || !s.boot.noInit, noInit := true } }).refuseOrKeep m

/-- R468: a request that reaches a memory controller ends rest. -/
def State.memAwake (s : State) (line : Nat) : State := if s.resident line then s else s.endRest

/-- R456, R405, R470, R227, R426: what a request meets before its line's entry is looked at: it is not served in the safe state (DEDUCED,
log entry 183); it is answered for want of a home; it waits for the exit from standby, for its line to be served, or for the line's eviction. -/
def State.dirTurnedAway (s : State) (m : Msg) : Option State :=
  let line := lineOf m.addr
  if s.pwr.safe then some s
  else if s.homeOf line ≠ .dev s.devnum then some (s.send (s.dirMsg 0x14 m.src m.tag line false []))
  else if s.standby then some (s.asleep m)
  else if !s.sliceUp line || s.evicting line then some ((s.wantGranule line).keepRequest m)
  else if (mapGet? s.dir.busy line).isSome then some ((s.memAwake line).refuseOrKeep m)
  else none

/-- R407, R408: a request reaches the directory.  Room for the line's entry comes first (R406). -/
def State.dirRequest (s : State) (m : Msg) : State :=
  match s.dirTurnedAway m with
  | some s1 => s1
  | none => match (s.memAwake (lineOf m.addr)).dirRoom (lineOf m.addr) with
    | (s1, true) => s1.dirServe m
    | (s1, false) => s1.keepRequest m

/-- Memory takes a line's data from a member. -/
def State.dirStore (s : State) (line : Nat) (data : List Byte) (poison : Bool) : State :=
  ({ s with mem := { s.mem with cells := cellsWrite s.mem.cells line data } }).setPoison line poison

/-- R407, R419: WRITEBACK: memory is written if the sender owns the line. -/
def State.dirWriteback (s : State) (m : Msg) : State :=
  let line := lineOf m.addr
  match s.dirTurnedAway m with
  | some t => t
  | none =>
    let s1 := if mapGet? s.dir.entries line == some (.modified m.src)
      then ((s.memAwake line).dirStore line m.data m.poison).setDir line none else s
    s1.send (s1.dirMsg 0x15 m.src m.tag line false [])

/-- R426: a write-back that has arrived and waits for the eviction of its line, or for power, is stored. -/
def State.takeWriteback (s : State) (line : Nat) : State :=
  match mapGet? s.dir.entries line with
  | some (.modified o) =>
    match s.dir.waiting.find? (fun m => m.kind == 0x05 && m.src == o && lineOf m.addr == line) with
    | some m => ((s.memAwake line).dirStore line m.data m.poison).setDir line none
    | none => s
  | _ => s

/-- Requests that waited are taken up again, the promoted ones, oldest first, before the others (R419). -/
def State.dirResume (s : State) : State :=
  (s.dir.waiting.filter (·.promoted) ++ s.dir.waiting.filter (fun m => !m.promoted)).foldl
    (fun s m => if m.kind = 0x05 then s.dirWriteback m else s.dirRequest m) { s with dir := { s.dir with waiting := [] } }

/-- R409: a request whose originator has been lost while its snoops were out ends without it.  Data that the owner has sent there
is lost, so its line is poisoned. -/
def State.dirAbandon (s : State) (r : DirReq) (noCopy : Bool) : State :=
  let line := lineOf r.msg.addr
  match r.msg.kind, mapGet? s.dir.entries line with
  | 0x02, some (.modified _) =>
    let s1 := s.setDir line none
    if noCopy then s1 else (s1.setPoison line true).logFault (s1.fault 0x5A 0 0x607 2 1 line)
  | _, _ => s.setDir line none

/-- Every snoop of a request has been answered; `noCopy`: its owner held no copy, or the line was broadcast. -/
def State.dirFinish (s : State) (r : DirReq) (noCopy : Bool) : State :=
  let line := lineOf r.msg.addr
  let s1 := s.setBusy line none
  let s2 :=
    if r.bcast then (((s1.takeWriteback line).flushInval line).setDir line none).dirServe r.msg
    else if s.lost.contains r.msg.src then s1.dirAbandon r noCopy
    else match r.msg.kind, mapGet? s1.dir.entries line with
      | 0x01, _ => (s1.setDir line none).dirServe r.msg
      | 0x02, some (.modified o) =>
        if noCopy || o == s.devnum then s1.grantOwn r.msg 0x11 else s1.setDir line (some (.modified r.msg.src))
      | 0x02, _ => s1.grantOwn r.msg 0x11
      | _, _ => s1.grantOwn r.msg 0x12
  s2.dirResume

/-- SNP_ACK of a device; PROMOTED says that an owner held no copy. -/
def State.dirAck (s : State) (line sender : Nat) (noCopy : Bool) : State :=
  match mapGet? s.dir.busy line with
  | none => s
  | some r =>
    if !r.acks.contains sender then s
    else
      let r1 := { r with acks := r.acks.filter (· != sender) }
      if r1.acks.isEmpty then s.dirFinish r1 noCopy else s.setBusy line (some r1)

/-- SNP_DATA: an owner's data reach the home. -/
def State.dirData (s : State) (m : Msg) : State :=
  let line := lineOf m.addr
  match mapGet? s.dir.busy line with
  | none => s
  | some r =>
    if !r.acks.contains m.src then s
    else if r.bcast then ((s.memAwake line).dirStore line m.data m.poison).dirAck line m.src true
    else if r.msg.kind = 0x01 then
      ((((s.memAwake line).dirStore line m.data m.poison).setBusy line none).setDir line
        (some (.shared (maskOf ([m.src, r.msg.src].filter (fun d => !s.lost.contains d)))))).dirResume
    else s.dirAck line m.src true

/-! Errors of the directory (R406, R408) -/

/-- A line is invalidated everywhere, and the request that needs that is then served. -/
def State.dirRecall (s : State) (m : Msg) (ds : List Nat) : State :=
  match s.dirInvalidate m ds with
  | (s1, true) => (s1.dirServe m).dirResume
  | (s1, false) => s1

/-- R408: an uncorrectable error of an entry: the line is invalidated at every member. -/
def State.dirBroadcast (s : State) (m : Msg) : State :=
  let line := lineOf m.addr
  let s1 := s.fcount F.DIR_ECC_BROADCASTS 0 0 1
  (s1.logFault (s1.fault 0x5A 0 0x606 2 1 line)).memAwake line |>.dirRecall m s1.others

/-- R207: requests that wait for private copies here to go, theirs having gone, go on. -/
def State.ownAcks (s : State) : State :=
  s.dir.busy.foldl (fun s x =>
    if x.2.acks.contains s.devnum then
      match s.clearCopies x.1 with
      | (s1, true) => s1.dirAck x.1 s.devnum false
      | (s1, false) => s1
    else s) s

/-- A request as it finds the directory: the errors that reading its line meets, what the code of its entry finds, and
the line whose entry is taken for it. -/
def State.homeRequest (s : State) (m : Msg) (errs : List ErrSeen) (ecc : DirEcc) (evict : Option Nat) : State :=
  let line := lineOf m.addr
  let free := s.homeOf line == .dev s.devnum && !s.standby && !s.pwr.safe && (mapGet? s.dir.busy line).isNone
  if !free then s.dirRequest m
  else
    let s0 := errs.foldl (fun s e => s.lineErr line e) s
    match ecc with
    | .lost => s0.dirBroadcast m
    | _ =>
      let s1 := if ecc = .corrected then s0.fcount F.DIR_ECC_CORRECTED 0 0 1 else s0
      match evict with
      | none => s1.dirRequest m
      | some v =>
        if v % 128 ≠ 0 ∨ v = line then s1.dirRequest m
        else
          let s2 := s1.dirEvict v
          if (mapGet? s2.dir.busy v).isSome then s2.keepRequest m else s2.dirRequest m

/-! A member is lost (R409, R412) -/

/-- R409: lines that the directory shows modified at a lost device are poisoned. -/
def State.poisonOf (s : State) (d : Nat) : State :=
  s.dir.entries.foldl (fun s p =>
    if p.2 = .modified d then
      let s1 := (s.setPoison p.1 true).setDir p.1 none
      s1.logFault (s1.fault 0x5A 0 0x607 2 1 p.1)
    else s) s

/-- R409: the device leaves every holder mask. -/
def State.unholdOf (s : State) (d : Nat) : State :=
  { s with dir := { s.dir with entries := s.dir.entries.filterMap (fun (k, e) => match e with
      | .shared mask =>
        let left := (maskList mask).filter (· != d)
        if left.isEmpty then none else some (k, .shared (maskOf left))
      | .modified o => some (k, .modified o)) } }

/-- R409: a member is declared lost. -/
def State.loseMember (s : State) (d : Nat) : State :=
  if !s.isMember d || d == s.devnum then s
  else
    let members := (maskList (s.acting .DEV_IMG_MEMBERS 0 0).toNat).filter (· != d)
    let s1 := (s.fset F.DEV_IMG_MEMBERS_MEMBERS 0 0 (maskOf members)).fset F.DEV_IMG_EVT_MEMBER_LOST 0 0 1
    let s1 := (mapKeys s1.dir.entries).foldl (fun s l => if mapGet? s.dir.entries l = some (.modified d) then s.takeWriteback l else s) s1
    let s2 : State := { s1 with
      lost := s1.lost ++ [d]
      dir := { s1.dir with waiting := s1.dir.waiting.filter (·.src != d), snoops := s1.dir.snoops.filter (·.src != d) }
      mem := { s1.mem with asked := s1.mem.asked.filter (fun p => s1.homeOf p.1 != .dev d) } }
    let s3 := (s2.poisonOf d).unholdOf d
    s3.dir.busy.foldl (fun s p => s.dirAck p.1 d true) s3

/-! The requester and the holder -/

/-- R419: RETRY received: the request is sent again, promoted from the sixteenth refusal on. -/
def State.askAgain (s : State) (line : Nat) : State :=
  match mapGet? s.mem.asked line, s.homeOf line with
  | some k, .dev d =>
    let (s2, n) := s.countRetry line
    s2.send { kind := k, src := s.devnum, mkind := 4, unit := sliceOf line, inst := mapGet 0 s.mem.askInst line, dst := d, poison := false,
              promoted := decide (16 ≤ n), tag := line / 128 % 2 ^ 16, addr := line, data := [] }
  | _, _ => s

/-- R405: NO_HOME received: the access that asked finds it when it is tried again. -/
def State.gotNoHome (s : State) (line : Nat) : State :=
  if (mapGet? s.mem.asked line).isSome then { s with mem := { s.mem with asked := mapSet s.mem.asked line 0x14 } } else s

/-- R228, R407: a line whose write-back is acknowledged stays here clean; its home, which holds it as UNCACHED, is asked for it
again, so that it counts this device a holder. -/
def State.holdAgain (s : State) (line : Nat) : State :=
  match s.poolLine line, s.homeOf line with
  | some p, .dev d => if p.owned then s else s.askLine .dev line 0x01 d
  | _, _ => s

/-- WB_ACK received: the home holds the line (R407). -/
def State.gotWbAck (s : State) (line : Nat) : State :=
  if s.mem.wb.contains line then
    let s1 : State := { s with
      mem := { s.mem with wb := s.mem.wb.filter (· != line), evict := mapErase s.mem.evict line }
      dir := { s.dir with retries := mapErase s.dir.retries line } }
    s1.holdAgain line
  else s

/-- R419: RETRY received for a write-back: it is sent again, promoted from the sixteenth refusal on; a line that has been
asked for with ownership meanwhile is modified again, and its write-back is given up. -/
def State.writeBackAgain (s : State) (line : Nat) : State :=
  match s.homeOf line with
  | .dev d =>
    if !s.mem.wb.contains line then s
    else if (mapGet? s.mem.asked line).isSome || (s.poolLine line).any (·.owned) then
      ({ s with mem := { s.mem with wb := s.mem.wb.filter (· != line), evict := mapErase s.mem.evict line } }).markModified line
    else
      let (s1, n) := s.countRetry line
      s1.sendWriteBack line d (decide (16 ≤ n))
  | .nowhere => s

/-- A holder's answer to the home of a line. -/
def State.toHome (s : State) (m : Msg) (kind : Nat) (noCopy poison : Bool) (data : List Byte) : State :=
  match s.homeOf (lineOf m.addr) with
  | .dev d => s.send { kind, src := s.devnum, mkind := 4, unit := sliceOf (lineOf m.addr), inst := 0, dst := d, poison,
                       promoted := noCopy, tag := m.tag, addr := lineOf m.addr, data }
  | .nowhere => s

/-- A holder's data to the requester that a snoop names. -/
def State.toRequester (s : State) (m : Msg) (kind : Nat) : State :=
  let line := lineOf m.addr
  s.send { kind, src := s.devnum, mkind := 4, unit := sliceOf line, inst := 0, dst := m.src, poison := s.poisoned line,
           promoted := false, tag := m.tag, addr := line, data := s.lineBytes line }

/-- R207: a snoop that takes a line away is answered once no private copy of it is left here, and waits till then; a line that is
not here is answered at once. -/
def State.afterCopies (s : State) (m : Msg) (go : State → PoolLine → State) : State :=
  let s1 := s.takeBack (lineOf m.addr)
  match s1.poolLine (lineOf m.addr) with
  | none =>
    if m.mkind == 5 && s1.mem.wb.contains (lineOf m.addr) then
      s1.toHome m 0x24 false (s1.poisoned (lineOf m.addr)) (s1.lineBytes (lineOf m.addr))
    else s1.toHome m 0x23 true false []
  | some p =>
    match s1.invalAsk (lineOf m.addr) none with
    | (s2, true) => (go s2 p).erasePool (lineOf m.addr)
    | (s2, false) => { s2 with dir := { s2.dir with snoops := s2.dir.snoops ++ [m] } }

/-- SNP_INV: the copy goes; the directory's own SNP_INV (R406, R408) brings modified data home, those of a write-back on its way
included (R426). -/
def State.snpInv (s : State) (m : Msg) : State :=
  s.afterCopies m (fun s p =>
    if (p.home.isSome || s.mem.wb.contains (lineOf m.addr)) && m.mkind == 5 then s.toHome m 0x24 false (s.poisoned (lineOf m.addr)) (s.lineBytes (lineOf m.addr))
    else s.toHome m 0x23 false false [])

/-- SNP_SHARE: the requester gets the data shared, the home gets the data. -/
def State.snpShare (s : State) (m : Msg) : State :=
  let line := lineOf m.addr
  let s := s.takeBack line
  match s.poolLine line with
  | none => s.toHome m 0x23 true false []
  | some p =>
    let s1 := (s.toRequester m 0x10).toHome m 0x24 false (s.poisoned line) (s.lineBytes line)
    { s1 with mem := { s1.mem with pool := mapSet s1.mem.pool line { p with home := none, owned := false } } }

/-- SNP_OWN: the requester gets the data with ownership, the home an acknowledgement. -/
def State.snpOwn (s : State) (m : Msg) : State :=
  s.afterCopies m (fun s _ => (s.toRequester m 0x11).toHome m 0x23 false false [])

/-- Snoops that waited are taken up again. -/
def State.snoopsGo (s : State) : State :=
  s.dir.snoops.foldl (fun s m => if m.kind = 0x22 then s.snpOwn m else s.snpInv m) { s with dir := { s.dir with snoops := [] } }

/-- What goes on by itself at the home and at the holder: snoops and requests that waited. -/
def State.coherence (s : State) : State := s.snoopsGo.ownAcks.dirResume

end Sys2Proof.Machine
end

