-- ==== Sys2Proof/Machine/Links.lean ====
section
/-! DEFINITION. Shabek Link: flits and messages (R390 to R395), degrade, trickle and retraining (R396, R397), training and
peers (R399), hand-over to another route (R401). -/

namespace Sys2Proof.Machine

/-! Flits and messages -/

/-- R391: a message of its header and data. -/
def msgOf (h data : List Byte) : Msg :=
  let b (k : Nat) : Nat := dn h k 1
  { kind := b 0, src := nfld (b 1) 0 5, mkind := nfld (b 1) 5 3, unit := nfld (b 3) 0 7, inst := nfld (dn h 4 2) 0 10,
    dst := nfld (b 2) 0 5, poison := (b 2).testBit 5, promoted := (b 2).testBit 6, tag := dn h 6 2,
    addr := if b 0 = 0x30 ∨ b 0 = 0x31 then dn h 8 4 else nfld (dn h 8 8) 0 52, data }

/-- R391: messages of the slots of one channel; a slot of zeros is empty.  What is left is the start of a message that
goes on. -/
def parseSlots : Nat → List Byte → List Msg × List Byte
  | 0, bs => ([], bs)
  | n + 1, bs =>
    if bs.length < 16 then ([], bs)
    else
      let h := bs.take 16
      if h.all (· == 0) then parseSlots n (bs.drop 16)
      else
        let len := (msgData (dn h 0 1)).getD 0
        if bs.length < 16 + len then ([], bs)
        else
          let r := parseSlots n (bs.drop (16 + len))
          (msgOf h (sub bs 16 len) :: r.1, r.2)

/-- R395: flits that an ACK covers leave the replay buffer. -/
def Port.acked (p : Port) (ack : Nat) : Port :=
  { p with sent := p.sent.filter (fun x => decide (2048 ≤ (ack + 4096 - x.1) % 4096)) }

/-- R395, R397: the flits of the replay buffer are sent again, in order; a port in trickle sends what it carries, and returns to full
width for the rest. -/
def State.replayFlits (s : State) (k : Nat) : State :=
  let all := (s.port k).sent
  let now := if s.fget F.SHB_STATUS_STATE k 0 = 3 then all.takeWhile (fun x => tricklePasses x.2.2) else all
  let rest := decide (now.length < all.length)
  let s1 := s.modPort k (fun p => { p with again := rest, exiting := p.exiting || rest })
  { s1 with outbox := s1.outbox ++ now.map (fun x => s.msgFlit k x.2.1 x.1 x.2.2) }

/-- R397: a port in trickle is back at full width. -/
def State.fullWidth (s : State) (k : Nat) : State :=
  let s1 := (s.fset F.SHB_STATUS_STATE k 0 2).modPort k (fun p => { p with exiting := false })
  if (s.port k).again then s1.replayFlits k else s1

/-- R395, R396: an ACK or NAK, and credit, of a received flit. -/
def State.flitControl (s : State) (k ack : Nat) (nak : Bool) (credit : Nat × Nat) : State :=
  let s1 := s.modPort k (fun p =>
    { p.acked ack with credit := mapSet p.credit credit.1 (mapGet 0 p.credit credit.1 + credit.2) })
  let s2 :=
    if nak then
      let t := (s1.replayFlits k).fcount F.SHB_ERR_REPLAYS k 0 1
      t.logFault (t.fault (0x50 + k) 0 0x600 0 0 0)
    else s1
  (List.range 10).foldl (fun s j => s.pump j) s2

/-- R395: a flit is discarded, and NAK sent; for those that come out of order after it, no further one. -/
def State.flitNak (s : State) (k : Nat) : State :=
  { s.modPort k (fun p => { p with nak := true }) with outbox := s.outbox ++ [s.idleFlit k true none] }

/-- R397: a flit of the request, response or coherence channel shows that the far end has brought a trickle port back (DEDUCED, log
entry 179). -/
def State.wakePort (s : State) (k vc : Nat) : State :=
  if vc < 3 && s.fget F.SHB_STATUS_STATE k 0 == 3 then s.fullWidth k else s

/-- R390, R395: a flit received on a port: `fec` code words corrected, `bad` if one could not be.  Answers the messages
that it completes. -/
def State.flitIn (s : State) (k : Nat) (bs : List Byte) (fec : Nat) (bad : Bool) : State × List Msg :=
  let st := s.fget F.SHB_STATUS_STATE k 0
  if bs.length ≠ 256 ∨ ¬ (st = 2 ∨ st = 3) then (s, [])
  else
    let s0 := s.fcount F.SHB_ERR_FEC_CORRECTED k 0 fec
    if bad ∨ dn bs 248 8 ≠ crc64 (bs.take 248) then (s0.flitNak k, [])
    else
      let vc := nfld (dn bs 0 1) 0 3
      let cls := nfld (dn bs 0 1) 3 2
      let cr := dn bs 5 3
      let control (s : State) : State :=
        s.flitControl k (nfld (dn bs 3 2) 0 12) ((dn bs 3 2).testBit 15) (4 * nfld cr 0 3 + nfld cr 3 2, nfld cr 8 8)
      let p := s0.port k
      if vc = 5 then (control s0, [])
      else if nfld (dn bs 1 2) 0 12 ≠ p.rx then
        if (p.rx + 4096 - nfld (dn bs 1 2) 0 12) % 4096 < 2048 then
          ({ s0 with outbox := s0.outbox ++ [s0.idleFlit k false none] }, [])
        else (if p.nak then s0 else s0.flitNak k, [])
      else
        let s1 := control (s0.wakePort k vc)
        let key := 4 * vc + cls
        let r := if vc < 5 then parseSlots 32 (mapGet [] p.part key ++ sub bs 8 240) else ([], [])
        let s2 := s1.modPort k (fun p => { p with rx := (p.rx + 1) % 4096, nak := false, part := mapSet p.part key r.2 })
        ({ s2 with outbox := s2.outbox ++ [s2.idleFlit k false (some key)] }, r.1)

/-! Messages for another device -/

/-- R400: a message passes through: from an on-board port to its board it is on the last hop of a detour. -/
def State.forward (s : State) (k : Nat) (m : Msg) : State :=
  s.sendFrom m (if k < 7 && m.dst / 8 == s.devnum / 8 then 2 else 1)

/-- R392: a message is discarded. -/
def State.discardMsg (s : State) (k : Nat) (m : Msg) : State :=
  s.logFault (s.fault (0x50 + k) 0 0x604 1 3 (m.kind + m.src * 2 ^ 8))

/-- R392: the subkind of an SVC message. -/
def msgSub (m : Msg) : Nat := dn m.data 0 1

/-- R392: whether a message is accepted from its sender: a member, or one of the four admission messages. -/
def State.accepts (s : State) (m : Msg) : Bool :=
  s.isMember m.src || (m.kind == 0x34 && decide (1 ≤ (msgSub m)) && decide ((msgSub m) ≤ 4))

/-- R392: an accepted message is acted on, another discarded; one comes on an enabled port.  The device's own requests come on no
port. -/
def State.received (s : State) (k : Nat) (m : Msg) (act : State → State) : State :=
  if m.dst ≠ s.devnum then s
  else if m.src = s.devnum then (if m.kind < 0x10 then act s else s)
  else if 10 ≤ k || !s.fbit F.SHB_CFG_ENABLE k 0 then s
  else if s.accepts m then act s
  else s.discardMsg k m

/-! Ports (R396 to R401) -/

/-- R396: the width that the good lanes allow: 3 eight lanes, 2 four, 1 two, 0 none. -/
def widthOf (lanes : Nat) : Nat :=
  if lanes % 256 = 255 then 3
  else if nfld lanes 0 4 = 15 ∨ nfld lanes 4 4 = 15 then 2
  else if (List.range 4).any (fun i => nfld lanes (2 * i) 2 == 3) then 1
  else 0

/-- R412, R417: a message that belongs to its port: SYNC and the probe of a member; a HANDOVER goes by the route of now (R401). -/
def msgStays (m : Msg) : Bool := msgPerPort m && !(m.kind == 0x34 && (m.data.headD 0).toNat == 8)

/-- R33, R401: the messages that wait at the ports or for a route take the routes of now, behind those that come first. -/
def State.reroute (s : State) (first : List (Nat × Msg)) : State :=
  let stay (x : Nat × Msg) : Bool := msgStays x.2
  let waiting := (List.range 10).flatMap (fun k => (s.port k).wait.filter (fun x => !stay x))
  let s1 := (List.range 10).foldl (fun s k => s.modPort k (fun p => { p with wait := p.wait.filter stay })) s
  let s2 := { s1 with shb := { s1.shb with stuck := [] } }
  (first.filter (fun x => !stay x) ++ waiting ++ s.shb.stuck.map (fun m => (1, m))).foldl
    (fun (s : State) (x : Nat × Msg) => s.sendFrom x.2 (max 1 x.1)) s2

/-- R33, R400: the ports of other devices that are down, as they are now known; the routes follow. -/
def State.farPorts (s : State) (far : List (Nat × Nat)) : State :=
  if far = s.shb.far then s else ({ s with shb := { s.shb with far := far } } : State).reroute []

/-- R401: what a port has sent and its far end has not received, and what waits at it, goes by the new route, in order. -/
def State.moveTraffic (s : State) (k : Nat) (goes : Msg → Bool) : State :=
  let p := s.port k
  let s1 := s.modPort k (fun p => { p with
    sent := [], wait := [], tx := 0, rx := 0, nak := false, credit := [], handing := false, again := false })
  s1.reroute ((p.sent.map (fun x => (x.2.1, x.2.2)) ++ p.wait).filter (fun x => goes x.2))

/-- R417: time is locked to the port no longer: SYNC of any other may take its place. -/
def State.loseSource (s : State) (k : Nat) : State :=
  if s.fget F.TOD_STATUS_PORT 0 0 = k then s.fset F.TOD_STATUS_PORT 0 0 15 else s

/-- R401: the route of a port's traffic changes: what it has sent waits for the HANDOVER of the far end, and newer messages behind it
(R33); its own HANDOVER goes by the new route. -/
def State.giveWay (s : State) (k : Nat) : State :=
  let far := s.peerOf k
  let s1 := s.logFault (s.fault (0x50 + k) 0 0x602 2 3 far)
  let s2 := s1.send (s1.svcMsg far 8 ([BitVec.ofNat 8 k, 0] ++ natToBytes 2 (s1.port k).last))
  (s2.modPort k (fun p => { p with handing := true })).reroute []

/-- R401: a port goes DOWN. -/
def State.portDown (s : State) (k : Nat) : State :=
  let st := s.fget F.SHB_STATUS_STATE k 0
  if st = 0 then s
  else
    let s1 := (((s.loseSource k).fset F.SHB_STATUS_STATE k 0 0).fset F.SHB_STATUS_WIDTH k 0 0).modPort k
      (fun p => { p with exiting := false, widening := false, again := false, part := [] })
    -- a port that has found a wrong peer carries nothing; the traffic of one that retrains goes round already
    if st = 4 ∨ (s.port k).widening then s1 else s1.giveWay k

/-- R401: HANDOVER of the device at the far end of a port: what it has not received goes by the new route, in order. -/
def State.handover (s : State) (m : Msg) : State :=
  match (List.range 10).find? (fun k => s.fbit F.SHB_CFG_ENABLE k 0 && s.peerOf k == m.src
      && s.fget F.SHB_CFG_PEER_PORT k 0 == dn m.data 8 1 % 16) with
  | none => s
  | some k =>
    let s1 := if (s.port k).widening then s else s.portDown k
    if !(s1.port k).handing then s1
    else (s1.modPort k (fun p => p.acked (nfld (dn m.data 10 2) 0 12))).moveTraffic k (fun _ => true)

/-- R401, R412: a lost member sends no HANDOVER: what waits for it at a port that is DOWN goes by another route, but for its own
messages (DEDUCED, log entry 161). -/
def State.releasePorts (s : State) (d : Nat) : State :=
  (List.range 10).foldl (fun s k =>
    if (s.port k).handing && s.peerOf k == d then s.moveTraffic k (fun m => m.dst != d) else s) s

/-- R396: a port whose width has become narrower is counted and logged, with its lanes. -/
def State.narrowed (s : State) (k was width lanes : Nat) : State :=
  if width < was then
    let s1 := s.fcount F.SHB_ERR_DEGRADES k 0 1
    s1.logFault (s1.fault (0x50 + k) 0 0x601 1 3 lanes)
  else s

/-- R396: a lane of a port is faulty: it retrains at the widest width its good lanes allow, or goes DOWN. -/
def State.laneFault (s : State) (k lane : Nat) : State :=
  let st := s.fget F.SHB_STATUS_STATE k 0
  let good := s.fget F.SHB_STATUS_LANES_GOOD k 0
  if st = 0 ∨ st = 4 ∨ ¬ good.testBit lane then s
  else
    let left := good - 2 ^ lane
    let was := s.fget F.SHB_STATUS_WIDTH k 0
    let w := widthOf left
    let s1 := (s.fset F.SHB_STATUS_LANES_GOOD k 0 left).modPort k (fun p => { p with off := Nat.lor p.off (2 ^ lane) })
    if w = 0 then s1.portDown k
    else
      let s2 := s1.fset F.SHB_STATUS_WIDTH k 0 w
      -- in trickle only lane 0 runs (R397)
      let s3 := if st = 3 ∧ lane ≠ 0 then s2 else s2.fset F.SHB_STATUS_STATE k 0 1
      s3.narrowed k was w left

/-- R396: the lanes that a port comes up with: none that it has given up since RETRAIN was written. -/
def State.lanesKept (s : State) (k lanes : Nat) : Nat := Nat.land lanes (255 - (s.port k).off % 256)

/-- R466, R467, R397: the power state keeps ports in trickle. -/
def State.restful (s : State) : Bool := inRange 2 2 (s.fget F.PWR_STATUS_STATE 0 0)

/-- R514, R533: SBB is low at training: the port stays TRAINING, and what it carried goes round. -/
def State.noPeer (s : State) (k : Nat) : State :=
  let s1 := (s.fset F.SHB_STATUS_STATE k 0 1).modPort k (fun p => { p with sbb := false })
  if s.portUp k then s1.giveWay k else s1

/-- R396, R399: a port has trained: it has found a peer, its good lanes, its delay (R417) and its credit (R394).  A device whose straps
disagree is not the peer that the far side expects (R515). -/
def State.portTrained (s : State) (k peer peerPort : Nat) (found : Lanes) (delay credit : Nat) : State :=
  let st := s.fget F.SHB_STATUS_STATE k 0
  let lanes := s.lanesKept k found.good
  let was := s.fget F.SHB_STATUS_WIDTH k 0
  if k ≥ 10 ∨ ¬ s.fbit F.SHB_CFG_ENABLE k 0 ∨ ¬ s.powered (0x50 + k) 0 ∨ ¬ (st = 0 ∨ st = 1) then s
  else if !found.sbb then s.noPeer k
  else
    let s1 := (((s.fset F.SHB_STATUS_PEER k 0 peer).fset F.SHB_STATUS_PEER_PORT k 0 peerPort).fset
      F.SHB_STATUS_LANES_GOOD k 0 lanes).fset F.SHB_DELAY_DELAY k 0 delay
    if peer ≠ s.peerOf k ∨ peerPort ≠ s.fget F.SHB_CFG_PEER_PORT k 0 ∨ s.devnum / 8 ≠ s.boardnum then
      let s2 := (s1.fset F.SHB_STATUS_STATE k 0 4).fset F.SHB_STATUS_WIDTH k 0 0
      s2.logFault (s2.fault (0x50 + k) 0 0x603 3 0 0)
    else if widthOf lanes = 0 then s1.portDown k
    else
      let s2 := ((s1.fset F.SHB_STATUS_STATE k 0 (if s.restful then 3 else 2)).fset F.SHB_STATUS_WIDTH k 0 (widthOf lanes)).modPort k (fun p =>
        { p with
          off := 255 - lanes % 256
          widening := false
          exiting := false
          handing := false
          again := false
          sbb := true
          credit := (List.range 20).foldl (fun c key => mapSet c key (max 8 credit - (p.sent.filter
            (fun x => creditKey x.2.2 x.2.1 == key)).length)) p.credit })
      (((s2.narrowed k was (widthOf lanes) lanes).replayFlits k).reroute []).pump k

/-- R396: SHB_CTL.RETRAIN: while the port trains its traffic takes the routes used for a DOWN port, after the hand-over of
R401. -/
def State.retrain (s : State) (k : Nat) : State :=
  let st := s.fget F.SHB_STATUS_STATE k 0
  if s.fbit F.SHB_CFG_ENABLE k 0 && st != 1 then
    let s1 := ((s.loseSource k).fset F.SHB_STATUS_STATE k 0 1).modPort k (fun p => { p with
      widening := true, exiting := false, again := false, off := 0, part := [] })
    if st = 2 ∨ st = 3 then s1.giveWay k else s1
  else s

/-- R397: no request, response or coherence flit has crossed for 100 µs. -/
def State.trickleEnter (s : State) (k : Nat) : State :=
  if (s.fbit F.SHB_CTL_TRICKLE k 0 || s.restful) && s.fget F.SHB_STATUS_STATE k 0 == 2 && (s.port k).wait.isEmpty then
    s.fset F.SHB_STATUS_STATE k 0 3
  else s

/-- R397: a port for which a flit waits is back at full width. -/
def State.trickleExit (s : State) (k : Nat) : State :=
  if s.fget F.SHB_STATUS_STATE k 0 = 3 ∧ (s.port k).exiting then (s.fullWidth k).pump k else s

end Sys2Proof.Machine
end

