-- ==== Sys2Proof/Machine/Image.lean ====
section
/-! DEFINITION. The image: admission (R410, R411), losses and takeover (R412 to R414), time of day and the timers (R416 to
R418), forwarded records (R433). -/

namespace Sys2Proof.Machine

/-- R424: ROLE: 0 not admitted, 1 worker, 2 standby, 3 caller. -/
def State.role (s : State) : Nat := s.fget F.DEV_IMG_STATE_ROLE 0 0
def State.epoch (s : State) : Nat := s.fget F.DEV_IMG_STATE_EPOCH 0 0
def State.caller (s : State) : Nat := s.fget F.DEV_IMG_STATE_ACTING_CALLER 0 0
def State.members (s : State) : Nat := (s.acting .DEV_IMG_MEMBERS 0 0).toNat % 2 ^ 32

/-- R413: the named standby caller, until a takeover has happened (R414). -/
def State.standbyName (s : State) : Option Nat :=
  if s.fbit F.DEV_IMG_CFG_STANDBY_EN 0 0 && !s.img.tookOver then some (s.fget F.DEV_IMG_CFG_STANDBY 0 0) else none

def msgEpoch (m : Msg) : Nat := dn m.data 4 4
def msgMask (m : Msg) : Nat := dn m.data 8 4

def State.setRole (s : State) (role caller epoch : Nat) : State :=
  ((s.fset F.DEV_IMG_STATE_ROLE 0 0 role).fset F.DEV_IMG_STATE_ACTING_CALLER 0 0 caller).fset F.DEV_IMG_STATE_EPOCH 0 0 epoch

/-- An SVC message with the member mask (R393). -/
def State.maskMsg (s : State) (dst sub : Nat) : Msg := s.svcMsg dst sub (natToBytes 4 s.members)

/-- R411: the image digest. -/
def State.imageDigest (s : State) : List Byte :=
  sha384 ((List.range 256).flatMap (fun k => wordBytes (s.acting .DIR_HOME 0 k))
    ++ wordBytes (s.acting .DEV_IMG_CFG 0 0 &&& 0xFF3F1F))

/-- R410: JOIN, until it is answered. -/
def State.sendJoin (s : State) (d : Nat) : State :=
  let s1 : State := { s with img := { s.img with joining := some d } }
  s1.send (s1.svcMsg d 1 (List.replicate 8 0 ++ s1.img.digest))

/-- R412: a mask from the caller: devices that it leaves out are lost, the others are members. -/
def State.takeMask (s : State) (mask : Nat) : State :=
  let gone := (maskList s.members).filter (fun d => !maskBit mask d && d != s.devnum)
  let s1 := gone.foldl (fun s d => (s.loseMember d).releasePorts d) s
  let s2 := s1.fset F.DEV_IMG_MEMBERS_MEMBERS 0 0 (s1.members ||| mask)
  { s2 with lost := s2.lost.filter (fun d => !maskBit mask d) }

/-- JOIN_REFUSED at either device (R411). -/
def State.refused (s : State) (d : Nat) : State :=
  let s1 := s.fset F.DEV_IMG_EVT_REFUSED 0 0 1
  s1.logFault (s1.fault 0x00 0 0x609 3 3 d)

/-- R411: JOIN at the caller; a member that is not, or no longer, the caller passes it on to the acting caller (R426; DEDUCED, log
entry 138). -/
def State.imgJoin (s : State) (m : Msg) : State :=
  if s.role = 0 then s
  else if s.role ≠ 3 then s.send { m with dst := s.caller }
  else if sub m.data 16 48 = s.img.digest then
    let s1 := s.fset F.DEV_IMG_MEMBERS_MEMBERS 0 0 (s.members ||| 2 ^ m.src)
    let s2 : State := { s1 with lost := s1.lost.filter (· != m.src) }
    s2.others.foldl (fun s d => s.send (s.maskMsg d 2)) s2
  else (s.send (s.svcMsg m.src 3 [])).refused m.src

/-- R392, R411: ADMIT. -/
def State.imgAdmit (s : State) (m : Msg) : State :=
  if s.role = 0 then
    if maskBit (msgMask m) s.devnum then
      let role := if s.standbyName = some s.devnum ∧ m.src ≠ s.devnum then 2 else 1
      let s1 := ((s.setRole role m.src (msgEpoch m)).fset F.DEV_IMG_EVT_ADMITTED 0 0 1).fset F.DEV_IMG_MEMBERS_MEMBERS 0 0 (msgMask m)
      { s1 with
        lost := []
        img := { s1.img with listening := false, joining := none, admitted := true }
        tod := { s1.tod with fresh := true } }
    else s
  else if m.src = s.caller ∧ (msgEpoch m) = s.epoch then s.takeMask (msgMask m)
  else s

/-- R411: REFUSE. -/
def State.imgRefuse (s : State) (_m : Msg) : State :=
  if s.role = 0 && s.img.joining.isSome then
    ({ s with img := { s.img with joining := none } }).refused s.devnum
  else s

/-- R414, R417: a former caller steps down, and a worker follows the new caller: time locks to whatever SYNC it hears next. -/
def State.stepDown (s : State) (caller epoch : Nat) : State :=
  let s1 := (s.setRole 1 caller epoch).fset F.TOD_STATUS_PORT 0 0 15
  { s1 with img := { s1.img with tookOver := true } }

/-- R410, R412, R414: HEARTBEAT. -/
def State.imgHeartbeat (s : State) (m : Msg) : State :=
  if s.role = 0 then
    if s.img.listening then { s with img := { s.img with heard := some m.src } } else s
  else if s.role = 3 then
    if s.epoch < (msgEpoch m) then s.stepDown (s.standbyName.getD m.src) (msgEpoch m) else s
  else if m.src = s.caller ∧ (msgEpoch m) = s.epoch then s.takeMask (msgMask m)
  else s

/-- R417: a caller locks to no port. -/
def State.ownTime (s : State) : State :=
  ((s.fset F.TOD_STATUS_LOCKED 0 0 0).fset F.TOD_STATUS_HOLDOVER 0 0 0).fset F.TOD_STATUS_PORT 0 0 15

/-- R413: this device, the standby, takes the caller's role. -/
def State.takeOver (s : State) : State :=
  if s.role ≠ 2 || s.img.tookOver then s
  else
    let s1 := s.setRole 3 s.devnum ((s.epoch + 1) % 2 ^ 32)
    let s2 : State := ({ s1 with img := { s1.img with tookOver := true }, tod := { s1.tod with slew := 0 } }).ownTime
    let s3 := s2.others.foldl (fun s d => s.send (s.maskMsg d 5)) s2
    s3.logFault (s3.fault 0x00 0 0x60A 2 3 s3.devnum)

/-- R413, R414: TAKEOVER. -/
def State.imgTakeover (s : State) (m : Msg) : State :=
  if s.role = 0 then s
  else if s.standbyName = some m.src ∧ (msgEpoch m) = (s.epoch + 1) % 2 ^ 32 then
    let s1 := (s.stepDown m.src (msgEpoch m)).fset F.DEV_IMG_EVT_TAKEOVER 0 0 1
    s1.takeMask (msgMask m)
  else if s.role = 3 ∧ s.epoch < (msgEpoch m) then s.stepDown m.src (msgEpoch m)
  else s

/-- R413, R432: ALERT of another member. -/
def State.imgAlert (s : State) (m : Msg) : State :=
  let was := s.caller
  let s1 := (s.draw.notice 0xF30 ((Config.freeWord s.free).toNat % 2 ^ 32))
  let s2 := s1.2.foldl (fun s e => s.raise e.1 e.2) s1.1
  if m.src = was ∧ msgEpoch m = s.epoch then s2.takeOver else s2

/-- R410: listening has ended. -/
def State.listenEnd (s : State) : State :=
  if !s.img.listening || s.role != 0 then s
  else
    let s1 : State := { s with img := { s.img with listening := false } }
    let named := s.fget F.DEV_IMG_CFG_CALLER 0 0
    match s.img.heard with
    | some d => s1.sendJoin d
    | none =>
      if named = s.devnum then
        let s2 := s1.setRole 3 s.devnum 1
        { s2 with img := { s2.img with admitted := true } }
      else s1.sendJoin named

/-- R410: no answer for 100 ms. -/
def State.joinAgain (s : State) : State :=
  match s.img.joining with
  | some d => if s.role = 0 then s.sendJoin d else s
  | none => s

/-- R412, R441: heartbeats, every 100 µs. -/
def State.sendHeartbeats (s : State) : State :=
  if s.flt.fatal then s
  else if s.role = 3 then s.others.foldl (fun s d => s.send (s.maskMsg d 4)) s
  else if s.role = 0 then s
  else s.send (s.maskMsg s.caller 4)

/-- R400: the first hops of every route to a device. -/
def State.routesTo (s : State) (d : Nat) : List (Nat × Nat) :=
  let c := s.devnum % 8
  let p := d % 8
  let round (cls : Nat) (ok : Nat → Bool) : List (Nat × Nat) :=
    ((List.range 8).filter (fun r => r != c && ok r && s.portUp (boardPort c r))).map (fun r => (boardPort c r, cls))
  if d / 8 = s.devnum / 8 then
    (if s.portUp (boardPort c p) then [(boardPort c p, 1)] else [])
      ++ round 1 (fun r => r != p && s.farUp (s.devnum / 8 * 8 + r) (boardPort r p))
  else (s.portsTo (d / 8)).map (fun k => (k, 1)) ++ round 0 (fun r => s.crossesAt r (d / 8))

/-- R412, R413: a probe of a member, an IO_READ of its block 0x00, on every route. -/
def State.probe (s : State) (d : Nat) : State :=
  (s.routesTo d).foldl (fun s h => s.sendOn h.1 h.2
    { kind := 0x30, src := s.devnum, mkind := 6, unit := 0, inst := 0, dst := d, poison := false, promoted := false, tag := 129,
      addr := d * 2 ^ 27, data := [] }) s

/-- R412, R413: a device's heartbeats have stayed away for HB_TIMEOUT: it is probed; `answered`: the probe has not failed on every
route. -/
def State.heartbeatsLost (s0 : State) (d : Nat) (answered : Bool) : State :=
  let asks := decide (s0.role = 3) && s0.isMember d && d != s0.devnum || (decide (s0.role = 2) && d == s0.caller)
  let s := if asks && !s0.flt.fatal then s0.probe d else s0
  if answered then s
  else if s.role = 3 then
    if s.isMember d && d != s.devnum then
      let s1 := (s.loseMember d).releasePorts d
      let s2 := s1.logFault (s1.fault 0x00 0 0x608 3 3 d)
      if s2.flt.fatal then s2 else s2.others.foldl (fun s d => s.send (s.maskMsg d 4)) s2
    else s
  else if s.role = 2 ∧ d = s.caller ∧ 3 ≤ (maskList s.members).length then s.takeOver
  else s

/-! Time of day -/

def State.time (s : State) : Nat := s.fget F.TOD_TIME_NS 0 0
def State.setTime (s : State) (t : Nat) : State := s.fset F.TOD_TIME_NS 0 0 t

/-- R417: SYNC on a port.  It takes the place of a source that is worse, is lost, or has been silent for 10 µs (DEDUCED, log entry
173). -/
def State.sync (s : State) (k : Nat) (m : Msg) : State :=
  if s.role = 0 ∨ s.role = 3 then s
  else
    let t : Nat := (dn m.data 8 8 + s.fget F.SHB_DELAY_DELAY k 0 / 16) % 2 ^ 64
    let hops := dn m.data 16 1
    let step := dn m.data 17 1
    let cur := s.fget F.TOD_STATUS_PORT 0 0
    let wins := cur == 15 || cur == k || decide (hops < s.tod.hops) || (hops == s.tod.hops && decide (k < cur))
      || decide (s.tod.heard + 10000 < s.now)
    if !wins then s
    else
      let off : Int := (t : Int) - (s.time : Int)
      let s1 := (((s.fset F.TOD_STATUS_LOCKED 0 0 1).fset F.TOD_STATUS_HOLDOVER 0 0 0).fset F.TOD_STATUS_PORT 0 0 k).fset
        F.TOD_STATUS_OFFSET 0 0 (off % (2 ^ 32 : Int)).toNat
      if s.tod.fresh || step != s.tod.step then
        ({ s1 with tod := { s1.tod with step, hops, heard := s.now, fresh := false, slew := 0, phase := 0 } }).setTime t
      else { s1 with tod := { s1.tod with hops, heard := s.now, slew := off } }

/-- R417: SYNC to the device at the far end of every port that is up. -/
def State.sendSync (s : State) : State :=
  if s.role = 3 || s.fbit F.TOD_STATUS_LOCKED 0 0 then
    let hops := if s.role = 3 then 0 else s.tod.hops + 1
    ((List.range 10).filter (fun k => s.fget F.SHB_STATUS_STATE k 0 == 2 || s.fget F.SHB_STATUS_STATE k 0 == 3)).foldl
      (fun s k => s.sendOn k 1 (s.svcMsg (s.peerOf k) 6
        (natToBytes 8 s.time ++ [BitVec.ofNat 8 hops, BitVec.ofNat 8 s.tod.step]))) s
  else s

/-- R417: a worker has heard no SYNC for 10 µs. -/
def State.syncLost (s : State) : State :=
  if s.role = 0 ∨ s.role = 3 ∨ s.fbit F.TOD_STATUS_HOLDOVER 0 0 then s
  else
    let s1 := ((s.fset F.TOD_STATUS_LOCKED 0 0 0).fset F.TOD_STATUS_HOLDOVER 0 0 1).fset F.TOD_STATUS_PORT 0 0 15
    let s2 : State := { s1 with tod := { s1.tod with slew := 0 } }
    s2.logFault (s2.fault 0x05 0 0x60B 1 0 0)

/-- R416: TOD_SET on the caller. -/
def State.todSet (s : State) (v : Nat) : State :=
  ({ s with tod := { s.tod with step := (s.tod.step + 1) % 256, slew := 0, phase := 0 } }).setTime v

/-- R416: the rising edge of TOD_PPS: the nearest second begins. -/
def State.ppsEdge (s : State) : State :=
  if s.role = 3 && s.fbit F.TOD_CFG_PPS_EN 0 0 then s.setTime ((s.time + 500000000) / 1000000000 * 1000000000) else s

/-- R418: a timer whose time has come. -/
def State.timerExpiry (s : State) (t : Nat) : State :=
  if t ≥ 256 ∨ ¬ s.fbit F.TMR_CTL_ARM 0 t ∨ s.time < s.fget F.TMR_CMP_TIME 0 t then s
  else
    let s1 :=
      if s.fbit F.TMR_CTL_PERIODIC 0 t then
        let cmp := s.fget F.TMR_CMP_TIME 0 t
        let per := max 1 (s.fget F.TMR_CTL_PERIOD 0 t) * 1000
        s.fset F.TMR_CMP_TIME 0 t (cmp + ((s.time - cmp) / per + 1) * per)
      else s.fset F.TMR_CTL_ARM 0 t 0
    s1.raiseBlock (0x900 + t)

/-! Forwarded records (R433) -/

/-- The fault message of 16 bytes (R427). -/
def faultOf (x : Nat) : FaultMsg :=
  { dev := nfld x 0 5, blk := nfld x 5 7, unit := nfld x 12 7, kind := nfld x 19 12, cls := nfld x 31 3,
    conseq := x.testBit 34, akind := nfld x 35 2, time := nfld x 37 39, addr := nfld x 76 52 }

/-- R433: a record of another device. -/
def State.forwarded (s : State) (m : Msg) : State :=
  let f := faultOf (bytesToNat m.data)
  let (s1, lost) := s.addRecord f f.cls false true
  let (s2, e1) := s1.notice (0xF10 + m.src) s.flt.next
  let (s3, e2) := if lost then s2.notice 0xF09 s.flt.next else (s2, [])
  (e1 ++ e2).foldl (fun s e => s.raise e.1 e.2) s3

/-! SVC messages (R393) -/

/-- An SVC message is acted on by its subkind; another subkind does nothing. -/
def State.service (s : State) (k : Nat) (m : Msg) : State :=
  match (msgSub m) with
  | 1 => s.imgJoin m
  | 2 => s.imgAdmit m
  | 3 => s.imgRefuse m
  | 4 => s.imgHeartbeat m
  | 5 => s.imgTakeover m
  | 6 => s.sync k m
  | 7 => s.imgAlert m
  | 8 => s.handover m
  | _ => s

end Sys2Proof.Machine
end

