-- ==== Sys2Proof/Machine/RangeEngine.lean ====
section
/-! DEFINITION. The range engine (R228, R229), the conversion of resident memory (R226, R227), and scrubbing (R232 to R234). -/

namespace Sys2Proof.Machine

/-! The range engine -/

/-- The operation of an OP code (R236). -/
def rngOp (op : Nat) : Option LineOp :=
  match op with
  | 1 => some .flush
  | 2 => some .flushInval
  | 3 => some .inval
  | 4 => some .zero
  | _ => none

/-- A count of a range command (R236). -/
def State.rngCount (s : State) (f : FieldRef) : State := s.fset f 0 0 (s.fget f 0 0 + 1)

/-- R228: one line has been dealt with. -/
def State.rngTally (s : State) (r : LineRes) : State :=
  match r with
  | .acted p =>
    let s1 := s.rngCount F.PCS_RNG_LINES_DONE
    if p then s1.rngCount F.PCS_RNG_POISONED_POISONED else s1
  | .skipped => s.rngCount F.PCS_RNG_SKIPPED_RESIDENT
  | _ => s

/-- R229: lines are acted on in ascending order, `n` at most, until one is awaited or has no home. -/
def State.rngLines (s : State) (op : LineOp) : Nat → RngJob → State
  | 0, j => { s with rng := some j }
  | n + 1, j =>
    match (s.lineAwake op (j.base + 128 * j.next)).lineOp op (j.base + 128 * j.next) with
    | (s1, .wait) => { s1 with rng := some j }
    | (s1, .noHome) => { s1 with rng := some { j with stop := 1 } }
    | (s1, r) => (s1.rngTally r).rngLines op n { j with next := j.next + 1 }

/-- The command in progress goes on. -/
def State.rngGo (s : State) : State :=
  match s.rng with
  | none => s
  | some j =>
    match rngOp j.op with
    | some op => if j.stop = 0 then s.rngLines op (j.len - j.next) j else s
    | none => s

/-- R229: PCS_RNG_CMD; refused while BUSY or with a reserved OP.  CODE and the counts begin at zero; DONE and ERROR of the
command before stay until they are written (DESIGN CHOICE, log entry 123).  A command with LEN 0 does nothing but set DONE (R236). -/
def State.rngCommand (s : State) (w : Word) : Option State :=
  if s.fbit F.PCS_RNG_STATUS_BUSY 0 0 || (rngOp (fld w 0 3)).isNone then none
  else if s.fget F.PCS_RNG_LEN_LINES 0 0 = 0 then some (s.fset F.PCS_RNG_STATUS_DONE 0 0 1)
  else
    let j : RngJob := { op := fld w 0 3, base := s.fget F.PCS_RNG_BASE_LINE 0 0 * 128, len := s.fget F.PCS_RNG_LEN_LINES 0 0,
                        next := 0, src := if bitOf w 24 then some (fld w 12 12) else none, stop := 0 }
    let s1 := ((((s.fset F.PCS_RNG_STATUS_BUSY 0 0 1).fset F.PCS_RNG_STATUS_CODE 0 0 0).fset F.PCS_RNG_LINES_DONE 0 0 0).fset
      F.PCS_RNG_SKIPPED_RESIDENT 0 0 0).fset F.PCS_RNG_POISONED_POISONED 0 0 0
    some ({ s1 with rng := some j }).rngGo

/-- R229: the command ends, with a code where it stopped early.  A SOURCE above 0x3FF is raised as it stands (DESIGN CHOICE, log
entry 122). -/
def State.rngEnd (s : State) (code : Nat) : State :=
  match s.rng with
  | none => s
  | some j =>
    let s1 := (({ s with rng := none }).fset F.PCS_RNG_STATUS_BUSY 0 0 0).fset F.PCS_RNG_STATUS_DONE 0 0 1
    let s2 := if code = 0 then s1 else (s1.fset F.PCS_RNG_STATUS_ERROR 0 0 1).fset F.PCS_RNG_STATUS_CODE 0 0 code
    match j.src with
    | some n => s2.raiseBlock n
    | none => s2

/-- R229: what is left is acted on; a command that has passed its last line, or has stopped, ends. -/
def State.rngDone (s : State) : State :=
  let s1 := s.rngGo
  match s1.rng with
  | none => s1
  | some j => if j.stop ≠ 0 then s1.rngEnd j.stop else if j.len ≤ j.next then s1.rngEnd 0 else s1

/-! Resident memory -/

/-- Bytes and poison of a range are zeroed, and no cache holds its lines. -/
def State.zeroSpan (s : State) (base len : Nat) : State :=
  { s with mem := { s.mem with
      cells := s.mem.cells.filter (fun c => !inRange base len c.1)
      poison := s.mem.poison.filter (fun l => !inRange base len l)
      bad := s.mem.bad.filter (fun l => !inRange base len l)
      evict := s.mem.evict.filter (fun p => !inRange base len p.1)
      pool := s.mem.pool.filter (fun p => !inRange base len p.1) } }

/-- Every private copy of a line of the range goes. -/
def State.dropSpan (s : State) (base len : Nat) : State :=
  (s.mem.pool.filter (fun p => inRange base len p.1)).foldl (fun s p => s.invalidate p.1 none) s

def block16 : Nat := 2 ^ 24

/-- R227: block `j` of a window with this base and length keeps its place in another. -/
def keepsBlock (b1 r1 b2 r2 j : Nat) : Bool := b1 == b2 && decide (j < r1) && decide (j < r2)

/-- R227: the blocks of a window that are zeroed. -/
def State.zeroBlocks (s : State) (b1 r1 b2 r2 : Nat) : State :=
  (List.range r1).foldl (fun s j =>
    if keepsBlock b1 r1 b2 r2 j then s
    else (s.dropSpan (b1 + j * block16) block16).zeroSpan (b1 + j * block16) block16) s

/-- R227: the lines that a conversion takes away: cached ones in ways that become resident, and resident ones whose block is
zeroed. -/
def State.convLines (s : State) (b1 r1 b2 r2 : Nat) : List Nat :=
  let zeroed (b r a : Nat) : Bool := inRange b (r * block16) a && !keepsBlock b1 r1 b2 r2 ((a - b) / block16)
  (s.mem.pool.filter (fun x => decide (x.2.way < r2) && !s.resident x.1 || zeroed b1 r1 x.1 || zeroed b2 r2 x.1)).map Prod.fst

/-- R207, R227: their private copies go first; true when all have gone. -/
def State.convReady (s : State) (lines : List Nat) : State × Bool :=
  lines.foldl (fun a line => let (t, gone) := a.1.invalAsk line none; (t, a.2 && gone)) (s, true)

/-- R227 step 1: the lines in ways that become resident are written back and invalidated. -/
def State.clearWays (s : State) (ways : Nat) : State :=
  (s.mem.pool.filter (fun x => decide (x.2.way < ways) && !s.resident x.1)).foldl (fun s x => (s.lineAwake .flushInval x.1).flushInval x.1) s

/-- R227: the conversion is carried out, with the values that its commit captured. -/
def State.convertNow (s : State) (b2 r2 : Nat) : State :=
  let b1 := s.fget F.PCS_RES_BASE_BASE 0 0 * block16
  let r1 := s.fget F.PCS_RES_WAYS_WAYS 0 0
  let s0 := s.clearWays r2
  let s1 := (({ s0 with mem := { s0.mem with conv := none } }).fset F.PCS_RES_BASE_BASE 0 0 (b2 / block16)).fset
    F.PCS_RES_WAYS_WAYS 0 0 r2
  let s2 := (s1.zeroBlocks b1 r1 b2 r2).zeroBlocks b2 r2 b1 r1
  (s2.fset F.PCS_RES_STATUS_CONVERTING 0 0 0).fset F.PCS_RES_STATUS_DONE 0 0 1

/-- R227: a conversion in progress ends once the private copies of the lines that it takes away have gone. -/
def State.resConvert (s : State) : State :=
  match s.mem.conv with
  | none => s
  | some (b2, r2) =>
    match s.convReady (s.convLines (s.fget F.PCS_RES_BASE_BASE 0 0 * block16) (s.fget F.PCS_RES_WAYS_WAYS 0 0) b2 r2) with
    | (s1, true) => s1.convertNow b2 r2
    | (s1, false) => s1

/-- R238: a block reset of block 0x10 finds the conversion complete: private copies whose acknowledgement has not come go at once
(DESIGN CHOICE, log entry 152). -/
def State.resConvertForced (s : State) : State :=
  let s1 := s.resConvert
  match s1.mem.conv with
  | none => s1
  | some (b2, r2) => (positions.foldl State.applyInvals s1).convertNow b2 r2

/-- R226: every resident line is zeroed. -/
def State.zeroResident (s : State) : State :=
  let b := s.fget F.PCS_RES_BASE_BASE 0 0 * block16
  let n := s.fget F.PCS_RES_WAYS_WAYS 0 0 * block16
  (s.dropSpan b n).zeroSpan b n

/-! Scrubbing -/

/-- R234, R222: what memory holds of a line turns out to be uncorrectable: a copy in the pool cache or in an eviction buffer stays as
it is, and memory written by a write-back already issued is good. -/
def State.memLost (s : State) (line : Nat) : State :=
  let lines := if s.mem.bad.contains line then s.mem.bad
    else s.mem.bad.insertIdx ((s.mem.bad.filter (fun x => decide (x < line))).length) line
  let bad : State := { s with mem := { s.mem with bad := lines } }
  match s.poolLine line, mapGet? s.mem.evict line with
  | some p, _ =>
    match p.home with
    | some (bs, _) => s.setPool line { p with home := some (bs, true) }
    | none => bad
  | none, some e =>
    if e.issued then s
    else match e.home with
      | some (bs, _) => { s with mem := { s.mem with evict := mapSet s.mem.evict line { e with home := some (bs, true) } } }
      | none => bad
  | none, none => s.setPoison line true

/-- R234: controller `k`'s scrub read of a line, and the error it meets there, of a mirrored pair on its own side.  It delivers
no line to a cache. -/
def State.scrub (s : State) (k line : Nat) (err : Option ErrSeen) : State :=
  let l := lineOf line
  if s.fget F.MC_SCRUB_HOURS k 0 = 0 ∨ ¬ s.fbit F.MC_STATUS_TRAINED k 0 ∨ s.homeOf l ≠ .dev s.devnum
      ∨ s.resident l ∨ ¬ (s.channelOf l = k ∨ (s.mirrored ∧ s.channelOf l = mirrorOf k)) then s
  else match err with
    | some .mcUe => (s.memLost l).mcUeLog k l
    | some .mcCe => s.lineErrAt k l .mcCe
    | some .mcMarked => s.lineErrAt k l .mcMarked
    | some .mcMirror => s.lineErrAt k l .mcMirror
    | _ => s

end Sys2Proof.Machine
end

