-- ==== Sys2Proof/Machine/Recovery.lean ====
section
/-! DEFINITION. The fault collector's commands: block resets and shadows (R16, R17, R438 to R440), acknowledgement and
standing causes (R14, R434, R436), BOOT_HOLD (R438), NO_CONTROLLER (R444), the fallback sequencer's watchdog (R271). -/

namespace Sys2Proof.Machine

/-! Block resets -/

/-- R17, R229, R316, R318, R430: the operations in progress that a reset of a block clears. -/
def State.resetClears (s : State) (b : Nat) : State :=
  if b = 0x10 then s.resConvertForced.rngEnd 2
  else if inRange 0x20 8 b then s.abortJob (b - 0x20)
  else if b = 0x28 then
    (List.range 8).foldl (fun s e => s.abortJob e) { s with trs := { s.trs with sched := Sched.reset } }
  else if inRange 0x31 8 b then { s with xch := { s.xch with scheds := mapErase s.xch.scheds (b - 0x31) } }
  else if inRange 0x50 10 b then
    (if s.fget F.SHB_STATUS_STATE (b - 0x50) 0 = 0 then s else s.retrain (b - 0x50))
  else if inRange 0x60 8 b then s.groupDown (b - 0x60)
  else s

/-- R439, R45: a reset begins: its shadow opens, over what it brings about. -/
def State.beginReset (s : State) (b : Nat) (byFlt : Bool) : State := (s.openReset b byFlt).resetClears b

def State.inReset (s : State) (b : Nat) : Bool := s.flt.resets.any (fun r => r.1 == b)

/-- R43: the blocks of the I/O space map. -/
def blockKnown (b : Nat) : Bool :=
  decide (b ≤ 7) || inRange 0x10 16 b || inRange 0x20 9 b || inRange 0x30 9 b || inRange 0x40 16 b
    || inRange 0x50 11 b || inRange 0x60 8 b || b == 0x70 || b == 0x71

/-- R438: a write of FLT_RESET. -/
def State.fltReset (s : State) (w : Word) : State :=
  let b := fld w 0 7
  let s1 := s.fset F.FLT_RESET_STATUS_BLOCK 0 0 b
  if !bitOf w 8 then s1
  else
    if b ≤ 7 ∨ b = 0x70 ∨ ¬ blockKnown b ∨ s.inReset b ∨ ¬ s.powered b 0 then
      let s2 := s1.fset F.FLT_RESET_STATUS_REFUSED 0 0 1
      s2.logFault (s2.fault 0x01 0 0x703 1 0 0)
    else (s1.fset F.FLT_RESET_STATUS_BUSY 0 0 1).beginReset b true

/-- R16, R316, R430, R439: a reset ends; its shadow closes later. -/
def State.endReset (s : State) (b : Nat) : State :=
  let byFlt := s.flt.resets.contains (b, true)
  let s1 : State := { s with flt := { s.flt with
    resets := s.flt.resets.filter (fun r => r.1 != b)
    shadows := s.flt.shadows.map (fun h => if h.blk == b then { h with ended := true } else h) } }
  let s2 := if inRange 0x20 8 b then s1.engineResetEnd (b - 0x20)
    else { s1 with flt := { s1.flt with stopped := s1.flt.stopped.filter (· != b) } }
  if byFlt then
    let s3 := s2.fset F.FLT_RESET_STATUS_DONE 0 0 1
    if s3.flt.resets.any (fun r => r.2) then s3 else s3.fset F.FLT_RESET_STATUS_BUSY 0 0 0
  else s2

/-- R439: the condition that a message reports is still present. -/
def State.persists (s : State) (m : FaultMsg) : Bool :=
  let k := m.blk - 0x50
  if m.kind = 0x520 then !s.fbit ⟨if m.blk < 0x64 then .ETH_STATUS else .PCIE_STATUS, m.unit, 1⟩ (m.blk % 4) 0
  else if m.kind = 0x521 ∨ m.kind = 0x205 then s.flt.stopped.contains m.blk
  else if m.kind = 0x504 then (s.pathDesc (m.addr % 2 ^ 12) (m.addr / 2 ^ 12 % 8)).state == 2
  else if m.kind = 0x502 ∨ m.kind = 0x503 then s.fbit F.XCH_STATUS_SINGLE 0 0
  else if m.kind = 0x506 then s.fget F.SEQ_STATUS_STATE (m.blk - 0x31) 0 == 4
  else if m.kind = 0x601 then inRange 1 2 (s.fget F.SHB_STATUS_WIDTH k 0)
  else if m.kind = 0x602 then s.fbit F.SHB_CFG_ENABLE k 0 && s.fget F.SHB_STATUS_STATE k 0 == 0
  else if m.kind = 0x603 then s.fget F.SHB_STATUS_STATE k 0 == 4
  else if m.kind = 0x60B then s.fbit F.TOD_STATUS_HOLDOVER 0 0
  else false

/-- R439: a condition is reported again, as a new message. -/
def State.reportAgain (s : State) (m : FaultMsg) : State :=
  if s.persists m then s.logFault (s.fault m.blk m.unit m.kind m.cls m.akind m.addr) else s

/-- R439: a shadow closes; what no shadow covers any more and is still so is reported again by its block. -/
def State.closeShadow (s : State) (b : Nat) : State :=
  match s.flt.shadows.find? (fun h => h.blk == b && h.ended) with
  | some h =>
    let s1 := { s with flt := { s.flt with shadows := s.flt.shadows.erase h } }
    let s2 := { s1 with flt := { s1.flt with conseq := s1.flt.conseq.filter (fun m => s1.shadowed m.blk) } }
    (s1.flt.conseq.filter (fun m => !s1.shadowed m.blk)).foldl (fun s m => s.reportAgain m) s2
  | none => s

/-! Fault messages from outside the modelled detections (R428, R430, R535) -/

/-- R430, R471: the classes that a kind is sent with; none for a reserved code. -/
def kindClasses (k : Nat) : List Nat :=
  if [0x103, 0x104, 0x200, 0x201, 0x300, 0x301, 0x500, 0x600, 0x713].contains k then [0]
  else if inRange 1 8 k || [0x100, 0x106, 0x107, 0x202, 0x204, 0x303, 0x304, 0x400, 0x505, 0x507, 0x520, 0x601, 0x604, 0x605, 0x60B,
      0x700, 0x702, 0x703, 0x710, 0x711, 0x714, 0x718].contains k then [1]
  else if [0x101, 0x203, 0x206, 0x302, 0x402, 0x501, 0x502, 0x504, 0x602, 0x606, 0x607, 0x60A, 0x712].contains k then [2]
  else if [0x102, 0x105, 0x205, 0x401, 0x503, 0x506, 0x521, 0x603, 0x608, 0x609, 0x701, 0x715, 0x717].contains k then [3]
  else if k = 0x7F0 ∨ k = 0x7F1 then [4]
  else if k = 0x716 then [2, 3]
  else []

/-- R430, R535: the fields of ADDR that a kind has with an AKIND, as a mask; none where the kind is not sent with it. -/
def kindAddr (k akind : Nat) : Option Nat :=
  let only (a mask : Nat) : Option Nat := if akind = a then some mask else none
  let line := 2 ^ 52 - 2 ^ 7
  if inRange 1 6 k then only 2 (2 ^ 32 - 1)
  else if k = 7 then (if akind = 0 then some 0 else if akind = 1 then some line else only 2 (2 ^ 32 - 1))
  else if k = 8 then only 3 (2 ^ 14 - 1)
  else if inRange 0x100 3 k then only 3 (0xFF + 0x7F * 2 ^ 8 + 0x3F * 2 ^ 16)
  else if k = 0x105 then only 3 (0x7F * 2 ^ 8 + 0x3F * 2 ^ 16)
  else if k = 0x106 then only 3 0xFFF
  else if [0x200, 0x201, 0x202, 0x203, 0x204, 0x206, 0x300, 0x302, 0x303, 0x402, 0x605, 0x606, 0x607].contains k then only 1 line
  else if k = 0x500 ∨ k = 0x501 then only 3 (2 ^ 20 - 1)
  else if k = 0x504 then only 3 (0x7FFF + (2 ^ 20 - 1) * 2 ^ 16)
  else if k = 0x505 ∨ k = 0x506 ∨ k = 0x601 then only 3 0xFF
  else if k = 0x400 ∨ k = 0x401 then only 3 (0xF + 0x3FF * 2 ^ 16)
  else if inRange 0x608 3 k ∨ k = 0x602 then only 3 0x1F
  else if k = 0x604 then only 3 0x1FFF
  else if k = 0x701 then only 3 (0xF + 0x3F * 2 ^ 16)
  else if k = 0x717 then only 3 0x7F
  else only 0 0

/-- R535: the units of a block in its fault messages: pair positions, ports of a group, else 0 alone. -/
def faultUnits (blk : Nat) : Nat :=
  if blk = 0x70 then 40 else if inRange 0x60 4 blk then 8 else if inRange 0x64 4 blk then 4 else 1

/-- R430, R535: what a kind says of its block, its UNIT and its ADDR: the pair kinds are those of block 0x70, with bits [21:16] as R430
has them; a link's and a group's kinds those of the group blocks, GROUP_FATAL of the whole group; WRITE_REFUSED without an address is
that of a queue's or a ring's entry (R314). -/
def kindFits (blk unit kind akind addr : Nat) : Bool :=
  if inRange 0x100 8 kind && kind != 0x106 then
    blk == 0x70 && (if kind = 0x101 then decide (nfld addr 16 6 < 40)
      else if inRange 0x100 3 kind ∨ kind = 0x105 then nfld addr 16 6 == 63 else true)
  else if kind = 0x520 then inRange 0x60 8 blk
  else if kind = 0x521 then inRange 0x60 8 blk && unit == 0
  else if kind = 7 && akind == 0 then blk == 0x28 || inRange 0x31 8 blk
  else true

/-- R428, R430, R535: whether a block sends a message with these fields. -/
def wellSent (blk unit kind cls akind addr : Nat) : Bool :=
  blockKnown blk && decide (unit < faultUnits blk) && (kindClasses kind).contains cls && kindFits blk unit kind akind addr &&
    match kindAddr kind akind with
    | some mask => Nat.land addr mask == addr
    | none => false

/-! Acknowledgement -/

/-- R436, R401: a Shabek port that is DOWN with its traffic on another route. -/
def State.reroutes (s : State) (k : Nat) : Bool :=
  s.fbit F.SHB_CFG_ENABLE k 0 && s.fget F.SHB_STATUS_STATE k 0 == 0 && (s.route (s.svcMsg (s.peerOf k) 8 []) 1).isSome

/-- R436: the cause of a pending bit of a block stands. -/
def State.stands (s : State) (b c : Nat) : Bool :=
  match c with
  | 2 => (inRange 0x30 9 b && (s.fbit F.XCH_STATUS_SINGLE 0 0 && b == 0x30 ||
        (List.range (s.fget F.XCH_TGT_CTL_COUNT 0 0)).any (fun t => (List.range 8).any (fun k => (s.pathDesc t k).state == 2))))
      || (inRange 0x40 16 b && s.degraded (b - 0x40))
      || (inRange 0x50 10 b && s.reroutes (b - 0x50))
  | 3 => s.flt.stopped.contains b
      || (inRange 0x20 8 b && !s.fbit F.TRE_STATUS_IN_SERVICE (b - 0x20) 0)
      || (inRange 0x31 8 b && s.fget F.SEQ_STATUS_STATE (b - 0x31) 0 == 4)
      || (inRange 0x50 10 b && s.fget F.SHB_STATUS_STATE (b - 0x50) 0 == 4)
      || (b == 0x07 && s.fget F.FBS_STATUS_STATE 0 0 == 3)
  | 4 => s.flt.fatal
  | _ => false

/-- R436: the cause of a pending bit of a pair position stands; a position that has failed its test is out of service. -/
def State.pairStands (s : State) (q c : Nat) : Bool :=
  match c with
  | 3 => (s.pair q).st == .stopped || (s.pair q).st == .failed || (s.pair q).failed0 || (s.pair q).failed1
      || (s.coresAt q).any (fun lc => (s.core lc).stopped)
  | 4 => s.flt.fatal
  | _ => false

/-- The bits of a mask whose causes stand. -/
def standing (p : Nat → Bool) : Nat := (List.range 5).foldl (fun m c => if p c then m ||| 2 ^ c else m) 0

/-- R14, R436: pending bits are acknowledged; one whose cause stands sets again at once. -/
def ackBits (was bits stand : Nat) : Nat :=
  (List.range 5).foldl (fun m c =>
    if was.testBit c && (!bits.testBit c || stand.testBit c) then m ||| 2 ^ c else m) 0

/-- R434: a write of FLT_PEND[b]. -/
def State.pendAck (s : State) (b bits : Nat) : State :=
  if b = 0x70 then s
  else { s with flt := { s.flt with pend := mapSet s.flt.pend b (ackBits (mapGet 0 s.flt.pend b) bits (standing (s.stands b))) } }

/-- R434: a write of FLT_CORE_PEND[q]. -/
def State.corePendAck (s : State) (q bits : Nat) : State :=
  { s with flt := { s.flt with
      corePend := mapSet s.flt.corePend q (ackBits (mapGet 0 s.flt.corePend q) bits (standing (s.pairStands q))) } }

/-- R450: FLT_STATUS.CLASS_PEND. -/
def State.classPend (s : State) : Nat :=
  (s.flt.pend.filter (fun p => p.1 != 0x70)).foldl (fun m p => m ||| p.2) (s.flt.corePend.foldl (fun m p => m ||| p.2) 0)

/-! Notices and the fallback sequencer -/

/-- R438: BOOT_HOLD is cleared: the withheld notices are raised. -/
def State.bootHoldClear (s : State) : State :=
  if s.fbit F.FLT_CTL_BOOT_HOLD 0 0 then
    let s1 := ({ s with flt := { s.flt with withheld := [] } }).fset F.FLT_CTL_BOOT_HOLD 0 0 0
    s.flt.withheld.foldl (fun s e => s.raise e.1 e.2) s1
  else s

/-- R444: CALLER_NEEDED has been set for 10 ms without a controller's write. -/
def State.noController (s : State) : State :=
  if s.fbit F.FBS_STATUS_CALLER_NEEDED 0 0 && !s.fbs.answered then s.logFault (s.fault 0x01 0 0x7F1 4 0 0) else s

/-- R271: a kick, the start of root firmware, or the clearing of CALLER_NEEDED starts a period; none is timed once the watchdog
has acted. -/
def State.watchdogStart (s : State) : State :=
  { s with fbs := { s.fbs with timing := s.fget F.FBS_WDOG_PERIOD 0 0 != 0 && !s.fbs.acted } }

/-- R271: a period has passed without a kick. -/
def State.watchdogExpiry (s : State) : State :=
  if s.fbs.timing then s.callerNeeded 2 ((s.posOf 76).getD 38) else s

/-- R14, R270, R272: the cause of CALLER_NEEDED is still there: a cut-in that failed, and no service pair that runs; a watchdog that has
acted since does not end it. -/
def State.callerCause (s : State) : Bool :=
  s.fbs.gaveUp && match s.posOf 76 with
    | some q => !(s.pair q).checks
    | none => true

/-- R271, R272: CALLER_NEEDED is cleared, if its cause is gone. -/
def State.callerCleared (s : State) : State :=
  if s.fbit F.FBS_STATUS_CALLER_NEEDED 0 0 && !s.callerCause then
    let s1 := s.fset F.FBS_STATUS_CALLER_NEEDED 0 0 0
    if s1.fbs.acted then ({ s1 with fbs := { s1.fbs with acted := false } }).watchdogStart else s1
  else s

end Sys2Proof.Machine
end

