-- ==== Sys2Proof/Machine/PowerEvents.lean ====
section
/-! DEFINITION. What happens to the supply (R452 to R459, R516, R534), to domains (R460 to R464, R471) and to the device's
power state (R466 to R470). -/

namespace Sys2Proof.Machine

/-! Losing power -/

/-- Registers that keep their values while the base logic is off: those of the always-on island (R472, R534), and, until
the device starts again, those by which trickle control keeps it a member of its image (R470) and the start status, by
which DEV_ALERT_N holds its value (R514). -/
def keepsReg (key : Nat) : Bool :=
  let b := key / 2 ^ 20
  let off := key % 2 ^ 20
  alwaysOn b || (b == 0x02 && decide (off < 0x10)) || (b == 0x00 && inRange 0x1000 0x20 off) || inRange 0x50 11 b
    || (b == 0x06 && off == 0)

/-- Stores that no home holds are lost with the pool cache (R456), and resident memory with its slices (R467). -/
def State.losePool (s : State) : State :=
  let s1 := (mapKeys s.mem.pool ++ mapKeys s.mem.evict).foldl (fun s l => s.discardLine l) s
  let b := s1.fget F.PCS_RES_BASE_BASE 0 0 * block16
  let s2 := s1.zeroSpan b (s1.fget F.PCS_RES_WAYS_WAYS 0 0 * block16)
  { s2 with mem := { s2.mem with pool := [], evict := [], asked := [], askInst := [], wb := [], conv := none } }

/-- R264, R29: what outlasts the base logic of the pair positions: FAILED marks, and which logical pair each carries. -/
def keptPairs (m : NMap PairPos) : NMap PairPos :=
  m.map (fun x => (x.1, { PairPos.reset x.1 with
    st := if x.2.failed0 || x.2.failed1 then .failed else .off
    logical := x.2.logical
    cause := x.2.cause
    failed0 := x.2.failed0
    failed1 := x.2.failed1 }))

/-- R68, R241: the events of a core return to the cue unit, those that it has consumed and not acknowledged among them. -/
def State.returnEvents (s : State) (lc : Nat) : State :=
  let evs := (s.core lc).consumed.filterMap (fun r => match r.inp with
    | .event _ e _ => some e
    | _ => none)
  evs.foldl (fun s e => { s with cue := s.cue.putBack e }) (s.returnQueues lc)

/-- R231: the number of DDR5 channels in service. -/
def State.channelsIn (s : State) : Nat := ((List.range 16).filter (fun k => s.fbit F.MC_STATUS_TRAINED k 0)).length

/-- R454: every domain and every base regulator is off; what the always-on island does not hold is lost. -/
def State.baseOff (s : State) : State :=
  let s0 := ((mapKeys s.cores).foldl (fun s lc => s.returnEvents lc) s).losePool
  { s0 with
    cores := []
    pairs := keptPairs s0.pairs
    io := { force := s0.io.force.filter (fun x => keepsReg x.1), held := [], captured := [], dirty := [] }
    flt := { s0.flt with stopped := [] }
    dir := { s0.dir with entries := [], busy := [], unwritten := [] }
    fbs := { s0.fbs with timing := false }
    trs := { State.reset.trs with keys := s0.trs.keys }
    inst := State.reset.inst
    xch := { State.reset.xch with saves := s0.xch.saves }
    rng := none
    boot := { s0.boot with nvm := none, attest := none, records := [], homes := [], due := false, noInit := false
                           ddrKept := if s.channelsIn = 0 then s.boot.ddrKept else s.channelsIn }
    pwr := { s0.pwr with baseOn := false, queue := [], backing := [], recalling := false } }

/-- R454, R45, R46: power is lost: the block resets in progress end with it, and the accesses held at their blocks find no
power (`State.heldGo`). -/
def State.loseBase (s : State) : State := ((s.flt.resets.map (·.1)).foldl (fun s b => s.endReset b) s).baseOff

/-- Memory that outlasts a loss of power: CXL memory that the home map of the image last started names (R456). -/
def State.persistent (s : State) (a : Nat) : Bool := s.boot.cxl.any (fun r => inRange r.1 r.2 a)

/-- R516, R534: power-on values, but for what the flash, the fuses, the save target and persistent memory hold. -/
def State.islandReset (s : State) (vin resetN trip : Bool) (tap : Tap) : State :=
  let s1 := s.losePool
  { State.reset with
    pending := s.pending
    now := s.now
    free := s.free
    outbox := s.outbox
    devnum := s.devnum
    boardnum := s.boardnum
    mem := { State.reset.mem with
      cells := s1.mem.cells.filter (fun c => s1.persistent c.1)
      poison := s1.mem.poison.filter s1.persistent }
    pwr := { State.reset.pwr with vin := vin, resetN := resetN, trip := trip }
    xch := { State.reset.xch with saves := s.xch.saves }
    tap := tap
    boot := { State.reset.boot with
      flash := s.boot.flash
      cxl := s.boot.cxl
      svn := s.boot.svn
      epoch := s.boot.epoch
      provisioned := s.boot.provisioned
      journal := s.boot.journal } }

/-- R534: VIN54 falls below 16 V. -/
def State.vinRemoved (s : State) : State := s.islandReset false s.pwr.resetN false State.reset.tap

/-- R534: VIN54 rises above 18 V; the start sequence is due once it has been above 46 V (R489). -/
def State.powerOn (s : State) : State :=
  if s.pwr.vin then s
  else
    let s1 := s.islandReset true s.pwr.resetN false s.tap
    { s1 with boot := { s1.boot with due := true } }

/-- R533: the power-fail sequence is running. -/
def State.failing (s : State) : Bool := s.fget F.PWR_STATUS_STATE 0 0 == 4 && !s.pwr.safe

/-- R516, R533: RESET_N has been low for 100 µs; a power-fail sequence first runs to the safe state. -/
def State.resetAssert (s : State) : State :=
  if !s.pwr.vin then { s with pwr := { s.pwr with resetN := true } }
  else if s.failing then { s with pwr := { s.pwr with resetN := true } }
  else s.islandReset true true s.pwr.trip s.tap

/-- R516: RESET_N is released. -/
def State.resetRelease (s : State) : State :=
  if s.pwr.resetN && s.pwr.vin && !s.failing then
    { s with pwr := { s.pwr with resetN := false }, boot := { s.boot with due := true } }
  else { s with pwr := { s.pwr with resetN := false } }

/-! Supply -/

/-- R452: VIN54 is known to be no longer above 60 V. -/
def State.vinLow (s : State) : State := s.fset F.PWR_STATUS_OVERVOLTAGE 0 0 0

/-- R455: brownout begins. -/
def State.brownoutEntry (s : State) : State :=
  if s.fbit F.PWR_STATUS_BROWNOUT 0 0 || !s.pwr.vin then s
  else
    let s1 := s.vinLow.fset F.PWR_STATUS_BROWNOUT 0 0 1
    (s1.logFault (s1.fault 0x02 0 0x710 1 0 0)).pwrEvent

/-- R455: brownout ends. -/
def State.brownoutExit (s : State) : State :=
  if s.fbit F.PWR_STATUS_BROWNOUT 0 0 then (s.fset F.PWR_STATUS_BROWNOUT 0 0 0).pwrEvent else s

/-- R456: the power-fail sequence starts. -/
def State.powerFail (s : State) : State :=
  if s.fget F.PWR_STATUS_STATE 0 0 = 4 || !s.pwr.vin then s
  else
    let s1 := s.pwr.queue.foldl (fun s r => if s.domState r.dom = domQueued then s.setDom r.dom domOff else s) s
    let s2 : State := { s1 with
      pwr := { s1.pwr with queue := [], recalling := false, t0 := some (s1.pwr.t0.getD s1.now) }
      boot := { s1.boot with due := false } }
    let s3 := (s2.fset F.PWR_STATUS_TRANSITION 0 0 0).setPwrState 4
    s3.logFault (s3.fault 0x02 0 0x712 2 0 0)

/-- R456: the safe state; a RESET_N that came meanwhile acts (R533). -/
def State.safeEntry (s : State) : State :=
  if !s.failing then s
  else
    let s1 := s.loseBase
    let s2 : State := { s1 with pwr := { s1.pwr with safe := true, ok := false } }
    if s2.pwr.resetN then s2.islandReset true true s2.pwr.trip s2.tap else s2

/-- R458: a restart after a supply failure; not after a thermal trip. -/
def State.failRestart (s : State) : State :=
  if s.pwr.safe && !s.pwr.trip && s.pwr.vin then
    { s with boot := { s.boot with due := true, noInit := false } }
  else s

/-- R452. -/
def State.overvoltage (s : State) : State :=
  if !s.pwr.vin then s
  else
    let s1 := s.fset F.PWR_STATUS_OVERVOLTAGE 0 0 1
    s1.logFault (s1.fault 0x02 0 0x711 1 0 0)

/-- R453: a converter phase is switched out. -/
def State.phaseFailure (s : State) : State :=
  if !s.pwr.vin then s
  else
    let n := s.pwr.phases + 1
    let s1 : State := { s with pwr := { s.pwr with phases := n } }
    s1.logFault (s1.fault 0x02 0 0x716 (if n < 2 then 2 else 3) 0 0)

/-- R453, R459: the power cap that acts; 0 for none. -/
def State.effectiveCap (s : State) : Nat :=
  let w := s.fget F.PWR_CAP_WATTS 0 0
  if 2 ≤ s.pwr.phases ∧ (w = 0 ∨ 840 < w) then 840 else w

def State.setCap (s : State) (l : Option Nat) (d : Option Bool) : State :=
  { s with pwr := { s.pwr with capLimit := l, capDown := d } }

def State.setTherm (s : State) (l : Option Nat) : State := { s with pwr := { s.pwr with thermLimit := l } }

/-- The domains of compute cores (R27), and all domains. -/
def computeDoms : List Nat := List.range 76
def allDoms : List Nat := List.range 128

/-- R459: a cap window of 100 µs ends: average power, and VIN54 and the input current as measured.  Its end is PWR_CAP's
safe point (R472).  VIN54 is measured in units of 10 mV, so that up to 6,000 it is not above 60 V (R452). -/
def State.capWindow (s : State) (vin iin watts : Nat) : State :=
  if !s.pwr.baseOn then s
  else
    let sv := if vin ≤ 6000 then s.vinLow else s
    let s0 := ((((sv.takeStaged .PWR_CAP 0 0).fset F.PWR_INPUT_VIN 0 0 vin).fset F.PWR_INPUT_IIN 0 0 iin).fset
      F.PWR_INPUT_WATTS 0 0 watts)
    let cap := s0.effectiveCap
    if cap = 0 then (s0.setCap none none).fset F.PWR_STATUS_CAP_ACTIVE 0 0 0
    else if cap < watts then
      let s1 := s0.setCap (some (s0.pwr.capLimit.getD (s0.topRail computeDoms))) (some true)
      if s1.fbit F.PWR_STATUS_CAP_ACTIVE 0 0 then s1
      else
        let s2 := s1.fset F.PWR_STATUS_CAP_ACTIVE 0 0 1
        s2.logFault (s2.fault 0x02 0 0x713 0 0 0)
    else if watts * 100 < cap * 95 then s0.setCap s0.pwr.capLimit (s0.pwr.capLimit.map (fun _ => false))
    else s0.setCap s0.pwr.capLimit none

/-- R459: one step of the cap, every 10 µs. -/
def State.capStep (s : State) : State :=
  match s.pwr.capLimit, s.pwr.capDown with
  | some l, some d =>
    let l1 := limitStep d (s.fget F.PWR_FLOOR_LEVEL 0 0) (s.topRail computeDoms) l
    let s1 := s.setCap l1 (if l1.isNone then none else some d)
    if l1.isNone then s1.fset F.PWR_STATUS_CAP_ACTIVE 0 0 0 else s1
  | _, _ => s

/-- R459: thermal slowing begins. -/
def State.thermalEntry (s : State) (temp : Nat) : State :=
  if !s.pwr.baseOn || temp ≤ 105 || s.fbit F.PWR_STATUS_THERMAL 0 0 then s
  else
    let s1 := ((s.fset F.PWR_TEMP_TJ_MAX 0 0 temp).fset F.PWR_STATUS_THERMAL 0 0 1).setTherm (some (s.topRail allDoms))
    (s1.logFault (s1.fault 0x02 0 0x714 1 0 0)).pwrEvent

/-- R459: a thermal step, every 100 µs. -/
def State.thermalStep (s : State) (temp : Nat) : State :=
  if !s.pwr.baseOn then s
  else
    let s0 := s.fset F.PWR_TEMP_TJ_MAX 0 0 temp
    match s0.pwr.thermLimit with
    | none => s0
    | some l =>
      if 105 < temp then s0.setTherm (limitStep true (s0.fget F.PWR_FLOOR_LEVEL 0 0) (s0.topRail allDoms) l)
      else if temp < 103 then
        let l1 := limitStep false (s0.fget F.PWR_FLOOR_LEVEL 0 0) (s0.topRail allDoms) l
        let s1 := s0.setTherm l1
        if l1.isNone then (s1.fset F.PWR_STATUS_THERMAL 0 0 0).pwrEvent else s1
      else s0

/-- R459: a sensor reaches 115 °C. -/
def State.thermalTrip (s : State) : State :=
  if !s.pwr.baseOn || s.pwr.trip then s
  else
    let s1 : State := { s with pwr := { s.pwr with trip := true } }
    (s1.logFault (s1.fault 0x02 0 0x715 3 0 0)).powerFail

/-! Domains -/

/-- R460: the work condition of a domain's OFF: of a sequencer group, that both pairs are disabled and handed over. -/
def State.offWorkDone (s : State) (d : Nat) : Bool :=
  if inRange 104 4 d then
    [2 * (d - 104), 2 * (d - 104) + 1].all (fun p => !s.fbit F.SEQ_CTL_ENABLE p 0
      && !s.liveEntries.any (fun x => (s.entry x).owner == p) && s.ringCount p == 0
      && !s.xch.queues.any (fun q => q.owner == p))
  else true

/-- R460, R473: an OFF of a domain that is off already: a wake of it that is queued is withdrawn, and DONE sets at once
(DEDUCED, log entry 140). -/
def State.offAtOnce (s : State) (d : Nat) : State :=
  ((domPeers (domKey d)).foldl (fun s x => s.fset F.PWR_DOM_STATUS_DONE 0 x 1) (s.domStop d)).pwrEvent

/-- R460: PWR_DOM_CTL.OFF. -/
def State.domOffCmd (s : State) (d : Nat) : State :=
  let off := s.domState d == domOff || s.domState d == domQueued
  match s.offRefused d (off || s.offWorkDone d) with
  | some code => s.pwrRefuse code
  | none =>
    if off then s.offAtOnce d
    else
      let s1 := s.domStop d
      if inRange 118 8 d then s1.groupDown (d - 118) else s1

/-- R460, R462: a write of PWR_DOM_CTL; none where it is refused. -/
def State.domCommand (s : State) (d : Nat) (w : Word) : Option State :=
  match bitOf w 8, bitOf w 9 with
  | true, true => none
  | true, false => some (s.wake d 2)
  | false, true => some (s.domOffCmd d)
  | false, false => some s

/-- The blocks of a switched domain but for cores (R454). -/
def domBlocks (d : Nat) : List Nat :=
  if inRange 80 16 d then [0x10 + (d - 80)]
  else if inRange 96 8 d then [0x20 + (d - 96)]
  else if inRange 104 4 d then [0x31 + 2 * (d - 104), 0x32 + 2 * (d - 104)]
  else if inRange 108 10 d then [0x50 + (d - 108)]
  else if inRange 118 8 d then [0x60 + (d - 118)]
  else []

/-- Registers of an unpowered block are lost. -/
def State.loseBlock (s : State) (b : Nat) : State :=
  let s1 := s.discardHeld b
  { s1 with io := { s1.io with force := s1.io.force.filter (fun x => !inBlock b x.1) } }

/-- R460: what a STOPPING domain's last work is: done. -/
def State.stopWorkDone (s : State) (d : Nat) : Bool :=
  if d < 80 then (s.coresAt (d / 2)).all (fun lc => !(s.core lc).inFlight)
  else if inRange 96 8 d then (mapGet? s.trs.jobs (d - 96)).isNone
  else true

/-- R461: an event waits for a core of a position that is off. -/
def State.eventWaits (s : State) (q : Nat) : Bool :=
  s.cue.order.any (fun src => (s.coresAt q).contains (s.srcCore src))

/-- R460: a STOPPING domain goes off. -/
def State.domOffDone (s : State) (dom : Nat) : State :=
  let d := domKey dom
  if s.domState d ≠ domStopping ∨ ¬ s.stopWorkDone d then s
  else
    let s1 := (domPeers d).foldl (fun s x => s.fset F.PWR_DOM_STATUS_DONE 0 x 1) s
    let s2 := if d < 80 then s1.pairOff (d / 2) else (domBlocks d).foldl (fun s b => s.loseBlock b) s1
    let queued := s2.pwr.queue.any (fun r => r.dom == d)
    let s3 := (s2.setDom d (if queued then domQueued else domOff)).pwrEvent.idleCheck
    if d < 80 && s3.eventWaits (d / 2) then s3.wake d 1 else s3

/-- R489: step 8 ends when no wake of it remains. -/
def State.phaseGo (s : State) : State :=
  if s.fget F.CFG_START_STATUS_PHASE 0 0 = 8 && s.pwr.queue.isEmpty && !allDoms.any (fun d => s.domState d == domWaking) then
    s.fset F.CFG_START_STATUS_PHASE 0 0 9
  else s

/-- R464, R492: a granted domain is ready; `pass`: a pair position has passed its test. -/
def State.domAwake (s : State) (dom : Nat) (pass : Bool) : State :=
  let d := domKey dom
  if s.domState d ≠ domWaking then s
  else
    let soft := s.fget F.PWR_DOM_STATUS_CAUSE 0 d == 2
    let s1 := s.setDom d domOn
    let s2 := if soft then ((domPeers d).foldl (fun s x => s.fset F.PWR_DOM_STATUS_DONE 0 x 1) s1).pwrEvent else s1
    let s3 :=
      if d < 80 then (s2.pairAwake (d / 2) pass (dom % 2 == 1)).idleCheck
      else if 126 ≤ d then s2.rebuildBegin
      else if inRange 108 10 d && s2.fbit F.SHB_CFG_ENABLE (d - 108) 0 then s2.fset F.SHB_STATUS_STATE (d - 108) 0 1
      else s2
    s3.phaseGo

/-- R471: the loss of a domain's unit. -/
def State.unitLost (s : State) (d : Nat) : State :=
  if d < 80 then
    let q := d / 2
    match positions.find? (fun x => (s.pair x).cutTo == some q) with
    | some x => (s.modPair q (fun p => { p with st := .failed, failed0 := true, failed1 := true })).nextSpare x
    | none =>
      if (s.pair q).checks || (s.pair q).st == .split then
        s.pairFail q { cause := causeHard, token := 0, partner := d % 2, slot := 0, slotSeen := none, permanent := true }
      else if (s.pair q).st == .stopped || (s.pair q).st == .cuttingIn then s
      else if (s.pair q).logical.isSome then (s.contain q causeHard).tryCutin q
      else s.modPair q (fun p => { p with st := .failed, failed0 := true, failed1 := true })
  else if inRange 80 16 d then
    let b := 0x10 + (d - 80)
    let s1 : State := { s with flt := { s.flt with stopped := if s.flt.stopped.contains b then s.flt.stopped else b :: s.flt.stopped } }
    s1.logFault (s1.fault b 0 0x205 3 0 0)
  else if inRange 96 8 d then
    let e := d - 96
    let n := ((mapGet? s.trs.jobs e).bind (·.inst)).getD 0
    let s1 := (s.abortJob e).fset F.TRE_STATUS_IN_SERVICE e 0 0
    s1.logFault (s1.fault (0x20 + e) 0 0x401 3 3 (s1.fget F.TRE_ERR_KIND e 0 + n * 2 ^ 16))
  else if inRange 104 4 d then
    let p := 2 * (d - 104)
    (((s.seqFail p causeHard).seqFail (p + 1) causeHard).adopt p).adopt (p + 1)
  else if inRange 108 10 d then s.portDown (d - 108)
  else if inRange 118 8 d then s.groupDown (d - 118)
  else if 126 ≤ d then s.copyFail (d - 126)
  else s

/-- R471: a domain fails to reach regulation, or its regulator fails. -/
def State.domFail (s : State) (dom : Nat) : State :=
  let d := domKey dom
  if 128 ≤ dom ∨ ¬ (s.domState d = domWaking ∨ s.domPowered d) then s
  else
    let s1 := s.setDom d domFailed
    let s2 := s1.logFault (s1.fault 0x02 0 0x717 3 3 dom)
    ((s2.unitLost dom).setDom d domFailed).phaseGo.idleCheck

/-! Power states -/

/-- R467: why REST or STANDBY is refused. -/
def State.stateRefused (s : State) (standby : Bool) : Option Nat :=
  if s.fbit F.PWR_STATUS_TRANSITION 0 0 || s.pwr.t0.isSome then some refBusy
  else if s.pairsOn || (standby && s.anyWaiting) then some refPairsOn
  else if s.activeCount ≠ 0 || !s.trs.jobs.isEmpty then some refWork
  else none

/-- R466: a port enters trickle as rest requires (R397). -/
def State.restPorts (s : State) : State :=
  (List.range 10).foldl (fun s k => if s.fget F.SHB_STATUS_STATE k 0 = 2 then s.fset F.SHB_STATUS_STATE k 0 3 else s) s

/-- R466: rest: engines and Ethernet groups off, ports in trickle. -/
def State.enterRest (s : State) : State :=
  let s1 := (List.range 4).foldl (fun s g => s.groupDown g) s
  let s2 := ((List.range 8).map (96 + ·) ++ (List.range 4).map (118 + ·)).foldl (fun (s : State) d =>
    if s.domPowered d || s.domState d == domWaking || s.domState d == domQueued
    then (domBlocks d).foldl (fun s b => s.loseBlock b) ((s.unwake d).setDom d domOff) else s) s1
  s2.restPorts.setPwrState 2

/-- R467: standby is entered once nothing is left to be recalled: resident memory and the pool cache go. -/
def State.enterStandby (s : State) : State :=
  let s1 := (s.fset F.PWR_STATUS_TRANSITION 0 0 0).restPorts
  let s2 := { s1 with pwr := { s1.pwr with recalling := false } }
  (s2.setPwrState 3).loseBase

/-- R467: a line that the device homes is recalled from the pool caches of the image. -/
def State.recallLine (s : State) (line : Nat) (e : DirSt) : State :=
  if (mapGet? s.dir.busy line).isSome then s
  else
    let ds := (match e with
      | .modified o => [o]
      | .shared mask => maskList mask).filter (· != s.devnum)
    s.dirRecall (s.dirMsg 0 s.devnum 0 line false []) ds

/-- R467, R468: every modified line of the pool cache is written back. -/
def State.writeBackAll (s : State) : State :=
  (s.mem.pool.filter (fun x => x.2.home.isSome)).foldl (fun s x => (s.lineAwake .flush x.1).writeBack x.1) s

/-- R467: no modified line is left here, no write-back is on its way, and no member holds a line homed here. -/
def State.recalled (s : State) : Bool :=
  s.dir.busy.isEmpty && s.dir.entries.isEmpty && s.mem.wb.isEmpty && s.mem.evict.isEmpty && !s.mem.pool.any (fun x => x.2.home.isSome)

/-- R467: the entry goes on: every line that members hold and no request is in progress for is recalled, and what the service pair has
modified meanwhile is written back; standby is entered when nothing of either is left. -/
def State.standbyGo (s : State) : State :=
  if !s.pwr.recalling then s
  else
    let s1 := (s.dir.entries.foldl (fun s p => s.recallLine p.1 p.2) s).writeBackAll
    if s1.recalled then s1.enterStandby else s1

/-- R467: standby begins to be entered. -/
def State.beginStandby (s : State) : State :=
  let s1 := s.fset F.PWR_STATUS_TRANSITION 0 0 1
  ({ s1 with pwr := { s1.pwr with recalling := true } }).standbyGo

/-- R469: standby ends: the start sequence is due. -/
def State.leaveStandby (s : State) : State :=
  { s with boot := { s.boot with due := true, noInit := true } }

/-- R456, R467 to R469: a write of PWR_STATE_REQ; none where it is discarded. -/
def State.stateRequest (s : State) (v : Nat) : Option State :=
  let st := s.fget F.PWR_STATUS_STATE 0 0
  if v = 1 || s.pwr.safe then none
  else if v = 0 then
    some (if s.fbit F.PWR_STATUS_TRANSITION 0 0 then s.pwrRefuse refBusy
      else if st = 3 then s.leaveStandby else if st = 2 then s.endRest else s)
  else if v = 2 then
    match s.stateRefused false with
    | some code => some (s.pwrRefuse code)
    | none => some (if st ≤ 1 then s.enterRest else s)
  else match s.stateRefused true with
    | some code => some (s.pwrRefuse code)
    | none => some (if st ≤ 2 then s.beginStandby else s)

end Sys2Proof.Machine
end

