-- ==== Sys2Proof/Machine/RegMap.lean ====
section
/-! DEFINITION. Which register an offset of a block names (R4, R7, R44), and what a configuration record may name (R485). -/

namespace Sys2Proof.Machine

/-- The register of a window or block at an inner offset: its name and index. -/
def regAt (blk off : Nat) : Option (RegName × Nat) :=
  (regsOfBlock blk).findSome? (fun r =>
    let p := regPlace r
    if p.off ≤ off ∧ (off - p.off) % 8 = 0 ∧ (off - p.off) / 8 < p.count then some (r, (off - p.off) / 8) else none)

/-- A register named by block and offset below 0x8_0000: its name, the unit of its block or its core window, its index. -/
def findReg (blk off : Nat) : Option (RegName × Nat × Nat) :=
  if off % 8 ≠ 0 ∨ 0x80000 ≤ off then none
  else if blk = 0x70 then
    if 80 ≤ off / 0x1000 then none
    else match regAt 0x70 (off % 0x1000) with
      | some (.CORE_IMAGE, k) => if [0xA, 0xB, 0xF].contains (k % 16) then none else some (.CORE_IMAGE, off / 0x1000, k)
      | x => x.map (fun x => (x.1, off / 0x1000, x.2))
  else (regAt blk off).map (fun x => (x.1, blk - (regPlace x.1).blk, x.2))

/-- The bits of the fields of a register that a test selects. -/
def fieldBits (r : RegName) (p : Field → Bool) : Nat :=
  (regFields r).foldl (fun m f => if p f then m ||| ((2 ^ f.width - 1) * 2 ^ f.lo) else m) 0

/-- The bits of a mask that lie outside another. -/
def outside (mask within : Nat) : Nat := mask - Nat.land mask within

/-- The class code of a record (R485). -/
def classCode : Nat → ChangeClass
  | 0 => .boot
  | 1 => .staged
  | 2 => .grouped
  | _ => .live

end Sys2Proof.Machine
end

