-- ==== Sys2Proof/Machine/Start.lean ====
section
/-! DEFINITION. The flash and the image (R474 to R480), the choice and checking of a slot (R481 to R485, R488), the start
sequence up to root firmware (R489 to R494), training and memory initialisation (R493). -/

namespace Sys2Proof.Machine

/-! Places in the flash (R474) -/

def flashSize : Nat := 0x8000000
def slotBase (k : Nat) : Nat := k * 0x3000000

/-- The byte TRIAL_STATE of a slot (R483). -/
def slotState (k : Nat) : Nat := 0x6000000 + 64 * k
def journalBase : Nat := 0x6020000
def identityBase : Nat := 0x6010000

/-! The image (R477 to R479) -/

/-- A directory entry (R478). -/
structure Section where
  kind : Nat
  offset : Nat
  len : Nat
  hash : List Byte
  clean : Bool
  deriving DecidableEq, Repr

/-- What an image's header says (R477). -/
structure Header where
  count : Nat
  updateSeq : Nat
  svn : Nat
  flags : Nat
  build : Nat
  len : Nat
  sig : Nat
  clean : Bool
  deriving DecidableEq, Repr

/-- R481: a slot is a candidate if its MAGIC and FORMAT are valid. -/
def State.candidate (s : State) (k : Nat) : Bool :=
  s.flashNat (slotBase k) 4 == 0xC7A17420 && s.flashNat (slotBase k + 4) 2 == 1

def zeros (bs : List Byte) : Bool := bs.all (· == 0)

def State.header (s : State) (k : Nat) : Header :=
  let h := s.flashBytes (slotBase k) 512
  { count := dn h 6 2, updateSeq := dn h 8 4, svn := dn h 12 1, flags := dn h 13 1, build := dn h 16 4, len := dn h 20 4,
    sig := dn h 24 4, clean := zeros (sub h 14 2) && zeros (h.drop 28) && decide (dn h 13 1 < 8) }

def State.sections (s : State) (k : Nat) : List Section :=
  (List.range (s.header k).count).map (fun i =>
    let e := s.flashBytes (slotBase k + 512 + 64 * i) 64
    { kind := dn e 0 1, offset := dn e 4 4, len := dn e 8 4, hash := e.drop 16,
      clean := zeros (sub e 1 3) && zeros (sub e 12 4) })

def findSection (ss : List Section) (kind : Nat) : Option Section := ss.find? (fun x => x.kind == kind)

/-- The bytes of a section of a slot. -/
def State.sectionBytes (s : State) (k : Nat) (x : Section) : List Byte := s.flashBytes (slotBase k + x.offset) x.len

/-- Two byte ranges do not overlap. -/
def apart (a n b m : Nat) : Bool := decide (a + n ≤ b) || decide (b + m ≤ a)

/-- R478: limits of a section. -/
def sectionFits (x : Section) : Bool :=
  match x.kind with
  | 1 => decide (x.len ≤ 0x40000)
  | 2 => decide (x.len ≤ 0x2000000)
  | 3 => decide (x.len ≤ 0x100000) && x.len % 24 == 0
  | 4 => decide (x.len ≤ 4096) && x.len % 16 == 0
  | 5 => x.len == 16
  | _ => false

/-- R477, R478: no violation. -/
def headerOk (h : Header) (ss : List Section) : Bool :=
  h.clean && decide (4 ≤ h.count) && decide (h.count ≤ 5) && decide (h.svn ≤ 64) && decide (h.len ≤ 0x3000000)
    && h.sig % 4096 == 0 && decide (h.sig + 4096 ≤ h.len)
    && [1, 2, 3, 4].all (fun t => (ss.filter (fun x => x.kind == t)).length == 1)
    && decide ((ss.filter (fun x => x.kind == 5)).length ≤ 1)
    && ss.all (fun x => x.clean && sectionFits x && x.offset % 4096 == 0 && decide (x.offset + x.len ≤ h.len)
        && apart x.offset x.len h.sig 4096)
    && (List.range ss.length).all (fun i => (List.range i).all (fun j =>
        match ss[i]?, ss[j]? with
        | some x, some y => apart x.offset x.len y.offset y.len
        | _, _ => true))

/-! Configuration records and the home map (R485, R488) -/

/-- A record of 24 bytes. -/
def recOf (b : List Byte) : CfgRec :=
  let t := dn b 0 4
  { off := nfld t 0 20, blk := nfld t 20 7, cls := nfld t 27 2, devices := dn b 4 4, mask := dn b 8 8, value := dn b 16 8 }

/-- Records of a section. -/
def recsOf : Nat → List Byte → List CfgRec
  | 0, _ => []
  | n + 1, b => recOf (b.take 24) :: recsOf n (b.drop 24)

/-- R485: BAD_RECORD. -/
def recBad (r : CfgRec) : Bool :=
  if !(regsOfBlock r.blk != []) then true
  else match findReg r.blk r.off with
    | none => true
    | some (n, _, _) =>
      outside r.mask (fieldBits n (fun _ => true)) != 0
        || outside r.value r.mask != 0
        || (regFields n).any (fun f => nfld r.mask f.lo f.width != 0 && f.cls != classCode r.cls
            && !(classCode r.cls == .live && f.cls == .boot))

/-- A home-map entry of 16 bytes. -/
def homeOf16 (b : List Byte) : HomeRec := { value := dn b 0 8, backing := dn b 8 1, cxl := dn b 9 1 }

def homesOf : Nat → List Byte → List HomeRec
  | 0, _ => []
  | n + 1, b => homeOf16 (b.take 16) :: homesOf n (b.drop 16)

def HomeRec.valid (h : HomeRec) : Bool := h.value.testBit 63
def HomeRec.base (h : HomeRec) : Nat := nfld h.value 0 22
def HomeRec.count (h : HomeRec) : Nat := nfld h.value 22 22
def HomeRec.home (h : HomeRec) : Nat := nfld h.value 48 5

/-- R488: the ranges of CXL memory that a device homes. -/
def cxlRanges (dev : Nat) (hs : List HomeRec) : List (Nat × Nat) :=
  (hs.filter (fun h => h.valid && h.backing == 2 && h.home == dev)).map (fun h => (h.base * 2 ^ 30, h.count * 2 ^ 30))

/-- R488: the home map is bad.  The resident backing of a device is one granule at most, which holds the window of
R225. -/
def homesBad (hs : List HomeRec) : Bool :=
  let vs := hs.filter (·.valid)
  hs.any (fun h => h.backing == 0 || decide (3 < h.backing))
    || vs.any (fun h => !apart h.base h.count (0xFF00000000000 / 2 ^ 30) 4 || !apart h.base h.count 0x3FFFFF 1)
    || (List.range vs.length).any (fun i => (List.range i).any (fun j =>
        match vs[i]?, vs[j]? with
        | some x, some y => !apart x.base x.count y.base y.count
        | _, _ => false))
    || (List.range 32).any (fun d => decide (1 < ((vs.filter (fun h => h.backing == 3 && h.home == d)).map (·.count)).sum))

/-! Checking a slot (R482) -/

/-- Sections of a slot by type. -/
def State.sectionOf (s : State) (k kind : Nat) : List Byte :=
  match findSection (s.sections k) kind with
  | some x => s.sectionBytes k x
  | none => []

def State.slotRecords (s : State) (k : Nat) : List CfgRec :=
  let b := s.sectionOf k 3
  recsOf (b.length / 24) b

def State.slotHomes (s : State) (k : Nat) : List HomeRec :=
  let b := s.sectionOf k 4
  homesOf (b.length / 16) b

/-- R478: bytes 9 to 15 of a re-key authority are zero. -/
def rekeyClean (b : List Byte) : Bool := zeros (sub b 9 7)

/-- R488: bytes 10 to 15 of every home-map entry are zero. -/
def homesClean (b : List Byte) : Bool := (List.range (b.length / 16)).all (fun i => zeros (sub b (16 * i + 10) 6))

/-- R482: the code of the first check that what a slot holds fails, 0 if it passes. -/
def State.slotFlaw (s : State) (k : Nat) : Nat :=
  let h := s.header k
  let ss := s.sections k
  let sig := s.flashBytes (slotBase k + h.sig) 4096
  let digest := sha384 (s.flashBytes (slotBase k) (512 + 64 * h.count))
  if !headerOk h ss || !rekeyClean (s.sectionOf k 5) then 1
  else if h.svn < s.boot.svn then 2
  else if h.flags.testBit 0 && s.flashNat (slotState k) 1 == 0x7F then 3
  else if sha384 (sub sig 0 97) ≠ Config.ecdsaKeyHash ∨ sha384 (sub sig 200 60) ≠ Config.hssKeyHash then 4
  else if !ecdsaOk digest (sub sig 0 97) (sub sig 104 96) then 5
  else if hssVerify digest (sub sig 200 60) (sub sig 264 3284) ≠ .passes then 6
  else if ss.any (fun x => sha384 (s.sectionBytes k x) != x.hash) then 7
  else if (s.slotRecords k).any recBad || !homesClean (s.sectionOf k 4) || homesBad (s.slotHomes k) then 8
  else 0

/-- The check of a slot whose reads the flash is the first not to answer, 0 for the reading of its header; `silent` lists slot and check. -/
def silentAt (silent : List (Nat × Nat)) (k : Nat) : Option Nat := (silent.find? (·.1 == k)).map Prod.snd

/-- R482, R519: the code with which a slot is rejected, 0 if it passes: that of the first check that fails, or READ_ERROR once a check
gets no answer from the flash. -/
def State.slotCheck (s : State) (k : Nat) (silent : Option Nat) : Nat :=
  match silent with
  | none => s.slotFlaw k
  | some c => if s.slotFlaw k ≠ 0 ∧ s.slotFlaw k < c then s.slotFlaw k else 9

/-- R481: the candidates, in the order in which they are tried; a slot whose header the flash does not answer can be neither chosen nor
ordered by it, and comes last (DESIGN CHOICE, log entry 184). -/
def State.slotOrder (s : State) (silent : List (Nat × Nat)) : List Nat :=
  let mute (k : Nat) : Bool := silentAt silent k == some 0
  let tried (k : Nat) : Bool := !mute k && s.candidate k
  (match tried 0, tried 1 with
    | true, true => if (s.header 0).updateSeq < (s.header 1).updateSeq then [1, 0] else [0, 1]
    | true, false => [0]
    | false, true => [1]
    | false, false => []) ++ [0, 1].filter mute

/-- R482: how many signatures of a slot are verified before its code is found: ECDSA's is check 5, the HSS one check 6. -/
def verified (code : Nat) (silent : Option Nat) : Nat :=
  let made := if code = 0 then 8 else if code = 9 then silent.getD 0 - 1 else code
  b2n (decide (5 ≤ made)) + b2n (decide (6 ≤ made))

/-- R482, R320, R323: stage 0's verifications pass through the service queue to the engine that it has woken, and are counted there
(DESIGN CHOICE, log entry 175). -/
def State.svcVerified (s : State) (n : Nat) : State :=
  let e := ((List.range 8).find? (fun e => s.domPowered (96 + e))).getD 0
  let head := (s.fget F.TRS_SVC_HEAD_HEAD 0 0 + n) % 2 ^ 16
  ((s.fcount F.TRE_JOBS_ENDED e 0 n).fset F.TRS_SVC_HEAD_HEAD 0 0 head).fset F.TRS_SVC_DOORBELL_TAIL 0 0 head

/-! The start sequence -/

/-- R481, R492: start stops. -/
def State.startStops (s : State) : State := State.alertEdge s (s.fset F.CFG_START_STATUS_STOPPED 0 0 1)

/-- R524, R533: a TAP instruction that holds the start at step 1. -/
def State.tapHolds (s : State) : Bool := [0x00, 0x03, 0x04, 0x05, 0x06].contains s.tap.ir

/-- R463: a domain that the start sequence wakes, with cause power-up. -/
def State.startDom (s : State) (d : Nat) : State := (s.setDom d domOn).setDomCause d 3

/-- R503: the first index beyond the highest reservation of the current epoch. -/
def State.firstIndex (s : State) : Nat :=
  (s.boot.journal.filter (fun j => j.1 == s.boot.epoch)).foldl (fun m j => max m (j.2 + 1024)) 0

/-- R469, R470: what a start finds of the device's place in its image: on the way out of standby, as trickle control has kept it. -/
def State.startImg (s : State) : State :=
  if s.boot.noInit then { s with
      io := { s.io with force := s.io.force.filter (fun x => keepsReg x.1 && x.1 / 2 ^ 20 != 0x06) }
      dir := { State.reset.dir with waiting := s.dir.waiting, snoops := s.dir.snoops, retries := s.dir.retries } }
  else { s with
      io := { s.io with force := s.io.force.filter (fun x => alwaysOn (x.1 / 2 ^ 20)) }
      dir := { State.reset.dir with waiting := s.dir.waiting }
      lost := []
      shb := State.reset.shb
      img := State.reset.img }

/-- Steps 1 and 2: base regulators and pool-cache slices on (R460: a slice is off only in standby or once stopped), straps latched
once per power-on (R515), base logic at its power-on values.  The limits of R459 go on as PWR_STATUS shows them, and signing resumes
beyond what is reserved (R503). -/
def State.startBase (s : State) (o : StartRun) : State :=
  let dev := if s.boot.latched then s.devnum else o.dev % 32
  let board := if s.boot.latched then s.boardnum else o.board % 4
  let s1 : State := { s.startImg with
    devnum := dev
    boardnum := board
    pwr := { State.reset.pwr with baseOn := true, ok := true, phases := s.pwr.phases, thermLimit := s.pwr.thermLimit
                                  capLimit := s.pwr.capLimit, capDown := s.pwr.capDown }
    boot := { s.boot with due := false, latched := true } }
  let f := ((s.acting .PWR_STATUS 0 0).toNat / 8) * 8
  let s2 := (List.range 16).foldl (fun s k => s.startDom (80 + k)) (s1.setActing .PWR_STATUS 0 0 (BitVec.ofNat 64 f))
  (s2.fset F.CFG_START_STATUS_PHASE 0 0 2).fset F.SEC_ATT_STATUS_INDEX 0 0 s2.firstIndex

/-- R489 step 3, R492: a service position has woken and passed its test: stage 0 begins on core 76 at level 1. -/
def State.startCore (s : State) (q : Nat) : State :=
  let a := Arch.reset.setLevel 1 { Level.reset 1 with run := .active, pc := BitVec.ofNat 64 romBase }
  let s1 := (s.startDom (2 * q)).modPair q (fun p => { p with st := .checked, tested := true, logical := some 38 })
  s1.setCore 76 { Core.reset with arch := a, ckpt := a }

/-- R492: a service position fails its test, by its core 2q + 1 where `odd`. -/
def State.startFails (s : State) (q : Nat) (odd : Bool) : State :=
  let s1 := ((s.putCause q causeHard).modPair q (fun p => { p with
    st := .failed, failed0 := p.failed0 || !odd, failed1 := p.failed1 || odd })).setDom (2 * q) domFailed
  let s2 := s1.pairFault q 0x102 3 causeHard 63
  s2.modPair q (fun p => { p with logical := none })

/-- R514: XSPI_RESET_N is pulsed low. -/
def State.xspiPulse (s : State) : State := { s with outbox := s.outbox ++ [.xspiReset false, .xspiReset true] }

/-- R489 step 3. -/
def State.startPair (s : State) (o : StartRun) : State × Bool :=
  let s1 := s.zeroResident.xspiPulse.fset F.CFG_START_STATUS_PHASE 0 0 3
  let bad (p : PairPos) : Bool := p.failed0 || p.failed1
  if o.pair && !bad (s1.pair 38) then (s1.startCore 38, true)
  else
    let s2 := if bad (s1.pair 38) then s1 else s1.startFails 38 o.odd
    if o.spare && !bad (s2.pair 39) then
      (((s2.startCore 39).fset F.FBS_STATUS_STATE 0 0 2).fset F.FBS_STATUS_SPARE_USED 0 0 1, true)
    else ((if bad (s2.pair 39) then s2 else s2.startFails 39 o.odd).startStops, false)

/-- R481: slots are tried in order; a rejected one leaves its code. -/
def State.trySlots (s : State) (silent : List (Nat × Nat)) : List Nat → State × Option Nat
  | [] => (s, none)
  | k :: ks =>
    let code := s.slotCheck k (silentAt silent k)
    let s1 := s.svcVerified (verified code (silentAt silent k))
    if code = 0 then (s1, some k)
    else ((s1.fset F.CFG_START_STATUS_REJECT 0 0 code).fset F.CFG_START_STATUS_FALLBACK 0 0 1).trySlots silent ks

/-- Words of a register array, from bytes, lowest first. -/
def State.setWords (s : State) (r : RegName) (k : Nat) : Nat → List Byte → State
  | 0, _ => s
  | n + 1, bs => (s.setActing r 0 k (BitVec.ofNat 64 (bytesToNat (bs.take 8)))).setWords r (k + 1) n (bs.drop 8)

/-- R504: a re-key section that names this device and the next epoch. -/
def State.rekeyOk (s : State) (k : Nat) : Bool :=
  match findSection (s.sections k) 5 with
  | some x =>
    let b := s.sectionBytes k x
    dn b 0 8 == Config.serial.toNat && dn b 8 1 == s.boot.epoch + 1
  | none => false

/-- R489 steps 5 and 6: a slot that has passed is loaded, measured, and root firmware runs; where its code begins is not
stated. -/
def State.startImage (s : State) (k : Nat) : State :=
  let h := s.header k
  let base := residentBase s.devnum
  let root := s.sectionOf k 1
  let svc := s.sectionOf k 2
  let s1 : State := { s with
    mem := { s.mem with cells := cellsWrite (cellsWrite s.mem.cells base root) (base + block16) svc }
    boot := { s.boot with records := s.slotRecords k, homes := s.slotHomes k, cxl := cxlRanges s.devnum (s.slotHomes k)
                          flags := h.flags } }
  let s2 := s1.setWords .SEC_MEAS 0 18 (sha384 root ++ sha384 svc ++ sha384 (s.sectionOf k 3 ++ s.sectionOf k 4))
  let s3 := ((s2.fset F.SEC_RUN_IMAGE_SVN 0 0 h.svn).fset F.SEC_RUN_SLOT 0 0 k).fset F.SEC_RUN_QUALIFICATION 0 0
    (b2n (h.flags.testBit 2))
  let s4 := ((s3.fset F.CFG_IMG_BUILD 0 0 h.build).fset F.CFG_IMG_UPDATE_SEQ 0 0 h.updateSeq).fset
    F.CFG_START_STATUS_SLOT 0 0 k
  let s5 := s4.fset F.SEC_STATUS_REKEY_OK 0 0 (b2n (s.rekeyOk k))
  let s6 := if h.flags.testBit 0 && s5.flashNat (slotState k) 1 == 0xFF then s5.flashProgram (slotState k) [0x7F#8] else s5
  let pc := Config.freeWord s6.free
  let s7 := (s6.draw.modCore 76 (fun c =>
    let a := c.arch.setLevel 1 { c.arch.level 1 with pc }
    { c with arch := a, ckpt := a })).fset F.CFG_START_STATUS_PHASE 0 0 6
  s7.watchdogStart

/-- R482: stage 0 wakes engine 0, or the next where one does not wake; the first `n` do not (R471). -/
def State.wakeEngine (s : State) (n : Nat) : State :=
  ((List.range n).foldl (fun s e => ((s.setDom (96 + e) domWaking).setDomCause (96 + e) 3).domFail (96 + e)) s).startDom (96 + n)

/-- R489: steps 1 to 6, when they are due, VIN54 stands, no power-fail sequence runs, and neither RESET_N, the TAP nor a thermal trip
holds them. -/
def State.startSequence (s : State) (o : StartRun) : State :=
  if !s.boot.due || !s.pwr.vin || s.failing || s.pwr.resetN || s.pwr.trip || s.tapHolds then s
  else
    let r := (s.startBase o).startPair o
    if !r.2 then r.1
    else
      let s1 := (r.1.wakeEngine (o.engine % 8)).fset F.CFG_START_STATUS_PHASE 0 0 4
      match s1.trySlots o.silent (s1.slotOrder o.silent) with
      | (s2, none) => s2.startStops
      | (s2, some k) => s2.startImage k

/-! DDR5 (R231, R493) -/

/-- R231, R493: the largest permitted set of channels that is wholly trained. -/
def trainedSet (good : Nat → Bool) : Nat :=
  if (List.range 16).all good then 16 else if (List.range 8).all good then 8 else if (List.range 4).all good then 4 else 0

/-- R488, R493: granules of DDR5 that are homed here, in ascending order. -/
def State.ddrGranules (s : State) : List Nat :=
  ((s.boot.homes.filter (fun h => h.valid && h.backing == 1 && h.home == s.devnum)).flatMap
    (fun h => (List.range h.count).map (h.base + ·))).mergeSort (fun a b => decide (a ≤ b))

/-- R493: every line of some granules is written: it holds what memory holds that nothing has written. -/
def State.ddrWritten (s : State) (gs : List Nat) : State :=
  let here (a : Nat) : Bool := gs.contains (a / 2 ^ 30)
  { s with
    mem := { s.mem with cells := s.mem.cells.filter (fun c => !here c.1), poison := s.mem.poison.filter (fun l => !here l) }
    dir := { s.dir with unwritten := s.dir.unwritten.filter (fun g => !gs.contains g) } }

/-- R489 step 9, R493: training ends: the channels that trained, and the capacity in granules of the set that comes into
service.  After a safe state or standby the channels leave self-refresh instead (R494). -/
def State.channelsTrained (s : State) (good capacity : Nat) : State :=
  if !s.pwr.baseOn || !inRange 7 3 (s.fget F.CFG_START_STATUS_PHASE 0 0) then s
  else
    let on (k : Nat) : Bool := s.fbit F.MC_CFG_ENABLE k 0
    let kept := s.boot.ddrKept
    let n := trainedSet (fun k => on k && (if kept = 0 then good.testBit k else decide (k < kept)))
    let s1 := (List.range 16).foldl (fun s k => s.fset F.MC_STATUS_TRAINED k 0 (b2n (decide (k < n)))) s
    let s2 := (List.range n).foldl (fun s k =>
      if s.fbit F.MC_CFG_SPEED k 0 && s.fbit F.MC_CFG_DPC k 0 then s.logFault (s.fault (0x40 + k) 0 0x304 1 0 0) else s) s1
    let s3 := if (List.range 16).any (fun k => on k && decide (n ≤ k)) then s2.fset F.CFG_START_STATUS_DDR_REDUCED 0 0 1 else s2
    let fits := if n = 0 then 0 else capacity
    let s4 : State := { s3 with dir := { s3.dir with unbacked := s3.ddrGranules.drop fits } }
    let s5 := if s4.boot.noInit then s4.fset F.CFG_START_STATUS_MEM_INIT_DONE 0 0 1
      else { s4 with dir := { s4.dir with unwritten := s4.ddrGranules.take fits } }
    let s6 : State := { s5 with boot := { s5.boot with ddrKept := 0, noInit := false } }
    (s6.fset F.CFG_START_STATUS_PHASE 0 0 10).dirResume

/-- R493: every channel has finished: what had not been written is. -/
def State.memInitDone (s : State) : State :=
  if s.pwr.baseOn && (List.range 16).any (fun k => s.fbit F.MC_STATUS_TRAINED k 0) then
    ((s.ddrWritten s.dir.unwritten).fset F.CFG_START_STATUS_MEM_INIT_DONE 0 0 1).dirResume
  else s

/-- R493: the granule whose turn it is has been written. -/
def State.granuleDone (s : State) : State :=
  match s.dir.unwritten with
  | [] => s
  | g :: _ => (s.ddrWritten [g]).dirResume

end Sys2Proof.Machine
end

