-- ==== Sys2Proof/Machine/Trust.lean ====
section
/-! DEFINITION. The NVM interface (R476, R505), the fuses (R484, R504), attestation and its journal (R500 to R503). -/

namespace Sys2Proof.Machine

/-! The NVM interface -/

/-- R476: a PROGRAM or ERASE that touches a protected region. -/
def State.nvmProtected (s : State) (op off len : Nat) : Bool :=
  op != 1 && decide (0 < len) && (!apart off len journalBase 0x100000
    || (s.boot.provisioned && !apart off len identityBase 0x10000))

/-- The bytes of a flash command move between flash and memory; false while a line is awaited. -/
def State.nvmMove (s : State) (c : NvmCmd) : State × Bool :=
  match c.op with
  | 1 =>
    let (s1, ready) := s.readyWrite .dev false (linesOf c.mem c.len)
    if ready then (s1.storeBytes .dev c.mem (s1.flashBytes c.addr c.len), true) else (s1, false)
  | 2 =>
    match s.readyRead .dev (linesOf c.mem c.len) with
    | (s1, .ok) => (s1.flashProgram c.addr (s1.bytesAt c.mem c.len), true)
    | (s1, .poison line) =>
      let s2 : State := { s1 with boot := { s1.boot with nvm := some { c with code := some 3 } } }
      (s2.logFault (s2.fault 0x06 0 0x206 2 1 line), false)
    | (s1, .wait) => (s1, false)
  | _ => (s.flashErase c.addr c.len, true)

/-- R507: a journal write, or a save to the flash, is in progress. -/
def State.flashBusy (s : State) : Bool :=
  s.boot.attest.any (·.fresh) || (s.pwr.t0.isSome && s.fget F.XCH_CTL_SAVE_KIND 0 0 == 0)

/-- A command that has not moved its bytes moves them if it can. -/
def State.nvmGo (s : State) : State :=
  match s.boot.nvm with
  | none => s
  | some c =>
    if c.code.isSome || s.flashBusy then s
    else match s.nvmMove c with
      | (s1, true) => { s1 with boot := { s1.boot with nvm := some { c with code := some 0 } } }
      | (s1, false) => s1

/-- R476, R505: CFG_NVM_CMD; none where it is discarded and logged.  OP 0 is discarded. -/
def State.nvmCommand (s : State) (w : Word) : Option State :=
  let op := fld w 0 2
  if s.fbit F.CFG_NVM_STATUS_BUSY 0 0 then none
  else if op = 0 then some s
  else
    let off := s.fget F.CFG_NVM_ADDR_OFFSET 0 0
    let len := s.fget F.CFG_NVM_LEN_LEN 0 0
    let bad := decide (flashSize < off + len) || (op == 3 && (off % 0x10000 != 0 || len % 0x10000 != 0))
    let code := if s.nvmProtected op off len then some 1 else if bad then some 4 else none
    let s1 := (s.fset F.CFG_NVM_STATUS_BUSY 0 0 1).fset F.CFG_NVM_STATUS_CODE 0 0 0
    let c : NvmCmd := { op, addr := off, mem := s.fget F.CFG_NVM_MEM_ADDR 0 0, len,
                        src := if bitOf w 24 then some (fld w 12 12) else none, code }
    some ({ s1 with boot := { s1.boot with nvm := some c } }).nvmGo

/-- R505: a flash command ends; `fails`: the flash reports an error. -/
def State.nvmDone (s : State) (fails : Bool) : State :=
  let s1 := s.nvmGo
  match s1.boot.nvm with
  | none => s1
  | some c =>
    match c.code with
    | none => s1
    | some code0 =>
      let code := if code0 = 0 ∧ fails then 2 else code0
      let s2 := (({ s1 with boot := { s1.boot with nvm := none } }).fset F.CFG_NVM_STATUS_BUSY 0 0 0).fset
        F.CFG_NVM_STATUS_DONE 0 0 1
      let s3 := if code = 0 then s2 else (s2.fset F.CFG_NVM_STATUS_ERROR 0 0 1).fset F.CFG_NVM_STATUS_CODE 0 0 code
      match c.src with
      | some n => s3.raiseBlock n
      | none => s3

/-! Fuses -/

/-- R484: SEC_SVN_ADVANCE. -/
def State.svnAdvance (s : State) (to_ : Nat) : Option State :=
  if s.fget F.SEC_RUN_IMAGE_SVN 0 0 < to_ then none
  else some { s with boot := { s.boot with svn := max s.boot.svn to_ } }

/-- R504, R507: SEC_REKEY.GO. -/
def State.rekey (s : State) : Option State :=
  if s.fbit F.SEC_STATUS_REKEY_OK 0 0 && !s.fbit F.SEC_ATT_STATUS_BUSY 0 0 && decide (s.boot.epoch < 15) then
    let s1 : State := { s with boot := { s.boot with epoch := s.boot.epoch + 1 } }
    some (((s1.fset F.SEC_STATUS_REKEY_OK 0 0 0).fset F.SEC_STATUS_EXHAUSTED 0 0 0).fset F.SEC_ATT_STATUS_INDEX 0 0 0)
  else none

/-! Attestation -/

/-- R500: the levels of the attestation key of an epoch and their height, and with them the number of its signatures. -/
def hssLevels : Nat := 2
def hssHeight : Nat := 10
def hssLimit : Nat := 2 ^ (hssLevels * hssHeight)

/-- R500, RFC 8554: a big-endian word. -/
def be4 (n : Nat) : List Byte := (natToBytes 4 n).reverse

/-- R500: an LMS signature of a tree of height 10 with LM-OTS n = 32, w = 8: its leaf, and the bytes that depend on the key. -/
def lmsForm (q : Nat) (key : Nat → Byte) : List Byte :=
  be4 q ++ be4 4 ++ (List.range 1120).map key ++ be4 6 ++ (List.range 320).map (fun k => key (1120 + k))

/-- R500, R501: an HSS signature of two levels: the lower key signed by the upper, and the body by the lower. -/
def hssForm (epoch index : Nat) (body : List Byte) : List Byte :=
  let key := Config.hssByte epoch index body
  be4 (hssLevels - 1) ++ lmsForm (index / 2 ^ hssHeight) key ++ be4 6 ++ be4 4 ++ (List.range 48).map (fun k => key (1440 + k))
    ++ lmsForm (index % 2 ^ hssHeight) (fun k => key (1488 + k))

/-- A report ends, with a code where it was refused. -/
def State.attestEnd (s : State) (src : Option Nat) (code : Nat) : State :=
  let s1 := ({ s with boot := { s.boot with attest := none } }).fset F.SEC_ATT_STATUS_BUSY 0 0 0
  let s2 := if code = 0 then s1.fset F.SEC_ATT_STATUS_DONE 0 0 1
    else (s1.fset F.SEC_ATT_STATUS_ERROR 0 0 1).fset F.SEC_ATT_STATUS_CODE 0 0 code
  match src with
  | some n => s2.raiseBlock n
  | none => s2

/-- R503: a 64-byte journal record is programmed: it carries the epoch, the first index and their CRC-32C, in a layout that is not
stated. -/
def State.journalReserve (s : State) (first : Nat) : State :=
  let bs := (List.range 64).map (Config.journalByte s.boot.epoch first)
  let s1 := s.flashProgram (journalBase + 64 * s.boot.journal.length) bs
  { s1 with boot := { s1.boot with journal := s1.boot.journal ++ [(s1.boot.epoch, first)] } }

/-- R502, R503: SEC_ATT_CMD.GO; none where it is discarded. -/
def State.attestGo (s : State) (w : Word) : Option State :=
  if !bitOf w 0 then some s
  else if s.fbit F.SEC_ATT_STATUS_BUSY 0 0 then none
  else
    let src := if bitOf w 24 then some (fld w 12 12) else none
    let i := s.fget F.SEC_ATT_STATUS_INDEX 0 0
    let s1 := s.fset F.SEC_ATT_STATUS_CODE 0 0 0
    if s1.fbit F.SEC_STATUS_EXHAUSTED 0 0 ∨ hssLimit ≤ i then
      some ((s1.fset F.SEC_STATUS_EXHAUSTED 0 0 1).attestEnd src 1)
    else
      let first := i / 1024 * 1024
      let fresh := !s1.boot.journal.contains (s1.boot.epoch, first)
      let s2 := if fresh then s1.journalReserve first else s1
      let a : Attest := { area := s2.fget F.SEC_ATT_ADDR_ADDR 0 0 * 4096, src, index := i, fresh }
      some (({ s2 with boot := { s2.boot with attest := some a } }).fset F.SEC_ATT_STATUS_BUSY 0 0 1)

/-- R501: the 256-byte signed body. -/
def State.reportBody (s : State) (a : Attest) (nonce : List Byte) : List Byte :=
  natToBytes 4 0xC7A70001 ++ [1#8, BitVec.ofNat 8 (s.fget F.SEC_RUN_SLOT 0 0), BitVec.ofNat 8 s.boot.epoch,
      BitVec.ofNat 8 (s.fget F.SEC_RUN_QUALIFICATION 0 0 + 2 * b2n (s.boot.flags.testBit 0))]
    ++ natToBytes 8 Config.serial.toNat ++ natToBytes 4 a.index
    ++ [BitVec.ofNat 8 (s.fget F.SEC_RUN_IMAGE_SVN 0 0), BitVec.ofNat 8 s.boot.svn, 0#8, 0#8]
    ++ nonce ++ (List.range 18).flatMap (fun k => wordBytes (s.acting .SEC_MEAS 0 k)) ++ List.replicate 40 0

/-- R501 to R503: a report is finished; `journal`: the journal record that it needed was written.  The signatures depend on
secrets: free values of the forms that R500 and R501 give (log entry 156). -/
def State.attestDone (s : State) (journal : Bool) : State :=
  match s.boot.attest with
  | none => s
  | some a =>
    if a.fresh && !journal then
      ({ s with boot := { s.boot with journal := s.boot.journal.dropLast } }).attestEnd a.src 2
    else match s.readyRead .dev (linesOf (a.area + 24) 48) with
      | (s1, .wait) => s1
      | (s1, .poison line) => (s1.logFault (s1.fault 0x03 0 0x206 2 1 line)).attestEnd a.src 3
      | (s1, .ok) =>
        let (s2, ready) := s1.readyWrite .dev false (linesOf a.area 4096)
        if !ready then s2
        else
          let body := s2.reportBody a (s2.bytesAt (a.area + 24) 48)
          let bs := body ++ (List.range 96).map (Config.ecdsaByte s2.free body) ++ hssForm s2.boot.epoch a.index body ++ List.replicate 780 0
          let s3 := (s2.draw.storeBytes .dev a.area bs).fset F.SEC_ATT_STATUS_INDEX 0 0 (a.index + 1)
          let s4 := if a.index + 1 = hssLimit then s3.fset F.SEC_STATUS_EXHAUSTED 0 0 1 else s3
          s4.attestEnd a.src 0

end Sys2Proof.Machine
end

