-- ==== Sys2Proof/Machine/RegRead.lean ====
section
/-! DEFINITION. What a read of an I/O register returns (R11 to R13, R20): the fields that report state as it stands, the
staged or held values of class S and G fields, read-clear fields. -/

namespace Sys2Proof.Machine

/-! The windows of the cores (R274 to R276) -/

/-- R276: PairSt as CORE_PAIR_STATUS.STATE. -/
def PairSt.code : PairSt → Nat
  | .off => 0
  | .waking => 1
  | .checked => 2
  | .split => 3
  | .switching => 5
  | .cuttingIn => 6
  | .stopped => 7
  | .failed => 8

/-- R255, R276: STATE of a position; RETRYING while a core of it restarts. -/
def PairPos.stateCode (p : PairPos) : Nat := if p.restarts.isEmpty then p.st.code else 4

/-- R29: the logical core that a physical core carries; both partners of a checked pair carry the pair's. -/
def State.carried (s : State) (u : Nat) : Option Nat :=
  (s.pair (u / 2)).logical.map (fun n => 2 * n + (if s.isSplit n then u % 2 else 0))

/-- R276: CORE_MAP.ROLE. -/
def coreRole (u : Nat) : Nat := if u < 64 then 0 else if u < 76 then 1 else if u < 78 then 2 else 3

/-- R275: what a core's window shows; nothing where it reads zero. -/
def State.imageShown (s : State) (u : Nat) : Option Image :=
  let p := s.pair (u / 2)
  if p.st == .off then none
  else if p.st == .stopped || p.st == .failed then (p.image.drop (min (u % 2) (p.image.length - 1))).head?
  else match s.carried u with
    | some lc => some { lc, arch := (s.core lc).ckpt, queued := levelNumbers.map (fun l => ((s.core lc).queue l).length),
                        coreId := s.coreId lc }
    | none => none

/-- R275, R276: the item of a checkpoint that CORE_CKPT_SEL selects. -/
def ckptItem (a : Arch) (sel : Word) : Word :=
  let i := fld sel 4 7
  let v := a.level (fld sel 0 3)
  if bitOf sel 11 then (if i < 32 then mapGet 0 a.f i else if i = 32 then a.fcw else 0)
  else if i ≤ 6 then mapGet 0 v.g (i + 1)
  else if inRange 8 100 i then mapGet 0 v.w (i - 8)
  else if i = 108 then v.pc
  else if i = 109 then v.sw
  else 0

/-- R274: image `k` of a core's registers: system registers, then translation registers, level by level. -/
def State.coreImage (s : State) (u k : Nat) : Word :=
  match s.imageShown u with
  | none => 0
  | some m =>
    if 12 ≤ k % 16 then (m.arch.level (k / 16)).trnWord (k % 16 - 12)
    else (m.arch.level (k / 16)).sysWord (k % 16) (m.queued.getD (k / 16) 0)

/-- R55, R275: the image of CORE_ID; a spare that is awake and carries no logical core reads LOGICAL 127. -/
def State.coreIdImage (s : State) (u : Nat) : Word :=
  match s.imageShown u with
  | some m => m.coreId
  | none =>
    let p := s.pair (u / 2)
    if p.st == .off || p.st == .stopped || p.st == .failed then 0 else BitVec.ofNat 64 (127 + u * 2 ^ 8)

/-! Fields that report state -/

/-- A field of a word replaced. -/
def putF (w : Word) (f : FieldRef) (v : Nat) : Word := setFld w f.lo f.width v

/-- R66: events pending or queued for a source. -/
def State.srcCount (s : State) (src : Nat) : Nat :=
  match mapGet? s.cue.srcs src with
  | some c => c.count
  | none => match s.queuedAt src with
    | some lc => ((s.core lc).waits src).elim 0 (fun x => x.2.count)
    | none => 0

/-- R66: whether a source is pending or queued. -/
def State.srcActive (s : State) (src : Nat) : Bool := (mapGet? s.cue.srcs src).isSome || (s.queuedAt src).isSome

/-- Bits of a word from a test of their numbers. -/
def wordOf (p : Nat → Bool) : Word := BitVec.ofNat 64 ((List.range 64).foldl (fun m j => if p j then m ||| 2 ^ j else m) 0)

/-- R450: word `w` of record index `i`. -/
def State.logWord (s : State) (i w : Nat) : Word :=
  match mapGet? s.flt.log i with
  | some r => r.word w
  | none => 0

/-- R363: a word of the selected entry, zero while it was never written (R338); a copy that is out of service holds an unstated value. -/
def State.entryWord (s : State) (k : Nat) : Word :=
  if s.fbit (copyField (s.fget F.XCH_ENT_SEL_COPY 0 0)) 0 0 then
    BitVec.ofNat 64 ((mapGet? s.xch.entries (s.fget F.XCH_ENT_SEL_EXCH 0 0)).elim 0 Entry.bits / 2 ^ (64 * k))
  else Config.freeWord s.free

/-- R423: directory entries in use: those of the directory, and lines of this device's own pool cache. -/
def State.dirUsed (s : State) : Nat :=
  s.dir.entries.length + (s.mem.pool.filter (fun p => s.homeOf p.1 == .dev s.devnum
    && (mapGet? s.dir.entries p.1).isNone)).length

/-- R276: RETRIES; of a split position the larger count of its two cores (DESIGN CHOICE, log entry 125). -/
def State.retriesOf (s : State) (p : PairPos) : Nat :=
  min 3 (max (p.hist0.retries.filter s.recent).length (p.hist1.retries.filter s.recent).length)

/-- A register as it acts, with the fields that report state as they stand. -/
def State.liveWord (s : State) (r : RegName) (u k : Nat) : Word :=
  let w := s.acting r u k
  match r with
  | .CUE_MAP => putF (putF (putF w F.CUE_MAP_HELD (b2n (mapGet? s.cue.srcs k).isSome))
      F.CUE_MAP_ABSENT (b2n (s.coreAbsent (s.srcCore k)))) F.CUE_MAP_COUNT (s.srcCount k)
  | .CUE_PENDING => wordOf (fun j => s.srcActive (64 * k + j))
  | .CORE_PAIR_STATUS =>
    let p := s.pair (u / 2)
    putF (putF (putF (putF (putF w F.CORE_PAIR_STATUS_STATE p.stateCode) F.CORE_PAIR_STATUS_LAST_CAUSE p.cause)
      F.CORE_PAIR_STATUS_RETRIES (s.retriesOf p))
      F.CORE_PAIR_STATUS_CHECKER_SEEN (b2n (p.checkers.any s.recent))) F.CORE_PAIR_STATUS_CKPT_SINGLE (b2n p.single)
  | .CORE_MAP =>
    let p := s.pair (u / 2)
    putF (putF (putF w F.CORE_MAP_LOGICAL ((s.carried u).getD 127)) F.CORE_MAP_ROLE (coreRole u))
      F.CORE_MAP_FAILED (b2n (if u % 2 = 0 then p.failed0 else p.failed1))
  | .CORE_CKPT_DATA => (s.imageShown u).elim 0 (fun x => ckptItem x.arch (s.acting .CORE_CKPT_SEL u 0))
  | .CORE_IMAGE => s.coreImage u k
  | .MC_STATUS => putF w F.MC_STATUS_MIRROR_DEGRADED (b2n (s.degraded u))
  | .CORE_IMAGE_LVL_CTL => (s.imageShown u).elim 0 (fun x => x.arch.lvlCtl)
  | .CORE_IMAGE_CORE_ID => s.coreIdImage u
  | .TRS_KEY_STATE => BitVec.ofNat 64 ((mapGet? s.trs.keys k).elim 0 (·.1))
  | .TRE_STATUS =>
    match mapGet? s.trs.jobs u with
    | some j => putF (putF (putF w F.TRE_STATUS_BUSY 1) F.TRE_STATUS_EXCHANGE (b2n j.isExch)) F.TRE_STATUS_INSTANCE (j.inst.getD 0)
    | none => putF (putF (putF w F.TRE_STATUS_BUSY 0) F.TRE_STATUS_EXCHANGE 0) F.TRE_STATUS_INSTANCE 0
  | .XCH_STATUS => putF w F.XCH_STATUS_POWER_FAIL (b2n s.pwr.t0.isSome)
  | .XCH_ACTIVE => putF w F.XCH_ACTIVE_COUNT s.activeCount
  | .XCH_ENT_DATA => s.entryWord k
  | .SEQ_STATUS =>
    if fld w 0 3 = 4 then w
    else putF w F.SEQ_STATUS_STATE (if s.seqRuns u then max 1 (s.seqPair u).shown else 0)
  | .INST_TOKENS => s.tokensWord k
  | .TOD_STATUS =>
    -- R416: with REF_EN a caller is locked to TOD_REF (DEDUCED, log entry 139)
    if s.fget F.DEV_IMG_STATE_ROLE 0 0 = 3 then putF w F.TOD_STATUS_LOCKED (s.fget F.TOD_CFG_REF_EN 0 0) else w
  | .DIR_USED => putF w F.DIR_USED_ENTRIES s.dirUsed
  | .FLT_STATUS => putF (putF w F.FLT_STATUS_CLASS_PEND s.classPend) F.FLT_STATUS_DEVICE_FATAL (b2n s.flt.fatal)
  | .FLT_LOG_NEXT => putF w F.FLT_LOG_NEXT_SEQ s.flt.next
  | .FLT_SHADOW_LO => wordOf (fun b => s.shadowed b)
  | .FLT_SHADOW_HI => wordOf (fun b => s.shadowed (64 + b))
  | .FLT_PEND => BitVec.ofNat 64 (if k = 0x70 then 0 else mapGet 0 s.flt.pend k)
  | .FLT_CORE_PEND => BitVec.ofNat 64 (mapGet 0 s.flt.corePend k)
  | .FLT_LOG => s.logWord (k / 4) (k % 4)
  | .PWR_WAKE_STATE => putF (putF w F.PWR_WAKE_STATE_CREDITS (s.pwr.credits / 128000)) F.PWR_WAKE_STATE_QUEUED s.pwr.queue.length
  | .PWR_DOM_STATUS => putF w F.PWR_DOM_STATUS_ACTUAL (s.rail k)
  | .SEC_STATUS => putF (putF (putF w F.SEC_STATUS_SVN_FUSED s.boot.svn) F.SEC_STATUS_EPOCH s.boot.epoch)
      F.SEC_STATUS_PROVISIONED (b2n s.boot.provisioned)
  | .SEC_SERIAL => Config.serial
  | .SEC_IDPUB => if k = 12 then Config.idPub k &&& 0xFF else Config.idPub k
  | _ => w

/-! Reads -/

/-- R13, R20: the in-force view: every field but write-only ones as it acts. -/
def State.viewWord (s : State) (r : RegName) (u k : Nat) : Word :=
  s.liveWord r u k &&& BitVec.ofNat 64 (fieldBits r (fun f => f.access != .wo))

/-- R11, R22: a register read at its own offset: staged or held values of class S and G fields. -/
def State.readWord (s : State) (r : RegName) (u k : Nat) : Word :=
  let h := s.heldWord r u k
  (regFields r).foldl (fun w f =>
    if f.cls == .staged || f.cls == .grouped then setFld w f.lo f.width (fld h f.lo f.width) else w) (s.viewWord r u k)

/-- R11, R15: the RC fields of a register clear once read. -/
def State.clearRc (s : State) (r : RegName) (u k : Nat) : State :=
  let m := fieldBits r (fun f => f.access == .rc)
  if m = 0 then s else s.setActing r u k (s.acting r u k &&& ~~~(BitVec.ofNat 64 m))

/-- A read: the state after it and the value; a free value shown is drawn. -/
def State.regRead (s : State) (r : RegName) (u k : Nat) (view : Bool) : State × Word :=
  let s1 := if r == .XCH_ENT_DATA then s.draw else s
  if view then (s1, s.viewWord r u k) else (s1.clearRc r u k, s.readWord r u k)

end Sys2Proof.Machine
end

