-- ==== Sys2Proof/Machine/Io.lean ====
section
/-! DEFINITION. Accesses to I/O space (R4 to R26, R42 to R46): what a write of each register does, commits, the configuration
records (R485 to R487), and the way of an access to a block of this or another device. -/

namespace Sys2Proof.Machine

/-! Faults of accesses (R535) -/

/-- The pair position that a window of block 0x70 belongs to; a window that no core has names none, and UNIT is then a free
value (log entry 19). -/
def State.ioUnit (s : State) (blk addr : Nat) : State × Nat :=
  if blk = 0x70 then
    let q := addr % 0x80000 / 0x2000
    if q < 40 then (s, q) else (s.draw, (Config.freeWord s.free).toNat % 40)
  else (s, 0)

/-- A class C1 fault of an access, with its I/O address. -/
def State.ioFault (s : State) (kind blk addr : Nat) : State :=
  let (s1, u) := s.ioUnit blk addr
  s1.logFault (s1.fault blk u kind 1 2 addr)

/-- A write that a block discards by its own rule (R430: WRITE_REFUSED). -/
def State.writeRefused (s : State) (blk addr : Nat) : State := s.ioFault 0x007 blk addr

/-- What a command register does, or its refusal. -/
def State.orRefuse (s : State) (blk addr : Nat) (r : Option State) : State :=
  match r with
  | some s1 => s1
  | none => s.writeRefused blk addr

/-! Writes by access code and class (R11, R18, R19) -/

/-- The value in force after a write: live RW fields take the value, W1C bits written as 1 clear. -/
def liveWrite (r : RegName) (base w : Word) : Word :=
  (regFields r).foldl (fun x f =>
    if f.access == .rw && f.cls == .live then setFld x f.lo f.width (fld w f.lo f.width)
    else if f.access == .w1c then setFld x f.lo f.width (Nat.land (fld x f.lo f.width) (outside (2 ^ f.width - 1) (fld w f.lo f.width)))
    else x) base

/-- The staged and held value after a write. -/
def heldWrite (r : RegName) (base w : Word) : Word :=
  (regFields r).foldl (fun x f =>
    if f.cls == .staged || f.cls == .grouped then setFld x f.lo f.width (fld w f.lo f.width) else x) base

/-- Whether a register has a field of a class. -/
def hasClass (r : RegName) (p : ChangeClass → Bool) : Bool := (regFields r).any (fun f => p f.cls)

/-- R18: a write that would change a class B field. -/
def State.changesBoot (s : State) (r : RegName) (u k : Nat) (w : Word) : Bool :=
  (regFields r).any (fun f => f.cls == .boot && fld w f.lo f.width != fld (s.acting r u k) f.lo f.width)

/-- R18, R19, R22: a write acts on each field by its access code and class. -/
def State.plainWrite (s : State) (r : RegName) (u k : Nat) (w : Word) (blk addr : Nat) : State :=
  let s1 := if s.changesBoot r u k w then s.ioFault 0x005 blk addr else s
  let s2 := s1.setActing r u k (liveWrite r (s1.acting r u k) w)
  if hasClass r (fun c => c == .staged || c == .grouped) then
    let s3 : State := { s2 with io := { s2.io with
      held := mapSet s2.io.held (regKey r u k) (heldWrite r (s1.heldWord r u k) w) } }
    match regGroup r k with
    | some g => if s3.io.dirty.contains g then s3 else { s3 with io := { s3.io with dirty := g :: s3.io.dirty } }
    | none => s3
  else s2

/-- R23 to R25: a group is captured if one of its fields has been written since its last commit. -/
def State.commitWrite (s : State) (blk g : Nat) : State :=
  if s.io.dirty.contains (blk, g) then s.capture blk g ((groupRegs blk g).map (fun p => s.heldWord p.1 0 p.2)) else s

/-! Writes with rules of their own -/

/-- R67: CUE_MAP. -/
def State.writeCueMap (s : State) (k : Nat) (w : Word) (addr : Nat) : State :=
  if srcReserved k then s.writeRefused 0x04 addr
  else if fld w 8 3 = 0 ∧ k < 0xF00 then
    (s.plainWrite .CUE_MAP 0 k (setFld w 8 3 (fld (s.heldWord .CUE_MAP 0 k) 8 3)) 0x04 addr).writeRefused 0x04 addr
  else s.plainWrite .CUE_MAP 0 k w 0x04 addr

/-- R64, R67: CUE_RAISE. -/
def State.writeCueRaise (s : State) (w : Word) (addr : Nat) : State :=
  if inRange 0x400 0x500 (fld w 0 12) then s.raise (fld w 0 12) (fld w 32 32) else s.writeRefused 0x04 addr

/-- R307, R326: a TAIL that leaves more entries than the queue holds is discarded; else rest ends where the queue is
enabled (R468). -/
def State.writeDoorbell (s : State) (f : FieldRef) (k head sizeLog2 : Nat) (enabled : Bool) (w : Word) (blk addr : Nat) : State :=
  if 2 ^ sizeLog2 < (fld w 0 16 + 65536 - head) % 65536 then s.writeRefused blk addr
  else
    let s1 := s.fset f 0 k (fld w 0 16)
    if enabled then s1.endRest else s1

/-- R332: XCH_CQ_HEAD. -/
def State.writeCqHead (s : State) (c : Nat) (w : Word) (addr : Nat) : State :=
  if s.headOk c (fld w 0 32) then (s.consume c (fld w 0 32)).instGo else s.writeRefused 0x30 addr

/-- R360: XCH_REPLAY. -/
def State.writeReplay (s : State) (w : Word) (addr : Nat) : State :=
  let s1 := s.plainWrite .XCH_REPLAY 0 0 w 0x30 addr
  let s2 := if bitOf w 16 then s1.replayStart else s1
  if bitOf w 17 then s2.replayConsume else s2

/-- R387: INST_OP; REMOVE prevails. -/
def State.writeInstOp (s : State) (n : Nat) (w : Word) : State :=
  if bitOf w 1 then s.instRemove n else if bitOf w 0 then s.instReset n else s

/-- R375, R376: INST_CMD. -/
def State.writeInstCmd (s : State) (w : Word) (addr : Nat) : State :=
  if s.fbit F.INST_CMD_STATUS_BUSY 0 0 || !inRange 1 3 (fld w 0 4) then s.writeRefused 0x71 addr
  else s.instCommand (fld w 0 4) (fld w 16 10)

/-- R459, R460, R472: PWR_DOM_CTL. -/
def State.writeDomCtl (s : State) (d : Nat) (w : Word) (addr : Nat) : State :=
  let bad := decide (fld w 0 8 < 124) || decide (s.fget F.PWR_RAIL_MAX_LEVEL 0 0 < fld w 0 8)
  let s1 := if bad then s.writeRefused 0x02 addr else s.plainWrite .PWR_DOM_CTL 0 d w 0x02 addr
  s1.orRefuse 0x02 addr (s1.domCommand d w)

/-- R438: FLT_CTL. -/
def State.writeFltCtl (s : State) (w : Word) (addr : Nat) : State :=
  (if bitOf w 2 then s.bootHoldClear else s).plainWrite .FLT_CTL 0 0 w 0x01 addr

/-- R14, R272: FBS_STATUS. -/
def State.writeFbsStatus (s : State) (w : Word) (addr : Nat) : State :=
  let s1 := s.plainWrite .FBS_STATUS 0 0 (setFld w 3 1 0) 0x07 addr
  if bitOf w 3 then s1.callerCleared.instGo else s1

/-- R497: service firmware is restarted. -/
def State.svcRestart (s : State) : State :=
  let s1 := s.fcount F.CFG_SVC_RESTARTS_COUNT 0 0 1
  (s1.logFault (s1.fault 0x06 0 0x702 1 0 0)).instRestart

/-- R489, R497, R505: CFG_CTL. -/
def State.writeCfgCtl (apply : State → State) (s : State) (w : Word) : State :=
  let s1 := if bitOf w 0 then apply s else s
  let s2 := if bitOf w 1 then s1.fset F.CFG_START_STATUS_READY 0 0 1 else s1
  if bitOf w 2 then s2.svcRestart else s2

/-- R476, R505: CFG_NVM_CMD; a PROGRAM or ERASE of a protected region is logged. -/
def State.writeNvmCmd (s : State) (w : Word) (addr : Nat) : State :=
  let hit := !s.fbit F.CFG_NVM_STATUS_BUSY 0 0 && fld w 0 2 != 0
    && s.nvmProtected (fld w 0 2) (s.fget F.CFG_NVM_ADDR_OFFSET 0 0) (s.fget F.CFG_NVM_LEN_LEN 0 0)
  let s1 := s.orRefuse 0x06 addr (s.nvmCommand w)
  if hit then s1.writeRefused 0x06 addr else s1

/-- R444: a member has written a register by which a recovery controller acts. -/
def State.controllerWrite (s : State) : State := { s with fbs := { s.fbs with answered := true } }

/-- A write of a register of a block of this device that has power and is not in reset.  `apply` is the apply phase that
CFG_CTL starts. -/
def State.regWrite (apply : State → State) (s : State) (r : RegName) (u k : Nat) (w : Word) (blk addr : Nat) : State :=
  match r with
  | .CUE_MAP => s.writeCueMap k w addr
  | .CUE_RAISE => s.writeCueRaise w addr
  | .CORE_PAIR_CTL => s.pairCommand (u / 2) w
  | .PCS_RNG_CMD => s.orRefuse blk addr (s.rngCommand w)
  | .PCS_COMMIT => s.commitWrite 0x10 (fld w 0 8)
  | .PWR_COMMIT => s.commitWrite 0x02 (fld w 0 8)
  | .TRS_COMMIT => s.commitWrite 0x28 (fld w 0 11)
  | .XCH_COMMIT => s.commitWrite 0x30 (fld w 0 14)
  | .INST_COMMIT => s.commitWrite 0x71 (fld w 0 11)
  | .TRS_DOORBELL => s.writeDoorbell F.TRS_DOORBELL_TAIL k (s.fget F.TRS_Q_HEAD_HEAD 0 k) (s.fget F.TRS_Q_CTL_SIZE_LOG2 0 k)
      (s.fbit F.TRS_Q_CTL_ENABLE 0 k) w blk addr
  | .TRS_SVC_DOORBELL => s.writeDoorbell F.TRS_SVC_DOORBELL_TAIL 0 (s.fget F.TRS_SVC_HEAD_HEAD 0 0)
      (s.fget F.TRS_SVC_CTL_SIZE_LOG2 0 0) (s.fbit F.TRS_SVC_CTL_ENABLE 0 0) w blk addr
  | .XCH_RQ_DOORBELL => s.writeDoorbell F.XCH_RQ_DOORBELL_TAIL k (s.rqHead k) (s.fget F.XCH_RQ_CTL_SIZE_LOG2 0 k)
      (s.fbit F.XCH_RQ_CTL_ENABLE 0 k) w blk addr
  | .XCH_CQ_HEAD => s.writeCqHead k w addr
  | .XCH_REPLAY => s.writeReplay w addr
  | .INST_OP => s.writeInstOp k w
  | .INST_BYTE_RATE => s.burstBytes k (w &&& BitVec.ofNat 64 (fieldBits .INST_BYTE_RATE (fun _ => true)))
  | .INST_EXCH_RATE => s.burstExch k (w &&& BitVec.ofNat 64 (fieldBits .INST_EXCH_RATE (fun _ => true)))
  | .INST_CMD => s.writeInstCmd w addr
  | .SHB_CTL =>
    let s1 := s.plainWrite r u k w blk addr
    if bitOf w 1 then s1.retrain u else s1
  | .TOD_SET => if s.role = 3 then s.todSet w.toNat else s.writeRefused blk addr
  | .PCIE_PERST => (s.plainWrite r u k w blk addr).perstActs (u + 4)
  | .FLT_CTL => s.writeFltCtl w addr
  | .FLT_RESET => s.controllerWrite.fltReset w
  | .FLT_PEND => s.controllerWrite.pendAck k (fld w 0 5)
  | .FLT_CORE_PEND => s.corePendAck k (fld w 0 5)
  | .FBS_STATUS => s.controllerWrite.writeFbsStatus w addr
  | .FBS_KICK => if bitOf w 0 then s.watchdogStart else s
  | .PWR_STATE_REQ => s.orRefuse blk addr (s.stateRequest (fld w 0 2))
  | .PWR_DOM_CTL => s.writeDomCtl k w addr
  | .CFG_CTL => State.writeCfgCtl apply s w
  | .CFG_NVM_CMD => s.writeNvmCmd w addr
  | .SEC_SVN_ADVANCE => s.orRefuse blk addr (s.svnAdvance (fld w 0 7))
  | .SEC_REKEY => if bitOf w 0 then s.orRefuse blk addr s.rekey else s
  | .SEC_ATT_CMD => s.orRefuse blk addr (s.attestGo w)
  | _ => s.plainWrite r u k w blk addr

/-! Configuration records (R485 to R487) -/

/-- The block and offset of a record as an I/O address of this device. -/
def State.recAddr (s : State) (c : CfgRec) : Nat := s.devnum * 2 ^ 27 + c.blk * 2 ^ 20 + c.off

/-- R18, R486: a record of class B fields; a stagger outside 4 to 32 becomes 12 (R243). -/
def State.bootRecord (s : State) (c : CfgRec) (r : RegName) (u k : Nat) : State :=
  let w := (s.acting r u k &&& ~~~(BitVec.ofNat 64 c.mask)) ||| BitVec.ofNat 64 c.value
  match r with
  | .CORE_STAGGER =>
    if inRange 4 29 (fld w 0 6) then s.setActing r u k w
    else
      let s1 := s.setActing r u k (setFld w 0 6 12)
      s1.logFault (s1.fault 0x70 (u / 2) 0x107 1 0 0)
  | _ => s.setActing r u k w

/-- The records that apply on this device, in image order. -/
def State.ownRecords (s : State) : List CfgRec := s.boot.records.filter (fun c => c.devices.testBit s.devnum)

/-- R486: a block that a class B record leaves unused. -/
def State.leavesUnused (s : State) (blk : Nat) : Bool :=
  if inRange 0x40 16 blk ∨ inRange 0x50 10 blk then
    let bs := s.ownRecords.filter (fun c => c.cls == 0 && c.blk == blk && c.off == 0 && c.mask.testBit 0)
    match bs.getLast? with
    | some c => !c.value.testBit 0
    | none => false
  else false

/-- R486: a class L record that conflicts with a class B record. -/
def State.recSkipped (s : State) (c : CfgRec) (r : RegName) : Bool :=
  c.cls == 3 && (fieldBits r (fun f => f.cls == .boot) &&& c.mask != 0 || s.leavesUnused c.blk)

/-- R486: the word that a record writes: fields outside its mask as read, one-shot fields zero. -/
def State.recWord (s : State) (c : CfgRec) (r : RegName) (u k : Nat) : Word :=
  let keep := fieldBits r (fun f => f.access == .rw)
  ((s.readWord r u k &&& BitVec.ofNat 64 keep) &&& ~~~(BitVec.ofNat 64 c.mask)) ||| BitVec.ofNat 64 c.value

/-- R227: a conversion begins with captured values. -/
def State.convertBegin (s : State) (base ways : Word) : State :=
  ({ s with mem := { s.mem with conv := some (fld base 24 28 * 2 ^ 24, fld ways 0 4) } }).fset F.PCS_RES_STATUS_CONVERTING 0 0 1

/-- R227, R322, R365, R387, R465: what a block does with a committed group at its safe point. -/
def State.groupSafe (s : State) (blk g : Nat) : State :=
  if blk = 0x10 then
    if g = 1 && s.rng.isNone && s.mem.conv.isNone then
      match s.resolve 0x10 1 with
      | (s1, some ws) => s1.convertBegin (ws.getD 0 0) (ws.getD 1 0)
      | (s1, none) => s1
    else s
  else if blk = 0x02 then
    s.commitActs 0x02 g (fun s => { s with pwr := { s.pwr with
      credits := min s.pwr.credits (s.fget F.PWR_WAKE_BUDGET_CREDITS 0 0 * 128000) } })
  else if blk = 0x28 then (if 1 ≤ g then s.trsSafe (g - 1) else s)
  else if blk = 0x30 then
    if g = 1 then s.commitActs 0x30 1 id
    else if inRange 2 4096 g then s.rqSafe (g - 2)
    else if inRange 4098 4096 g then s.cqSafe (g - 4098)
    else s
  else s.commitActs blk g id

/-- R486: class S and class G values of a record take force when the apply phase ends, but for group 1 of block 0x10. -/
def State.recForce (s : State) (c : CfgRec) (r : RegName) (u k : Nat) : State :=
  if c.cls = 1 then s.takeStaged r u k
  else if c.cls = 2 then
    match regGroup r k with
    | some (blk, g) => if blk = 0x10 then s else (s.commitWrite blk g).groupSafe blk g
    | none => s
  else s

/-- One record, written as an OUT of the same value would be. -/
def State.recWrite (s : State) (c : CfgRec) : State :=
  match findReg c.blk c.off with
  | none => s
  | some (r, u, k) =>
    let addr := s.recAddr c
    if c.cls = 0 then s.bootRecord c r u k
    else if s.recSkipped c r then (s.fcount F.CFG_START_STATUS_SKIPPED 0 0 1).writeRefused 0x06 addr
    else State.regWrite id s r u k (s.recWord c r u k) c.blk addr

def State.recEnd (s : State) (c : CfgRec) : State :=
  match findReg c.blk c.off with
  | none => s
  | some (r, u, k) => if c.cls = 0 || s.recSkipped c r then s else s.recForce c r u k

/-- R454, R487: the switched domain in which a record's register lies, a core's window by its pair. -/
def recDomain (c : CfgRec) : Option Nat :=
  if c.blk = 0x70 then some (domKey (c.off / 0x1000)) else blockDomain c.blk

/-- R487: records whose domain is off wait for its wake. -/
def State.recHeld (s : State) (c : CfgRec) : Bool :=
  match recDomain c with
  | some d => !s.domPowered d
  | none => false

/-- A record of a request ring's commit group, which is checked against the completion ring that it names. -/
def recOfRequestRing (c : CfgRec) : Bool :=
  match findReg c.blk c.off with
  | some (.XCH_RQ_BASE, _, _) | some (.XCH_RQ_CTL, _, _) => true
  | _ => false

/-- R486: records applied together.  The values of class S and G take force together, so that the commit of a
request ring is held against its completion ring as the same records set it (R365, R380). -/
def State.applyRecords (s : State) (cs : List CfgRec) : State :=
  let s1 := cs.foldl (fun s c => s.recWrite c) s
  let s2 := (cs.filter (fun c => !recOfRequestRing c)).foldl (fun s c => s.recEnd c) s1
  (cs.filter recOfRequestRing).foldl (fun s c => s.recEnd c) s2

/-- R487: the records of a domain act when its wake completes. -/
def State.wakeRecords (s : State) (d : Nat) : State :=
  if s.fget F.CFG_START_STATUS_PHASE 0 0 < 8 then s
  else s.applyRecords (s.ownRecords.filter (fun c => recDomain c == some d))

/-- R487, R486: a record writes OFF = 1 to PWR_DOM_CTL[d], and no later one writes that bit. -/
def State.keptOff (s : State) (d : Nat) : Bool :=
  let cs := s.ownRecords.filter (fun c => c.blk == 2 && c.off == 0x1000 + 8 * d && c.mask.testBit 9)
  (cs.getLast?.map (fun c => c.value.testBit 9)).getD false

/-- R487, R489: the domains woken at step 8. -/
def State.configuredDoms (s : State) : List Nat :=
  let kept (d : Nat) : Bool := (domPeers d).any s.keptOff
  (((List.range 32).map (2 * ·)) ++ (List.range 32).map (96 + ·)).filter (fun d => !kept d)

/-- R488: entry `k` of the home map becomes DIR_HOME[k]. -/
def State.applyHomes (s : State) (hs : List HomeRec) : State :=
  (hs.zip (List.range hs.length)).foldl (fun s p =>
    s.setActing .DIR_HOME 0 p.2 (BitVec.ofNat 64 p.1.value
      &&& BitVec.ofNat 64 (fieldBits .DIR_HOME (fun _ => true)))) s

/-- R460: the CXL groups that back home-map memory. -/
def State.backingGroups (s : State) : List Nat :=
  ((s.boot.homes.filter (fun h => h.valid && h.backing == 2 && h.home == s.devnum)).map (·.cxl)).eraseDups

/-- R486 to R489 step 7: the apply phase; step 8 begins. -/
def State.cfgApply (s : State) : State :=
  if !inRange 6 2 (s.fget F.CFG_START_STATUS_PHASE 0 0) then s
  else
    let s1 := s.fset F.CFG_START_STATUS_PHASE 0 0 7
    let s2 := (s1.applyHomes s1.boot.homes).applyRecords (s1.ownRecords.filter (fun c => !s1.recHeld c))
    let s3 : State := { s2 with
      pwr := { s2.pwr with backing := s2.backingGroups }
      img := { s2.img with digest := s2.imageDigest, listening := true } }
    let s4 := (s3.findImage.watchdogStart).fset F.CFG_START_STATUS_PHASE 0 0 8
    (s4.configuredDoms.foldl (fun s d => s.wake d 3) s4).phaseGo

/-! The way of an access -/

/-- R337: the entries of the exchange table that a write of a register of this device reads. -/
def State.writeReads (s : State) (addr : Nat) (w : Word) (x : Nat) : Bool :=
  decide (addr % 2 ^ 32 / 2 ^ 27 = s.devnum) && match findReg (addr / 2 ^ 20 % 128) (addr % 2 ^ 20) with
    | some (.XCH_CQ_HEAD, _, c) => s.reportedIn c x
    | some (.INST_OP, _, n) => s.liveOf n x
    | some (.INST_CMD, _, _) => s.liveOf (fld w 16 10) x
    | some (.PWR_DOM_CTL, _, d) => inRange 118 8 d && s.isLive x
    | some (.PCIE_PERST, _, _) => s.isLive x
    | some (.FLT_RESET, _, _) => inRange 0x60 8 (fld w 0 7) && s.isLive x
    | _ => false

/-- R154, R252: an IN of a split core is answered; its checkpoint takes it. -/
def State.takeAnswer (s : State) (lc : Nat) (v : Word) : State := (s.modCore lc (fun c => (c.ioAnswer v).commitArch)).afterCommit lc

/-- A split core whose position runs. -/
def State.splitRuns (s : State) (lc : Nat) : Bool :=
  (s.core lc).split && match s.posOf lc with
    | some q => (s.pair q).runs lc
    | none => false

/-- The answer of an access reaches who asked: of an IN of a pair its input buffer, whatever happens to the pair (R242, R247, R256); of
one of a split core the core, if it still waits (DEDUCED, log entry 177), once its position runs. -/
def State.ioReply (s : State) (reply : IoReply) (blk : Nat) (write : Bool) (v : Word) : State :=
  match reply with
  | .none => s
  | .core lc =>
    if (s.core lc).waitIo.isNone then s
    else if s.splitRuns lc then s.takeAnswer lc v
    else s.modCore lc (fun c => { c with inbox := c.inbox ++ [.answer v] })
  | .bmp => { s with bmp := { s.bmp with status := 0, value := if write then 0 else v } }
  | .remote m =>
    s.send { kind := if write then 0x33 else 0x32, src := s.devnum, mkind := 6, unit := blk, inst := 0, dst := m.src,
             poison := false, promoted := false, tag := m.tag, addr := m.addr,
             data := if write then [] else wordBytes v ++ List.replicate 8 0 }

/-- R7, R20: an access within a block: its registers, and its in-force views where it has any. -/
def State.regAccess (s : State) (blk off addr : Nat) (w : Option Word) : State × Word :=
  let view := decide (0x80000 ≤ off) && (regsOfBlock blk).any (fun r => hasClass r (fun c => c == .staged || c == .grouped))
  match findReg blk (if view then off - 0x80000 else off) with
  | none => (s.ioFault 0x002 blk addr, 0)
  | some (r, u, k) =>
    match w with
    | some v => if view then (s.ioFault 0x006 blk addr, 0) else (State.regWrite State.cfgApply s r u k v blk addr, 0)
    | none => s.regRead r u k view

/-- R43, R45, R46: an access at a block of this device. -/
def State.ioAt (s : State) (who : Master) (addr : Nat) (w : Option Word) (reply : IoReply) : State :=
  let blk := addr / 2 ^ 20 % 128
  let off := addr % 2 ^ 20
  if !blockKnown blk then (s.ioFault 0x003 blk addr).ioReply reply blk w.isSome 0
  else if !s.powered blk off then (s.ioFault 0x004 blk addr).ioReply reply blk w.isSome 0
  else if s.inReset blk then
    { s with flt := { s.flt with held := s.flt.held ++ [{ who, addr, write := w, reply }] } }
  else
    let (s1, v) := s.regAccess blk off addr w
    s1.ioReply reply blk w.isSome v

/-- R34, R391: the code of a master kind. -/
def masterCode : MasterKind → Nat
  | .core => 0
  | .engine => 1
  | .sequencer => 2
  | .bmp => 3
  | .slice => 4
  | .directory => 5

/-- R6: the block of the issuing device that logs an access to a device outside the image: the issuer's own (log entry 20). -/
def State.issuerFault (s : State) (who : Master) (addr : Nat) : State :=
  match who.kind with
  | .core => s.logFault (s.fault 0x70 ((s.posOf who.unit).getD 63) 0x001 1 2 addr)
  | .sequencer => s.logFault (s.fault (0x31 + who.unit % 8) 0 0x001 1 2 addr)
  | .bmp => s.logFault (s.fault 0x00 0 0x001 1 2 addr)
  | .engine | .slice | .directory => s

/-- The tag of an access to another member: a core's logical number, 128 for the board management port (log entry 21). -/
def ioTag (who : Master) : Nat :=
  match who.kind with
  | .core => who.unit % 128
  | _ => 128

/-- R392: an access to another member leaves as a message. -/
def State.ioSend (s : State) (who : Master) (addr : Nat) (w : Option Word) : State :=
  s.send { kind := if w.isSome then 0x31 else 0x30, src := s.devnum, mkind := masterCode who.kind, unit := who.unit, inst := who.inst,
           dst := addr / 2 ^ 27, poison := false, promoted := false, tag := ioTag who, addr,
           data := match w with
             | some v => wordBytes v ++ List.replicate 8 0
             | none => [] }

/-! Block resets end (R45) -/

/-- Accesses held at a block act on its state after the reset. -/
def State.releaseHeld (s : State) (b : Nat) : State :=
  let mine := s.flt.held.filter (fun h => h.addr / 2 ^ 20 % 128 == b)
  let s1 : State := { s with flt := { s.flt with held := s.flt.held.filter (fun h => h.addr / 2 ^ 20 % 128 != b) } }
  mine.foldl (fun s h => s.ioAt h.who h.addr h.write h.reply) s1

/-- Accesses held at blocks that are no longer in reset act. -/
def State.heldGo (s : State) : State :=
  ((s.flt.held.map (fun h => h.addr / 2 ^ 20 % 128)).eraseDups).foldl (fun s b => if s.inReset b then s else s.releaseHeld b) s

/-- An access here; where it takes the base logic's power (R467), the resets in progress end with that, and what they held acts
(R45, R46). -/
def State.ioHere (s : State) (who : Master) (addr : Nat) (w : Option Word) (reply : IoReply) : State :=
  let t := s.ioAt who addr w reply
  if s.pwr.baseOn && !t.pwr.baseOn then t.heldGo else t

/-- R4 to R6, R35: an I/O-space access of a master; one that I/O space does not reach makes none. -/
def State.ioAccess (s : State) (who : Master) (addr : Nat) (w : Option Word) (reply : IoReply) : State :=
  let a := addr % 2 ^ 32
  let d := a / 2 ^ 27
  if !who.kind.reachesIo then s
  else if who.dev ≠ s.devnum ∨ d = s.devnum then s.ioHere who a w reply
  else if !s.isMember d then (s.issuerFault who a).ioReply reply 0 w.isSome 0
  else (s.ioSend who a w)

/-! Answers from other members (R392, R409) -/

/-- R154: the IN whose answer a core waits for. -/
def Core.waitIn (c : Core) : Option IoWait :=
  if c.inbox.any Input.isAnswer then none else c.waitIo.filter (fun w => w.cas.isNone)

/-- An answer reaches the core or the port whose access it ends. -/
def State.ioAnswered (s : State) (m : Msg) (write : Bool) (v : Word) : State :=
  if m.tag = 128 then
    if s.bmp.status = 1 && s.bmp.addr / 2 ^ 27 == m.src then s.ioReply .bmp 0 write v else s
  else match (s.core m.tag).waitIn with
    | some x => if x.addr / 2 ^ 27 = m.src && !write then s.ioReply (.core m.tag) 0 false v else s
    | none => s

/-- An access awaited from a member that is lost ends as R6 says. -/
def State.lostAnswers (s : State) : State :=
  let s1 := (mapKeys s.cores).foldl (fun s lc =>
    match (s.core lc).waitIn with
    | some x =>
      if x.addr / 2 ^ 27 ≠ s.devnum && !s.isMember (x.addr / 2 ^ 27) then
        (s.issuerFault ⟨s.devnum, .core, lc, 0⟩ x.addr).ioReply (.core lc) 0 false 0
      else s
    | none => s) s
  if s1.bmp.status = 1 && s1.bmp.addr / 2 ^ 27 != s1.devnum && !s1.isMember (s1.bmp.addr / 2 ^ 27) then
    (s1.issuerFault ⟨s1.devnum, .bmp, 0, 0⟩ s1.bmp.addr).ioReply .bmp 0 false 0
  else s1

end Sys2Proof.Machine
end

