-- ==== Sys2Proof/Machine/Commit.lean ====
section
/-! DEFINITION. What leaves a core: the comparison of tokens (R239, R240), the commit of retirement groups (R252), and the
drain of the store buffer (R212). -/

namespace Sys2Proof.Machine

/-- R34: the identity of a logical core as a master. -/
def State.coreMaster (s : State) (lc : Nat) : Master := { dev := s.devnum, kind := .core, unit := lc, inst := 0 }

/-! Tokens (R240) -/

/-- R242: whether the answer to a read request can come: its line is here, or no home has it. -/
def State.canAnswer (s : State) (a : Await) : Bool :=
  s.sliceUp a.line && match s.lineState true a.own false a.line with
    | .ask _ _ => false
    | _ => true

/-- R242, R247: the answer to a request that a checked pair has released reaches its input buffer; the slice counts it a holder of
the line (R207). -/
def State.answerLine (s : State) (lc : Nat) (a : Await) : State :=
  if !a.released || (s.core lc).inbox.any (Input.answers a.line) || !s.canAnswer a then s
  else
    let s1 := if s.lineState true a.own false a.line == .here || inRom a.line then s.notePresence a.line ((s.posOf lc).getD 0) else s
    s1.modCore lc (fun c => { c with inbox := c.inbox ++ [.resp a.line (s1.coreBytes a.line 128)] })

/-- R240, R149: a read request leaves: its line is asked of its home where it is not here, with ownership where that is wanted; one of
a granule that is not yet written is held, and the granule is the next (R493). -/
def State.askAwaited (s : State) (lc : Nat) (a : Await) : State :=
  if !s.sliceUp a.line then s.wantGranule a.line
  else match s.lineState true a.own false a.line with
  | .ask k d => s.askLine (.core lc) a.line k d
  | _ => s

/-- R240, R242: the request of a checked pair for a line is released, and its answer may come. -/
def State.releaseRead (s : State) (lc line : Nat) : State :=
  match (s.core lc).awaited.find? (fun a => a.line == line && !a.released) with
  | none => s
  | some a =>
    let b : Await := { a with released := true }
    ((s.modCore lc (fun c => { c with awaited := c.awaited.map (fun x => if x = a then b else x) })).askAwaited lc b).answerLine lc b

/-- R240: what the comparison of a token releases: a read request goes to the home of its line, an acknowledgement to the
slice, a detection message to the collector; the other kinds wait for their commit, or for the core (R242). -/
def State.releaseToken (s : State) (q : Nat) (t : Token) : State :=
  match t.body with
  | .read a _ => s.releaseRead t.core (lineOf a)
  | .own a => s.releaseRead t.core (lineOf a)
  | .invAck line => s.clearBit line q
  | .faultMsg m false => s.logFault m
  | .cas a n x y => s.modCore t.core (fun c => { c with released := some (.cas a n x y) })
  | .inp a => s.modCore t.core (fun c => { c with released := some (.inp a) })
  | .store a bs => s.modCore t.core (fun c => { c with released := some (.store a bs) })
  | .out _ _ => s
  | .eventAck _ => s
  | .faultMsg _ true => s
  | .agreement _ => s

/-- The token at the head of a position's FIFO has been compared: it leaves the FIFO and is released, or held (R244). -/
def State.dropHead (s : State) (q : Nat) : State :=
  match (s.pair q).fifo with
  | [] => s
  | t :: ts => (s.modPair q (fun p => ({ p with fifo := ts } : PairPos).refill)).releaseToken q t

/-- Whether every token of a core's position has been compared. -/
def State.fifoEmpty (s : State) (lc : Nat) : Bool :=
  match s.posOf lc with
  | none => false
  | some q => (s.pair q).fifo.isEmpty

/-! Commit (R252) -/

/-- R240: what a commit releases besides stores. -/
def State.releaseAct (s : State) (lc : Nat) : Act → State
  | .out a v chks => (s.copyChecks (s.writeReads a v) chks).ioAccess (s.coreMaster lc) a (some v) .none
  | .fault m => s.logFault m
  | .merged m => s.logFault m

/-- R252: every group of a core commits: the checkpoint takes the architected state, stores may drain, held OUTs and fault
messages are released in order; a planned cut-in may then contain the pair (R262). -/
def State.commit (s : State) (lc : Nat) : State :=
  let c := s.core lc
  let s1 := s.setCore lc { c.commitArch with acts := [] }
  (c.acts.foldl (fun s a => s.releaseAct lc a.2) s1).afterCommit lc

/-- R252: the oldest closed group commits. -/
def State.commitGroup (s : State) (lc : Nat) (g : Group) : State :=
  let c := s.core lc
  let s1 := s.setCore lc { c.commitGroup g with acts := c.acts.filter (fun a => g.last ≤ a.1) }
  ((c.acts.filter (fun a => a.1 < g.last)).foldl (fun s a => s.releaseAct lc a.2) s1).afterCommit lc

/-- R252: whether everything that a core has retired can commit: no long operation is in flight, and a checked pair's tokens
have all been compared. -/
def State.canCommit (s : State) (lc : Nat) : Bool := !(s.core lc).inFlight && s.fifoEmpty lc

/-- R252: whether a group of a core can commit: its long operations have completed, its tokens have been compared. -/
def State.groupReady (s : State) (lc : Nat) (g : Group) : Bool :=
  levelNumbers.all (fun l => ((s.core lc).level l).ops.all (fun o => o.done || decide (g.last ≤ o.idx)))
    && match s.posOf lc with
      | none => false
      | some q => (s.pair q).tokens.all (fun t => t.core != lc || decide (g.last ≤ t.idx))

/-- R211: whether a store must fetch a line: the pool cache holds none of it. -/
def State.coldLine (s : State) (lines : List Nat) : Bool :=
  lines.any (fun line => (s.poolLine line).isNone && !(mapGet? s.mem.evict line).any (fun e => !e.spoilt) && !s.resident line)

/-- R212, R211: the oldest entry becomes visible at its slice and leaves the buffer, if its group has committed and its line
can be owned and is invalidated elsewhere.  An NT store that has brought its line here installs it at the least-recently-used
position. -/
def State.drainOne (s : State) (lc : Nat) : State × Bool :=
  let c := s.core lc
  match c.sb with
  | [] => (s, true)
  | e :: es =>
    if !e.kept then (s, false)
    else
      let lines := linesOf e.addr e.bytes.length
      let cold := e.cold || s.coldLine lines
      let s0 := lines.foldl State.mcAccess s
      let (s1, ready) := s0.readyWrite (.core lc) false lines
      if ready then
        let s2 := (s1.modCore lc (fun c => { c with sb := es })).storeBytes (.core lc) e.addr e.bytes
        (if e.nt && cold then lines.foldl State.toLru s2 else s2, true)
      else (s1.modCore lc (fun c => { c with sb := { e with cold := cold } :: es }), false)

/-- Entries drain in program order, `n` at most. -/
def State.drainUpTo (s : State) (lc : Nat) : Nat → State × Bool
  | 0 => (s, (s.core lc).sb.isEmpty)
  | n + 1 =>
    if (s.core lc).sb.isEmpty then (s, true)
    else match s.drainOne lc with
      | (s1, true) => s1.drainUpTo lc n
      | (s1, false) => (s1, false)

/-- The groups of a core commit once its long operations have completed and its tokens have been compared; false while one
has not, or where the commit has let a planned cut-in contain the pair. -/
def State.settleCommit (s : State) (lc : Nat) : State × Bool :=
  let s1 := s.modCore lc (fun c => c.completeAll (fun _ => true))
  if s1.fifoEmpty lc then
    let s2 := s1.commit lc
    (s2, s2.canIssue lc)
  else (s1, false)

/-- R214, R155: everything earlier has completed and become visible: long operations complete, tokens have been compared,
the groups commit, the store buffer drains.  False while a token or a line is awaited. -/
def State.quiesce (s : State) (lc : Nat) : State × Bool :=
  match s.settleCommit lc with
  | (s1, true) => s1.drainUpTo lc (s1.core lc).sb.length
  | (s1, false) => (s1, false)

/-- Whether an OUT of the core is held. -/
def Core.holdsOut (c : Core) : Bool := c.acts.any (fun a => match a.2 with
  | .out _ _ _ => true
  | _ => false)

/-- R154, R155: an OUT completes when its group has committed; the core goes on only then. -/
def State.releaseOut (s : State) (lc : Nat) : State × Bool :=
  if (s.core lc).holdsOut then s.settleCommit lc else (s, true)

/-- R242: an instruction that forms a retirement group of its own commits once its token is compared. -/
def State.groupEnd (s : State) (lc : Nat) : State := if s.canCommit lc then s.commit lc else s

/-- R212: at least `n` entries of the store buffer are free; false while they are awaited. -/
def State.sbRoom (s : State) (lc n : Nat) : State × Bool :=
  let used := (s.core lc).sb.length
  if used + n ≤ 64 then (s, true)
  else match s.settleCommit lc with
    | (s1, true) =>
      let s2 := (s1.drainUpTo lc (used + n - 64)).1
      (s2, decide ((s2.core lc).sb.length + n ≤ 64))
    | (s1, false) => (s1, false)

end Sys2Proof.Machine
end

