-- ==== Sys2Proof/Machine/Translate.lean ====
section
/-! DEFINITION. Translation of instruction and data addresses (R116 to R123). -/

namespace Sys2Proof.Machine

/-- The kinds of access a permission is checked for (R120, R149). -/
inductive Acc where
  | fetch | ild | ist | ld | st | cas | cinv | cflush | prefd | prefw | prefi
  deriving DecidableEq, Repr

/-- Whether the access is to data space (R111). -/
def Acc.data : Acc → Bool
  | .fetch => false
  | .ild => false
  | .ist => false
  | .prefi => false
  | _ => true

/-- R120: the DETAIL with which a leaf refuses the access, if it does. -/
def Acc.refused (a : Acc) (leaf : Word) (sup : Bool) : Option Nat :=
  let u := sup || bitOf leaf 6
  let dr := bitOf leaf 2 && u
  let dw := bitOf leaf 3 && u
  let ix := bitOf leaf 4 && u
  let iw := bitOf leaf 5 && u
  match a with
  | .fetch => if ix then none else some 1
  | .ild => if ix then none else some 1
  | .prefi => if ix then none else some 1
  | .ist => if iw then none else some 2
  | .ld => if dr then none else some 1
  | .cflush => if dr then none else some 1
  | .prefd => if dr then none else some 1
  | .st => if dw then none else some 2
  | .prefw => if !dr then some 1 else if !dw then some 2 else none
  | .cas => if !dr then some 1 else if !dw then some 2 else none
  | .cinv => if !dr then some 1 else if !dw then some 2 else none

/-- How a walk ends (R117 to R119). -/
inductive Walk where
  | leaf (e : Word) (shift : Nat)
  | none
  | poison (line : Nat)
  | wait
  deriving DecidableEq, Repr

/-- The byte that a core reads: of a line that the partners have agreed on for this instruction, as they have it (R248, R255). -/
def State.coreByteFor (s : State) (lc a : Nat) : Byte :=
  match (s.core lc).given.find? (·.1 == lineOf a) with
  | some g => g.2.getD (a % 128) 0
  | none => s.coreByte a

/-- `n` bytes as a core reads them, lowest first. -/
def State.coreRead (s : State) (lc a n : Nat) : List Byte := (List.range n).map (fun k => s.coreByteFor lc (a + k))

/-- R121: a pointer entry enters the table-entry cache of 64. -/
def Priv.keepEntry (p : Priv) (a : Nat) (e : Word) : Priv :=
  if p.tec.contains (a, e) then p
  else
    let kept := p.tec.filter (fun x => x.1 != a)
    { p with tec := (if 64 ≤ kept.length then kept.drop 1 else kept) ++ [(a, e)] }

/-- How the read of a table entry ends. -/
inductive EntryRead where
  | entry (e : Word)
  | poison (line : Nat)
  | wait
  deriving DecidableEq, Repr

/-- R117, R240: a table entry is read from memory, through the pool cache; a checked pair agrees on its line first. -/
def State.readEntry (s : State) (lc a : Nat) : State × EntryRead :=
  match s.demand lc (lineOf a) false with
  | (s1, false) => (s1, .wait)
  | (s1, true) =>
    match s1.readyRead (.core lc) [lineOf a] with
    | (s2, .poison l) => (s2, .poison l)
    | (s2, .wait) => (s2, .wait)
    | (s2, .ok) => (s2, .entry (BitVec.ofNat 64 (bytesToNat (s2.coreRead lc a 8))))

/-- R121, R122: the table entry at an address: where the table-entry cache holds another than memory does, either may be
used. -/
def State.tableEntry (s : State) (lc a : Nat) : State × EntryRead :=
  match (s.core lc).priv.tec.find? (fun x => x.1 == a) with
  | none => s.readEntry lc a
  | some (_, v) =>
    if v = BitVec.ofNat 64 (bytesToNat (s.coreBytes a 8)) then (s, .entry v)
    else if Config.tlbStale s.free then (s.draw, .entry v)
    else (s.draw.modCore lc (fun c => { c with priv := { c.priv with tec := c.priv.tec.filter (fun x => x.1 != a) } })).readEntry lc a

/-- R117, R119: the walk, one table level for each index position; it reads memory coherently and never sees
the core's own buffered stores (R214). -/
def State.walk (lc va : Nat) : List Nat → Nat → State → State × Walk
  | [], _, s => (s, .none)
  | sh :: rest, base, s =>
    let a := base + 8 * nfld va sh 9
    match s.tableEntry lc a with
    | (s1, .poison l) => (s1, .poison l)
    | (s1, .wait) => (s1, .wait)
    | (s2, .entry e) =>
      if !bitOf e 0 || fld e 52 12 != 0 then (s2, .none)
      else if bitOf e 1 then
        if sh = 39 || fld e 12 (sh - 12) != 0 then (s2, .none) else (s2, .leaf e sh)
      else if sh = 12 then (s2, .none)
      else State.walk lc va rest (fld e 12 40 * 2 ^ 12) (s2.modCore lc (fun c => { c with priv := c.priv.keepEntry a e }))

/-- R117: the index positions of the four table levels. -/
def walkShifts : List Nat := [39, 30, 21, 12]

/-- A translated address: physical address and bytes left to the end of its page; or why there is none. -/
inductive Tr where
  | ok (pa left : Nat)
  | refused (detail : Nat)
  | poison (line : Nat)
  | wait
  deriving DecidableEq, Repr

/-- An access through a leaf entry mapping 2^sh bytes. -/
def leafTr (a : Acc) (sup : Bool) (va : Nat) (e : Word) (sh : Nat) : Tr :=
  match a.refused e sup with
  | some d => .refused d
  | none => .ok (fld e 12 40 * 2 ^ 12 / 2 ^ sh * 2 ^ sh + va % 2 ^ sh) (2 ^ sh - va % 2 ^ sh)

/-- R121: the TLB entry that matches. -/
def tlbFind (tlb : List TlbEntry) (data : Bool) (asid va : Nat) : Option TlbEntry :=
  tlb.find? (fun t => t.data == data && (t.gl || t.asid == asid) && inRange t.vbase t.size va)

/-- The TLB entry for a leaf. -/
def tlbMake (data : Bool) (asid va : Nat) (e : Word) (sh : Nat) : TlbEntry :=
  { data, asid, gl := bitOf e 7, vbase := va / 2 ^ sh * 2 ^ sh, size := 2 ^ sh, leaf := e }

/-- R117: an address is canonical if bits [63:48] all equal bit 47. -/
def canonicalVa (va : Nat) : Bool := nfld va 47 17 == 0 || nfld va 47 17 == 2 ^ 17 - 1

/-- R205, R121: a translation enters the TLB of 4,096 entries in 8 ways. -/
def Priv.keepPage (p : Priv) (pick : Nat) (t : TlbEntry) : Priv :=
  if p.tlb.contains t then p
  else
    let set (x : TlbEntry) : Nat := x.vbase / 4096 % 512
    let same := p.tlb.filter (fun x => set x == set t)
    { p with tlb := (if same.length < 8 then p.tlb
        else match same[pick % 8]? with
          | some v => p.tlb.erase v
          | none => p.tlb) ++ [t] }

/-- Whether the tables, as memory holds them now, give this leaf for an address: a TLB entry then is as good as a walk. -/
def State.tablesSay (s : State) (va base : Nat) (leaf : Word) (shift : Nat) : Bool :=
  go walkShifts base
where
  go : List Nat → Nat → Bool
    | [], _ => false
    | sh :: rest, base =>
      let e : Word := BitVec.ofNat 64 (bytesToNat (s.coreBytes (base + 8 * nfld va sh 9) 8))
      if bitOf e 1 then e == leaf && sh == shift
      else bitOf e 0 && fld e 52 12 == 0 && go rest (fld e 12 40 * 2 ^ 12)

/-- R208: the table entry that an access's walk takes last from the table-entry cache. -/
def State.tecPath (s : State) (lc va : Nat) : List Nat → Nat → Option Nat → Option Nat
  | [], _, last => last
  | sh :: rest, base, last =>
    let a := base + 8 * nfld va sh 9
    match (s.core lc).priv.tec.find? (fun x => x.1 == a) with
    | none => last
    | some (_, e) => s.tecPath lc va rest (fld e 12 40 * 2 ^ 12) (some a)

/-- R116 to R122: an access at level `l` of a core is translated.  Where a TLB entry differs from what the
tables now say, either may be used (R122). -/
def State.translate (s : State) (lc l : Nat) (a : Acc) (va : Nat) (sup : Bool) : State × Tr :=
  let v := (s.core lc).level l
  let root := if a.data then v.droot else v.iroot
  let asid := fld v.asid 0 16
  if !bitOf root 0 then
    if sup && decide (va < 2 ^ 52) then (s, .ok va (2 ^ 30 - va % 2 ^ 30)) else (s, .refused 0)
  else if !canonicalVa va then (s, .refused 0)
  else
    let walked (s : State) : State × Tr :=
      match State.walk lc va walkShifts (fld root 12 40 * 2 ^ 12) s with
      | (s1, .none) => (s1, .refused 0)
      | (s1, .poison line) => (s1, .poison line)
      | (s1, .wait) => (s1, .wait)
      | (s1, .leaf e sh) =>
        (s1.modCore lc (fun c => { c with priv := c.priv.keepPage (Config.victim s1.free) (tlbMake a.data asid va e sh) }),
          leafTr a sup va e sh)
    match tlbFind (s.core lc).priv.tlb a.data asid va with
    | none => walked s
    | some t =>
      let kept : Tr := leafTr a sup va t.leaf (Nat.log2 t.size)
      if s.tablesSay va (fld root 12 40 * 2 ^ 12) t.leaf (Nat.log2 t.size) then (s, kept)
      else if Config.tlbStale s.free then (s.draw, kept)
      else walked s.draw

end Sys2Proof.Machine
end

