-- ==== Sys2Proof/Machine/Caches.lean ====
section
/-! DEFINITION. The private structures of a core at work (R205 to R211): demand fills, the prefetch side
buffer, the hardware prefetcher, the loop buffer (R200 to R204).  They change no result. -/

namespace Sys2Proof.Machine

/-- The even core of the position that carries a logical core: its window of block 0x70. -/
def State.windowOf (s : State) (lc : Nat) : Nat := 2 * (s.posOf lc).getD 0

/-- R209: a line enters the side buffer; a new fill replaces the oldest of 32. -/
def Priv.sideFill (p : Priv) (line : Nat) (instr : Bool) : Priv :=
  if p.side.any (·.1 == line) then p
  else { p with side := (if 32 ≤ p.side.length then p.side.drop 1 else p.side) ++ [(line, instr)] }

/-- R211: an NT load's line enters the side buffer as the oldest line; of a full buffer the oldest is replaced. -/
def Priv.sideFillOldest (p : Priv) (line : Nat) : Priv :=
  if p.side.any (·.1 == line) then p
  else { p with side := (line, false) :: (if 32 ≤ p.side.length then p.side.drop 1 else p.side) }

def Priv.fillL1d (p : Priv) (pick line : Nat) : Priv :=
  { p with l1d := cacheFill 8 128 pick line (· / 128) p.l1d, side := p.side.filter (fun x => x.1 != line || x.2) }

def Priv.fillL1i (p : Priv) (pick line : Nat) : Priv :=
  { p with l1i := cacheFill 8 128 pick line (· / 128) p.l1i }

def Priv.fillL2 (p : Priv) (pick line : Nat) : Priv :=
  { p with l2 := cacheFill 16 2048 pick line l2Set p.l2 }

/-- Whether a private structure of the core holds a line for an access of a kind. -/
def Priv.holds (p : Priv) (line : Nat) (instr : Bool) : Bool :=
  p.side.any (·.1 == line) || p.l2.contains line || (if instr then p.l1i else p.l1d).contains line

/-- R206, R209: whether a demand access of a kind finds its line in the core's own structures. -/
def Priv.hits (p : Priv) (line : Nat) (instr : Bool) : Bool :=
  p.side.any (fun x => x.1 == line && x.2 == instr) || p.l2.contains line || (if instr then p.l1i else p.l1d).contains line

/-- R240, R246: the lines that an access of a core misses are demanded; true when it may go on. -/
def State.demands (s : State) (lc : Nat) (instr : Bool) (lines : List Nat) : State × Bool :=
  lines.foldl (fun a line =>
    if (a.1.core lc).priv.hits line instr then a
    else let (t, ok) := a.1.demand lc line instr; (t, a.2 && ok)) (s, true)

/-- R209: a line that has come enters the side buffer; one that is poisoned is dropped (R210). -/
def State.fillSide (s : State) (lc line : Nat) (instr : Bool) : State :=
  let fill := (s.modCore lc (fun c => { c with priv := c.priv.sideFill line instr })).notePresence line ((s.posOf lc).getD 0)
  match s.lineState true false false line with
  | .here => if s.poisoned line then s else fill
  | .rom => fill
  | _ => s

/-- R209, R210, R238, R240: a line is prefetched into the side buffer; one whose slice holds accesses to it comes when they go on.  A checked pair requests it with a token, and drops the prefetch
where its FIFO has fewer than 8 places left (DESIGN CHOICE, log entry 128); any other core takes the line at once if it is here, and
otherwise when it comes. -/
def State.prefetchLine (s : State) (lc line : Nat) (instr : Bool) : State :=
  let c := s.core lc
  if c.priv.holds line instr || c.awaited.any (·.line == line) then s
  else if s.isChecked lc then (if s.fifoRoom lc 8 then s.produce lc ⟨line, instr, false, false, false⟩ else s)
  else if !s.sliceUp line then s.modCore lc (fun c => { c with awaited := c.awaited ++ [⟨line, instr, false, false, true⟩] })
  else match s.lineState true false false line with
  | .ask k d => (s.modCore lc (fun c => { c with awaited := c.awaited ++ [⟨line, instr, false, false, true⟩] })).askLine (.core lc) line k d
  | _ => s.fillSide lc line instr

/-- R149, R209, R240: PREFW: the line is prefetched, and write ownership of it is asked for. -/
def State.prefetchOwned (s : State) (lc line : Nat) : State :=
  let a : Await := ⟨line, false, false, true, true⟩
  if (s.core lc).awaited.any (·.line == line) then s
  else if s.isChecked lc then (if s.fifoRoom lc 8 then s.produce lc { a with released := false } else s)
  else if !s.sliceUp line then s.modCore lc (fun c => { c with awaited := c.awaited ++ [a] })
  else match s.lineState true true false line with
  | .here => if (s.core lc).priv.holds line false then s else s.fillSide lc line false
  | .ask k d => (s.modCore lc (fun c => { c with awaited := c.awaited ++ [a] })).askLine (.core lc) line k d
  | _ => s

/-- R209, R248: the answer to a core's read request has reached it: an instruction that waits for it has its bytes; a prefetched line
enters the side buffer. -/
def State.takeLine (s : State) (lc line : Nat) (bs : List Byte) : State :=
  match (s.core lc).awaited.find? (·.line == line) with
  | none => s
  | some a =>
    let s1 := s.modCore lc (fun c => { c with awaited := c.awaited.filter (·.line != line) })
    if a.demand then s1.modCore lc (fun c => { c with given := c.given ++ [(line, bs)] })
    else s1.fillSide lc line a.instr

/-- R210: DEPTH + 1 lines ahead of a stream, within its 4 KiB physical page. -/
def State.streamAhead (s : State) (lc : Nat) (st : Stream) : State :=
  let n := s.fget F.CORE_PREF_CTL_DEPTH (s.windowOf lc) 0 + 1
  (List.range n).foldl (fun (s : State) (k : Nat) =>
    let t : Int := (st.last : Int) + st.stride * 128 * ((k : Int) + 1)
    if 0 ≤ t ∧ t.toNat / 4096 = st.last / 4096 then s.prefetchLine lc t.toNat st.instr else s) s

/-- R210: a demand access to a line that missed L1, or was prefetched, is shown to the prefetcher: it follows a
stream, or forms one after three misses at one stride of at most 2 KiB within a page.  A seventeenth stream takes the place of the
oldest, and the last 16 misses count (DESIGN CHOICE, log entry 167). -/
def State.prefetcher (s : State) (lc line : Nat) (instr : Bool) : State :=
  if !s.fbit F.CORE_PREF_CTL_HW_EN (s.windowOf lc) 0 then s
  else
    let p := (s.core lc).priv
    match p.streams.find? (fun st => st.instr == instr && (st.last : Int) + st.stride * 128 == (line : Int)
        && st.last / 4096 == line / 4096) with
    | some st =>
      let st' := { st with last := line }
      (s.modCore lc (fun c => { c with priv := { c.priv with
          streams := c.priv.streams.map (fun x => if x = st then st' else x) } })).streamAhead lc st'
    | none =>
      let seen := (p.misses.filter (fun m => m.1 == instr && m.2 / 4096 == line / 4096)).map (·.2)
      let s1 := s.modCore lc (fun c => { c with priv := { c.priv with
          misses := (c.priv.misses ++ [(instr, line)]).drop ((c.priv.misses.length + 1) - 16) } })
      match seen.reverse with
      | m1 :: m2 :: _ =>
        let d1 : Int := (line : Int) - m1
        let d2 : Int := (m1 : Int) - m2
        if d1 = d2 ∧ d1 ≠ 0 ∧ d1.natAbs ≤ 2048 then
          let st : Stream := { instr, stride := d1 / 128, last := line }
          (s1.modCore lc (fun c => { c with priv := { c.priv with
              streams := (c.priv.streams ++ [st]).drop ((c.priv.streams.length + 1) - 16) } })).streamAhead lc st
        else s1
      | _ => s1

/-- R206, R209, R211: a demand load touches a line.  An NT load fills neither L1 nor L2; it trains the prefetcher as any
other. -/
def State.touchData (s : State) (lc line : Nat) (nt : Bool) : State :=
  let p := (s.core lc).priv
  let pick := Config.victim s.free
  let q := (s.posOf lc).getD 0
  if p.l1d.contains line then s
  else if p.side.any (fun x => x.1 == line && !x.2) then
    (if nt then s else s.modCore lc (fun c => { c with priv := c.priv.fillL1d pick line })).prefetcher lc line false
  else
    let s1 := if p.l2.contains line then s else s.notePresence line q
    (s1.modCore lc (fun c => { c with priv :=
      if nt then c.priv.sideFillOldest line else (c.priv.fillL1d pick line).fillL2 pick line })).prefetcher lc line false

/-- R206, R209: a demand fetch, or ILD, touches a line. -/
def State.touchInstr (s : State) (lc line : Nat) : State :=
  let p := (s.core lc).priv
  let pick := Config.victim s.free
  if p.l1i.contains line then s
  else
    let s1 := if p.l2.contains line || p.side.any (fun x => x.1 == line && x.2) then s
      else s.notePresence line ((s.posOf lc).getD 0)
    (s1.modCore lc (fun c => { c with priv :=
      { (c.priv.fillL1i pick line).fillL2 pick line with side := c.priv.side.filter (fun x => x.1 != line || !x.2) } })).prefetcher
        lc line true

/-! Loop buffer -/

/-- The newest decoded operations, 64 at most; an LDM or STM counts as one for each of its registers. -/
def takeOps : Nat → List RingOp → List RingOp
  | _, [] => []
  | n, o :: os => if o.n ≤ n then o :: takeOps (n - o.n) os else []

/-- A decoded operation enters the ring of 64 (R200); one that the loop buffer plays is not decoded again. -/
def Priv.pushRing (p : Priv) (o : RingOp) : Priv :=
  if (p.loop.getD []).any (·.ia == o.ia) then p else { p with ring := takeOps 64 (o :: p.ring) }

/-- The decoded operations of the ring that follow one another from an address to that of the last, both included; none where one
of them was not decoded. -/
def bodyFrom (ring : List RingOp) : Nat → Word → Word → Option (List RingOp)
  | 0, _, _ => none
  | n + 1, a, last =>
    match ring.find? (·.ia == a) with
    | none => none
    | some o => if a = last then some [o] else (bodyFrom ring n (a + BitVec.ofNat 64 o.len) last).map (o :: ·)

/-- R200: the body that a taken branch at `ia` to `target`, backward, captures: its operations are in the ring, at most 64 and none
barred, and its branches stay within it. -/
def Priv.captures (p : Priv) (ia target : Word) : Option (List RingOp) :=
  if ia.toNat ≤ target.toNat then none
  else match bodyFrom p.ring 64 target ia with
    | none => none
    | some ops =>
      if decide ((ops.map (·.n)).sum ≤ 64) && ops.all (fun o => !o.barred && match o.target with
          | none => true
          | some t => ops.any (·.ia == t)) then some ops else none

/-- R200, R201: after a branch at `ia`: a branch within the body keeps it playing; any other that is taken, and the loop branch not
taken, ends it. -/
def Priv.branch (p : Priv) (ia next : Word) (taken : Bool) : Priv :=
  let playing := p.loop.getD []
  if taken && playing.any (·.ia == next) then p
  else if taken then { p with loop := p.captures ia next }
  else if (playing.getLast?.any (·.ia == ia)) then { p with loop := none }
  else p

/-- R200: the operation that the loop buffer plays at an address; the core then fetches nothing. -/
def Priv.played (p : Priv) (ia : Word) : Option RingOp := (p.loop.getD []).find? (·.ia == ia)
def Priv.plays (p : Priv) (ia : Word) : Bool := (p.played ia).isSome

/-- R203: a store to these lines matches the loop buffer's body or an instruction line of the side buffer. -/
def Priv.streamMatch (p : Priv) (lines : List Nat) : Bool :=
  p.side.any (fun x => x.2 && lines.contains x.1) || (p.loop.getD []).any (fun o => o.lines.any lines.contains)

end Sys2Proof.Machine
end

