-- ==== Sys2Proof/Machine/Errors.lean ====
section
/-! DEFINITION. Errors found on the way of a read: parity of the private structures (R208), the pool cache's codes
(R221, R222, R236), the memory controllers' correction (R232, R233, R237). -/

namespace Sys2Proof.Machine

/-- R208: the affected line or entry is dropped: `a` is a line, of the TLB a virtual address that an entry translates, of the
table-entry cache the address of an entry. -/
def Priv.dropStruct (p : Priv) (k : PrivKind) (a : Nat) : Priv :=
  match k with
  | .l1i => { p with l1i := p.l1i.filter (· != a) }
  | .l1d => { p with l1d := p.l1d.filter (· != a) }
  | .l2 => { p with l2 := p.l2.filter (· != a) }
  | .side => { p with side := p.side.filter (·.1 != a) }
  | .tlb => { p with tlb := p.tlb.filter (fun t => !inRange t.vbase t.size a) }
  | .tec => { p with tec := p.tec.filter (fun x => x.1 != a) }

/-- R235: the field that counts a structure's errors. -/
def privField : PrivKind → FieldRef
  | .l1i => F.CORE_CACHE_ERR_L1I
  | .l1d => F.CORE_CACHE_ERR_L1D
  | .l2 => F.CORE_CACHE_ERR_L2
  | _ => F.CORE_CACHE_ERR_OTHER

/-- R208: the C0 message of a parity error. -/
def State.parityMsg (s : State) (lc : Nat) : FaultMsg := s.fault 0x70 ((s.posOf lc).getD 63) 0x103 0 0 0

/-- R208, R235, R250: a parity error in a private structure of a core, counted.  A checked pair reads on through the other
partner's copy, reports a notice, and at its next agreement point drops the line or entry and produces the message as a
token; any other core drops it at once and logs it. -/
def State.privParity (s : State) (lc : Nat) (k : PrivKind) (line : Nat) : State :=
  let s1 := s.fcount (privField k) (s.windowOf lc) 0 1
  match s.posOf lc with
  | none => s1
  | some q =>
    if (s.pair q).checks then
      s1.modPair q (fun p => { p with notices := if p.notices.contains (k, line) then p.notices else p.notices ++ [(k, line)] })
    else
      let s2 := s1.modCore lc (fun c => { c with priv := c.priv.dropStruct k line })
      s2.logFault (s2.parityMsg lc)

/-- One error met by a read of a line, on behalf of logical core `lc` where there is one; those of its translation come before. -/
def State.errSeen (s : State) (lc : Option Nat) (line : Nat) (e : ErrSeen) : State :=
  match e, lc with
  | .priv .tlb, some _ => s
  | .priv .tec, some _ => s
  | .priv k, some c => s.privParity c k line
  | _, _ => s.lineErr line e

/-- R208, R121: the parity errors that the translation of an access meets: of the TLB entry that matches, or, where none does, of the
last entry that the walk takes from the table-entry cache. -/
def State.transErrs (s : State) (lc l : Nat) (a : Acc) (va : Nat) (es : List ErrSeen) : State :=
  let v := (s.core lc).level l
  let root := if a.data then v.droot else v.iroot
  if !bitOf root 0 then s
  else match tlbFind (s.core lc).priv.tlb a.data (fld v.asid 0 16) va with
    | some _ => if es.contains (.priv .tlb) then s.privParity lc .tlb va else s
    | none =>
      match s.tecPath lc va walkShifts (fld root 12 40 * 2 ^ 12) none with
      | some x => if es.contains (.priv .tec) then s.privParity lc .tec x else s
      | none => s

/-- The errors met by a read, in order. -/
def State.errsSeen (s : State) (lc : Option Nat) (line : Nat) (es : List ErrSeen) : State :=
  es.foldl (fun s x => s.errSeen lc line x) s

end Sys2Proof.Machine
end

