-- ==== Sys2Proof/Machine/Agree.lean ====
section
/-! DEFINITION. Agreement points of a checked pair (R246 to R250), and what happens at the boundary before an instruction. -/

namespace Sys2Proof.Machine

/-- R240: an event acknowledgement for each event that a core has consumed since it stood as given. -/
def State.ackConsumed (s : State) (before : Core) (lc : Nat) : State :=
  let c := s.core lc
  let fresh := if c.commits = before.commits then c.consumed.drop before.consumed.length else c.consumed
  fresh.foldl (fun s r => match r.inp with
    | .event _ e _ => s.pushToken lc (.eventAck e.src)
    | _ => s) s

/-- R235, R251: the staged CORE_PREF_CTL of a position takes force, in the state of its cores too. -/
def State.takePref (s : State) (q : Nat) : State :=
  let s1 := s.takeStaged .CORE_PREF_CTL (2 * q) 0
  (s1.coresAt q).foldl (fun s lc => s.modCore lc (fun c => { c with arch := { c.arch with
    pref := s1.acting .CORE_PREF_CTL (2 * q) 0 } })) s1

/-- R250, R240: the lines and entries of the parity notices leave the private structures of a position; a token carries each
message. -/
def State.applyNotices (s : State) (q : Nat) : State :=
  let ns := (s.pair q).notices
  let s1 := (s.coresAt q).foldl (fun s lc => s.modCore lc (fun c => { c with
    priv := ns.foldl (fun p n => p.dropStruct n.1 n.2) c.priv })) s
  let lc := (s.pair q).logicalCore
  (ns.foldl (fun s _ => s.pushToken lc (.faultMsg (s.parityMsg lc) false)) s1).modPair q (fun p => { p with notices := [] })

/-- R248, R255: an invalidation of an agreed set is applied, and acknowledged by a token; one that a retry presents again has been
acknowledged. -/
def State.agreeInval (s : State) (lc line : Nat) (again : Bool) : State :=
  let s1 := s.modCore lc (fun c => ({ c with priv := c.priv.drop line } : Core).note (.inval line))
  if again then s1 else s1.pushToken lc (.invAck line)

/-- R248: a response of an agreed set: a line that a read received, or the value of an IN or a CAS. -/
def State.agreeResp (s : State) (lc : Nat) (i : Input) : State :=
  match i with
  | .resp line bs => (s.modCore lc (fun c => c.note i)).takeLine lc line bs
  | .answer v => s.modCore lc (fun c => (c.note i).ioAnswer v)
  | _ => s

/-- R247, R248: the inputs of an agreed set: invalidations, then responses, then events. -/
def State.agreeInputs (s : State) (lc : Nat) (set : List Input) (again : Bool) : State :=
  let s1 := (set.filterMap Input.line?).foldl (fun s line => s.agreeInval lc line again) s
  let s2 := set.foldl (fun s i => s.agreeResp lc i) s1
  set.foldl (fun s i => match i with
    | .event l e _ => s.modCore lc (fun c => c.deliver l e)
    | _ => s) s2

/-- R93, R255: an event stays in the input buffer while a floating-point switch is in progress, or a retry still presents the log. -/
def Core.keepsEvents (c : Core) : Bool := c.fpBusy || !c.replay.isEmpty

/-- R247, R255, R93: the set that the next agreement point consumes: the log's next, where it is due; else what the input buffer
holds, but for the events that stay in it. -/
def Core.agreedSet (c : Core) : List Input :=
  if c.logDue then c.logSet.map (·.inp) else c.inbox.filter (fun i => !(c.keepsEvents && i.isEvent))

/-- The core with that set taken away. -/
def Core.sealed (c : Core) : Core :=
  let c1 := if c.logDue then c.logNext
    else { c with inbox := c.inbox.filter (fun i => c.keepsEvents && i.isEvent), points := c.points + 1 }
  { c1 with retired := 0, due := false, stalls := false }

/-- R244: the FIFO has room for the token of an agreement exchange; what further tokens of the point find no room hold the leading
partner there (DESIGN CHOICE, log entry 26). -/
def State.agreeRoom (s : State) (q : Nat) : Bool := s.fifoRoom (s.pair q).logicalCore 1

/-- R246 to R250, R235, R266: a checked pair takes an agreement point: the agreed set is sealed and applied with the notices, and the
count is exchanged.  An accepted SPLIT is handed over here, but not during a floating-point switch, nor while a retry still presents
the log. -/
def State.agree (s : State) (q : Nat) : State :=
  let lc := (s.pair q).logicalCore
  let before := s.core lc
  let s1 := (s.pushToken lc (.agreement before.retired)).modCore lc Core.sealed
  let s2 := ((s1.applyNotices q).takePref q).agreeInputs lc before.agreedSet before.logDue
  (s2.ackConsumed before lc).modPair q (fun p => { p with
    atSplit := p.atSplit || (p.splitReq.isSome && !before.fpBusy && (s2.core lc).replay.isEmpty) })

/-- R246: a checked pair that is idle, or waits for an input, agrees on an input as it arrives. -/
def State.agreeIdle (s : State) (q : Nat) : State :=
  let c := s.core (s.pair q).logicalCore
  if (c.current.isNone || c.waitIo.isSome || c.stalls) && !c.agreedSet.isEmpty && s.agreeRoom q && !(s.pair q).atSplit then s.agree q
  else s

/-- R242: the value of an IN that waited in the buffer of a split core, whose position did not run as it came, completes it. -/
def State.lateAnswer (s : State) (lc : Nat) : State :=
  match (s.core lc).inbox.findSome? Input.answer? with
  | some v => (s.modCore lc (fun c => { c with inbox := c.inbox.filter (fun i => !i.isAnswer) })).takeAnswer lc v
  | none => s

/-- R209, R242, R247, R256: the answers to read requests that have come reach the input buffers of pairs, whatever happens to them, and
split cores that run. -/
def State.answers (s : State) : State :=
  (mapKeys s.cores).foldl (fun s lc =>
    let s1 := if s.splitRuns lc then s.lateAnswer lc else s
    (s1.core lc).awaited.foldl (fun s a =>
      let s := if a.released then s.askAwaited lc a else s
      if !(s.core lc).split then s.answerLine lc a
      else if s.splitRuns lc && s.canAnswer a then s.takeLine lc a.line []
      else s) s1) s

/-- R246: what has arrived reaches cores, and checked pairs that are idle or wait agree on it. -/
def State.arrivals (s : State) : State :=
  positions.foldl (fun s q => if (s.pair q).checks && !s.flt.fatal then s.agreeIdle q else s) s.answers

/-- R246, R247: what an instruction of a checked pair finds before it: an agreement point that is due, or one that the log presents
again, is taken; an instruction that waits for an input waits on while there is nothing to agree on. -/
def State.agreeFirst (s : State) (q : Nat) : State × Bool :=
  let c := s.core (s.pair q).logicalCore
  if c.due || c.logDue || (c.stalls && !c.agreedSet.isEmpty) then (if s.agreeRoom q then (s.agree q, true) else (s, false))
  else (s, !c.stalls)

/-- Whether a checked pair has anything to agree on at the instruction at which it stands. -/
def Core.mustAgree (c : Core) : Bool := !c.agreedSet.isEmpty || c.logReady true

/-- R246: an instruction of a checked pair waits: an agreement point is due where it stands once there is anything to agree on, so that
whoever waits for an acknowledgement of the pair gets it. -/
def State.agreeSoon (s : State) (lc : Nat) : State :=
  if s.isChecked lc && (s.core lc).mustAgree then s.modCore lc (fun c => { c with due := true }) else s

/-- What the boundary before an instruction brings: an agreement point (R246), a staged CORE_PREF_CTL of a split core (R235), the
emptying of the store buffer before a refetch (R203), the completion of an OUT (R154), and, on a core that is not checked, events
that a retry presents again (R255).  False where the core must still wait. -/
def State.boundary (s : State) (lc : Nat) : State × Bool :=
  let q := (s.posOf lc).getD 0
  let (s1, agreed) := if s.isChecked lc then s.agreeFirst q
    else if (s.pair q).st == .split then (s.takePref q, true) else (s, true)
  if !agreed then (s1, false)
  else
    let (s2, out) := s1.releaseOut lc
    if !out then (s2, false)
    else
      let (s3, clear) := if (s2.core lc).refetch then s2.quiesce lc else (s2, true)
      if !clear then (s3.agreeSoon lc, false)
      else
        let s4 := s3.modCore lc (fun c =>
          let c1 := { c with refetch := false }
          if s3.isChecked lc then c1 else c1.present)
        (s4.ackConsumed (s3.core lc) lc, true)

end Sys2Proof.Machine
end

