-- ==== Sys2Proof/Machine/Flags.lean ====
section
/-! DEFINITION. The flag computations (R132, R133) and the integer operations that set them.  A flag set is
a number laid out as SW[3:0]: C, V, Z, N from bit 0 up.  `w` is the width: 64, or 32 under W32 (R101).
Operands are numbers below 2 ^ w. -/

namespace Sys2Proof.Machine

/-- A flag set from its four flags. -/
def mkFlags (c v z n : Bool) : Nat := b2n c + 2 * b2n v + 4 * b2n z + 8 * b2n n

/-- The top bit of a `w`-bit number. -/
def topBit (w x : Nat) : Bool := x.testBit (w - 1)

/-- A result with its flags. -/
structure Alu where
  res : Nat
  flags : Nat
  deriving DecidableEq, Repr

/-- R132, logic: N and Z from the result, C = V = 0. -/
def aluLogic (w r : Nat) : Alu :=
  ⟨r % 2 ^ w, mkFlags false false (r % 2 ^ w == 0) (topBit w (r % 2 ^ w))⟩

/-- R132, add, with carry-in. -/
def aluAdd (w a b cin : Nat) : Alu :=
  let r := (a + b + cin) % 2 ^ w
  ⟨r, mkFlags (decide (2 ^ w ≤ a + b + cin))
    (decide (signedOf w a + signedOf w b + (cin : Int) ≠ signedOf w r)) (r == 0) (topBit w r)⟩

/-- R132, subtract, with borrow-in: C = 1 if no borrow occurs. -/
def aluSub (w a b bin : Nat) : Alu :=
  let r := (a + 2 ^ w + 2 ^ w - b - bin) % 2 ^ w
  ⟨r, mkFlags (decide (b + bin ≤ a))
    (decide (signedOf w a - signedOf w b - (bin : Int) ≠ signedOf w r)) (r == 0) (topBit w r)⟩

/-- R131, ABS: N and Z from the result, C = 0, V = 1 only for the most negative number. -/
def aluAbs (w a : Nat) : Alu :=
  let r := if topBit w a then (2 ^ w - a) % 2 ^ w else a
  ⟨r, mkFlags false (a == 2 ^ (w - 1)) (r == 0) (topBit w r)⟩

/-- R131: the number of leading zero bits. -/
def leadingZeros : Nat → Nat → Nat
  | 0, _ => 0
  | w + 1, x => if x.testBit w then 0 else 1 + leadingZeros w x

/-- R131: the number of 1 bits. -/
def popCount : Nat → Nat → Nat
  | 0, _ => 0
  | w + 1, x => b2n (x.testBit w) + popCount w x

/-- R131, R129: bytes reversed. -/
def byteSwap (w x : Nat) : Nat := bytesToNat ((natToBytes (w / 8) x).reverse)

/-- R133, MUL: C if the unsigned product exceeds the width, V if the signed product does. -/
def aluMul (w a b : Nat) : Alu :=
  let r := a * b % 2 ^ w
  ⟨r, mkFlags (decide (2 ^ w ≤ a * b)) (decide (signedOf w a * signedOf w b ≠ signedOf w r)) (r == 0)
    (topBit w r)⟩

/-- R133, MULH and MULHU: the high half of the product. -/
def mulHighS (w a b : Nat) : Nat := ((signedOf w a * signedOf w b) / (2 ^ w : Int) % (2 ^ w : Int)).toNat
def mulHighU (w a b : Nat) : Nat := a * b / 2 ^ w % 2 ^ w

/-- R133: flags of a shift, logic with the given carry; for n = 0 the carry is 0. -/
def shiftAlu (w n r : Nat) (c : Bool) : Alu :=
  ⟨r % 2 ^ w, mkFlags (n != 0 && c) false (r % 2 ^ w == 0) (topBit w (r % 2 ^ w))⟩

/-- R133, SHL: C = bit (w − n) of ra. -/
def aluShl (w a n : Nat) : Alu := shiftAlu w n (a * 2 ^ n) (a.testBit (w - n))

/-- R133, SHR: C = bit (n − 1) of ra. -/
def aluShr (w a n : Nat) : Alu := shiftAlu w n (a / 2 ^ n) (a.testBit (n - 1))

/-- R133, SAR: copies of the top bit enter. -/
def aluSar (w a n : Nat) : Alu :=
  shiftAlu w n ((signedOf w a / (2 ^ n : Int)) % (2 ^ w : Int)).toNat (a.testBit (n - 1))

/-- R133, ROR: C = top bit of the result. -/
def aluRor (w a n : Nat) : Alu :=
  let r := (a / 2 ^ n + a * 2 ^ (w - n)) % 2 ^ w
  shiftAlu w n r (topBit w r)

/-- R110: the condition codes on C, V, Z, N. -/
def condHolds (cond : Nat) (c v z n : Bool) : Bool :=
  match cond with
  | 0 => z
  | 1 => !z
  | 2 => c
  | 3 => !c
  | 4 => n
  | 5 => !n
  | 6 => v
  | 7 => !v
  | 8 => c && !z
  | 9 => !c || z
  | 10 => n == v
  | 11 => n != v
  | 12 => !z && n == v
  | 13 => z || n != v
  | _ => true

/-! Division by steps (R134, R135) -/

/-- One DSTEP: remainder p, quotient q, divisor d, state s; answers p, q, s (R134). -/
def divStep (p q d : Nat) (s : Bool) : Nat × Nat × Bool :=
  let x : Int := 2 * ((p : Int) - (if s then (2 ^ 64 : Int) else 0)) + (q / 2 ^ 63 : Nat)
  let t : Int := if s then x + d else x - d
  let tn : Nat := (t % (2 ^ 65 : Int)).toNat
  let neg : Bool := tn.testBit 64
  (tn % 2 ^ 64, (2 * q + b2n (!neg)) % 2 ^ 64, neg)

/-- R135: DSFIX and DSFIXS on remainder p and quotient q: p, q and the flags. -/
def divFix (sgn : Bool) (p q ra rb : Nat) (s : Bool) : Nat × Nat × Nat :=
  let d := if sgn && topBit 64 ra then (2 ^ 64 - ra) % 2 ^ 64 else ra
  let p1 := if s then (p + d) % 2 ^ 64 else p
  let p2 := if sgn && topBit 64 rb then (2 ^ 64 - p1) % 2 ^ 64 else p1
  let neg := sgn && (topBit 64 rb != topBit 64 ra)
  let v := sgn && !neg && q == 2 ^ 63
  let q1 := if neg then (2 ^ 64 - q) % 2 ^ 64 else q
  (p2, q1, mkFlags false v (q1 == 0) (topBit 64 q1))

/-! Packed decimal (R138 to R141).  A decimal value is a 128-bit number. -/

def nibble (x k : Nat) : Nat := x / 16 ^ k % 16

/-- R139: the first invalid nibble of an operand, from nibble 0 upward. -/
def decInvalid (x : Nat) : Option Nat :=
  if nibble x 0 < 10 then some 0
  else (List.range 32).find? (fun k => k != 0 && decide (9 < nibble x k))

/-- R139: the sign nibbles 0xB and 0xD are negative. -/
def decNeg (x : Nat) : Bool := nibble x 0 == 0xB || nibble x 0 == 0xD

/-- The magnitude: digits 1 to 31, nibble k of weight 10 ^ (k - 1). -/
def decMag : Nat → Nat → Nat
  | 0, _ => 0
  | n + 1, x => x % 16 + 10 * decMag n (x / 16)

/-- The value of a valid decimal operand. -/
def decValue (x : Nat) : Int := if decNeg x then -(decMag 31 (x / 16) : Nat) else (decMag 31 (x / 16) : Nat)

/-- The digits of a magnitude as nibbles, `n` of them. -/
def decDigits : Nat → Nat → Nat
  | 0, _ => 0
  | n + 1, m => m % 10 + 16 * decDigits n (m / 10)

/-- R141: the written result and its flags, and whether it overflowed. -/
def decResult (v : Int) : Nat × Nat × Bool :=
  let mag := v.natAbs
  let ovf := decide (10 ^ 31 ≤ mag)
  let neg := decide (v < 0)
  let low := mag % 10 ^ 31
  ((if neg then 0xD else 0xC) + 16 * decDigits 31 low, mkFlags false ovf (low == 0) neg, ovf)

end Sys2Proof.Machine
end

