-- ==== Sys2Proof/Machine/Isa.lean ====
section
/-! DEFINITION. The instruction encodings (R95 to R105, R124, R171): layouts, opcode tables, and the checks
the decoder makes, in the order of R102, with the DETAIL of R103.  An instruction command carries the
fields of its operand block; they are packed into the block's number here so that one set of checks
serves them and raw bytes alike. -/

namespace Sys2Proof

/-! The operand block as one number, its first byte holding bits [7:0] (R105). -/

def OpsU8.pack (o : OpsU8) : Nat := o.imm8.toNat
def OpsR.pack (o : OpsR) : Nat := o.ra.toNat + o.rsv.toNat * 2 ^ 5
def OpsRR.pack (o : OpsRR) : Nat := o.rd.toNat + o.ra.toNat * 2 ^ 5 + o.imm6.toNat * 2 ^ 10
def OpsRRR.pack (o : OpsRRR) : Nat :=
  o.rd.toNat + o.ra.toNat * 2 ^ 5 + o.rb.toNat * 2 ^ 10 + o.scale.toNat * 2 ^ 15 + o.rsv.toNat * 2 ^ 17

def OpsRI.pack (o : OpsRI) : Nat := o.rd.toNat + o.ra.toNat * 2 ^ 5 + o.imm.toNat * 2 ^ 10
def OpsJ.pack (o : OpsJ) : Nat := o.disp.toNat
def OpsRI32.pack (o : OpsRI32) : Nat :=
  o.rd.toNat + o.ra.toNat * 2 ^ 5 + o.rsv.toNat * 2 ^ 10 + o.imm.toNat * 2 ^ 16

def OpsJC.pack (o : OpsJC) : Nat := o.cond.toNat + o.rsv.toNat * 2 ^ 4 + o.disp.toNat * 2 ^ 16
def OpsM.pack (o : OpsM) : Nat :=
  o.rsv0.toNat + o.ra.toNat * 2 ^ 5 + o.rsv1.toNat * 2 ^ 10 + o.mask.toNat * 2 ^ 16

def OpsRRI32.pack (o : OpsRRI32) : Nat :=
  o.rd.toNat + o.ra.toNat * 2 ^ 5 + o.rb.toNat * 2 ^ 10 + o.scale.toNat * 2 ^ 15 + o.rsv.toNat * 2 ^ 17
    + o.imm.toNat * 2 ^ 32

/-- The bytes of a prefix: two for XBANK, else one. -/
def Pfx.size : Pfx → Nat
  | .xbank _ => 2
  | _ => 1

/-- Two prefixes of one kind. -/
def Pfx.same : Pfx → Pfx → Bool
  | .xbank _, .xbank _ => true
  | a, b => a == b

end Sys2Proof

namespace Sys2Proof.Machine

/-- R105: the operand layouts. -/
inductive Layout where
  | z | u8 | r | rr | rrr | ri | j | ri32 | jc | m | rri32
  deriving DecidableEq, Repr

/-- R96, R105: bytes of the operand block, without IMM64. -/
def Layout.bytes : Layout → Nat
  | .z => 0
  | .u8 => 1
  | .r => 1
  | .rr => 2
  | .rrr => 3
  | .ri => 4
  | .j => 4
  | .ri32 => 6
  | .jc => 6
  | .m => 6
  | .rri32 => 8

/-- R100: the layouts with a 32-bit immediate or displacement, which accept IMM64. -/
def Layout.wide : Layout → Bool
  | .ri32 => true
  | .rri32 => true
  | .j => true
  | .jc => true
  | _ => false

/-- One check of an operand field at step 4 of R102, by the field's lowest bit. -/
inductive Chk where
  /-- reserved or unused: must be zero (R105, R126) -/
  | rsv (lo w : Nat)
  /-- an ordinary integer register: 0 to 23 (R104) -/
  | ireg (lo : Nat)
  /-- a base register: 0 to 24 (R104) -/
  | base (lo : Nat)
  /-- a register pair: even, 2 to 22 (R127) -/
  | pair (lo : Nat)
  /-- a floating-point register of the format in the field at `f`: even for binary128 (R160) -/
  | freg (lo f : Nat)
  /-- any floating-point register (R104) -/
  | fraw (lo : Nat)
  /-- the even register of a 16-byte transfer (R160, R176) -/
  | fquad (lo : Nat)
  /-- a group of four floating-point registers (R173) -/
  | group (lo : Nat)
  /-- a format: not 3 (R161) -/
  | fmt (lo : Nat)
  /-- FCVT's formats: destination at `lo` different from the source at `lo + 2` (R172) -/
  | fmtDiff (lo : Nat)
  /-- a rounding selector: not 5 or 6 (R165) -/
  | rsel (lo : Nat)
  /-- a condition code: not 15 (R110) -/
  | cond (lo : Nat)
  /-- a system-register number (R53) -/
  | sysn (lo : Nat)
  /-- a translation-register number (R114) -/
  | trnn (lo : Nat)
  /-- an LDM or STM mask: bits 24 to 31 zero (R88) -/
  | mask (lo : Nat)
  /-- an immediate shift count: below 32 under W32 (R129) -/
  | shift (lo : Nat)
  /-- TLBI's scope and the fields it leaves unused (R158) -/
  | tlbi
  deriving DecidableEq, Repr

/-- R113: what problem state may not execute. -/
inductive Privilege where
  | user | super | sysreg
  deriving DecidableEq, Repr

/-- One opcode: its escape page (0 for none), its byte, its layout and the rules of its definition. -/
structure OpInfo where
  page : Nat
  opc : Nat
  lay : Layout
  /-- accepts W32 (R129) -/
  w32 : Bool
  /-- accepts XBANK (R100) -/
  xbank : Bool
  priv : Privilege
  checks : List Chk
  /-- reads or writes N, Z, C, V (R128) -/
  flags : Bool
  /-- reads or writes DSS (R128) -/
  dss : Bool
  /-- a floating-point instruction (R174) -/
  fp : Bool
  /-- reads or writes the FCW flags as a whole (R163) -/
  fcw : Bool
  /-- further windowed registers it reads or writes, by number -/
  extra : List Nat
  deriving DecidableEq, Repr

/-- An opcode of R124 with nothing special. -/
def OpInfo.plain (opc : Nat) (lay : Layout) (checks : List Chk) : OpInfo :=
  { page := 0, opc, lay, w32 := false, xbank := false, priv := .user, checks,
    flags := false, dss := false, fp := false, fcw := false, extra := [] }

/-! The shapes of R124 and R171. -/

def opZ (opc : Nat) : OpInfo := .plain opc .z []
def opZp (opc : Nat) : OpInfo := { OpInfo.plain opc .z [] with priv := .super }
def opR (opc : Nat) : OpInfo := { OpInfo.plain opc .r [.base 0, .rsv 5 3] with xbank := true }
def opUnary (opc : Nat) : OpInfo :=
  { OpInfo.plain opc .rr [.ireg 0, .ireg 5, .rsv 10 6] with w32 := true, xbank := true, flags := true }

def opExt (opc : Nat) : OpInfo :=
  { OpInfo.plain opc .rr [.ireg 0, .ireg 5] with xbank := true, flags := true }

def opShiftI (opc : Nat) : OpInfo :=
  { OpInfo.plain opc .rr [.ireg 0, .ireg 5, .shift 10] with w32 := true, xbank := true, flags := true }

def opAlu (opc : Nat) : OpInfo :=
  { OpInfo.plain opc .rrr [.ireg 0, .ireg 5, .ireg 10, .rsv 15 2, .rsv 17 7] with
    w32 := true, xbank := true, flags := true }

def opMulH (opc : Nat) : OpInfo := { opAlu opc with flags := false }
def opCmp (opc : Nat) : OpInfo :=
  { OpInfo.plain opc .rrr [.rsv 0 5, .ireg 5, .ireg 10, .rsv 15 2, .rsv 17 7] with
    w32 := true, xbank := true, flags := true }

def opDec (opc : Nat) : OpInfo :=
  { OpInfo.plain opc .rrr [.pair 0, .pair 5, .pair 10, .rsv 15 2, .rsv 17 7] with xbank := true, flags := true }

def opLineRange (opc : Nat) (p : Privilege) : OpInfo :=
  { OpInfo.plain opc .rrr [.ireg 0, .base 5, .ireg 10, .rsv 15 2, .rsv 17 7] with xbank := true, priv := p }

def opRI (opc : Nat) : OpInfo := { OpInfo.plain opc .ri [.ireg 0, .base 5] with xbank := true }
def opRRI (opc : Nat) : OpInfo :=
  { OpInfo.plain opc .rri32 [.ireg 0, .base 5, .ireg 10, .rsv 17 15] with xbank := true }

def opImmRI (opc : Nat) : OpInfo :=
  { OpInfo.plain opc .ri [.ireg 0, .ireg 5] with w32 := true, xbank := true, flags := true }

def opImmRI32 (opc : Nat) : OpInfo :=
  { OpInfo.plain opc .ri32 [.ireg 0, .ireg 5, .rsv 10 6] with w32 := true, xbank := true, flags := true }

def opMask (opc : Nat) : OpInfo :=
  { OpInfo.plain opc .m [.rsv 0 5, .base 5, .rsv 10 6, .mask 16] with xbank := true }

def opFp (page opc : Nat) (lay : Layout) (checks : List Chk) : OpInfo :=
  { OpInfo.plain opc lay checks with page, fp := true }

namespace Op

def nop := opZ 0x00
def xbar := opZ 0x01
def fbar := opZ 0x02
def mbar := opZ 0x03
def isync := opZ 0x04

/-- RETW reads W5 (R142). -/
def retw : OpInfo := { opZ 0x05 with extra := [13] }
def retl := opZp 0x06

/-- RETT reads and writes the status word. -/
def rett : OpInfo := { opZp 0x07 with flags := true, dss := true }
def wait := opZp 0x08
def svc : OpInfo := .plain 0x20 .u8 []
def bkpt : OpInfo := .plain 0x21 .u8 []
def jmp := opR 0x22

/-- CALLWR writes the next window's W5, this window's W15 (R78). -/
def callwr : OpInfo := { opR 0x23 with extra := [23] }
def prefd := opR 0x24
def prefw := opR 0x25
def prefi := opR 0x26
def neg := opUnary 0x40
def not := opUnary 0x41
def abs := opUnary 0x42
def clz := opUnary 0x43
def popc := opUnary 0x44
def bswap := opUnary 0x45
def sxt := opExt 0x46
def zxt := opExt 0x47
def shli := opShiftI 0x48
def shri := opShiftI 0x49
def sari := opShiftI 0x4A
def rori := opShiftI 0x4B
def dstep : OpInfo :=
  { OpInfo.plain 0x4C .rr [.pair 0, .ireg 5, .rsv 11 5] with xbank := true, dss := true }

def dval : OpInfo :=
  { OpInfo.plain 0x4D .rr [.pair 0, .pair 5, .rsv 10 6] with xbank := true, flags := true }

/-- MFS of SW reads the flags and DSS. -/
def mfs : OpInfo :=
  { OpInfo.plain 0x4E .rr [.ireg 0, .rsv 5 5, .sysn 10] with
    xbank := true, priv := .sysreg, flags := true, dss := true }

def mts : OpInfo :=
  { OpInfo.plain 0x4F .rr [.ireg 0, .rsv 5 5, .sysn 10] with
    xbank := true, priv := .sysreg, flags := true, dss := true }

def mft : OpInfo :=
  { OpInfo.plain 0x50 .rr [.ireg 0, .rsv 5 5, .trnn 10] with xbank := true, priv := .super }

def mtt : OpInfo :=
  { OpInfo.plain 0x51 .rr [.ireg 0, .rsv 5 5, .trnn 10] with xbank := true, priv := .super }

def tlbi : OpInfo :=
  { OpInfo.plain 0x52 .rr [.ireg 0, .ireg 5, .tlbi, .rsv 13 3] with xbank := true, priv := .super }

def add := opAlu 0x60
def adc := opAlu 0x61
def sub := opAlu 0x62
def sbc := opAlu 0x63
def and := opAlu 0x64
def or := opAlu 0x65
def xor := opAlu 0x66
def andn := opAlu 0x67
def shl := opAlu 0x68
def shr := opAlu 0x69
def sar := opAlu 0x6A
def ror := opAlu 0x6B
def mul := opAlu 0x6C
def mulh := opMulH 0x6D
def mulhu := opMulH 0x6E
def cmp := opCmp 0x6F
def tst := opCmp 0x70
def cas : OpInfo :=
  { OpInfo.plain 0x71 .rrr [.ireg 0, .base 5, .ireg 10, .rsv 15 2, .rsv 17 7] with
    w32 := true, xbank := true, flags := true }

def dadd := opDec 0x72
def dsub := opDec 0x73
def daddt := opDec 0x74
def dsubt := opDec 0x75
def dsfix : OpInfo :=
  { OpInfo.plain 0x76 .rrr [.pair 0, .ireg 5, .rsv 10 5, .rsv 15 2, .rsv 17 7] with
    xbank := true, flags := true, dss := true }

def dsfixs : OpInfo :=
  { OpInfo.plain 0x77 .rrr [.pair 0, .ireg 5, .ireg 10, .rsv 15 2, .rsv 17 7] with
    xbank := true, flags := true, dss := true }

def cinv := opLineRange 0x78 .super
def cflush := opLineRange 0x79 .user
def br : OpInfo := .plain 0x80 .j []
def callw : OpInfo := { OpInfo.plain 0x81 .j [] with extra := [23] }
def ldbuRI := opRI 0x84
def ldbsRI := opRI 0x85
def ldhuRI := opRI 0x86
def ldhsRI := opRI 0x87
def ldwuRI := opRI 0x88
def ldwsRI := opRI 0x89
def lddRI := opRI 0x8A
def stbRI := opRI 0x8B
def sthRI := opRI 0x8C
def stwRI := opRI 0x8D
def stdRI := opRI 0x8E
def ild : OpInfo := { opRI 0x8F with w32 := true }
def ist : OpInfo := { opRI 0x90 with w32 := true }

/-- IN and OUT take no PC base (R104). -/
def inp : OpInfo :=
  { OpInfo.plain 0x91 .ri [.ireg 0, .ireg 5] with xbank := true, priv := .super }

def out : OpInfo :=
  { OpInfo.plain 0x92 .ri [.ireg 0, .ireg 5] with xbank := true, priv := .super }

def addiRI := opImmRI 0x93
def andiRI := opImmRI 0x94
def oriRI := opImmRI 0x95
def xoriRI := opImmRI 0x96
def cmpiRI : OpInfo := { opImmRI 0x97 with checks := [.rsv 0 5, .ireg 5] }
def bc : OpInfo := { OpInfo.plain 0xA0 .jc [.cond 0, .rsv 4 12] with flags := true }
def ldm := opMask 0xA1
def stm := opMask 0xA2
def addi32 := opImmRI32 0xA4
def andi32 := opImmRI32 0xA5
def ori32 := opImmRI32 0xA6
def xori32 := opImmRI32 0xA7
def cmpi32 : OpInfo := { opImmRI32 0xA8 with checks := [.rsv 0 5, .ireg 5, .rsv 10 6] }
def ldbu32 := opRRI 0xC4
def ldbs32 := opRRI 0xC5
def ldhu32 := opRRI 0xC6
def ldhs32 := opRRI 0xC7
def ldwu32 := opRRI 0xC8
def ldws32 := opRRI 0xC9
def ldd32 := opRRI 0xCA
def stb32 := opRRI 0xCB
def sth32 := opRRI 0xCC
def stw32 := opRRI 0xCD
def std32 := opRRI 0xCE

/-! Pages 0xE8 and 0xE9 (R171, R172). -/

def fpRR (opc : Nat) : OpInfo := opFp 0xE8 opc .rr [.freg 0 10, .freg 5 10, .fmt 10, .rsv 12 4]
def fmov := fpRR 0x40
def fneg := fpRR 0x41
def fabs := fpRR 0x42
def fdstartSqrt : OpInfo :=
  { opFp 0xE8 0x43 .rr [.group 0, .freg 5 10, .fmt 10, .rsv 12 4] with dss := true }

def fdstep : OpInfo :=
  { opFp 0xE8 0x44 .rr [.group 0, .freg 5 10, .fmt 10, .rsv 12 4] with dss := true }

def fdfin : OpInfo :=
  { opFp 0xE8 0x45 .rr [.freg 0 10, .group 5, .fmt 10, .rsv 12 4] with dss := true }

def fcvt : OpInfo :=
  opFp 0xE8 0x46 .rr [.freg 0 10, .freg 5 12, .fmt 10, .fmtDiff 10, .fmt 12, .rsv 14 2]

def frint : OpInfo := opFp 0xE8 0x47 .rr [.freg 0 10, .freg 5 10, .fmt 10, .rsel 12, .rsv 15 1]
def fcvtfi : OpInfo := opFp 0xE8 0x48 .rr [.ireg 0, .freg 5 10, .fmt 10, .rsel 12]
def fcvtif : OpInfo := opFp 0xE8 0x49 .rr [.freg 0 10, .ireg 5, .fmt 10, .rsel 12]
def fpRRR (opc : Nat) : OpInfo :=
  opFp 0xE8 opc .rrr [.freg 0 15, .freg 5 15, .freg 10 15, .fmt 15, .rsv 17 7]

def fadd := fpRRR 0x60
def fsub := fpRRR 0x61
def fmul := fpRRR 0x62
def fpCmp (opc : Nat) : OpInfo :=
  { opFp 0xE8 opc .rrr [.rsv 0 5, .freg 5 15, .freg 10 15, .fmt 15, .rsv 17 7] with flags := true }

def fcmp := fpCmp 0x63
def fcmps := fpCmp 0x64
def fdstartDiv : OpInfo :=
  { opFp 0xE8 0x65 .rrr [.group 0, .freg 5 15, .freg 10 15, .fmt 15, .rsv 17 7] with dss := true }

def fmvfg : OpInfo := opFp 0xE9 0x40 .rr [.ireg 0, .fraw 5, .rsv 10 6]
def fmvgf : OpInfo := opFp 0xE9 0x41 .rr [.fraw 0, .ireg 5, .rsv 10 6]
def fmfc : OpInfo := { opFp 0xE9 0x42 .rr [.ireg 0, .rsv 5 5, .rsv 10 6] with fcw := true }
def fmtc : OpInfo := { opFp 0xE9 0x43 .rr [.rsv 0 5, .ireg 5, .rsv 10 6] with fcw := true }
def fmemRI (opc : Nat) (c : Chk) : OpInfo := opFp 0xE9 opc .ri [c, .base 5]
def fmemRRI (opc : Nat) (c : Chk) : OpInfo := opFp 0xE9 opc .rri32 [c, .base 5, .ireg 10, .rsv 17 15]
def fldsRI := fmemRI 0x80 (.fraw 0)
def flddRI := fmemRI 0x81 (.fraw 0)
def fldqRI := fmemRI 0x82 (.fquad 0)
def fstsRI := fmemRI 0x83 (.fraw 0)
def fstdRI := fmemRI 0x84 (.fraw 0)
def fstqRI := fmemRI 0x85 (.fquad 0)
def flds32 := fmemRRI 0xC0 (.fraw 0)
def fldd32 := fmemRRI 0xC1 (.fraw 0)
def fldq32 := fmemRRI 0xC2 (.fquad 0)
def fsts32 := fmemRRI 0xC3 (.fraw 0)
def fstd32 := fmemRRI 0xC4 (.fraw 0)
def fstq32 := fmemRRI 0xC5 (.fquad 0)

end Op

/-- The opcode map of R124. -/
def opMap : List OpInfo :=
  [Op.nop, Op.xbar, Op.fbar, Op.mbar, Op.isync, Op.retw, Op.retl, Op.rett, Op.wait, Op.svc, Op.bkpt,
   Op.jmp, Op.callwr, Op.prefd, Op.prefw, Op.prefi, Op.neg, Op.not, Op.abs, Op.clz, Op.popc, Op.bswap,
   Op.sxt, Op.zxt, Op.shli, Op.shri, Op.sari, Op.rori, Op.dstep, Op.dval, Op.mfs, Op.mts, Op.mft, Op.mtt,
   Op.tlbi, Op.add, Op.adc, Op.sub, Op.sbc, Op.and, Op.or, Op.xor, Op.andn] ++
  [Op.shl, Op.shr, Op.sar, Op.ror, Op.mul, Op.mulh, Op.mulhu, Op.cmp, Op.tst, Op.cas, Op.dadd, Op.dsub,
   Op.daddt, Op.dsubt, Op.dsfix, Op.dsfixs, Op.cinv, Op.cflush, Op.br, Op.callw, Op.ldbuRI, Op.ldbsRI,
   Op.ldhuRI, Op.ldhsRI, Op.ldwuRI, Op.ldwsRI, Op.lddRI, Op.stbRI, Op.sthRI, Op.stwRI, Op.stdRI, Op.ild,
   Op.ist, Op.inp, Op.out, Op.addiRI, Op.andiRI, Op.oriRI, Op.xoriRI, Op.cmpiRI] ++
  [Op.bc, Op.ldm, Op.stm, Op.addi32, Op.andi32, Op.ori32, Op.xori32, Op.cmpi32, Op.ldbu32, Op.ldbs32,
   Op.ldhu32, Op.ldhs32, Op.ldwu32, Op.ldws32, Op.ldd32, Op.stb32, Op.sth32, Op.stw32, Op.std32]

/-- The opcodes of pages 0xE8 and 0xE9 (R171). -/
def fpMap : List OpInfo :=
  [Op.fmov, Op.fneg, Op.fabs, Op.fdstartSqrt, Op.fdstep, Op.fdfin, Op.fcvt, Op.frint, Op.fcvtfi, Op.fcvtif,
   Op.fadd, Op.fsub, Op.fmul, Op.fcmp, Op.fcmps, Op.fdstartDiv, Op.fmvfg, Op.fmvgf, Op.fmfc, Op.fmtc] ++
  [Op.fldsRI, Op.flddRI, Op.fldqRI, Op.fstsRI, Op.fstdRI, Op.fstqRI, Op.flds32, Op.fldd32, Op.fldq32,
   Op.fsts32, Op.fstd32, Op.fstq32]

/-- The opcode assigned to a byte of a page (0 for no escape), if any (R124, R125, R171). -/
def opFind (page byte : Nat) : Option OpInfo :=
  (if page = 0 then opMap else fpMap).find? (fun o => o.page == page && o.opc == byte)

/-! Prefixes (R98, R99). -/

def hasPfx (pfx : List Pfx) (p : Pfx → Bool) : Bool := pfx.any p
def pfxCt (pfx : List Pfx) : Bool := hasPfx pfx (fun p => p == .ct)
def pfxImm64 (pfx : List Pfx) : Bool := hasPfx pfx (fun p => p == .imm64)
def pfxNt (pfx : List Pfx) : Bool := hasPfx pfx (fun p => p == .nt)
def pfxW32 (pfx : List Pfx) : Bool := hasPfx pfx (fun p => p == .w32)

/-- The bank an XBANK prefix names, if there is one. -/
def pfxBank : List Pfx → Option Nat
  | [] => none
  | .xbank b :: _ => some b.toNat
  | _ :: ps => pfxBank ps

/-- The bytes of a list of prefixes. -/
def pfxBytes : List Pfx → Nat
  | [] => 0
  | p :: ps => p.size + pfxBytes ps

/-- Why an instruction does not decode: ILLEGAL_INSTRUCTION with its DETAIL (R103), or PRIVILEGED (R113). -/
inductive DecodeTrap where
  | illegal (detail : Nat)
  | privileged
  deriving DecidableEq, Repr

/-- Step 1 of R102 over the prefixes, from offset `off`, `seen` being those already read (R99). -/
def pfxScan : List Pfx → Nat → List Pfx → Option Nat
  | [], _, _ => none
  | p :: ps, off, seen =>
    if seen.any (Pfx.same p) then some off
    else match p with
      | .xbank b => if b.toNat > 7 then some (off + 1) else pfxScan ps (off + 2) (p :: seen)
      | _ => pfxScan ps (off + p.size) (p :: seen)

/-- R100: whether the opcode accepts the prefix. -/
def OpInfo.accepts (op : OpInfo) : Pfx → Bool
  | .ct => true
  | .nt => true
  | .imm64 => op.page == 0 && op.lay.wide
  | .xbank _ => op.page == 0 && op.xbank
  | .w32 => op.w32

/-- The offset of the first prefix not accepted, from offset `off`. -/
def pfxRefused (op : OpInfo) : List Pfx → Nat → Option Nat
  | [], _ => none
  | p :: ps, off => if op.accepts p then pfxRefused op ps (off + p.size) else some off

/-- Opcode bytes: two on an escape page (R97). -/
def OpInfo.opBytes (op : OpInfo) : Nat := if op.page = 0 then 1 else 2

/-- Bytes of the operand block: 4 more under IMM64 (R98). -/
def OpInfo.blockBytes (op : OpInfo) (pfx : List Pfx) : Nat :=
  op.lay.bytes + (if pfxImm64 pfx && op.lay.wide then 4 else 0)

/-- The length of an instruction (R95). -/
def OpInfo.length (op : OpInfo) (pfx : List Pfx) : Nat :=
  pfxBytes pfx + op.opBytes + op.blockBytes pfx

/-- R53: the system registers that exist. -/
def sysNumbers : List Nat := [0, 1, 2, 3, 4, 5, 6, 7, 8, 9, 0x10, 0x11]

/-- R114: the translation registers that exist. -/
def trnNumbers : List Nat := [0, 1, 2]

/-- The lowest bit of the field at fault, if the check fails on operand block `x` (R103).  DETAIL is the byte that holds it, also of
a field in two bytes and of the checks for which R103's table has no row: a rounding selector of 5 or 6, a TLBI scope of 3, a W32
count of 32 or more (DESIGN CHOICE, log entry 165). -/
def Chk.fails (w32 : Bool) (x : Nat) : Chk → Option Nat
  | .rsv lo w => if nfld x lo w = 0 then none else some lo
  | .ireg lo => if nfld x lo 5 ≤ 23 then none else some lo
  | .base lo => if nfld x lo 5 ≤ 24 then none else some lo
  | .pair lo => if nfld x lo 5 % 2 = 0 ∧ 2 ≤ nfld x lo 5 ∧ nfld x lo 5 ≤ 22 then none else some lo
  | .freg lo f => if nfld x f 2 = 2 ∧ nfld x lo 5 % 2 = 1 then some lo else none
  | .fraw _ => none
  | .fquad lo => if nfld x lo 5 % 2 = 1 then some lo else none
  | .group lo => if nfld x lo 5 % 4 = 0 then none else some lo
  | .fmt lo => if nfld x lo 2 = 3 then some lo else none
  | .fmtDiff lo => if nfld x lo 2 = nfld x (lo + 2) 2 then some lo else none
  | .rsel lo => if nfld x lo 3 = 5 ∨ nfld x lo 3 = 6 then some lo else none
  | .cond lo => if nfld x lo 4 = 15 then some lo else none
  | .sysn lo => if sysNumbers.contains (nfld x lo 6) then none else some lo
  | .trnn lo => if trnNumbers.contains (nfld x lo 6) then none else some lo
  | .mask lo => if nfld x (lo + 24) 8 = 0 then none else some lo
  | .shift lo => if w32 = true ∧ nfld x lo 6 ≥ 32 then some lo else none
  | .tlbi =>
    if nfld x 10 2 = 3 then some 10
    else if nfld x 10 2 = 1 ∧ nfld x 5 5 ≠ 0 then some 5
    else if nfld x 10 2 = 2 ∧ nfld x 0 5 ≠ 0 then some 0
    else if nfld x 10 2 = 2 ∧ nfld x 5 5 ≠ 0 then some 5
    else if nfld x 10 2 = 2 ∧ nfld x 12 1 ≠ 0 then some 12
    else none

/-- The lowest field at fault of a list of checks (R103). -/
def checksFail (w32 : Bool) (x : Nat) : List Chk → Option Nat
  | [] => none
  | c :: cs =>
    match c.fails w32 x, checksFail w32 x cs with
    | none, r => r
    | some a, none => some a
    | some a, some b => some (min a b)

/-- Whether the instruction is refused in problem state (R113). -/
def OpInfo.needsSuper (op : OpInfo) (pfx : List Pfx) (x : Nat) : Bool :=
  (pfxBank pfx).isSome ||
  match op.priv with
  | .user => false
  | .super => true
  | .sysreg => nfld x 10 6 != 0

/-- R102: the checks of steps 1 and 2: the prefixes as they stand, those that the opcode accepts, the length. -/
def prefixCheck (op : OpInfo) (pfx : List Pfx) : Option DecodeTrap :=
  match pfxScan pfx 0 [] with
  | some off => some (.illegal off)
  | none =>
    match pfxRefused op pfx 0 with
    | some off => some (.illegal off)
    | none => if op.length pfx > 15 then some (.illegal (pfxBytes pfx + op.opBytes - 1)) else none

/-- R102: the checks of steps 1, 2, 4 and 5 on an instruction whose opcode is assigned; step 3, the fetch of
the operand block, is the fetch's. -/
def decodeCheck (op : OpInfo) (pfx : List Pfx) (x : Nat) (supervisor : Bool) : Option DecodeTrap :=
  match prefixCheck op pfx with
  | some t => some t
  | none =>
    match checksFail (pfxW32 pfx) x op.checks with
    | some lo => some (.illegal (pfxBytes pfx + op.opBytes + lo / 8))
    | none => if op.needsSuper pfx x && !supervisor then some .privileged else none

/-! Raw bytes, for ILLEGAL_INSTRUCTION: what the decoder makes of the bytes at the PC. -/

/-- What raw bytes decode to. -/
inductive Raw where
  /-- an assigned opcode, its prefixes, its operand block -/
  | ins (op : OpInfo) (pfx : List Pfx) (x : Nat)
  /-- ILLEGAL_INSTRUCTION with its DETAIL -/
  | illegal (detail : Nat)
  /-- too few bytes to tell -/
  | short
  deriving DecidableEq, Repr

/-- The prefix a byte is, with the byte after it for XBANK; `none` for a reserved prefix. -/
def pfxOfByte (b : Nat) (next : Byte) : Option Pfx :=
  if b = 0xF8 then some .ct
  else if b = 0xF9 then some .imm64
  else if b = 0xFA then some (.xbank next)
  else if b = 0xFC then some .nt
  else if b = 0xFD then some .w32
  else none

/-- After the opcode: its operand block, which is fetched once step 2 has passed (R102). -/
def rawBlock (op : OpInfo) (pfx : List Pfx) (bs : List Byte) : Raw :=
  if bs.length < op.blockBytes pfx then
    match prefixCheck op pfx with
    | some (.illegal d) => .illegal d
    | _ => .short
  else .ins op pfx (bytesToNat (bs.take (op.blockBytes pfx)))

/-- The opcode byte at offset `off` (R96, R97). -/
def rawOpcode (pfx : List Pfx) (off : Nat) : List Byte → Raw
  | [] => .short
  | b :: bs =>
    if b.toNat < 0xE0 then
      match opFind 0 b.toNat with
      | some op => rawBlock op pfx bs
      | none => .illegal off
    else match bs with
      | [] => .short
      | b2 :: bs2 =>
        match opFind b.toNat b2.toNat with
        | some op => rawBlock op pfx bs2
        | none => .illegal (off + 1)

/-- Steps 1 and 2 of R102 over raw bytes, `fuel` bounding the prefixes read. -/
def rawDecode : Nat → List Pfx → Nat → List Byte → Raw
  | 0, _, _, _ => .short
  | _, _, _, [] => .short
  | fuel + 1, pfx, off, b :: bs =>
    if b.toNat < 0xF8 then rawOpcode pfx.reverse off (b :: bs)
    else match pfxOfByte b.toNat (bs.headD 0) with
      | none => .illegal off
      | some p =>
        if pfx.any (Pfx.same p) then .illegal off
        else match p, bs with
          | .xbank k, _ :: bs' =>
            if k.toNat > 7 then .illegal (off + 1) else rawDecode fuel (p :: pfx) (off + 2) bs'
          | .xbank _, [] => .short
          | _, _ => rawDecode fuel (p :: pfx) (off + 1) bs

/-- R102: how many of the bytes given the decoder reads. -/
def rawRead (bs : List Byte) : Nat :=
  ((List.range (bs.length + 1)).find? (fun n => rawDecode 16 [] 0 (bs.take n) != .short)).getD bs.length

/-- The trap the decoder takes on raw bytes, if it takes one (R102). -/
def rawTrap (bs : List Byte) (supervisor : Bool) : Option DecodeTrap :=
  match rawDecode 16 [] 0 bs with
  | .illegal d => some (.illegal d)
  | .ins op pfx x => decodeCheck op pfx x supervisor
  | .short => none

end Sys2Proof.Machine
end

