-- ==== Sys2Proof/Machine/Exec.lean ====
section
/-! DEFINITION. How a core executes one instruction: the imprecise exceptions that come first (R91), the
decoder's checks (R102), the floating-point owner (R84, R85), the scoreboard (R198), the instruction's own
effect, and the advance of the PC.  Operand access and the load and store paths. -/

namespace Sys2Proof.Machine

/-- What an instruction knows of itself. -/
structure Env where
  lc : Nat
  /-- the current level, and the bank its register operands name (R50) -/
  lvl : Nat
  bank : Nat
  ia : Word
  len : Nat
  /-- the operand block (R105) -/
  x : Nat
  w32 : Bool
  nt : Bool
  imm64 : Bool
  sup : Bool
  /-- what the instruction meets, and the physical lines it was fetched from (R203) -/
  met : Met
  flines : List Nat
  deriving DecidableEq, Repr

/-- How an instruction's own effect ends. -/
inductive Res where
  /-- it completes; the PC moves past it -/
  | done (s : State)
  /-- it completes; the PC is given -/
  | jump (s : State) (pc : Word)
  /-- a precise trap (R72); `s` holds what the trap leaves -/
  | trap (s : State) (t : TrapInfo)
  /-- it has issued, and waits; the PC stays -/
  | wait (s : State)
  /-- it waits, and has not issued (R91) -/
  | hold (s : State)
  /-- it has set PC and status itself -/
  | ended (s : State)
  deriving DecidableEq, Repr

/-! Operands -/

def Env.rd (e : Env) : Nat := nfld e.x 0 5
def Env.ra (e : Env) : Nat := nfld e.x 5 5
def Env.rb (e : Env) : Nat := nfld e.x 10 5
def Env.imm6 (e : Env) : Nat := nfld e.x 10 6
def Env.width (e : Env) : Nat := if e.w32 then 32 else 64

/-- A register of the bank the operands name. -/
def State.reg (s : State) (e : Env) (n : Nat) : Word := ((s.core e.lc).level e.bank).readR n

/-- A base register: 24 is the instruction address (R104, R106). -/
def State.baseReg (s : State) (e : Env) (n : Nat) : Word := if n = 24 then e.ia else s.reg e n

/-- An integer source operand, its low 32 bits under W32 (R101). -/
def State.src (s : State) (e : Env) (n : Nat) : Nat := (s.reg e n).toNat % 2 ^ e.width

/-- A register of the named bank is written. -/
def State.setReg (s : State) (e : Env) (n : Nat) (v : Word) : State :=
  s.modCore e.lc (fun c => c.modLevel e.bank (fun l => l.writeR n v))

/-- A result, zero-extended (R101). -/
def State.setNat (s : State) (e : Env) (n v : Nat) : State := s.setReg e n (BitVec.ofNat 64 v)

/-- The current level's SW, and its flags (R50: status effects fall on the current level). -/
def State.sw (s : State) (e : Env) : Word := ((s.core e.lc).level e.lvl).sw
def State.setSw (s : State) (e : Env) (f : Word → Word) : State :=
  s.modCore e.lc (fun c => c.modLevel e.lvl (fun l => { l with sw := f l.sw }))

def State.setFlags (s : State) (e : Env) (f : Nat) : State := s.setSw e (fun w => swSetFlags w f)

/-- The signed immediate of RI, RI32 and RRI32 (R105). -/
def Env.immRI (e : Env) : Word := sextWord 22 (e.x / 2 ^ 10)
def Env.immAt (e : Env) (lo : Nat) : Word :=
  if e.imm64 then BitVec.ofNat 64 (e.x / 2 ^ lo) else sextWord 32 (e.x / 2 ^ lo)

/-- R106: base plus displacement, layout RI. -/
def State.eaRI (s : State) (e : Env) : Word := s.baseReg e e.ra + e.immRI

/-- R106: base plus scaled index plus displacement, layout RRI32. -/
def State.eaRRI (s : State) (e : Env) : Word :=
  s.baseReg e e.ra + BitVec.ofNat 64 ((s.reg e e.rb).toNat * 2 ^ nfld e.x 15 2) + e.immAt 32

/-- R106: relative, layouts J and JC. -/
def Env.target (e : Env) (lo : Nat) : Word := e.ia + e.immAt lo

/-- A precise trap of this instruction. -/
def Env.trap (e : Env) (code detail : Nat) (addr : Word) : TrapInfo :=
  { code, imp := false, addr, iaddr := e.ia, detail }

/-! Traps and exceptions at a core -/

/-- The instruction at hand ends: what it waited for, and the lines it was given, are its own. -/
def Core.freed (c : Core) : Core := { c with issuedAt := none, stalls := false, given := [] }

/-- A precise trap is taken, and the loop buffer emptied (R70, R201); an agreement point is due (R246). -/
def State.takeTrap (s : State) (lc l : Nat) (t : TrapInfo) : State :=
  let c := s.core lc
  s.putCore lc { (c.trapPrecise l t).freed with priv := c.priv.emptyLoop, due := true }

/-- R91: an imprecise exception is delivered at the boundary before the instruction at `pc`. -/
def State.deliverAt (s : State) (lc l : Nat) (t : TrapInfo) (pc : Word) : State :=
  let c := s.core lc
  s.putCore lc { (c.deliverExc l t pc).freed with priv := c.priv.emptyLoop, due := true }

/-- R91, R93: the exception that is delivered at a boundary of level `l`; none while a floating-point switch is in progress, nor
while an instruction of the level that has issued waits: it completes first. -/
def State.comesFirst (s : State) (lc l : Nat) : Option TrapInfo :=
  if (s.core lc).fpBusy || (s.core lc).issuedAt == some l then none else (s.core lc).deliverable l

/-- R91: an exception that has become deliverable while an instruction waited to issue is delivered before it, at its own address;
otherwise the instruction goes on. -/
def State.unlessPending (s : State) (e : Env) (go : State → Res) : Res :=
  match s.comesFirst e.lc e.lvl with
  | some t => .ended (s.deliverAt e.lc e.lvl t e.ia)
  | none => go s

/-- R91: a fetch or decode trap of an instruction that has not issued: the operations in flight that write the SW complete first
(R128), and an exception that one of them leaves is delivered in its place; `held`: what the trap leaves besides. -/
def State.trapUnissued (s : State) (lc l : Nat) (held : State → State) (t : TrapInfo) : State :=
  let s1 := s.modCore lc (fun c => c.settleSw l)
  match s1.comesFirst lc l with
  | some x => s1.deliverAt lc l x ((s1.core lc).level l).pc
  | none => (held s1).takeTrap lc l t

/-! The trap of a line that cannot be read -/

/-- R69, R240: the fault message of a line that cannot be read is held until the group commits, as a token of a checked pair. -/
def State.holdPoison (s : State) (lc line : Nat) : State :=
  let m := s.fault 0x70 ((s.posOf lc).getD 63) 0x206 2 1 line
  (s.modCore lc (fun c => { c with acts := c.acts ++ [(c.count, .fault m)] })).pushToken lc (.faultMsg m true)

/-- R69: DATA_POISON. -/
def State.poisonTrap (s : State) (e : Env) (line : Nat) : Res :=
  .trap (s.holdPoison e.lc line) (e.trap 0x0F 0 (BitVec.ofNat 64 line))

/-- A state with bytes read, or the way the access ends. -/
inductive Loaded where
  | bytes (s : State) (bs : List Byte)
  | stop (r : Res)
  deriving DecidableEq, Repr

/-- R109: `n` bytes from a virtual address, as physical pieces (address, length); both pages of a span are
translated before any byte moves, and a fault names the lowest covered address in its page. -/
inductive Pieces where
  | ok (s : State) (ps : List (Nat × Nat))
  | stop (r : Res)
  deriving DecidableEq, Repr

/-- R120: translation faults of fetches are FETCH_TRANSLATION, all others DATA_TRANSLATION. -/
def Acc.code : Acc → Nat
  | .fetch => 0x03
  | _ => 0x04

/-- One page of an access, with the errors that its translation meets (R208). -/
def State.onePage (s : State) (e : Env) (a : Acc) (va : Nat) : State × Tr :=
  (s.transErrs e.lc e.lvl a va e.met.data).translate e.lc e.lvl a va e.sup

/-- The rest of an instruction meets no error of its own. -/
def Env.clean (e : Env) : Env := { e with met := Met.none }

def trStop (s : State) (e : Env) (a : Acc) (va : Nat) : Tr → Res
  | .refused d => .trap s (e.trap a.code d (BitVec.ofNat 64 va))
  | .poison line => s.poisonTrap e line
  | _ => .wait s

def State.pieces (s : State) (e : Env) (a : Acc) (va n : Nat) : Pieces :=
  match s.onePage e a va with
  | (s1, .ok pa left) =>
    if n ≤ left then .ok s1 [(pa, n)]
    else
      let va2 := (va + left) % 2 ^ 64
      match s1.onePage e.clean a va2 with
      | (s2, .ok pb _) => .ok s2 [(pa, left), (pb, n - left)]
      | (s2, t) => .stop (trStop s2 e a va2 t)
  | (s1, t) => .stop (trStop s1 e a va t)

/-- The physical addresses of the bytes of pieces. -/
def pieceAddrs (ps : List (Nat × Nat)) : List Nat :=
  ps.flatMap (fun p => (List.range p.2).map (fun k => p.1 + k))

/-- The lines of pieces. -/
def pieceLines (ps : List (Nat × Nat)) : List Nat := ps.flatMap (fun p => linesOf p.1 p.2)

def SbEntry.holds (b : SbEntry) (a : Nat) : Bool := inRange b.addr b.bytes.length a

/-- R213: the youngest entry that overlaps any of the bytes. -/
def sbOverlap (sb : List SbEntry) (as : List Nat) : Option SbEntry := sb.reverse.find? (fun b => as.any b.holds)

/-- Bytes taken from an entry that holds them all. -/
def SbEntry.take (b : SbEntry) (as : List Nat) : List Byte := as.map (fun a => b.bytes.getD (a - b.addr) 0)

/-- Bytes read through the caches once every line is here and none is poisoned; a line that the private structures of a checked pair
do not hold is an input to agree on (R246). -/
def State.readPieces (s : State) (e : Env) (instr : Bool) (ps : List (Nat × Nat)) : Loaded :=
  match s.demands e.lc instr (pieceLines ps) with
  | (s0, false) => .stop (.wait s0)
  | (s0, true) =>
    match ((pieceLines ps).foldl State.mcAccess s0).readyRead (.core e.lc) (pieceLines ps) with
    | (s1, .poison line) => .stop (s1.poisonTrap e line)
    | (s1, .wait) => .stop (.wait s1)
    | (s1, .ok) =>
      let s2 := (pieceLines ps).foldl (fun s line =>
        if instr then s.touchInstr e.lc line else s.touchData e.lc line e.nt) s1
      .bytes s2 (ps.flatMap (fun p => s1.coreRead e.lc p.1 p.2))

/-- R213: an entry leaves the store buffer, with all before it; false while it cannot. -/
def State.drainPast (s : State) (lc : Nat) (b : SbEntry) : State × Bool :=
  match s.settleCommit lc with
  | (s1, true) =>
    let sb := (s1.core lc).sb
    let n := sb.idxOf b + 1
    let s2 := (s1.drainUpTo lc n).1
    (s2, decide ((s2.core lc).sb.length + n ≤ sb.length))
  | (s1, false) => (s1, false)

/-- R213, R215: a load; its data comes from the youngest overlapping store-buffer entry if that holds every byte;
if it holds some, the load waits until the entry has left. -/
def State.loadPieces (s : State) (e : Env) (instr : Bool) (ps : List (Nat × Nat)) : Loaded :=
  match sbOverlap (s.core e.lc).sb (pieceAddrs ps) with
  | some b =>
    if (pieceAddrs ps).all b.holds then .bytes s (b.take (pieceAddrs ps))
    else match s.drainPast e.lc b with
      | (s1, true) => s1.readPieces e instr ps
      | (s1, false) => .stop (.wait s1)
  | none => s.readPieces e instr ps

/-- R208, R221, R232, R250: the errors that the data access of an instruction meets at its first line. -/
def State.dataMet (s : State) (e : Env) (ps : List (Nat × Nat)) : State :=
  match pieceLines ps with
  | line :: _ => s.errsSeen (some e.lc) line e.met.data
  | [] => s

/-- R145, R109, R120: `n` bytes are loaded from a virtual address. -/
def State.load (s : State) (e : Env) (a : Acc) (va n : Nat) : Loaded :=
  match s.pieces e a va n with
  | .stop r => .stop r
  | .ok s1 ps => (s1.dataMet e ps).loadPieces e (!a.data) ps

/-- R212: stores enter the buffer, an entry for each piece; in a checked pair each is a token (R240). -/
def State.bufferStore (s : State) (e : Env) (ps : List (Nat × Nat)) (bs : List Byte) : State :=
  match ps with
  | [] => s
  | (a, n) :: rest =>
    let s1 := s.modCore e.lc (fun c => { c with sb := c.sb ++ [⟨a, bs.take n, e.nt, c.count, false, false⟩] })
    State.bufferStore (s1.pushToken e.lc (.store a (bs.take n))) e rest (bs.drop n)

/-- R203: after a store, the fetch stream is checked; on a match the loop buffer and the matching side-buffer lines go, and the
core waits until the store has left its buffer before it refetches.  A stored line leaves L1 instruction. -/
def State.storeCheck (s : State) (e : Env) (lines : List Nat) : State :=
  s.modCore e.lc (fun c =>
    let p := { c.priv with l1i := c.priv.l1i.filter (fun x => !lines.contains x) }
    if c.priv.streamMatch lines then
      { c with refetch := true, priv := { p.emptyLoop with side := p.side.filter (fun x => !(x.2 && lines.contains x.1)) } }
    else { c with priv := p })

/-- The first `n` bytes of pieces, and the rest. -/
def splitPieces (n : Nat) : List (Nat × Nat) → List (Nat × Nat) × List (Nat × Nat)
  | [] => ([], [])
  | (a, k) :: ps =>
    if n = 0 then ([], (a, k) :: ps)
    else if k ≤ n then ((a, k) :: (splitPieces (n - k) ps).1, (splitPieces (n - k) ps).2)
    else ([(a, n)], (a + n, k - n) :: ps)

/-- R212, R244: room for `n` further stores in the store buffer, and for their tokens in the stagger FIFO. -/
def State.storeRoom (s : State) (lc n : Nat) : State × Bool :=
  if s.fifoRoom lc n then s.sbRoom lc n else (s, false)

/-- R145, R109, R212: bytes are stored to a virtual address, in entries of at most 8 bytes.  A store waits for room before it issues,
unless it is a part of an instruction that has issued (`part`). -/
def State.store (s : State) (e : Env) (part : Bool) (va : Nat) (bs : List Byte) : Res :=
  match s.pieces e .st va bs.length with
  | .stop r => r
  | .ok s1 ps =>
    let (lo, hi) := splitPieces 8 ps
    let go (s : State) : Res :=
      .done (((s.bufferStore e lo (bs.take 8)).bufferStore e hi (bs.drop 8)).storeCheck e (pieceLines ps))
    match s1.storeRoom e.lc (lo.length + hi.length) with
    | (s2, false) => if part then .wait s2 else .hold s2
    | (s2, true) => if part then go s2 else s2.unlessPending e go

/-! Floating-point ownership (R83 to R87) -/

/-- The file and the FCW as 33 doublewords. -/
def Core.fpImage (c : Core) : List Word := (List.range 32).map c.readF ++ [c.arch.fcw]

/-- R84 step 2: the file is stored to the owner's save area through the store buffer, and VALID set. -/
def State.fpSave (s : State) (e : Env) (owner : Nat) : State :=
  let c := s.core e.lc
  let a := fld ((c.level owner).fpSave) 3 49 * 8
  let s1 := ((List.range 33).zip c.fpImage).foldl (fun s p => s.bufferStore e [(a + 8 * p.1, 8)] (wordBytes p.2)) s
  s1.modCore e.lc (fun c => c.modLevel owner (fun l => { l with fpSave := l.fpSave ||| 1 }))

/-- R87: a save any byte of which lies in no home or in the mask ROM granule. -/
def State.fpSaveFails (s : State) (a : Nat) : Bool :=
  (linesOf a 264).any (fun line => decide (romGranule ≤ line) ||
    match s.lineState true true false line with
    | .noHome => true
    | _ => false)

/-- The lines of a save area are asked of other devices with ownership; false while one has not come. -/
def State.ownLines (s : State) (by_ : By) : List Nat → State × Bool
  | [] => (s, true)
  | line :: ls =>
    if !s.sliceUp line then (s.wantGranule line, false)
    else match s.lineState by_.isCore true false line with
      | .ask k d => (s.askLine by_ line k d, false)
      | _ => s.ownLines by_ ls

/-- R163: a saved RM of 5, 6 or 7 is loaded as 0. -/
def fcwLoaded (w : Word) : Word :=
  let w1 : Word := BitVec.ofNat 64 (fld w 0 5 + fld w 8 3 * 2 ^ 8)
  if 5 ≤ fld w 8 3 then setFld w1 8 3 0 else w1

/-- LVL_CTL with another FP_OWNER. -/
def Core.setOwner (c : Core) (n : Nat) : Core :=
  { c with arch := { c.arch with lvlCtl := setFld c.arch.lvlCtl 8 4 n } }

/-- R84 step 3: the file and the FCW of the new owner. -/
def Core.setFile (c : Core) (ws : List Word) : Core :=
  let fcw := fcwLoaded (ws.getD 32 0)
  { c with
    fcwIss := fcw
    arch := { c.arch with f := (List.range 32).map (fun n => (n, ws.getD n 0)), fcw := fcw } }

/-- The doublewords of a save area, read as a data access by physical address; `k` left to read. -/
def State.fpReadArea (s : State) (e : Env) (a : Nat) : Nat → List Word → Loaded
  | 0, acc => .bytes s (acc.flatMap wordBytes)
  | k + 1, acc =>
    match (s.dataMet e [(a, 8)]).loadPieces e false [(a, 8)] with
    | .stop r => .stop r
    | .bytes s1 bs => s1.fpReadArea e.clean (a + 8) k (acc ++ [BitVec.ofNat 64 (bytesToNat bs)])

/-- The `n`-th doubleword of bytes. -/
def dwordAt (bs : List Byte) (n : Nat) : Word := BitVec.ofNat 64 (bytesToNat ((bs.drop (8 * n)).take 8))

/-- How a switch ends. -/
inductive Switched where
  | ok (s : State)
  | stop (r : Res)
  deriving DecidableEq, Repr

/-- R84: what marks a switch in progress: FP_BUSY, and that step 2 is done. -/
def Core.fpMark (c : Core) (busy saved : Bool) : Core :=
  { c with arch := { c.arch with lvlCtl := setFld c.arch.lvlCtl 13 1 (b2n busy), fpSaved := saved } }

/-- R84 step 2: the owner's state is saved, once the store buffer has room for it; a save that fails stops the core (R87).  Its lines
are asked for as its stores drain, for nothing of it leaves before its tokens (R239, R240). -/
def State.fpSaveStep (s : State) (e : Env) (owner : Nat) : Switched :=
  let a := fld ((s.core e.lc).level owner).fpSave 3 49 * 8
  if (s.core e.lc).arch.fpSaved || decide (8 ≤ owner) then .ok s
  else if e.met.save || s.fpSaveFails a then .stop (.ended ((s.modCore e.lc (fun c => c.fpMark false false)).machineCheck e.lc))
  else
    let (s1, room) := s.storeRoom e.lc 33
    if room then .ok ((s1.fpSave e owner).modCore e.lc (fun c => c.fpMark (c.fpBusy) true))
    else .stop (.hold (s1.modCore e.lc (fun c => c.fpMark true false)))

/-- R84, R86: the file is switched to level `new` (8 for none): operations in flight complete, the owner's state
is saved, the new level's loaded or cleared.  FP_BUSY stands while the switch waits. -/
def State.fpSwitch (s : State) (e : Env) (new : Nat) : Switched :=
  let s0 := s.modCore e.lc (fun c => c.completeAll (·.isFp))
  let ends (f : Core → Core) (s : State) : Switched := .ok (s.modCore e.lc (fun c => ((f c).setOwner new).fpMark false false))
  match s0.fpSaveStep e (s0.core e.lc).fpOwner with
  | .stop r => .stop r
  | .ok s1 =>
    let nl := (s1.core e.lc).level new
    if 8 ≤ new then ends id s1
    else if bitOf nl.fpSave 0 then
      match s1.fpReadArea e (fld nl.fpSave 3 49 * 8) 33 [] with
      | .stop (.wait s2) => .stop (.hold (s2.modCore e.lc (fun c => c.fpMark true true)))
      | .stop (.trap s2 t) => .stop (.trap (s2.modCore e.lc (fun c => c.fpMark false false)) t)
      | .stop r => .stop r
      | .bytes s2 bs => ends (fun c => c.setFile ((List.range 33).map (dwordAt bs))) s2
    else ends (fun c => c.setFile []) s1

/-! The scoreboard (R198) -/

/-- The registers a field names. -/
def Chk.regs (x : Nat) : Chk → List Nat
  | .ireg lo => [nfld x lo 5]
  | .base lo => if nfld x lo 5 = 24 then [] else [nfld x lo 5]
  | .pair lo => [nfld x lo 5, nfld x lo 5 + 1]
  | .mask lo => (List.range 24).filter (fun n => (nfld x lo 32).testBit n)
  | _ => []

/-- The floating-point registers a field names. -/
def Chk.fregs (x : Nat) : Chk → List Nat
  | .freg lo f => if nfld x f 2 = 2 then [nfld x lo 5, nfld x lo 5 + 1] else [nfld x lo 5]
  | .fraw lo => [nfld x lo 5]
  | .fquad lo => [nfld x lo 5, nfld x lo 5 + 1]
  | .group lo => (List.range 4).map (nfld x lo 5 + ·)
  | _ => []

/-- The physical registers an instruction names. -/
def OpInfo.dsts (op : OpInfo) (c : Core) (lvl bank x : Nat) : List Dst :=
  (op.checks.flatMap (Chk.regs x)).filterMap ((c.level bank).dstOf bank)
    ++ op.extra.filterMap ((c.level lvl).dstOf lvl)
    ++ (op.checks.flatMap (Chk.fregs x)).map Dst.f

/-- R90, R128, R163, R198: every operation whose result the instruction needs or overwrites completes first. -/
def Core.scoreboard (c : Core) (op : OpInfo) (lvl bank x : Nat) : Core :=
  let ds := op.dsts c lvl bank x
  let c1 := c.completeAll (fun o => o.hits ds || (op.fcw && o.isFp))
  c1.completeWhere lvl (fun o => (op.flags && o.flagged) || (op.dss && o.swWriter))

/-! One instruction -/

/-- R200: the instructions that no captured body holds. -/
def OpInfo.barred (op : OpInfo) : Bool :=
  op.page == 0 && [0x81, 0x23, 0x05, 0x22, 0x20, 0x21, 0x07, 0x06, 0x08, 0x91, 0x92, 0x71, 0x03, 0x01, 0x02,
    0x90, 0x04, 0x4F, 0x51, 0x52].contains op.opc

/-- R89: LDM and STM keep MPC; any other completion clears it. -/
def OpInfo.block (op : OpInfo) : Bool := op.page == 0 && (op.opc == 0xA1 || op.opc == 0xA2)

/-- The branch target of BR and BC, for the loop buffer. -/
def OpInfo.loopTarget (op : OpInfo) (e : Env) : Option Word :=
  if op.page = 0 && op.opc = 0x80 then some (e.target 0)
  else if op.page = 0 && op.opc = 0xA0 then some (e.target 16)
  else none

/-- R252, R246: an instruction has retired: a group closes after six, or where the flow of control is broken, and an
agreement point is due there and after the 64th. -/
def Core.retired1 (c : Core) (broken : Bool) : Core :=
  let c1 := { c with
    retired := c.retired + 1
    count := c.count + 1
    due := c.due || broken || decide (63 ≤ c.retired) }
  if broken || decide (6 ≤ c1.count - c1.openFrom) then c1.closeGroup else c1

/-- The instruction has completed: the ring takes it, the loop buffer follows a branch, MPC clears, the PC moves; `jumped`: the flow
of control was broken, as by a branch taken (R246). -/
def Core.retire (c : Core) (op : OpInfo) (e : Env) (jumped : Bool) (next : Word) : Core :=
  let o : RingOp := { ia := e.ia, len := e.len, n := if op.block then max 1 (popCount 24 (e.x / 2 ^ 16)) else 1,
                      barred := op.barred, target := op.loopTarget e, lines := e.flines }
  let p := c.priv.pushRing o
  let p1 := match op.loopTarget e with
    | some _ => p.branch e.ia next jumped
    | none => p
  let c1 := ({ c.freed with priv := p1 }).modLevel e.lvl (fun l => { l with
    pc := next
    sw := if op.block then l.sw else swSetMpc l.sw 0 })
  c1.retired1 jumped

/-- How an instruction's effect is finished. -/
def State.finish (op : OpInfo) (e : Env) : Res → State
  | .done s => s.modCore e.lc (fun c => c.retire op e false (e.ia + BitVec.ofNat 64 e.len))
  | .jump s pc => s.modCore e.lc (fun c => c.retire op e true pc)
  | .trap s t => s.takeTrap e.lc e.lvl t
  | .wait s => (s.modCore e.lc (fun c => { c with issuedAt := some e.lvl })).agreeSoon e.lc
  | .hold s => s.agreeSoon e.lc
  | .ended s => s.modCore e.lc Core.freed

/-- R84, R85: before a floating-point instruction of a level that is not the owner.  An exception that the operations in
flight leave pending for the level comes before the switch (R91). -/
def State.fpReady (s : State) (op : OpInfo) (e : Env) : Switched :=
  let c := s.core e.lc
  if !op.fp || c.fpOwner == e.lvl then .ok s
  else if bitOf c.arch.lvlCtl 12 then .stop (.trap s (e.trap 0x08 c.fpOwner 0))
  else
    let s1 := s.modCore e.lc (fun c => c.completeAll (·.isFp))
    match s1.comesFirst e.lc e.lvl with
    | some t => .stop (.ended (s1.deliverAt e.lc e.lvl t e.ia))
    | none => s1.fpSwitch e e.lvl

/-- The environment of an instruction at the current level. -/
def mkEnv (lc l : Nat) (c : Core) (op : OpInfo) (pfx : List Pfx) (met : Met) (flines : List Nat) (x : Nat) : Env :=
  { lc, lvl := l, bank := (pfxBank pfx).getD l, ia := (c.level l).pc, len := op.length pfx, x,
    w32 := pfxW32 pfx, nt := pfxNt pfx, imm64 := pfxImm64 pfx, sup := swS (c.level l).sw, met, flines }

/-- How a fetch ends (R102): its bytes are there; it waits; they do not translate, from an address on; a line of them, or of the
tables, cannot be read. -/
inductive FetchSt where
  | ok
  | wait
  | refused (va detail : Nat)
  | poison (line : Nat)
  deriving DecidableEq, Repr

/-- What a translation that gives no address leaves of a fetch. -/
def Tr.fetchSt (va : Nat) : Tr → FetchSt
  | .ok _ _ => .ok
  | .refused d => .refused va d
  | .poison line => .poison line
  | .wait => .wait

/-- R95, R109, R116: the physical lines of `len` bytes at the PC. -/
def State.fetchLines (s : State) (lc l len : Nat) (errs : List ErrSeen) : State × List Nat × FetchSt :=
  let v := (s.core lc).level l
  let va := v.pc.toNat
  match (s.transErrs lc l .fetch va errs).translate lc l .fetch va (swS v.sw) with
  | (s1, .ok pa left) =>
    if len ≤ left then (s1, linesOf pa len, .ok)
    else
      let vb := (va + left) % 2 ^ 64
      match s1.translate lc l .fetch vb (swS v.sw) with
      | (s2, .ok pb _) => (s2, linesOf pa left ++ linesOf pb (len - left), .ok)
      | (s2, t) => (s2, [], t.fetchSt vb)
  | (s1, t) => (s1, [], t.fetchSt va)

/-- R206, R208, R222, R246: lines of an instruction are read: errors are met at the first, and those that are here fill L1 and L2. -/
def State.fetchRead (s : State) (lc : Nat) (lines : List Nat) (errs : List ErrSeen) : State × FetchSt :=
  let s1 := match lines with
    | line :: _ => s.errsSeen (some lc) line errs
    | [] => s
  match s1.demands lc true lines with
  | (s2, false) => (s2, .wait)
  | (s2, true) =>
    match (lines.foldl State.mcAccess s2).readyRead (.core lc) lines with
    | (s3, .poison line) => (s3, .poison line)
    | (s3, .wait) => (s3, .wait)
    | (s3, .ok) => (lines.foldl (fun s line => s.touchInstr lc line) s3, .ok)

/-- R95, R200, R206: an instruction of `len` bytes is fetched, with the physical lines that hold it; the loop buffer plays an
operation that it holds, and nothing is fetched. -/
def State.fetched (s : State) (lc l len : Nat) (errs : List ErrSeen) : State × List Nat × FetchSt :=
  match (s.core lc).priv.played ((s.core lc).level l).pc with
  | some o => (s, o.lines, .ok)
  | none =>
    match s.fetchLines lc l len errs with
    | (s1, lines, .ok) => let (s2, st) := s1.fetchRead lc lines errs; (s2, lines, st)
    | r => r

/-- R102, R120, R222: a fetch that has not brought the instruction: it waits, or its trap is taken. -/
def State.fetchStop (s : State) (lc l : Nat) (st : FetchSt) : State :=
  let ia := ((s.core lc).level l).pc
  match st with
  | .refused va d => s.trapUnissued lc l id { code := 0x03, imp := false, addr := BitVec.ofNat 64 va, iaddr := ia, detail := d }
  | .poison line =>
    s.trapUnissued lc l (fun s => s.holdPoison lc line) { code := 0x0F, imp := false, addr := BitVec.ofNat 64 line, iaddr := ia, detail := 0 }
  | _ => s

/-- R102: what the decoder makes of an instruction. -/
def Env.decodeTrap (e : Env) : DecodeTrap → TrapInfo
  | .illegal d => e.trap 0x01 d 0
  | .privileged => e.trap 0x02 0 0

/-- R84, R198, R91: an instruction that has been decoded waits for what it needs; an exception that becomes deliverable while
it waits comes before it. -/
def State.start (s : State) (op : OpInfo) (e : Env) (body : Env → State → Res) : State :=
  match s.fpReady op e with
  | .stop r => State.finish op e r
  | .ok s1 =>
    let s2 := s1.modCore e.lc (fun c => c.scoreboard op e.lvl e.bank e.x)
    match s2.comesFirst e.lc e.lvl with
    | some t => s2.deliverAt e.lc e.lvl t e.ia
    | none => State.finish op e (body e s2)

/-- R102: the bytes of an instruction that the decoder reads before step 4: up to a prefix at fault, up to the opcode where that or the
length is refused, else all. -/
def OpInfo.bytesRead (op : OpInfo) (pfx : List Pfx) : Nat :=
  match pfxScan pfx 0 [], prefixCheck op pfx with
  | some off, _ => off + 1
  | none, some _ => pfxBytes pfx + op.opBytes
  | none, none => op.length pfx

/-- An instruction that may issue (R91, R102, R84, R198). -/
def State.issue (s : State) (l : Nat) (op : OpInfo) (i : Ins) (x : Nat) (body : Env → State → Res) : State :=
  match s.comesFirst i.core l with
  | some t => s.deliverAt i.core l t ((s.core i.core).level l).pc
  | none =>
    match s.fetched i.core l (op.bytesRead i.pfx) i.met.fetch with
    | (s1, lines, .ok) =>
      let e := mkEnv i.core l (s1.core i.core) op i.pfx i.met lines x
      match decodeCheck op i.pfx x e.sup with
      | some t => s1.trapUnissued e.lc e.lvl id (e.decodeTrap t)
      | none => s1.start op e body
    | (s1, _, st) => s1.fetchStop i.core l st

/-- One instruction of a logical core: nothing happens on a core that cannot issue or has no level to run. -/
def State.runInsn (s : State) (op : OpInfo) (i : Ins) (x : Nat) (body : Env → State → Res) : State :=
  if s.canIssue i.core then
    match s.boundary i.core with
    | (s1, false) => s1
    | (s1, true) =>
      match s1.canIssue i.core, (s1.core i.core).current with
      | true, some l => (s1.issue l op i x body).ackConsumed (s1.core i.core) i.core
      | _, _ => s1
  else s

end Sys2Proof.Machine
end

