-- ==== Sys2Proof/Machine/Operands.lean ====
section
/-! DEFINITION. The shared bodies of instructions: operands in, results and flags out (R101, R105, R131), long
operations (R90), waiting for what came before (R153, R214), and the outcome of a meaning. -/

namespace Sys2Proof.Machine

/-- The outcome of a meaning. -/
abbrev Out : Type := Host.Outcome State Fault Refusal

/-! Integer results -/

/-- rd and flags from a result. -/
def State.putAlu (s : State) (e : Env) (r : Alu) : State := (s.setNat e e.rd r.res).setFlags e r.flags

/-- RRR: rd = f ra rb. -/
def bodyAlu (f : Nat → Nat → Nat → Word → Alu) (e : Env) (s : State) : Res :=
  .done (s.putAlu e (f e.width (s.src e e.ra) (s.src e e.rb) (s.sw e)))

/-- RRR without a destination: flags only. -/
def bodyTest (f : Nat → Nat → Nat → Alu) (e : Env) (s : State) : Res :=
  .done (s.setFlags e (f e.width (s.src e e.ra) (s.src e e.rb)).flags)

/-- RR: rd = f ra. -/
def bodyUnary (f : Nat → Nat → Alu) (e : Env) (s : State) : Res :=
  .done (s.putAlu e (f e.width (s.src e e.ra)))

/-- The immediate of an immediate form as an operand: RI32 has it at bit 16, RI at bit 10 (R105). -/
def Env.immOperand (e : Env) (ri32 : Bool) : Nat :=
  (if ri32 then e.immAt 16 else e.immRI).toNat % 2 ^ e.width

/-- Immediate forms: rd = f ra imm. -/
def bodyImm (ri32 : Bool) (f : Nat → Nat → Nat → Alu) (e : Env) (s : State) : Res :=
  .done (s.putAlu e (f e.width (s.src e e.ra) (e.immOperand ri32)))

/-- CMPI: flags only. -/
def bodyImmTest (ri32 : Bool) (f : Nat → Nat → Nat → Alu) (e : Env) (s : State) : Res :=
  .done (s.setFlags e (f e.width (s.src e e.ra) (e.immOperand ri32)).flags)

/-- Shifts and rotates: the count is rb[5:0] (rb[4:0] under W32), or imm6 (R129, R133). -/
def bodyShift (imm : Bool) (f : Nat → Nat → Nat → Alu) (e : Env) (s : State) : Res :=
  let n := if imm then e.imm6 else (s.reg e e.rb).toNat % e.width
  .done (s.putAlu e (f e.width (s.src e e.ra) n))

/-- An instruction of an immediate form (R124). -/
def State.runImm (s : State) (ri ri32 : OpInfo) (i : Ins) (o : ImmForm) (body : Bool → Env → State → Res) : State :=
  match o with
  | .ri x => s.runInsn ri i x.pack (body false)
  | .ri32 x => s.runInsn ri32 i x.pack (body true)

/-- A load or store of either form, with its effective address (R106). -/
def State.runMem (s : State) (ri rri : OpInfo) (i : Ins) (o : MemForm) (body : Nat → Env → State → Res) : State :=
  match o with
  | .ri x => s.runInsn ri i x.pack (fun e s => body (s.eaRI e).toNat e s)
  | .rri x => s.runInsn rri i x.pack (fun e s => body (s.eaRRI e).toNat e s)

/-! Long operations -/

/-- The imprecise exception of a long operation (R90, R91). -/
def Env.excOf (e : Env) (code detail : Nat) : TrapInfo :=
  { code, imp := true, addr := 0, iaddr := e.ia, detail }

/-- A long operation on integer registers. -/
def Env.longOp (e : Env) (ws : List (Dst × Word)) (flags : Option Nat) (dss : Option Bool) (exc : Option TrapInfo) :
    LongOp :=
  { iaddr := e.ia, idx := 0, writes := ws, flags, dss, fpFlags := 0, isFp := false, exc, done := false }

/-- The write of register `n` of the named bank, none for G0. -/
def State.wr (s : State) (e : Env) (n v : Nat) : List (Dst × Word) :=
  match ((s.core e.lc).level e.bank).dstOf e.bank n with
  | some d => [(d, BitVec.ofNat 64 v)]
  | none => []

/-- R252: a long operation issues at the count that its instruction has in program order. -/
def State.issueLong (s : State) (e : Env) (op : LongOp) : State :=
  s.modCore e.lc (fun c => c.issueOp e.lvl { op with idx := c.count })

/-- A register pair's 128-bit value (R127). -/
def State.pairNat (s : State) (e : Env) (n : Nat) : Nat := (s.reg e n).toNat + (s.reg e (n + 1)).toNat * 2 ^ 64

/-- The writes of a 128-bit value to a pair. -/
def State.wrPair (s : State) (e : Env) (n v : Nat) : List (Dst × Word) :=
  s.wr e n (v % 2 ^ 64) ++ s.wr e (n + 1) (v / 2 ^ 64 % 2 ^ 64)

/-! Chains of division steps (R136, R177) -/

/-- The chain whose DSS the current level now holds. -/
def State.setChain (s : State) (e : Env) (o : DssBy) : State :=
  s.modCore e.lc (fun c => c.modLevel e.lvl (fun v => { v with dssBy := o }))

/-- The chain whose DSS the current level holds. -/
def State.chain (s : State) (e : Env) : DssBy := ((s.core e.lc).level e.lvl).dssBy

/-- R136: a DSTEP with f = 0 on a pair, with divisor `d`, goes on with a correct chain. -/
def DssBy.steps (o : DssBy) (bank rd d : Nat) : Bool :=
  match o with
  | .any => true
  | .int b r d' n => b == bank && r == rd && d' == d && decide (n < 64)
  | _ => false

/-- R136: a DSFIX or DSFIXS on a pair, with divisor `d`, ends a correct chain. -/
def DssBy.ends (o : DssBy) (bank rd d : Nat) : Bool :=
  match o with
  | .any => true
  | .int b r d' n => b == bank && r == rd && d' == d && n == 64
  | _ => false

/-- R177: an FDSTEP or FDFIN on a group goes on with the chain of that group. -/
def DssBy.onGroup (o : DssBy) (n : Nat) : Bool :=
  match o with
  | .any => true
  | .flt m => m == n
  | _ => false

/-- A chain after one more step. -/
def DssBy.next : DssBy → DssBy
  | .int b r d n => .int b r d (n + 1)
  | o => o

/-- `n` free values are drawn. -/
def State.drawn (s : State) (n : Nat) : State := { s with free := s.free + n }

/-! Waiting -/

/-- R63, R91, R153: an instruction that issues after every earlier long operation of its level: they complete, and the oldest
pending exception comes before it. -/
def State.barrier (s : State) (e : Env) (go : State → Res) : Res :=
  (s.modCore e.lc (fun c => c.completeWhere e.lvl (fun _ => true))).unlessPending e go

/-- R214: an instruction that issues only when everything earlier is visible and the store buffer empty. -/
def drained (body : Env → State → Res) (e : Env) (s : State) : Res :=
  match s.quiesce e.lc with
  | (s1, true) => s1.unlessPending e (body e)
  | (s1, false) => .hold s1

end Sys2Proof.Machine
end

