-- ==== Sys2Proof/Machine/Integer.lean ====
section
/-! DEFINITION. Integer arithmetic and logic (R131, R132), multiplication, shifts and rotates (R133), division by
steps (R134, R135), packed decimal (R138 to R141). -/

namespace Sys2Proof.Machine

def execNeg (i : Ins) (o : OpsRR) (s : State) : Out :=
  .next (s.runInsn Op.neg i o.pack (bodyUnary (fun w a => aluSub w 0 a 0)))

def execNot (i : Ins) (o : OpsRR) (s : State) : Out :=
  .next (s.runInsn Op.not i o.pack (bodyUnary (fun w a => aluLogic w (2 ^ w - 1 - a))))

def execAbs (i : Ins) (o : OpsRR) (s : State) : Out :=
  .next (s.runInsn Op.abs i o.pack (bodyUnary aluAbs))

def execClz (i : Ins) (o : OpsRR) (s : State) : Out :=
  .next (s.runInsn Op.clz i o.pack (bodyUnary (fun w a => aluLogic w (leadingZeros w a))))

def execPopc (i : Ins) (o : OpsRR) (s : State) : Out :=
  .next (s.runInsn Op.popc i o.pack (bodyUnary (fun w a => aluLogic w (popCount w a))))

def execBswap (i : Ins) (o : OpsRR) (s : State) : Out :=
  .next (s.runInsn Op.bswap i o.pack (bodyUnary (fun w a => aluLogic w (byteSwap w a))))

/-- SXT: ra[k:0] sign-extended from bit k. -/
def execSxt (i : Ins) (o : OpsRR) (s : State) : Out :=
  .next (s.runInsn Op.sxt i o.pack (fun e s =>
    bodyUnary (fun w a => aluLogic w (sextWord (e.imm6 + 1) a).toNat) e s))

/-- ZXT: ra[k:0] zero-extended. -/
def execZxt (i : Ins) (o : OpsRR) (s : State) : Out :=
  .next (s.runInsn Op.zxt i o.pack (fun e s =>
    bodyUnary (fun w a => aluLogic w (a % 2 ^ (e.imm6 + 1))) e s))

def execShli (i : Ins) (o : OpsRR) (s : State) : Out := .next (s.runInsn Op.shli i o.pack (bodyShift true aluShl))
def execShri (i : Ins) (o : OpsRR) (s : State) : Out := .next (s.runInsn Op.shri i o.pack (bodyShift true aluShr))
def execSari (i : Ins) (o : OpsRR) (s : State) : Out := .next (s.runInsn Op.sari i o.pack (bodyShift true aluSar))
def execRori (i : Ins) (o : OpsRR) (s : State) : Out := .next (s.runInsn Op.rori i o.pack (bodyShift true aluRor))

/-- The long operation of a step: the pair and DSS are written. -/
def State.stepPair (s : State) (e : Env) (p q : Nat) (dss : Bool) : State :=
  s.issueLong e (e.longOp (s.wr e e.rd p ++ s.wr e (e.rd + 1) q) none (some dss) none)

/-- R134: DSTEP on the pair rd, divisor ra; imm6[0] = 1 begins a chain.  A step of a chain of another form leaves free values in
the pair and DSS (R136). -/
def bodyDstep (e : Env) (s : State) : Res :=
  let first := e.imm6 % 2 == 1
  let d := (s.reg e e.ra).toNat
  if first || (s.chain e).steps e.bank e.rd d then
    let p := if first then 0 else (s.reg e e.rd).toNat
    let dss := !first && swDss (s.sw e)
    let (p', q', d') := divStep p (s.reg e (e.rd + 1)).toNat d dss
    .done ((s.stepPair e p' q' d').setChain e (if first then .int e.bank e.rd d 1 else (s.chain e).next))
  else
    .done (((s.stepPair e (Config.freeWord s.free).toNat (Config.freeWord (s.free + 1)).toNat
      (bitOf (Config.freeWord (s.free + 2)) 0)).drawn 3).setChain e .none)

def execDstep (i : Ins) (o : OpsRR) (s : State) : Out := .next (s.runInsn Op.dstep i o.pack bodyDstep)

/-- R139: the first invalid nibble of the operands, in order. -/
def decFault (e : Env) (xs : List Nat) : Option TrapInfo :=
  (xs.findSome? decInvalid).map (e.excOf 0x0A)

/-- R139 to R141: a decimal operation issues; an invalid operand leaves pair and flags unchanged. -/
def bodyDecimal (operands : Env → State → List Nat) (f : List Nat → Int) (trapOvf : Bool) (e : Env) (s : State) : Res :=
  let xs := operands e s
  match decFault e xs with
  | some t => .done (s.issueLong e (e.longOp [] none none (some t)))
  | none =>
    let (r, fl, ovf) := decResult (f xs)
    .done (s.issueLong e (e.longOp (s.wrPair e e.rd r) (some fl) none
      (if trapOvf && ovf then some (e.excOf 0x0B 0) else none)))

def decTwo (e : Env) (s : State) : List Nat := [s.pairNat e e.ra, s.pairNat e e.rb]
def decSum (xs : List Nat) : Int := decValue (xs.getD 0 0) + decValue (xs.getD 1 0)
def decDiff (xs : List Nat) : Int := decValue (xs.getD 0 0) - decValue (xs.getD 1 0)

def execDval (i : Ins) (o : OpsRR) (s : State) : Out :=
  .next (s.runInsn Op.dval i o.pack
    (bodyDecimal (fun e s => [s.pairNat e e.ra]) (fun xs => decValue (xs.getD 0 0)) false))

def execDadd (i : Ins) (o : OpsRRR) (s : State) : Out :=
  .next (s.runInsn Op.dadd i o.pack (bodyDecimal decTwo decSum false))

def execDsub (i : Ins) (o : OpsRRR) (s : State) : Out :=
  .next (s.runInsn Op.dsub i o.pack (bodyDecimal decTwo decDiff false))

def execDaddt (i : Ins) (o : OpsRRR) (s : State) : Out :=
  .next (s.runInsn Op.daddt i o.pack (bodyDecimal decTwo decSum true))

def execDsubt (i : Ins) (o : OpsRRR) (s : State) : Out :=
  .next (s.runInsn Op.dsubt i o.pack (bodyDecimal decTwo decDiff true))

/-- The long operation that ends a division: the pair and the flags are written, DSS is 0. -/
def State.fixPair (s : State) (e : Env) (p q fl : Nat) : State :=
  s.issueLong e (e.longOp (s.wr e e.rd p ++ s.wr e (e.rd + 1) q) (some fl) (some false) none)

/-- R135: the divisor of the chain that DSFIX or DSFIXS ends. -/
def fixDivisor (sgn : Bool) (ra : Nat) : Nat := if sgn then (sextWord 64 ra).toInt.natAbs else ra

/-- R135: DSFIX and DSFIXS.  At the end of a chain of another form they leave free values in the pair and the flags (R136); a chain
whose dividend is not that of rb, or whose pair was written between steps, computes as R135's pseudocode says (DESIGN CHOICE, log
entry 166). -/
def bodyDivFix (sgn : Bool) (e : Env) (s : State) : Res :=
  let ra := (s.reg e e.ra).toNat
  if ra = 0 then .done ((s.issueLong e (e.longOp [] none (some false) (some (e.excOf 0x0C 0)))).setChain e .none)
  else if (s.chain e).ends e.bank e.rd (fixDivisor sgn ra) then
    let (p, q, fl) := divFix sgn (s.reg e e.rd).toNat (s.reg e (e.rd + 1)).toNat ra (s.reg e e.rb).toNat
      (swDss (s.sw e))
    .done ((s.fixPair e p q fl).setChain e .none)
  else
    .done (((s.fixPair e (Config.freeWord s.free).toNat (Config.freeWord (s.free + 1)).toNat
      (fld (Config.freeWord (s.free + 2)) 0 4)).drawn 3).setChain e .none)

def execDsfix (i : Ins) (o : OpsRRR) (s : State) : Out := .next (s.runInsn Op.dsfix i o.pack (bodyDivFix false))
def execDsfixs (i : Ins) (o : OpsRRR) (s : State) : Out := .next (s.runInsn Op.dsfixs i o.pack (bodyDivFix true))

def execAdd (i : Ins) (o : OpsRRR) (s : State) : Out :=
  .next (s.runInsn Op.add i o.pack (bodyAlu (fun w a b _ => aluAdd w a b 0)))

def execAdc (i : Ins) (o : OpsRRR) (s : State) : Out :=
  .next (s.runInsn Op.adc i o.pack (bodyAlu (fun w a b sw => aluAdd w a b (b2n (swC sw)))))

def execSub (i : Ins) (o : OpsRRR) (s : State) : Out :=
  .next (s.runInsn Op.sub i o.pack (bodyAlu (fun w a b _ => aluSub w a b 0)))

def execSbc (i : Ins) (o : OpsRRR) (s : State) : Out :=
  .next (s.runInsn Op.sbc i o.pack (bodyAlu (fun w a b sw => aluSub w a b (1 - b2n (swC sw)))))

def execAnd (i : Ins) (o : OpsRRR) (s : State) : Out :=
  .next (s.runInsn Op.and i o.pack (bodyAlu (fun w a b _ => aluLogic w (Nat.land a b))))

def execOr (i : Ins) (o : OpsRRR) (s : State) : Out :=
  .next (s.runInsn Op.or i o.pack (bodyAlu (fun w a b _ => aluLogic w (Nat.lor a b))))

def execXor (i : Ins) (o : OpsRRR) (s : State) : Out :=
  .next (s.runInsn Op.xor i o.pack (bodyAlu (fun w a b _ => aluLogic w (Nat.xor a b))))

def execAndn (i : Ins) (o : OpsRRR) (s : State) : Out :=
  .next (s.runInsn Op.andn i o.pack (bodyAlu (fun w a b _ => aluLogic w (Nat.land a (2 ^ w - 1 - b)))))

def execShl (i : Ins) (o : OpsRRR) (s : State) : Out := .next (s.runInsn Op.shl i o.pack (bodyShift false aluShl))
def execShr (i : Ins) (o : OpsRRR) (s : State) : Out := .next (s.runInsn Op.shr i o.pack (bodyShift false aluShr))
def execSar (i : Ins) (o : OpsRRR) (s : State) : Out := .next (s.runInsn Op.sar i o.pack (bodyShift false aluSar))
def execRor (i : Ins) (o : OpsRRR) (s : State) : Out := .next (s.runInsn Op.ror i o.pack (bodyShift false aluRor))

def execMul (i : Ins) (o : OpsRRR) (s : State) : Out :=
  .next (s.runInsn Op.mul i o.pack (bodyAlu (fun w a b _ => aluMul w a b)))

/-- MULH and MULHU are long and write no flag (R133). -/
def bodyMulHigh (f : Nat → Nat → Nat → Nat) (e : Env) (s : State) : Res :=
  .done (s.issueLong e (e.longOp (s.wr e e.rd (f e.width (s.src e e.ra) (s.src e e.rb))) none none none))

def execMulh (i : Ins) (o : OpsRRR) (s : State) : Out := .next (s.runInsn Op.mulh i o.pack (bodyMulHigh mulHighS))
def execMulhu (i : Ins) (o : OpsRRR) (s : State) : Out := .next (s.runInsn Op.mulhu i o.pack (bodyMulHigh mulHighU))

def execCmp (i : Ins) (o : OpsRRR) (s : State) : Out :=
  .next (s.runInsn Op.cmp i o.pack (bodyTest (fun w a b => aluSub w a b 0)))

def execTst (i : Ins) (o : OpsRRR) (s : State) : Out :=
  .next (s.runInsn Op.tst i o.pack (bodyTest (fun w a b => aluLogic w (Nat.land a b))))

def execAddi (i : Ins) (o : ImmForm) (s : State) : Out :=
  .next (s.runImm Op.addiRI Op.addi32 i o (fun b => bodyImm b (fun w x y => aluAdd w x y 0)))

def execAndi (i : Ins) (o : ImmForm) (s : State) : Out :=
  .next (s.runImm Op.andiRI Op.andi32 i o (fun b => bodyImm b (fun w x y => aluLogic w (Nat.land x y))))

def execOri (i : Ins) (o : ImmForm) (s : State) : Out :=
  .next (s.runImm Op.oriRI Op.ori32 i o (fun b => bodyImm b (fun w x y => aluLogic w (Nat.lor x y))))

def execXori (i : Ins) (o : ImmForm) (s : State) : Out :=
  .next (s.runImm Op.xoriRI Op.xori32 i o (fun b => bodyImm b (fun w x y => aluLogic w (Nat.xor x y))))

def execCmpi (i : Ins) (o : ImmForm) (s : State) : Out :=
  .next (s.runImm Op.cmpiRI Op.cmpi32 i o (fun b => bodyImmTest b (fun w x y => aluSub w x y 0)))

end Sys2Proof.Machine
end

