-- ==== Sys2Proof/Machine/Float.lean ====
section
/-! DEFINITION. Floating-point arithmetic (R160 to R191), exact over integers and rounded once.  An operand
is its bit string as a number; flags are laid out as FCW[4:0]: IX, UF, OF, DZ, IV from bit 0 up (R162). -/

namespace Sys2Proof.Machine

/-- R161: width, precision, exponent bias. -/
structure Fmt where
  w : Nat
  p : Nat
  bias : Nat
  deriving DecidableEq, Repr

/-- R161: the format of an fmt field. -/
def fmtOf (n : Nat) : Fmt :=
  if n = 0 then ⟨32, 24, 127⟩ else if n = 1 then ⟨64, 53, 1023⟩ else ⟨128, 113, 16383⟩

def Fmt.eMax (f : Fmt) : Int := f.bias
def Fmt.eMin (f : Fmt) : Int := 1 - (f.bias : Int)

/-- The exponent field of infinities and NaNs. -/
def Fmt.eTop (f : Fmt) : Nat := 2 * f.bias + 1

def flagIx : Nat := 1
def flagUf : Nat := 2
def flagOf : Nat := 4
def flagDz : Nat := 8
def flagIv : Nat := 16

/-- What an operand is: a NaN (its bits), an infinity, or (−1)^s · m · 2^e, with m = 0 for a zero. -/
inductive FVal where
  | nan (bits : Nat)
  | inf (s : Bool)
  | fin (s : Bool) (m : Nat) (e : Int)
  deriving DecidableEq, Repr

def fSign (f : Fmt) (x : Nat) : Bool := x.testBit (f.w - 1)
def fExp (f : Fmt) (x : Nat) : Nat := x / 2 ^ (f.p - 1) % 2 ^ (f.w - f.p)
def fFrac (f : Fmt) (x : Nat) : Nat := x % 2 ^ (f.p - 1)

/-- The operand a bit string is (R160, R161). -/
def fUnpack (f : Fmt) (x : Nat) : FVal :=
  let s := fSign f x
  let ex := fExp f x
  let fr := fFrac f x
  if ex = f.eTop then (if fr = 0 then .inf s else .nan (x % 2 ^ f.w))
  else if ex = 0 then .fin s fr (f.eMin - ((f.p : Int) - 1))
  else .fin s (fr + 2 ^ (f.p - 1)) ((ex : Int) - f.bias - ((f.p : Int) - 1))

/-- A bit string from sign, exponent field and fraction. -/
def fPack (f : Fmt) (s : Bool) (ex fr : Nat) : Nat :=
  b2n s * 2 ^ (f.w - 1) + ex * 2 ^ (f.p - 1) + fr

def fInf (f : Fmt) (s : Bool) : Nat := fPack f s f.eTop 0
def fZero (f : Fmt) (s : Bool) : Nat := fPack f s 0 0

/-- The largest finite value M. -/
def fMax (f : Fmt) (s : Bool) : Nat := fPack f s (f.eTop - 1) (2 ^ (f.p - 1) - 1)

/-- R168: the default NaN. -/
def fDefaultNan (f : Fmt) : Nat := fPack f false f.eTop (2 ^ (f.p - 2))

/-- R168: a NaN is quiet if its quiet bit is 1. -/
def fQuietBit (f : Fmt) (x : Nat) : Bool := x.testBit (f.p - 2)
def fQuieten (f : Fmt) (x : Nat) : Nat := if fQuietBit f x then x else x + 2 ^ (f.p - 2)
def fSnan (f : Fmt) (x : Nat) : Bool :=
  match fUnpack f x with
  | .nan b => !fQuietBit f b
  | _ => false

/-- A result and the flags it sets. -/
structure FRes where
  bits : Nat
  flags : Nat
  deriving DecidableEq, Repr

/-- R164: whether a magnitude with integer part `r0` and remainder `rem` of 2^`s` rounds up; s > 0. -/
def roundUp (rm : Nat) (sign : Bool) (r0 rem s : Nat) : Bool :=
  let half := 2 ^ (s - 1)
  match rm with
  | 0 => decide (half < rem) || (rem == half && r0 % 2 == 1)
  | 1 => false
  | 2 => !sign && rem != 0
  | 3 => sign && rem != 0
  | _ => decide (half ≤ rem)

/-- m · 2^e rounded to a multiple of 2^q: the multiple, and whether it is inexact. -/
def roundTo (rm : Nat) (sign : Bool) (m : Nat) (e q : Int) : Nat × Bool :=
  if q ≤ e then (m * 2 ^ (e - q).toNat, false)
  else
    let s := (q - e).toNat
    let r0 := m / 2 ^ s
    let rem := m % 2 ^ s
    (r0 + b2n (roundUp rm sign r0 rem s), rem != 0)

/-- R167: what an overflow delivers. -/
def fOverflow (f : Fmt) (rm : Nat) (s : Bool) : FRes :=
  let toInf := match rm with
    | 0 => true
    | 1 => false
    | 2 => !s
    | 3 => s
    | _ => true
  ⟨if toInf then fInf f s else fMax f s, flagOf + flagIx⟩

/-- R164, R166, R167: (−1)^s · m · 2^e, m > 0, rounded once to the format. -/
def fRound (f : Fmt) (rm : Nat) (s : Bool) (m : Nat) (e : Int) : FRes :=
  let lead : Int := e + (Nat.log2 m : Int)
  let qn := lead - ((f.p : Int) - 1)
  let q := max qn (f.eMin - ((f.p : Int) - 1))
  let (r, ix) := roundTo rm s m e q
  let (ru, _) := roundTo rm s m e qn
  let eu := if ru = 2 ^ f.p then lead + 1 else lead
  if f.eMax < eu then fOverflow f rm s
  else
    let uf := decide (eu < f.eMin) && ix
    let bits :=
      if r = 2 ^ f.p then fPack f s (q + f.p + f.bias).toNat 0
      else if r < 2 ^ (f.p - 1) then fPack f s 0 r
      else fPack f s (q + ((f.p : Int) - 1) + f.bias).toNat (r - 2 ^ (f.p - 1))
    ⟨bits, b2n ix * flagIx + b2n uf * flagUf⟩

/-- R168: the result for NaN operands: the first one quietened, IV if any is signalling. -/
def fNanResult (f : Fmt) (xs : List Nat) : Option FRes :=
  match xs.find? (fun x => match fUnpack f x with | .nan _ => true | _ => false) with
  | some x => some ⟨fQuieten f (x % 2 ^ f.w), if xs.any (fSnan f) then flagIv else 0⟩
  | none => none

/-- R168: an invalid operation on operands that are not NaNs. -/
def fInvalid (f : Fmt) : FRes := ⟨fDefaultNan f, flagIv⟩

/-- R186: addition. -/
def fAdd (f : Fmt) (rm a b : Nat) : FRes :=
  match fNanResult f [a, b] with
  | some r => r
  | none =>
    match fUnpack f a, fUnpack f b with
    | .inf s, .inf t => if s = t then ⟨fInf f s, 0⟩ else fInvalid f
    | .inf s, _ => ⟨fInf f s, 0⟩
    | _, .inf t => ⟨fInf f t, 0⟩
    | .fin s m e, .fin t n d =>
      let q := min e d
      let x : Int := (m * 2 ^ (e - q).toNat : Nat)
      let y : Int := (n * 2 ^ (d - q).toNat : Nat)
      let sum := (if s then -x else x) + (if t then -y else y)
      if sum = 0 then ⟨fZero f (if s = t ∧ m = 0 then s else rm == 3), 0⟩
      else fRound f rm (decide (sum < 0)) sum.natAbs q
    | _, _ => fInvalid f

/-- R186: subtraction adds fb with its sign inverted, but a NaN is used as it stands. -/
def fSub (f : Fmt) (rm a b : Nat) : FRes :=
  match fUnpack f b with
  | .nan _ => fAdd f rm a b
  | _ => fAdd f rm a (Nat.xor b (2 ^ (f.w - 1)))

/-- R187: multiplication. -/
def fMul (f : Fmt) (rm a b : Nat) : FRes :=
  match fNanResult f [a, b] with
  | some r => r
  | none =>
    match fUnpack f a, fUnpack f b with
    | .inf s, .inf t => ⟨fInf f (s != t), 0⟩
    | .inf s, .fin t n _ => if n = 0 then fInvalid f else ⟨fInf f (s != t), 0⟩
    | .fin s m _, .inf t => if m = 0 then fInvalid f else ⟨fInf f (s != t), 0⟩
    | .fin s m e, .fin t n d =>
      if m * n = 0 then ⟨fZero f (s != t), 0⟩ else fRound f rm (s != t) (m * n) (e + d)
    | _, _ => fInvalid f

/-- R175: the sign of fa − fb for operands that are not NaNs. −0 and +0 compare equal. -/
def fOrder : FVal → FVal → Int
  | .inf s, .inf t => if s = t then 0 else if s then -1 else 1
  | .inf s, _ => if s then -1 else 1
  | _, .inf t => if t then 1 else -1
  | .fin s m e, .fin t n d =>
    let q := min e d
    let i : Int := (m * 2 ^ (e - q).toNat : Nat)
    let j : Int := (n * 2 ^ (d - q).toNat : Nat)
    (if s then -i else i) - (if t then -j else j)
  | _, _ => 0

/-- R175: the flags of a comparison, C, V, Z, N as in SW[3:0], and the IV it sets. -/
def fCompare (f : Fmt) (signalling : Bool) (a b : Nat) : Nat × Nat :=
  match fUnpack f a, fUnpack f b with
  | .nan _, _ => (mkFlags false true false false, if signalling || fSnan f a || fSnan f b then flagIv else 0)
  | _, .nan _ => (mkFlags false true false false, if signalling || fSnan f b then flagIv else 0)
  | x, y =>
    if fOrder x y < 0 then (mkFlags false false false true, 0)
    else if fOrder x y = 0 then (mkFlags true false true false, 0)
    else (mkFlags true false false false, 0)

/-- R169: a NaN's payload kept aligned to its most significant end, then quietened. -/
def fNanConvert (src dst : Fmt) (x : Nat) : Nat :=
  let fr := fFrac src x
  let fr' := if src.p ≤ dst.p then fr * 2 ^ (dst.p - src.p) else fr / 2 ^ (src.p - dst.p)
  fQuieten dst (fPack dst (fSign src x) dst.eTop fr')

/-- R190: conversion between formats. -/
def fConvert (src dst : Fmt) (rm x : Nat) : FRes :=
  match fUnpack src x with
  | .nan b => ⟨fNanConvert src dst b, if fQuietBit src b then 0 else flagIv⟩
  | .inf s => ⟨fInf dst s, 0⟩
  | .fin s m e => if m = 0 then ⟨fZero dst s, 0⟩ else fRound dst rm s m e

/-- R190: rounding to an integral value; IX is never set. -/
def fRint (f : Fmt) (rm x : Nat) : FRes :=
  match fUnpack f x with
  | .nan b => ⟨fQuieten f b, if fQuietBit f b then 0 else flagIv⟩
  | .inf s => ⟨fInf f s, 0⟩
  | .fin s m e =>
    let (r, _) := roundTo rm s m e 0
    if r = 0 then ⟨fZero f s, 0⟩ else ⟨(fRound f 1 s r 0).bits, 0⟩

/-- R190: conversion to a 64-bit integer. -/
def fToInt (f : Fmt) (uns : Bool) (rm x : Nat) : FRes :=
  let maxV := if uns then 2 ^ 64 - 1 else 2 ^ 63 - 1
  let minV := if uns then 0 else 2 ^ 63
  match fUnpack f x with
  | .nan _ => ⟨0, flagIv⟩
  | .inf s => ⟨if s then minV else maxV, flagIv⟩
  | .fin s m e =>
    let (r, ix) := roundTo rm s m e 0
    if s && r != 0 then
      if uns || decide (2 ^ 63 < r) then ⟨minV, flagIv⟩ else ⟨(2 ^ 64 - r) % 2 ^ 64, b2n ix * flagIx⟩
    else if maxV < r then ⟨maxV, flagIv⟩
    else ⟨r, b2n ix * flagIx⟩

/-- R190: conversion from a 64-bit integer. -/
def fFromInt (f : Fmt) (uns : Bool) (rm x : Nat) : FRes :=
  let neg := !uns && topBit 64 x
  let m := if neg then 2 ^ 64 - x else x
  if m = 0 then ⟨fZero f false, 0⟩ else fRound f rm neg m 0

/-! Division and square root by steps (R177 to R181) -/

/-- What a group holds after k steps: the operands a′ and b scaled by 2^(p − 1), from which q_k and rem_k
follow, the exponent e, the sign, the format, the divisor's register, the step count; `bad` marks a chain of another form. -/
structure FdGroup where
  sqrt : Bool
  a : Nat
  b : Nat
  e : Int
  s : Bool
  fmt : Nat
  rb : Nat
  k : Nat
  bad : Bool
  deriving DecidableEq, Repr

/-- What FDSTART does: a chain to run, or a result known at once with its flags (R178 to R180). -/
inductive FdStart where
  | chain (g : FdGroup)
  | result (r : FRes)
  deriving DecidableEq, Repr

/-- A finite non-zero operand normalised: significand of p bits and the exponent of its leading bit. -/
def fNormal (f : Fmt) (m : Nat) (e : Int) : Nat × Int :=
  (m * 2 ^ (f.p - 1 - Nat.log2 m), e + (Nat.log2 m : Int))

/-- R178, R180, R188: FDSTART in its divide form; `rb`: the number of the divisor's register. -/
def fdStartDiv (fmt rb a b : Nat) : FdStart :=
  let f := fmtOf fmt
  match fNanResult f [a, b] with
  | some r => .result r
  | none =>
    match fUnpack f a, fUnpack f b with
    | .inf _, .inf _ => .result (fInvalid f)
    | .inf s, .fin t _ _ => .result ⟨fInf f (s != t), 0⟩
    | .fin s _ _, .inf t => .result ⟨fZero f (s != t), 0⟩
    | .fin s m e, .fin t n d =>
      if n = 0 then (if m = 0 then .result (fInvalid f) else .result ⟨fInf f (s != t), flagDz⟩)
      else if m = 0 then .result ⟨fZero f (s != t), 0⟩
      else
        let (x, ex) := fNormal f m e
        let (y, ey) := fNormal f n d
        if x < y then .chain ⟨false, 2 * x, y, ex - ey - 1, s != t, fmt, rb, 0, false⟩
        else .chain ⟨false, x, y, ex - ey, s != t, fmt, rb, 0, false⟩
    | _, _ => .result (fInvalid f)

/-- R179, R180, R189: FDSTART in its square-root form. -/
def fdStartSqrt (fmt a : Nat) : FdStart :=
  let f := fmtOf fmt
  match fNanResult f [a] with
  | some r => .result r
  | none =>
    match fUnpack f a with
    | .inf s => if s then .result (fInvalid f) else .result ⟨fInf f false, 0⟩
    | .fin s m e =>
      if m = 0 then .result ⟨fZero f s, 0⟩
      else if s then .result (fInvalid f)
      else
        let (x, ex) := fNormal f m e
        if ex % 2 = 0 then .chain ⟨true, x, 0, ex / 2, false, fmt, 0, 0, false⟩
        else .chain ⟨true, 2 * x, 0, (ex - 1) / 2, false, fmt, 0, 0, false⟩
    | _ => .result (fInvalid f)

/-- R177: the number of FDSTEPs of a correct chain. -/
def fdSteps (fmt : Nat) : Nat := if fmt = 0 then 4 else if fmt = 1 then 7 else 15

/-- R177: one FDSTEP; a step of another format, one that names another divisor register, or one too many leaves a chain of another
form. -/
def fdStepGroup (g : FdGroup) (fmt rb : Nat) : FdGroup :=
  { g with
    k := min 15 (g.k + 1)
    bad := g.bad || g.fmt != fmt || decide (fdSteps fmt ≤ g.k) || (!g.sqrt && g.rb != rb) }

/-- The integer square root, one bit at a time from bit `n - 1` down. -/
def isqrtBits : Nat → Nat → Nat → Nat
  | 0, _, r => r
  | n + 1, x, r => if (r + 2 ^ n) * (r + 2 ^ n) ≤ x then isqrtBits n x (r + 2 ^ n) else isqrtBits n x r

/-- R178, R179: q_k, and whether rem_k is not zero. -/
def FdGroup.quotient (g : FdGroup) : Nat × Bool :=
  if g.sqrt then
    let p := (fmtOf g.fmt).p
    -- a′ · 2^(16k − 2), a′ = a / 2^(p − 1), over an even power of two
    let num := g.a * 2 ^ (16 * g.k + 2 * p)
    let sh := p + 1 + 2 * p
    let x := num / 2 ^ sh
    let q := isqrtBits (8 * g.k + 1) x 0
    (q, q * q * 2 ^ sh != num)
  else
    let num := g.a * 2 ^ (8 * g.k)
    let q := num / (2 * g.b)
    (q, q * (2 * g.b) != num)

/-- R181: FDFIN rounds q_n · 2^(e − 8n + 1) with sticky information from rem_n. -/
def FdGroup.finish (g : FdGroup) (rm : Nat) : FRes :=
  let (q, st) := g.quotient
  fRound (fmtOf g.fmt) rm g.s (4 * q + b2n st) (g.e - 8 * g.k + 1 - 2)

/-- What a group holds, in its three highest bits: 0 to 2 a division in that format, 3 to 5 a square root, 6 a chain of another
form, 7 a result. -/
def FdGroup.kind (g : FdGroup) : Nat := if g.bad then 6 else g.fmt % 3 + if g.sqrt then 3 else 0

/-- The group's four registers as one number of 256 bits, before the mask of Config (R182); b stands without its leading one. -/
def FdGroup.encode (g : FdGroup) : Nat :=
  g.a % 2 ^ 114 + (g.b % 2 ^ ((fmtOf g.fmt).p - 1)) * 2 ^ 114 + ((g.e + 2 ^ 16).toNat % 2 ^ 17) * 2 ^ 226 + (g.rb % 32) * 2 ^ 243
    + b2n g.s * 2 ^ 248 + (g.k % 16) * 2 ^ 249 + g.kind * 2 ^ 253

/-- The group a number of 256 bits encodes, where it encodes a chain. -/
def FdGroup.decode (x : Nat) : FdGroup :=
  let n := nfld x 253 3
  { sqrt := n / 3 == 1, a := nfld x 0 114, b := if n < 3 then 2 ^ ((fmtOf n).p - 1) + nfld x 114 112 else 0,
    e := (nfld x 226 17 : Int) - 2 ^ 16, s := x.testBit 248, fmt := n % 3, rb := nfld x 243 5, k := nfld x 249 4, bad := 6 ≤ n }

/-- R180: a group that holds a result: its bits and its format. -/
def fdResultBits (fmt bits : Nat) : Nat := bits % 2 ^ 128 + fmt % 4 * 2 ^ 249 + 7 * 2 ^ 253

/-- R180: the format of the result that a group holds, if it holds one. -/
def fdResult (x : Nat) : Option Nat := if nfld x 253 3 = 7 then some (nfld x 249 4) else none

end Sys2Proof.Machine
end

