-- ==== Sys2Proof/Machine/Control.lean ====
section
/-! DEFINITION. Branches and window calls (R142, R78 to R82), barriers and level control (R61 to R63, R71, R91,
R156, R157), system and translation registers (R52 to R55, R114, R115, R158), TLBI (R122, R158), and the
traps of the decoder (R102). -/

namespace Sys2Proof.Machine

def execNop (i : Ins) (s : State) : Out := .next (s.runInsn Op.nop i 0 (fun _ s => .done s))

/-! Barriers -/

/-- R91: XBAR waits for every earlier long operation of the level and delivers the oldest pending exception. -/
def execXbar (i : Ins) (s : State) : Out :=
  .next (s.runInsn Op.xbar i 0 (fun e s => s.barrier e .done))

/-- R91: FBAR does the same for floating-point operations only: an exception of a floating-point operation is
delivered once every earlier operation of the level has completed, the oldest first. -/
def execFbar (i : Ins) (s : State) : Out :=
  .next (s.runInsn Op.fbar i 0 (fun e s =>
    let s1 := s.modCore e.lc (fun c => c.completeWhere e.lvl (·.isFp))
    if ((s1.core e.lc).level e.lvl).ops.any (fun o => o.isFp && o.exc.isSome) && !swTa (s1.sw e)
    then s1.barrier e .done
    else .done s1))

/-- R156, R214: MBAR. -/
def execMbar (i : Ins) (s : State) : Out :=
  .next (s.runInsn Op.mbar i 0 (drained (fun _ s => .done s)))

/-- R152, R202, R214: ISYNC discards what is fetched and decoded, the loop buffer and the instruction lines of the
side buffer. -/
def State.dropFetched (s : State) (lc : Nat) : State :=
  s.modCore lc (fun c => { c with priv := { c.priv.emptyLoop with side := c.priv.side.filter (fun x => !x.2) } })

def execIsync (i : Ins) (s : State) : Out :=
  .next (s.runInsn Op.isync i 0 (drained (fun e s => .done (s.dropFetched e.lc))))

/-! Windows -/

/-- R81: inside a window handler a window call is WINDOW_GUARD. -/
def Level.inWindowHandler (v : Level) : Bool :=
  swTa v.sw && (fld v.trapCause 0 8 == 6 || fld v.trapCause 0 8 == 7)

/-- R79: WINDOW_OVERFLOW; TRAP_SW has WG advanced, the live WP is the guard window for overflow. -/
def Core.windowOverflow (c : Core) (l : Nat) (t : TrapInfo) : Core :=
  let g := (swWg (c.level l).sw + 1) % 10
  c.trapWith l t t.iaddr (fun w => swSetWg w g) (fun w => swSetWp w g)

/-- R80: WINDOW_UNDERFLOW; TRAP_SW has WG moved back, the live WP is the old WG. -/
def Core.windowUnderflow (c : Core) (l : Nat) (t : TrapInfo) : Core :=
  let g := swWg (c.level l).sw
  c.trapWith l t t.iaddr (fun w => swSetWg w ((g + 9) % 10)) (fun w => swSetWp w g)

/-- A trap of a window instruction; the loop buffer is emptied (R201), and an agreement point is due (R246). -/
def State.windowTrap (s : State) (e : Env) (f : Core → Core) : Res :=
  let c := s.core e.lc
  .ended (s.putCore e.lc { f c with priv := c.priv.emptyLoop, due := true })

/-- R78, R142: a window call to `target`. -/
def State.callWindow (s : State) (e : Env) (target : Word) : Res :=
  let v := (s.core e.lc).level e.lvl
  let p := (swWp v.sw + 1) % 10
  if v.inWindowHandler then s.windowTrap e (fun c => c.trapGuarded e.lvl e.ia)
  else if p = swWg v.sw then s.windowTrap e (fun c => c.windowOverflow e.lvl (e.trap 0x06 0 0))
  else .jump (s.modCore e.lc (fun c => c.modLevel e.lvl (fun v =>
    ({ v with sw := swSetWp v.sw p }).writeR 13 (e.ia + BitVec.ofNat 64 e.len)))) target

def execCallw (i : Ins) (o : OpsJ) (s : State) : Out :=
  .next (s.runInsn Op.callw i o.pack (fun e s => s.callWindow e (e.target 0)))

/-- R142: ra is read before the window moves, from the named bank under XBANK (R50). -/
def execCallwr (i : Ins) (o : OpsR) (s : State) : Out :=
  .next (s.runInsn Op.callwr i o.pack (fun e s => s.callWindow e (s.baseReg e e.rd)))

/-- R78, R142: RETW reads W5 before the window moves back. -/
def execRetw (i : Ins) (s : State) : Out :=
  .next (s.runInsn Op.retw i 0 (fun e s =>
    let v := (s.core e.lc).level e.lvl
    let p := (swWp v.sw + 9) % 10
    if v.inWindowHandler then s.windowTrap e (fun c => c.trapGuarded e.lvl e.ia)
    else if p = swWg v.sw then s.windowTrap e (fun c => c.windowUnderflow e.lvl (e.trap 0x07 0 0))
    else .jump (s.setSw e (fun w => swSetWp w p)) (v.readR 13)))

/-! Branches -/

def execBr (i : Ins) (o : OpsJ) (s : State) : Out :=
  .next (s.runInsn Op.br i o.pack (fun e s => .jump s (e.target 0)))

def execBc (i : Ins) (o : OpsJC) (s : State) : Out :=
  .next (s.runInsn Op.bc i o.pack (fun e s =>
    let w := s.sw e
    if condHolds (nfld e.x 0 4) (swC w) (swV w) (swZ w) (swN w) then .jump s (e.target 16) else .done s))

/-- Layout R holds ra in bits [4:0]. -/
def execJmp (i : Ins) (o : OpsR) (s : State) : Out :=
  .next (s.runInsn Op.jmp i o.pack (fun e s => .jump s (s.baseReg e e.rd)))

/-! Level control -/

/-- R63: refused by the state of TA: ILLEGAL_INSTRUCTION, DETAIL the opcode byte (log entry 11). -/
def Env.badState (e : Env) (pfx : List Pfx) : TrapInfo := e.trap 0x01 (pfxBytes pfx) 0

/-- An instruction that sets PC and status itself has retired: the flow is broken, and the loop buffer empty (R201, R252). -/
def State.endsFlow (s : State) (e : Env) (f : Core → Core) : Res :=
  .ended (s.modCore e.lc (fun c => { (f c).retired1 true with priv := c.priv.emptyLoop }))

/-- R61, R63: the level ends, after its long operations and pending exceptions. -/
def State.endLevel (s : State) (e : Env) : Res :=
  s.barrier e (fun s => s.endsFlow e (fun c => c.endLevel e.lvl))

def execRetl (i : Ins) (s : State) : Out :=
  .next (s.runInsn Op.retl i 0 (fun e s =>
    if swTa (s.sw e) then .trap s (e.badState i.pfx) else s.endLevel e))

/-- R62, R63. -/
def execWait (i : Ins) (s : State) : Out :=
  .next (s.runInsn Op.wait i 0 (fun e s =>
    if swTa (s.sw e) then .trap s (e.badState i.pfx)
    else s.barrier e (fun s => s.endsFlow e (fun c =>
      (c.modLevel e.lvl (fun v => { v with sw := swSetMpc v.sw 0 })).beginWait e.lvl e.len))))

/-- The writable bits of SW in supervisor state (R51). -/
def swWritable : Word := 0x1FFF1FFF

/-- The bits of SW that problem state writes: C, V, Z, N, CT, DSS and IVE to IXE (R52). -/
def swUserWritable : Word := 0x1F6F

/-- A word merged into another under a mask. -/
def mergeWord (old new mask : Word) : Word := (old &&& ~~~mask) ||| (new &&& mask)

/-- R71: RETT restores PC and SW, or, when TRAP_CAUSE.IDLE is set, clears TA and acts as RETL.  What the handler had in
flight for the SW completes first (R128). -/
def execRett (i : Ins) (s : State) : Out :=
  .next (s.runInsn Op.rett i 0 (fun e s =>
    let v := (s.core e.lc).level e.lvl
    if !swTa v.sw then .trap s (e.badState i.pfx)
    else if bitOf v.trapCause 9 then (s.setSw e (fun w => swSetTa w false)).endLevel e
    else s.endsFlow e (fun c => (c.settleSw e.lvl).modLevel e.lvl (fun v =>
      { v with pc := v.trapPc, sw := mergeWord v.sw v.trapSw swWritable, dssBy := v.trapBy }))))

/-- R157: SVC and BKPT are precise traps whose DETAIL is their operand. -/
def execSvc (i : Ins) (o : OpsU8) (s : State) : Out :=
  .next (s.runInsn Op.svc i o.pack (fun e s => .trap s (e.trap 0x0E (e.x % 256) 0)))

def execBkpt (i : Ins) (o : OpsU8) (s : State) : Out :=
  .next (s.runInsn Op.bkpt i o.pack (fun e s => .trap s (e.trap 0x0D (e.x % 256) 0)))

/-! System registers -/

/-- R53: system register `n` of level `l` as MFS reads it. -/
def State.readSys (s : State) (lc l n : Nat) : Word :=
  match n with
  | 0x10 => (s.core lc).arch.lvlCtl
  | 0x11 => s.coreId lc
  | _ => ((s.core lc).level l).sysWord n ((s.core lc).queue l).length

/-- The flags and DSS of another level are read or written after its own long operations (R128, R198). -/
def State.settleFlags (s : State) (e : Env) : State :=
  s.modCore e.lc (fun c => c.completeWhere e.bank LongOp.swWriter)

def execMfs (i : Ins) (o : OpsRR) (s : State) : Out :=
  .next (s.runInsn Op.mfs i o.pack (fun e s =>
    let s1 := if e.imm6 = 0 then s.settleFlags e else s
    .done (s1.setReg e e.rd (s1.readSys e.lc e.bank e.imm6))))

/-- R52: SW after an MTS, or none where WP or WG is above 9 or they are equal. -/
def swWrite (old new : Word) (sup : Bool) : Option Word :=
  if !sup then some (mergeWord old new swUserWritable)
  else if 9 < swWp new ∨ 9 < swWg new ∨ swWp new = swWg new then none
  else some (mergeWord old new swWritable)

/-- R76: RESUME and DISMISS act on a frozen level that is not the current one. -/
def Core.writeLvlState (c : Core) (l cur : Nat) (w : Word) : Core :=
  if (c.level l).run != .frozen || l == cur then c
  else if bitOf w 32 then c.modLevel l (fun v => { v with run := .active })
  else if bitOf w 33 then
    (c.modLevel l (fun v => { v with run := .inactive, sw := swSetTa v.sw false })).unhold l
  else c

/-- The writable bits of the per-level registers 1 to 8 (R54). -/
def sysMask (n : Nat) : Word :=
  match n with
  | 1 => 0xFFFFFFFFFFFFF000
  | 2 => 0xFFFFFFFFFFFFFFFF
  | 3 => 0xFFFFFFFFFFFFFFFF
  | 4 => 0xFFFFFFFFFF0703FF
  | 5 => 0xFFFFFFFFFFFFFFFF
  | 6 => 0xFFFFFFFFFFFFFFFF
  | 8 => 0x000FFFFFFFFFFFF9
  | _ => 0

/-- R54: a per-level register 1 to 8 is written; read-only fields keep their values. -/
def Level.writeSys (v : Level) (n : Nat) (w : Word) : Level :=
  let m := fun (old : Word) => mergeWord old w (sysMask n)
  match n with
  | 1 => { v with vector := m v.vector }
  | 2 => { v with trapPc := m v.trapPc }
  | 3 => { v with trapSw := m v.trapSw, trapBy := .any }
  | 4 => { v with trapCause := m v.trapCause }
  | 5 => { v with trapAddr := m v.trapAddr }
  | 6 => { v with trapIaddr := m v.trapIaddr }
  | 8 => { v with fpSave := m v.fpSave }
  | _ => v

/-- R55: HOLD and FP_LAZY_TRAP of LVL_CTL; levels no longer held take their queued events (R60). -/
def Core.writeHold (c : Core) (w : Word) : Core :=
  let c1 := { c with arch := { c.arch with lvlCtl := mergeWord c.arch.lvlCtl w 0x10FE } }
  levelNumbers.foldl (fun c l => c.unhold l) c1

/-- R86: a write of LVL_CTL: an FP_OWNER of 9 to 15 is refused whole; a new owner has the file switched.  DESIGN CHOICE (log
entry 126): DATA_POISON met by the load is taken at the level that executes the MTS, also where the new owner is another. -/
def State.writeLvlCtl (s : State) (e : Env) (pfx : List Pfx) (w : Word) : Res :=
  if 9 ≤ fld w 8 4 then .trap s (e.badState pfx)
  else
    let own (s : State) : Res := .done (s.modCore e.lc (fun c => c.writeHold w))
    if fld w 8 4 = (s.core e.lc).fpOwner then own s
    else match s.fpSwitch e (fld w 8 4) with
      | .stop r => r
      | .ok s1 => own s1

/-- R158, R52, R86: system register `n` = `w`. -/
def State.writeSys (s : State) (e : Env) (pfx : List Pfx) (n : Nat) (w : Word) : Res :=
  match n with
  | 0 =>
    let s1 := s.settleFlags e
    match swWrite (((s1.core e.lc).level e.bank).sw) w e.sup with
    | none => .trap s1 (e.badState pfx)
    | some v => .done (s1.modCore e.lc (fun c => c.modLevel e.bank (fun l => { l with sw := v, dssBy := .any })))
  | 9 => .done (s.modCore e.lc (fun c => c.writeLvlState e.bank e.lvl w))
  | 0x10 => s.writeLvlCtl e pfx w
  | _ => .done (s.modCore e.lc (fun c => c.modLevel e.bank (fun l => l.writeSys n w)))

/-- R153, R158: MTS is serializing. -/
def bodyMts (pfx : List Pfx) (e : Env) (s : State) : Res :=
  s.barrier e (fun s => s.writeSys e pfx e.imm6 (s.reg e e.rd))

def execMts (i : Ins) (o : OpsRR) (s : State) : Out := .next (s.runInsn Op.mts i o.pack (bodyMts i.pfx))

/-- The operands of MTS rd, n. -/
def mtsOps (rd : BitVec 5) (n : Nat) : OpsRR := ⟨rd, 0, BitVec.ofNat 6 n⟩

/-- R76: MTS rd to LVL_STATE, where rd has RESUME set. -/
def execLvlResume (i : Ins) (rd : BitVec 5) (s : State) : Out :=
  .next (s.runInsn Op.mts i (mtsOps rd 9).pack (bodyMts i.pfx))

/-- R76: MTS rd to LVL_STATE, where rd has DISMISS set. -/
def execLvlDismiss (i : Ins) (rd : BitVec 5) (s : State) : Out :=
  .next (s.runInsn Op.mts i (mtsOps rd 9).pack (bodyMts i.pfx))

/-- R86: MTS rd to LVL_CTL, whose FP_OWNER field names the new owner. -/
def execFpOwnerWrite (i : Ins) (rd : BitVec 5) (s : State) : Out :=
  .next (s.runInsn Op.mts i (mtsOps rd 0x10).pack (bodyMts i.pfx))

/-! Translation registers -/

/-- R115: the writable bits of the roots and of ASID. -/
def Level.writeTrn (v : Level) (n : Nat) (w : Word) : Level :=
  match n with
  | 0 => { v with iroot := w &&& 0x000FFFFFFFFFF001 }
  | 1 => { v with droot := w &&& 0x000FFFFFFFFFF001 }
  | 2 => { v with asid := w &&& 0xFFFF }
  | _ => v

def execMft (i : Ins) (o : OpsRR) (s : State) : Out :=
  .next (s.runInsn Op.mft i o.pack (fun e s =>
    .done (s.setReg e e.rd (((s.core e.lc).level e.bank).trnWord e.imm6))))

/-- R115, R153, R214: MTT is serializing and changes no TLB entry. -/
def execMtt (i : Ins) (o : OpsRR) (s : State) : Out :=
  .next (s.runInsn Op.mtt i o.pack (drained (fun e s =>
    .done (s.modCore e.lc (fun c => c.modLevel e.bank (fun l => l.writeTrn e.imm6 (s.reg e e.rd)))))))

/-- R122, R158: the TLB entries a TLBI leaves; every scope empties the table-entry cache. -/
def tlbKeep (scope : Nat) (data : Bool) (asid va : Nat) (t : TlbEntry) : Bool :=
  match scope with
  | 0 => !(t.data == data && inRange t.vbase t.size va && (t.gl || t.asid == asid))
  | 1 => !(t.data == data && !t.gl && t.asid == asid)
  | _ => false

def execTlbi (i : Ins) (o : OpsRR) (s : State) : Out :=
  .next (s.runInsn Op.tlbi i o.pack (drained (fun e s =>
    let keep := tlbKeep (e.imm6 % 4) (e.imm6.testBit 2) (fld (s.reg e e.rd) 0 16) (s.reg e e.ra).toNat
    .done (s.modCore e.lc (fun c => { c with priv := { c.priv.emptyLoop with tlb := c.priv.tlb.filter keep, tec := [] } })))))

/-! The decoder's traps -/

/-- The boundary before the instruction of a core that can issue and has a level to run: a pending exception comes first
(R91); nothing is fetched while the loop buffer plays (R200). -/
def State.atBoundary (s : State) (lc : Nat) (f : Nat → Word → State → State) : State :=
  if s.canIssue lc then
    match s.boundary lc with
    | (s1, false) => s1
    | (s1, true) =>
      match s1.canIssue lc, (s1.core lc).current with
      | true, some l =>
        let pc := ((s1.core lc).level l).pc
        match s1.comesFirst lc l with
        | some t => s1.deliverAt lc l t pc
        | none => if (s1.core lc).priv.plays pc then s1 else f l pc s1
      | _, _ => s1
  else s

/-- R102: the trap of the decoder at a PC. -/
def DecodeTrap.info (pc : Word) : DecodeTrap → TrapInfo
  | .illegal d => { code := 0x01, imp := false, addr := 0, iaddr := pc, detail := d }
  | .privileged => { code := 0x02, imp := false, addr := 0, iaddr := pc, detail := 0 }

/-- R102, R103: the bytes at the PC do not decode; the trap names the byte at fault.  A byte that the decoder reads before it and that
cannot be fetched comes first. -/
def execIllegalInstruction (lc : Nat) (bytes : List (BitVec 8)) (s : State) : Out :=
  .next (s.atBoundary lc (fun l pc s =>
    match rawTrap bytes (swS ((s.core lc).level l).sw) with
    | none => s
    | some t =>
      match s.fetched lc l (rawRead bytes) [] with
      | (s1, _, .ok) => s1.trapUnissued lc l id (t.info pc)
      | (s1, _, st) => s1.fetchStop lc l st))

/-- R102, R119, R222: after the bytes given, which leave the decoder short, the next cannot be fetched: FETCH_TRANSLATION for
the first byte of those that does not translate, or DATA_POISON where a line of them, or a table line, is poisoned.  Where all
can be fetched nothing happens. -/
def execFetchTranslation (run : FetchRun) (s : State) : Out :=
  let lc := run.core
  .next (s.atBoundary lc (fun l _ s =>
    if rawDecode 16 [] 0 run.bytes != .short then s
    else match s.fetched lc l (run.bytes.length + 1) [] with
      | (_, _, .ok) => s
      | (s1, _, st) => s1.fetchStop lc l st))

end Sys2Proof.Machine
end

