-- ==== Sys2Proof/Machine/LoadStore.lean ====
section
/-! DEFINITION. Loads, stores and block transfers (R88, R89, R145 to R147), CAS (R148), hints (R149), CINV and
CFLUSH (R150), instruction space (R151), I/O space (R154, R155). -/

namespace Sys2Proof.Machine

/-! Loads and stores -/

/-- `n` bytes are loaded into rd, zero- or sign-extended. -/
def bodyLoad (n : Nat) (signed : Bool) (va : Nat) (e : Env) (s : State) : Res :=
  match s.load e .ld va n with
  | .stop r => r
  | .bytes s1 bs =>
    let x := bytesToNat bs
    .done (s1.setReg e e.rd (if signed then sextWord (8 * n) x else BitVec.ofNat 64 x))

def execLdbu (i : Ins) (o : MemForm) (s : State) : Out :=
  .next (s.runMem Op.ldbuRI Op.ldbu32 i o (bodyLoad 1 false))

def execLdbs (i : Ins) (o : MemForm) (s : State) : Out :=
  .next (s.runMem Op.ldbsRI Op.ldbs32 i o (bodyLoad 1 true))

def execLdhu (i : Ins) (o : MemForm) (s : State) : Out :=
  .next (s.runMem Op.ldhuRI Op.ldhu32 i o (bodyLoad 2 false))

def execLdhs (i : Ins) (o : MemForm) (s : State) : Out :=
  .next (s.runMem Op.ldhsRI Op.ldhs32 i o (bodyLoad 2 true))

def execLdwu (i : Ins) (o : MemForm) (s : State) : Out :=
  .next (s.runMem Op.ldwuRI Op.ldwu32 i o (bodyLoad 4 false))

def execLdws (i : Ins) (o : MemForm) (s : State) : Out :=
  .next (s.runMem Op.ldwsRI Op.ldws32 i o (bodyLoad 4 true))

def execLdd (i : Ins) (o : MemForm) (seen : List ErrSeen) (s : State) : Out :=
  .next (s.runMem Op.lddRI Op.ldd32 { i with met := { i.met with data := i.met.data ++ seen } } o (bodyLoad 8 false))

/-- The low `n` bytes of rd are stored (R145). -/
def bodyStore (n : Nat) (va : Nat) (e : Env) (s : State) : Res := s.store e false va ((wordBytes (s.reg e e.rd)).take n)

def execStb (i : Ins) (o : MemForm) (s : State) : Out := .next (s.runMem Op.stbRI Op.stb32 i o (bodyStore 1))
def execSth (i : Ins) (o : MemForm) (s : State) : Out := .next (s.runMem Op.sthRI Op.sth32 i o (bodyStore 2))
def execStw (i : Ins) (o : MemForm) (s : State) : Out := .next (s.runMem Op.stwRI Op.stw32 i o (bodyStore 4))
def execStd (i : Ins) (o : MemForm) (s : State) : Out := .next (s.runMem Op.stdRI Op.std32 i o (bodyStore 8))

/-! Block transfers -/

/-- R88: the selected register numbers, ascending. -/
def maskRegs (mask : Nat) : List Nat := (List.range 24).filter (fun n => mask.testBit n)

/-- R88, R89: the count recorded when `k` registers have moved: it never passes the base register's position. -/
def progress (regs : List Nat) (base k : Nat) : Nat :=
  if regs.contains base then min k (regs.filter (· < base)).length else k

/-- SW.MPC of the current level. -/
def State.setMpc (s : State) (e : Env) (k : Nat) : State := s.setSw e (fun w => swSetMpc w k)

/-- How a block transfer that stops at its `k`-th register ends (R89, R147): the count stands, for a trap and for an event that
comes while it waits. -/
def stopAt (e : Env) (k : Nat) : Res → Res
  | .trap s t => .trap (s.setMpc e k) t
  | .wait s => .wait (s.setMpc e k)
  | r => r

/-- R88: LDM from the `k`-th selected register on; the base register, if loaded, is written last.  The errors that it meets, it
meets at its first doubleword. -/
def State.ldm (regs : List Nat) (ra : Nat) (base : Word) :
    Env → List Nat → Nat → Option Word → State → Res
  | e, [], _, held, s =>
    .done (match held with
      | some v => s.setReg e ra v
      | none => s)
  | e, n :: ns, k, held, s =>
    match s.load e .ld (base + BitVec.ofNat 64 (8 * k)).toNat 8 with
    | .stop r => stopAt e (progress regs ra k) r
    | .bytes s1 bs =>
      let v : Word := BitVec.ofNat 64 (bytesToNat bs)
      if n = ra then State.ldm regs ra base e.clean ns (k + 1) (some v) s1
      else State.ldm regs ra base e.clean ns (k + 1) held (s1.setReg e n v)

/-- R88: STM from the `k`-th selected register on; G0 stores zero.  A store after the first is a part of an instruction that has
issued. -/
def State.stm (base : Word) : Env → List Nat → Nat → State → Res
  | _, [], _, s => .done s
  | e, n :: ns, k, s =>
    match s.store e (decide (0 < k)) (base + BitVec.ofNat 64 (8 * k)).toNat (wordBytes (s.reg e n)) with
    | .done s1 => State.stm base e.clean ns (k + 1) s1
    | r => stopAt e k r

/-- R147: the base of a block transfer, or ALIGNMENT. -/
def State.blockBase (s : State) (e : Env) (go : Word → Res) : Res :=
  let base := s.baseReg e e.ra
  if nfld e.x 16 32 = 0 then .done (s.setMpc e 0)
  else if base.toNat % 8 ≠ 0 then .trap s (e.trap 0x05 0 base)
  else go base

/-- R89: a transfer ends here and clears MPC, or, stopped by an event after `part` further registers, leaves the
count and its own PC. -/
def blockEnd (e : Env) (k : Nat) (whole : Bool) : Res → Res
  | .done s => if whole then .done (s.setMpc e 0) else .ended (s.setMpc e k)
  | r => r

/-- R88, R89, R147: LDM, stopped by an event for a more urgent level after `part` registers where that is given. -/
def bodyLdm (part : Option Nat) (e : Env) (s : State) : Res :=
  s.blockBase e (fun base =>
    let regs := maskRegs (nfld e.x 16 32)
    let k := swMpc (s.sw e)
    let todo := regs.drop k
    let n := part.getD todo.length
    let whole := decide (todo.length ≤ n)
    let k' := progress regs e.ra (k + n)
    let run := if whole then todo else todo.take n
    match whole, State.ldm regs e.ra base e run k none s with
    | true, r => blockEnd e 0 true r
    | false, .done s1 => .ended ((if regs.contains e.ra && run.contains e.ra
        then s1.setReg e e.ra (s.reg e e.ra) else s1).setMpc e k')
    | false, r => r)

/-- R88, R89, R147: STM. -/
def bodyStm (part : Option Nat) (e : Env) (s : State) : Res :=
  s.blockBase e (fun base =>
    let regs := maskRegs (nfld e.x 16 32)
    let k := swMpc (s.sw e)
    let todo := regs.drop k
    let n := part.getD todo.length
    if todo.length ≤ n then blockEnd e 0 true (State.stm base e todo k s)
    else blockEnd e (k + n) false (State.stm base e (todo.take n) k s))

def execLdm (i : Ins) (o : OpsM) (part : Option Nat) (s : State) : Out :=
  .next (s.runInsn Op.ldm i o.pack (bodyLdm part))

def execStm (i : Ins) (o : OpsM) (part : Option Nat) (s : State) : Out :=
  .next (s.runInsn Op.stm i o.pack (bodyStm part))

/-! CAS -/

/-- R242: a CAS of `n` bytes, or an IN where `n` is none, waits for its answer. -/
def State.waitsAnswer (s : State) (e : Env) (addr : Nat) (n : Option Nat) : State :=
  s.modCore e.lc (fun c => { c with
    waitIo := some { lvl := e.lvl, bank := e.bank, rd := e.rd, len := e.len, addr, cas := n }
    priv := c.priv.emptyLoop })

/-- R242, R255: the answer of an instruction that re-executes stands in the log of its pair. -/
def State.answered (s : State) (e : Env) : Bool := s.isChecked e.lc && (s.core e.lc).logAnswers Input.isAnswer

/-- R148: the compare and the store, once the line is here with ownership; a checked pair agrees on the old value before the
instruction completes (R242, R247).  One of the ROM is refused whatever the compare finds (R490). -/
def State.casAt (s : State) (e : Env) (pa n : Nat) : Res :=
  let old := bytesToNat (s.coreBytes pa n)
  let fl := casFlags (s.reg e e.rd) (BitVec.ofNat 64 old) n
  let new := (wordBytes (s.reg e e.rb)).take n
  let s1 := if fl = 4 then (s.storeCheck e [lineOf pa]).storeBytes (.core e.lc) pa new
    else if inRom pa then s.romRefused (lineOf pa) else s
  if s1.isChecked e.lc then
    .ended ((s1.waitsAnswer e pa (some n)).modCore e.lc (fun c => { c with inbox := c.inbox ++ [.answer (BitVec.ofNat 64 old)] }))
  else .done ((s1.setNat e e.rd old).setFlags e fl)

/-- R148, R239, R242: CAS at a translated address: its token is compared before it reaches its slice. -/
def State.casLine (s : State) (e : Env) (pa n : Nat) : Res :=
  let m := 2 ^ (8 * n)
  let t : TokenBody := .cas pa n ((s.reg e e.rd).toNat % m) ((s.reg e e.rb).toNat % m)
  match s.compared e.lc [] t with
  | (s1, false) => .wait s1
  | (s1, true) =>
    match (s1.mcAccess (lineOf pa)).ownLines (.core e.lc) [lineOf pa] with
    | (s2, false) => .wait (s2.stillCompared e.lc t)
    | (s2, true) =>
      match (s2.dataMet e [(pa, n)]).readyRead (.core e.lc) [lineOf pa] with
      | (s3, .poison line) => s3.poisonTrap e line
      | (s3, .wait) => .wait (s3.stillCompared e.lc t)
      | (s3, .ok) =>
        match s3.readyWrite (.core e.lc) false [lineOf pa] with
        | (s4, false) => .wait (s4.stillCompared e.lc t)
        | (s4, true) => s4.casAt e pa n

/-- R148, R214: CAS, fully ordered. -/
def bodyCas (e : Env) (s : State) : Res :=
  let n := if e.w32 then 4 else 8
  let a := s.baseReg e e.ra
  if a.toNat % n ≠ 0 then .trap s (e.trap 0x05 0 a)
  else drained (fun e s =>
    match s.onePage e .cas a.toNat with
    | (s1, .ok pa _) => if s1.answered e then .ended (s1.waitsAnswer e pa (some n)) else s1.casLine e pa n
    | (s1, t) => trStop s1 e .cas a.toNat t) e s

/-- R242: an instruction that is a retirement group of its own. -/
def State.runGroup (s : State) (op : OpInfo) (i : Ins) (x : Nat) (body : Env → State → Res) : State :=
  if s.canIssue i.core then (s.runInsn op i x body).groupEnd i.core else s

def execCas (i : Ins) (o : OpsRRR) (s : State) : Out := .next (s.runGroup Op.cas i o.pack bodyCas)

/-! Hints -/

/-- R149: a hint that translates and is permitted brings its line into the side buffer, PREFW with ownership; any other is
dropped.  A hint whose translation needs a line that is not here waits for it. -/
def bodyHint (a : Acc) (e : Env) (s : State) : Res :=
  if !s.fbit F.CORE_PREF_CTL_HINT_EN (s.windowOf e.lc) 0 then .done s
  else match s.onePage e a (s.baseReg e e.rd).toNat with
    | (s1, .ok pa _) =>
      .done (match a with
        | .prefw => s1.prefetchOwned e.lc (lineOf pa)
        | _ => s1.prefetchLine e.lc (lineOf pa) (!a.data))
    | (s1, .wait) => .wait s1
    | (s1, _) => .done s1

def execPrefd (i : Ins) (o : OpsR) (s : State) : Out := .next (s.runInsn Op.prefd i o.pack (bodyHint .prefd))
def execPrefw (i : Ins) (o : OpsR) (s : State) : Out := .next (s.runInsn Op.prefw i o.pack (bodyHint .prefw))
def execPrefi (i : Ins) (o : OpsR) (s : State) : Out := .next (s.runInsn Op.prefi i o.pack (bodyHint .prefi))

/-! CINV and CFLUSH -/

/-- R150: the lines are acted on, counting those skipped as resident; `none` while one is awaited.  One in no home is passed over
(DESIGN CHOICE, log entry 116).  Their requests leave a checked pair at once: R240 has no token for them (DESIGN CHOICE, log entry
186). -/
def State.lineOps (op : LineOp) : List Nat → Nat → State → State × Option Nat
  | [], n, s => (s, some n)
  | line :: ls, n, s =>
    match (s.lineAwake op line).lineOp op line with
    | (s1, .skipped) => State.lineOps op ls (n + 1) s1
    | (s1, .wait) => (s1, none)
    | (s1, _) => State.lineOps op ls n s1

/-- R150: the part of a range that lies in the page of its first byte; the core's own buffered stores to it leave
first. -/
def bodyRange (op : LineOp) (a : Acc) (e : Env) (s : State) : Res :=
  let len := (s.reg e e.rb).toNat
  let va := s.baseReg e e.ra
  if len = 0 then .done (s.setReg e e.rd 0)
  else match s.onePage e a va.toNat with
    | (s1, .ok pa left) =>
      let c := min len left
      let lines := linesOf pa c
      let (s2, ready) := if (s1.core e.lc).sb.any (fun b => (linesOf b.addr b.bytes.length).any lines.contains)
        then s1.quiesce e.lc else (s1, true)
      if !ready then .hold s2
      else s2.unlessPending e (fun s => match State.lineOps op lines 0 s with
        | (s3, some n) => .done (s3.setReg e e.rd (BitVec.ofNat 64 (c + n * 2 ^ 32)))
        | (s3, none) => .wait s3)
    | (s1, t) => trStop s1 e a va.toNat t

def execCinv (i : Ins) (o : OpsRRR) (s : State) : Out := .next (s.runInsn Op.cinv i o.pack (bodyRange .inval .cinv))
def execCflush (i : Ins) (o : OpsRRR) (s : State) : Out :=
  .next (s.runInsn Op.cflush i o.pack (bodyRange .flush .cflush))

/-! Instruction space -/

/-- R151: ILD. -/
def execIld (i : Ins) (o : OpsRI) (s : State) : Out :=
  .next (s.runInsn Op.ild i o.pack (fun e s =>
    match s.load e .ild (s.eaRI e).toNat (if e.w32 then 4 else 8) with
    | .stop r => r
    | .bytes s1 bs => .done (s1.setNat e e.rd (bytesToNat bs))))

/-- The bytes of pieces, as they lie. -/
def pieceBytes : List (Nat × Nat) → List Byte → List (Nat × List Byte)
  | [], _ => []
  | (a, n) :: ps, bs => (a, bs.take n) :: pieceBytes ps (bs.drop n)

/-- R151, R239, R241: the store of an IST at its physical pieces: its tokens are compared, it becomes visible, and what was
fetched or decoded goes. -/
def State.istPieces (s : State) (e : Env) (ps : List (Nat × Nat)) (bs : List Byte) : Res :=
  let ts := (pieceBytes ps bs).map (fun p => TokenBody.store p.1 p.2)
  let t := ts.getLastD (.store 0 [])
  match s.compared e.lc ts.dropLast t with
  | (s1, false) => .wait s1
  | (s1, true) =>
    match ((pieceLines ps).foldl State.mcAccess s1).readyWrite (.core e.lc) false (pieceLines ps) with
    | (s2, false) => .wait (s2.stillCompared e.lc t)
    | (s2, true) =>
      let s3 := (pieceBytes ps bs).foldl (fun s p => s.storeBytes (.core e.lc) p.1 p.2) s2
      .done ((s3.storeCheck e (pieceLines ps)).dropFetched e.lc)

/-- R151, R153, R214: IST serializes; its write has left the core before it completes, and the next fetch sees it. -/
def bodyIst (e : Env) (s : State) : Res :=
  let bs := (wordBytes (s.reg e e.rd)).take (if e.w32 then 4 else 8)
  match s.pieces e .ist (s.eaRI e).toNat bs.length with
  | .stop r => r
  | .ok s1 ps => s1.istPieces e ps bs

def execIst (i : Ins) (o : OpsRI) (s : State) : Out := .next (s.runGroup Op.ist i o.pack (drained bodyIst))

/-! I/O space -/

/-- R107: the I/O address of IN and OUT. -/
def State.ioAddr (s : State) (e : Env) : Nat := (s.eaRI e).toNat % 2 ^ 32

/-- R154, R155, R242: IN waits for its value, which completes it. -/
def execIn (i : Ins) (o : OpsRI) (s : State) : Out :=
  .next (s.runInsn Op.inp i o.pack (drained (fun e s =>
    let a := s.ioAddr e
    if s.answered e then .ended (s.waitsAnswer e a none)
    else match s.compared e.lc [] (.inp a) with
    | (s1, false) => .wait s1
    | (s1, true) =>
      let s2 := s1.waitsAnswer e a none
      .ended (s2.ioAccess (s2.coreMaster e.lc) a none (.core e.lc)))))

/-- R154, R155, R240: OUT is held at the comparator until its group commits. -/
def execOut (i : Ins) (o : OpsRI) (s : State) : Out :=
  .next (s.runInsn Op.out i o.pack (drained (fun e s =>
    let a := s.ioAddr e
    let v := s.reg e e.rd
    .done ((s.modCore e.lc (fun c => { c with acts := c.acts ++ [(c.count, .out a v e.met.chks)] })).pushToken e.lc (.out a v)))))

end Sys2Proof.Machine
end

