-- ==== Sys2Proof/Machine/FloatInsn.lean ====
section
/-! DEFINITION. The floating-point instructions (R160 to R182) over the arithmetic of Float.lean. -/

namespace Sys2Proof.Machine

/-! Operands -/

/-- R172: the parts of imm6 of page 0xE8, and the fmt field of layout RRR (R171). -/
def Env.fmtRR (e : Env) : Nat := nfld e.x 10 2
def Env.fmtRRR (e : Env) : Nat := nfld e.x 15 2
def Env.rsel (e : Env) : Nat := nfld e.x 12 3
def Env.unsignedF (e : Env) : Bool := e.x.testBit 15

/-- R160: the operand of a format in register `n`. -/
def Core.readFp (c : Core) (fmt n : Nat) : Nat :=
  match fmt with
  | 0 => (c.readF n).toNat % 2 ^ 32
  | 1 => (c.readF n).toNat
  | _ => (c.readF n).toNat + (c.readF (n + 1)).toNat * 2 ^ 64

def State.fp (s : State) (e : Env) (fmt n : Nat) : Nat := (s.core e.lc).readFp fmt n

/-- R160: the writes of a result of a format. -/
def fpWrites (fmt n bits : Nat) : List (Dst × Word) :=
  match fmt with
  | 0 => [(.f n, BitVec.ofNat 64 (bits % 2 ^ 32))]
  | 1 => [(.f n, BitVec.ofNat 64 bits)]
  | _ => [(.f n, BitVec.ofNat 64 (bits % 2 ^ 64)), (.f (n + 1), BitVec.ofNat 64 (bits / 2 ^ 64))]

/-- Registers are written at once, by an instruction that is not long. -/
def State.writeDsts (s : State) (e : Env) (ws : List (Dst × Word)) : State :=
  s.modCore e.lc (fun c => ws.foldl (fun c w => c.writeDst w.1 w.2) c)

/-- R164, R165: the rounding mode: a selector of 7, and every instruction without one, uses FCW.RM. -/
def State.dynRm (s : State) (e : Env) : Nat := fld (s.core e.lc).fcwIss 8 3
def State.selRm (s : State) (e : Env) : Nat := if e.rsel = 7 then s.dynRm e else e.rsel

/-- R90, R252: a floating-point operation issues with its results, the flags it sets and its exception. -/
def State.issueFpOp (s : State) (e : Env) (ws : List (Dst × Word)) (flags : Option Nat) (dss : Option Bool)
    (fl : Nat) (exc : Option TrapInfo) : State :=
  s.modCore e.lc (fun c => { c.issueOp e.lvl
      { iaddr := e.ia, idx := c.count, writes := ws, flags, dss, fpFlags := fl, isFp := true, exc, done := false } with
    fcwIss := c.fcwIss ||| BitVec.ofNat 64 fl })

/-- R90, R92, R170: a floating-point operation issues with its results and the flags it sets; FP_EXCEPTION is pending
if it newly sets a flag whose enable is 1, the enables being those of now. -/
def State.issueFp (s : State) (e : Env) (ws : List (Dst × Word)) (flags : Option Nat) (dss : Option Bool)
    (fl : Nat) : State :=
  let newly := Nat.land fl (31 - fld (s.core e.lc).fcwIss 0 5)
  s.issueFpOp e ws flags dss fl (if Nat.land newly (swEnables (s.sw e)) = 0 then none else some (e.excOf 0x09 newly))

/-- A result of a format in fd. -/
def State.fpResult (s : State) (e : Env) (fmt : Nat) (r : FRes) : Res :=
  .done (s.issueFp e (fpWrites fmt e.rd r.bits) none none r.flags)

/-! Moves -/

/-- R168: a copy that may change the sign bit, and sets no flag. -/
def bodyFmove (f : Fmt → Nat → Nat) (e : Env) (s : State) : Res :=
  .done (s.writeDsts e (fpWrites e.fmtRR e.rd (f (fmtOf e.fmtRR) (s.fp e e.fmtRR e.ra))))

def execFmov (i : Ins) (o : OpsRR) (s : State) : Out :=
  .next (s.runInsn Op.fmov i o.pack (bodyFmove (fun _ x => x)))

def execFneg (i : Ins) (o : OpsRR) (s : State) : Out :=
  .next (s.runInsn Op.fneg i o.pack (bodyFmove (fun f x => Nat.xor x (2 ^ (f.w - 1)))))

def execFabs (i : Ins) (o : OpsRR) (s : State) : Out :=
  .next (s.runInsn Op.fabs i o.pack (bodyFmove (fun f x => x % 2 ^ (f.w - 1))))

/-- R172: raw bits between the files. -/
def execFmvfg (i : Ins) (o : OpsRR) (s : State) : Out :=
  .next (s.runInsn Op.fmvfg i o.pack (fun e s => .done (s.setReg e e.rd ((s.core e.lc).readF e.ra))))

def execFmvgf (i : Ins) (o : OpsRR) (s : State) : Out :=
  .next (s.runInsn Op.fmvgf i o.pack (fun e s => .done (s.writeDsts e [(.f e.rd, s.reg e e.ra)])))

/-! The control word -/

/-- R163. -/
def execFmfc (i : Ins) (o : OpsRR) (s : State) : Out :=
  .next (s.runInsn Op.fmfc i o.pack (fun e s => .done (s.setReg e e.rd (s.core e.lc).arch.fcw)))

/-- R162, R163: FMTC; an RM of 5, 6 or 7 is refused, DETAIL the last opcode byte (DESIGN CHOICE, log entry 11). -/
def execFmtc (i : Ins) (o : OpsRR) (s : State) : Out :=
  .next (s.runInsn Op.fmtc i o.pack (fun e s =>
    let w := s.reg e e.ra
    if 5 ≤ fld w 8 3 then .trap s (e.trap 0x01 (pfxBytes i.pfx + Op.fmtc.opBytes - 1) 0)
    else
      let v := w &&& 0x71F
      .done (s.modCore e.lc (fun c => { c with arch := { c.arch with fcw := v }, fcwIss := v }))))

/-! Arithmetic -/

/-- fd = f fa fb, rounded under FCW.RM. -/
def bodyFarith (f : Fmt → Nat → Nat → Nat → FRes) (e : Env) (s : State) : Res :=
  let fmt := e.fmtRRR
  s.fpResult e fmt (f (fmtOf fmt) (s.dynRm e) (s.fp e fmt e.ra) (s.fp e fmt e.rb))

def execFadd (i : Ins) (o : OpsRRR) (s : State) : Out := .next (s.runInsn Op.fadd i o.pack (bodyFarith fAdd))
def execFsub (i : Ins) (o : OpsRRR) (s : State) : Out := .next (s.runInsn Op.fsub i o.pack (bodyFarith fSub))
def execFmul (i : Ins) (o : OpsRRR) (s : State) : Out := .next (s.runInsn Op.fmul i o.pack (bodyFarith fMul))

/-- R175: the integer flags of the current level. -/
def bodyFcompare (signalling : Bool) (e : Env) (s : State) : Res :=
  let fmt := e.fmtRRR
  let (fl, iv) := fCompare (fmtOf fmt) signalling (s.fp e fmt e.ra) (s.fp e fmt e.rb)
  .done (s.issueFp e [] (some fl) none iv)

def execFcmp (i : Ins) (o : OpsRRR) (s : State) : Out := .next (s.runInsn Op.fcmp i o.pack (bodyFcompare false))
def execFcmps (i : Ins) (o : OpsRRR) (s : State) : Out := .next (s.runInsn Op.fcmps i o.pack (bodyFcompare true))

def execFcvt (i : Ins) (o : OpsRR) (s : State) : Out :=
  .next (s.runInsn Op.fcvt i o.pack (fun e s =>
    let src := nfld e.x 12 2
    s.fpResult e e.fmtRR (fConvert (fmtOf src) (fmtOf e.fmtRR) (s.dynRm e) (s.fp e src e.ra))))

def execFrint (i : Ins) (o : OpsRR) (s : State) : Out :=
  .next (s.runInsn Op.frint i o.pack (fun e s =>
    s.fpResult e e.fmtRR (fRint (fmtOf e.fmtRR) (s.selRm e) (s.fp e e.fmtRR e.ra))))

def execFcvtfi (i : Ins) (o : OpsRR) (s : State) : Out :=
  .next (s.runInsn Op.fcvtfi i o.pack (fun e s =>
    let r := fToInt (fmtOf e.fmtRR) e.unsignedF (s.selRm e) (s.fp e e.fmtRR e.ra)
    .done (s.issueFp e (s.wr e e.rd r.bits) none none r.flags)))

def execFcvtif (i : Ins) (o : OpsRR) (s : State) : Out :=
  .next (s.runInsn Op.fcvtif i o.pack (fun e s =>
    s.fpResult e e.fmtRR (fFromInt (fmtOf e.fmtRR) e.unsignedF (s.selRm e) (s.reg e e.ra).toNat)))

/-! Division and square root (R177 to R182) -/

/-- A group's four registers as one number, and the writes of one. -/
def State.fdRead (s : State) (e : Env) (n : Nat) : Nat :=
  let c := s.core e.lc
  Nat.xor ((c.readF n).toNat + (c.readF (n + 1)).toNat * 2 ^ 64 + (c.readF (n + 2)).toNat * 2 ^ 128
    + (c.readF (n + 3)).toNat * 2 ^ 192) Config.fdMask.toNat

def fdWrites (n x : Nat) : List (Dst × Word) :=
  let y := Nat.xor (x % 2 ^ 256) Config.fdMask.toNat
  (List.range 4).map (fun k => (.f (n + k), BitVec.ofNat 64 (y / 2 ^ (64 * k))))

/-- R178 to R180: FDSTART. -/
def bodyFdstart (fmt : Nat) (st : FdStart) (e : Env) (s : State) : Res :=
  .done ((match st with
    | .chain g => s.issueFp e (fdWrites e.rd g.encode) none (some false) 0
    | .result r => s.issueFp e (fdWrites e.rd (fdResultBits fmt r.bits)) none (some true) r.flags).setChain e (.flt e.rd))

def execFdstartDiv (i : Ins) (o : OpsRRR) (s : State) : Out :=
  .next (s.runInsn Op.fdstartDiv i o.pack (fun e s =>
    let fmt := e.fmtRRR
    bodyFdstart fmt (fdStartDiv fmt e.rb (s.fp e fmt e.ra) (s.fp e fmt e.rb)) e s))

def execFdstartSqrt (i : Ins) (o : OpsRR) (s : State) : Out :=
  .next (s.runInsn Op.fdstartSqrt i o.pack (fun e s =>
    let fmt := e.fmtRR
    bodyFdstart fmt (fdStartSqrt fmt (s.fp e fmt e.ra)) e s))

/-- R177, R194: a step of a chain of another form, or of one of two that meet, leaves free values in its group. -/
def State.fdStepFree (s : State) (e : Env) : State :=
  ((s.issueFp e ((List.range 4).map (fun k => (.f (e.rd + k), Config.freeWord (s.free + k)))) none none 0).drawn 4).setChain e .none

/-- R177, R180: FDSTEP; with DSS = 1 it changes nothing. -/
def bodyFdstep (e : Env) (s : State) : Res :=
  if !(s.chain e).onGroup e.rd then .done (s.fdStepFree e)
  else if swDss (s.sw e) then .done (s.issueFp e [] none none 0)
  else
    let g := fdStepGroup (FdGroup.decode (s.fdRead e e.rd)) e.fmtRR e.ra
    .done (s.issueFp e (fdWrites e.rd g.encode) none none 0)

def execFdstep (i : Ins) (o : OpsRR) (s : State) : Out := .next (s.runInsn Op.fdstep i o.pack bodyFdstep)

/-- What a chain of another form leaves (R177): a free value and free OF, UF and IX, with nothing raised. -/
def State.fdFree (s : State) (e : Env) (fmt : Nat) : State :=
  let v := (Config.freeWord s.free).toNat + (Config.freeWord (s.free + 1)).toNat * 2 ^ 64
  (s.issueFpOp e (fpWrites fmt e.rd v) none (some false) (fld (Config.freeWord (s.free + 2)) 0 3) none).drawn 3

/-- R181: what FDFIN makes of its group. -/
def State.fdFinish (s : State) (e : Env) : State :=
  let fmt := e.fmtRR
  let x := s.fdRead e e.ra
  let g := FdGroup.decode x
  if !(s.chain e).onGroup e.ra then s.fdFree e fmt
  else if swDss (s.sw e) then
    if fdResult x == some fmt then s.issueFp e (fpWrites fmt e.rd (x % 2 ^ (fmtOf fmt).w)) none (some false) 0
    else s.fdFree e fmt
  else if g.bad || g.fmt != fmt || g.k != fdSteps fmt then s.fdFree e fmt
  else
    let r := g.finish (s.dynRm e)
    s.issueFp e (fpWrites fmt e.rd r.bits) none (some false) r.flags

/-- R181: FDFIN. -/
def execFdfin (i : Ins) (o : OpsRR) (s : State) : Out :=
  .next (s.runInsn Op.fdfin i o.pack (fun e s => .done ((s.fdFinish e).setChain e .none)))

/-! Loads and stores (R176) -/

/-- 4 or 8 bytes into one register, zero-extended. -/
def bodyFload (n : Nat) (va : Nat) (e : Env) (s : State) : Res :=
  match s.load e .ld va n with
  | .stop r => r
  | .bytes s1 bs => .done (s1.writeDsts e [(.f e.rd, BitVec.ofNat 64 (bytesToNat bs))])

/-- 16 bytes into a pair, judged against the store buffer as two loads (R213); both pages are translated first. -/
def bodyFloadQ (va : Nat) (e : Env) (s : State) : Res :=
  match s.pieces e .ld va 16 with
  | .stop r => r
  | .ok s1 ps =>
    match (s1.dataMet e ps).loadPieces e false (splitPieces 8 ps).1 with
    | .stop r => r
    | .bytes s2 lo =>
      match s2.loadPieces e false (splitPieces 8 ps).2 with
      | .stop r => r
      | .bytes s3 hi => .done (s3.writeDsts e [(.f e.rd, BitVec.ofNat 64 (bytesToNat lo)),
          (.f (e.rd + 1), BitVec.ofNat 64 (bytesToNat hi))])

def bodyFstore (n : Nat) (va : Nat) (e : Env) (s : State) : Res :=
  let c := s.core e.lc
  s.store e false va ((wordBytes (c.readF e.rd) ++ wordBytes (c.readF (e.rd + 1))).take n)

def execFlds (i : Ins) (o : MemForm) (s : State) : Out := .next (s.runMem Op.fldsRI Op.flds32 i o (bodyFload 4))
def execFldd (i : Ins) (o : MemForm) (s : State) : Out := .next (s.runMem Op.flddRI Op.fldd32 i o (bodyFload 8))
def execFldq (i : Ins) (o : MemForm) (s : State) : Out := .next (s.runMem Op.fldqRI Op.fldq32 i o bodyFloadQ)
def execFsts (i : Ins) (o : MemForm) (s : State) : Out := .next (s.runMem Op.fstsRI Op.fsts32 i o (bodyFstore 4))
def execFstd (i : Ins) (o : MemForm) (s : State) : Out := .next (s.runMem Op.fstdRI Op.fstd32 i o (bodyFstore 8))
def execFstq (i : Ins) (o : MemForm) (s : State) : Out := .next (s.runMem Op.fstqRI Op.fstq32 i o (bodyFstore 16))

end Sys2Proof.Machine
end

