-- ==== Sys2Proof/Machine/RowOps.lean ====
section
/-! DEFINITION. What the rows of the table share: when a command can have an effect at all (R516, R534), accesses by the
name of a register, messages of Shabek Link by their kind, and the events of the cores and pair positions. -/

namespace Sys2Proof.Machine

/-! Commands -/

/-- R534, R516: the always-on island has no power, or is held at its power-on values. -/
def State.down (s : State) : Bool := !s.pwr.vin || (s.pwr.resetN && !s.failing)

/-- A command's effect; none while the island is down. -/
def State.run (s : State) (f : State → State) : Out := .next (if s.down then s else f s)

/-- R489: step 12 begins once the device is admitted, or acts as caller. -/
def State.admitPhase (s : State) : State :=
  if s.fget F.CFG_START_STATUS_PHASE 0 0 = 11 && s.img.admitted then s.fset F.CFG_START_STATUS_PHASE 0 0 12 else s

/-- R379, R380: work that has vanished leaves no deficit and no visit. -/
def State.schedsIdle (s : State) : State := (mapKeys s.xch.scheds).foldl (fun s p => s.seqIdle p) s.schedIdle

/-- What goes on by itself once a command has acted: an instance command that waited, a reset, failures and marks of paths and the
save target, vanished work of the schedulers, standby entry, accesses that were held or are awaited from members that are lost, the start, requests at the directory, and
what cores await. -/
def State.settle (s : State) : State := s.instGo.resetGo.failuresGo.markPaths.seekImage.schedsIdle.standbyGo.heldGo.lostAnswers.admitPhase.coherence.arrivals

/-- An event of unit `n` of `k`. -/
def upTo (n k : Nat) (f : State → State) (s : State) : State := if n < k then f s else s

/-! Registers by name -/

/-- The I/O address on this device of register `k` of an array, in unit `u`: for block 0x70 a core's window (R42, R44). -/
def State.regAddr (s : State) (r : RegName) (u k : Nat) : Nat :=
  let p := regPlace r
  s.devnum * 2 ^ 27 + (if p.blk = 0x70 then 0x70 * 2 ^ 20 + u * 0x1000 else (p.blk + u) * 2 ^ 20) + p.off + 8 * k

/-- A write of a register by a master; there is none beyond the last of an array. -/
def State.writeReg (s : State) (who : Master) (r : RegName) (u k : Nat) (v : Word) : State :=
  if u < (regPlace r).units ∧ k < (regPlace r).count then s.ioAccess who (s.regAddr r u k) (some v) .none else s

/-- A write that sets some bits of a register and leaves its RW fields as they read. -/
def State.setBits (s : State) (who : Master) (r : RegName) (u k bits : Nat) : State :=
  s.writeReg who r u k ((s.readWord r u k &&& BitVec.ofNat 64 (fieldBits r (fun f => f.access == .rw)))
    ||| BitVec.ofNat 64 bits)

/-- A command word with a cue source to raise at its end. -/
def cmdWord (op : Nat) (source : Option Nat) : Word :=
  BitVec.ofNat 64 (op + match source with
    | some n => n % 2 ^ 12 * 2 ^ 12 + 2 ^ 24
    | none => 0)

/-! Messages (R391 to R393) -/

/-- R34: the master kind of a code. -/
def kindOf (n : Nat) : MasterKind :=
  match n with
  | 0 => .core
  | 1 => .engine
  | 2 => .sequencer
  | 3 => .bmp
  | 4 => .slice
  | _ => .directory

/-- The originator that a message names. -/
def msgMaster (m : Msg) : Master := { dev := m.src, kind := kindOf m.mkind, unit := m.unit, inst := m.inst }

/-- R392: a message of a kind, with the data bytes of that kind. -/
def msgAs (kind : Nat) (m : Msg) : Msg :=
  let n := (msgData kind).getD 0
  { m with kind, data := (m.data ++ List.replicate n 0).take n }

/-- The value in a message's data. -/
def msgWord (m : Msg) : Word := BitVec.ofNat 64 (bytesToNat (m.data.take 8))

/-- R407: a line arrives, if it was asked for. -/
def State.gotData (s : State) (m : Msg) : State :=
  match mapGet? s.mem.asked (lineOf m.addr) with
  | some k => if inRange 1 4 k then s.gotLine (lineOf m.addr) m.kind m.src m.data m.poison else s
  | none => s

/-- R392, R419: RETRY, of a write-back or of a request for a line: the tag tells. -/
def State.gotRetry (s : State) (m : Msg) : State :=
  if m.tag = Nat.xor (lineOf m.addr / 128 % 2 ^ 16) 0x8000 then s.writeBackAgain (lineOf m.addr) else s.askAgain (lineOf m.addr)

/-- An accepted message at this device, by its kind; `k`: the port it came by. -/
def State.actOn (k : Nat) (m : Msg) (s : State) : State :=
  match m.kind with
  | 0x01 | 0x02 | 0x03 | 0x04 => s.dirRequest m
  | 0x05 => s.dirWriteback m
  | 0x10 | 0x11 | 0x12 => s.gotData m
  | 0x13 => s.gotRetry m
  | 0x14 => s.gotNoHome (lineOf m.addr)
  | 0x15 => s.gotWbAck (lineOf m.addr)
  | 0x20 => s.snpInv m
  | 0x21 => s.snpShare m
  | 0x22 => s.snpOwn m
  | 0x23 => s.dirAck (lineOf m.addr) m.src m.promoted
  | 0x24 => s.dirData m
  | 0x30 => s.ioAt (msgMaster m) m.addr none (.remote m)
  | 0x31 => s.ioAt (msgMaster m) m.addr (some (msgWord m)) (.remote m)
  | 0x32 => s.ioAnswered m false (msgWord m)
  | 0x33 => s.ioAnswered m true 0
  | 0x34 => s.service k m
  | 0x38 => s.forwarded m
  | _ => s.discardMsg k m

/-- A message of a kind received on a port. -/
def State.message (s : State) (k kind : Nat) (m : Msg) : State :=
  (s.received k (msgAs kind m) (State.actOn k (msgAs kind m))).settle

/-- A request at the directory, with the errors that it meets there. -/
def State.request (s : State) (k kind : Nat) (m : Msg) (errs : List ErrSeen) (ecc : DirEcc) (evict : Option Nat) : State :=
  (s.received k (msgAs kind m) (fun s => s.homeRequest (msgAs kind m) errs ecc evict)).settle

/-- R390 to R395, R400: a flit received, and its messages delivered or passed on. -/
def State.flit (s : State) (k : Nat) (bs : List Byte) (fec : Nat) (bad : Bool) : State :=
  let (s1, ms) := s.flitIn k bs fec bad
  (ms.foldl (fun s m => if m.dst = s.devnum then s.received k m (State.actOn k m) else s.forward k m) s1).settle

/-! Events of cores -/

/-- R84, R87: the file goes to the current level, before its first floating-point instruction; `saveFails`: the save path has
an internal error.  A switch in progress goes on with the instruction that waits for it. -/
def State.fpSwitchNow (s : State) (lc : Nat) (saveFails : Bool) : State :=
  match s.canIssue lc, (s.core lc).current with
  | true, some l =>
    let c := s.core lc
    if c.fpOwner = l ∨ bitOf c.arch.lvlCtl 12 ∨ c.fpBusy ∨ (c.deliverable l).isSome then s
    else
      let e := mkEnv lc l c Op.nop [] { Met.none with save := saveFails } [] 0
      match s.fpSwitch e l with
      | .ok s1 => s1
      | .stop r => State.finish Op.nop e r
  | _, _ => s

/-- R90: the `k`-th listed long operation of a level completes. -/
def Core.completeAt (c : Core) (l k : Nat) : Core :=
  match (c.level l).ops[k]? with
  | some op =>
    if op.done then c
    else (c.applyOp l op).modLevel l (fun v => { v with
      ops := v.ops.take k ++ op.settle.toList ++ v.ops.drop (k + 1) })
  | none => c

def State.longOpDone (s : State) (lc l k : Nat) : State :=
  if s.coreRuns lc ∧ l < 8 then s.modCore lc (fun c => c.completeAt l k) else s

/-- R91, R93: the exception deliverable at the current level is delivered at the boundary before its next instruction, after what that
boundary brings. -/
def State.imprecise (s : State) (lc : Nat) : State := s.atBoundary lc (fun _ _ s => s)

/-- R212, R217: the oldest entry of a store buffer, once committed, becomes visible. -/
def State.storeDrain (s : State) (lc : Nat) : State := if s.flt.fatal then s else (s.drainOne lc).1

/-- The cue unit gives up a source's pending event. -/
def State.takeEvent (s : State) (src : Nat) : State :=
  { s with cue := { srcs := mapErase s.cue.srcs src, order := s.cue.order.filter (· != src) } }

/-- R58, R247, R93: an event reaches the core of a position: a checked pair agrees on it first; a split core takes it once no
floating-point switch is in progress. -/
def State.eventTo (s : State) (q lc src : Nat) (e : Event) : State :=
  let l := s.srcLevel src
  if (s.pair q).checks then
    ((s.takeEvent src).modCore lc (fun c => { c with inbox := c.inbox ++ [.event l e false] })).agreeIdle q
  else if (s.core lc).fpBusy then s
  else ((s.takeEvent src).modCore lc (fun c => c.deliver l e)).ackConsumed (s.core lc) lc

/-- R58, R66, R68, R461, R473: a pending event reaches its core; for a pair that is off it asks for a wake, and it waits for one that
is being switched off. -/
def State.deliverEvent (s : State) (src : Nat) : State :=
  let lc := s.srcCore src
  match mapGet? s.cue.srcs src, s.posOf lc with
  | some e, some q =>
    if !s.fbit F.CUE_MAP_ENABLE 0 src || s.coreAbsent lc || !s.pwr.baseOn || s.domState (2 * q) == domStopping then s
    else if (s.pair q).st == .off then s.endRest.wake (2 * q) 1
    else if (s.pair q).runs lc && !s.flt.fatal then s.eventTo q lc src ⟨src, e.count, e.word⟩
    else s
  | _, _ => s

/-! Events of pair positions -/

/-- R276: the kind of a token. -/
def TokenBody.kind : TokenBody → Nat
  | .read _ _ => 1
  | .own _ => 1
  | .store _ _ => 2
  | .cas _ _ _ _ => 3
  | .inp _ => 4
  | .out _ _ => 5
  | .eventAck _ => 6
  | .invAck _ => 7
  | .faultMsg _ _ => 8
  | .agreement _ => 9

/-- R258, R276: what reading the checkpoint for a retry finds. -/
def State.readCkpt (s : State) (q : Nat) : CopyCheck → State
  | .fine => s
  | .one => s.modPair q (fun p => { p with single := true })
  | .both => s.modPair q (fun p => { p with ckptBad := true })

/-- A failure of a sequencer pair, at comparator position 40 + p (R324), or of a pair of cores. -/
def State.failAt (s : State) (pos : Nat) (ckpt : CopyCheck) (f : Failure) : State :=
  if pos < 40 then (s.readCkpt pos ckpt).pairFail pos f
  else if pos < 48 then s.seqRetry (pos - 40) f (ckpt == .both)
  else s

/-- The kind of the token at the head of a position's FIFO, 0 for none. -/
def State.headToken (s : State) (pos : Nat) : Nat := ((s.pair pos).fifo.head?.map (fun t => t.body.kind)).getD 0

/-- R239, R240, R244, R245, R259, R260: the trailing partner's next token at the comparator; those of sequencer pairs are not held one by
one (DESIGN CHOICE, log entry 162). -/
def State.tokenCompare (s : State) (pos : Nat) (seen : Compare) (ckpt : CopyCheck) : State :=
  let token := s.headToken pos
  let fail (cause slot : Nat) (slotSeen : Option Nat) : State :=
    s.failAt pos ckpt { cause, token, partner := 0, slot, slotSeen, permanent := false }
  if pos < 40 && !(s.pair pos).checks then s
  else match seen with
    | .equal =>
      if 40 ≤ pos then s
      else if (s.pair pos).fifo.isEmpty then fail causeMiscompare 0 none
      else s.dropHead pos
    | .differs => fail causeMiscompare 0 none
    | .corrected _ =>
      if 40 ≤ pos then s
      else if (s.pair pos).fifo.isEmpty then fail causeMiscompare 0 none
      else
        let s1 := (s.fcount F.CORE_RETRY_COUNT_STAGGER_CE (2 * pos) 0 1).dropHead pos
        s1.pushToken (s1.pair pos).logicalCore (.faultMsg (s1.fault 0x70 pos 0x104 0 0 0) false)
    | .lost slot => fail causeStagger (slot % 64) none
    | .halves slot => fail causeChecker 0 (slot.map (· % 64))

/-- R245: the head has waited 1 µs. -/
def State.tokenTimeout (s : State) (pos : Nat) (ckpt : CopyCheck) : State :=
  if pos < 40 && (s.pair pos).fifo.isEmpty then s
  else s.failAt pos ckpt { cause := causeTimeout, token := s.headToken pos, partner := 0, slot := 0, slotSeen := none,
                           permanent := false }

/-- R254, R267: a partner, or a split core, detects an error of its own, between tokens; one of its store buffer is counted
(R208, R235). -/
def State.internalError (s : State) (pos partner : Nat) (permanent storeBuffer : Bool) (ckpt : CopyCheck) : State :=
  (if storeBuffer && decide (pos < 40) then s.fcount F.CORE_CACHE_ERR_OTHER (2 * pos) 0 1 else s).failAt pos ckpt
    { cause := causeInternal, token := 0, partner := partner % 2, slot := 0, slotSeen := none, permanent }

/-- R246 to R250, R235: the partners of a checked position agree, at a point that is due or on an input that finds them idle
or waiting. -/
def State.agreement (s : State) (q : Nat) : State :=
  if q < 40 ∧ (s.pair q).checks ∧ !s.flt.fatal ∧ !(s.pair q).atSplit then
    if (s.core (s.pair q).logicalCore).due then (s.agreeFirst q).1 else s.agreeIdle q
  else s

/-- R252, R262: the oldest group of a core commits, or, where none is closed, what it has retired. -/
def State.groupCommit (s : State) (lc : Nat) : State :=
  if s.coreRuns lc then
    match (s.core lc).groups with
    | g :: _ => if s.groupReady lc g then s.commitGroup lc g else s
    | [] => if s.canCommit lc then s.commit lc else s
  else s

/-- R266, R238: the hand-over of an accepted SPLIT, whose agreement point has been taken: every group up to it commits, the FIFO being
empty. -/
def State.splitHandover (s : State) (q : Nat) : State :=
  match (s.pair q).logical, (s.pair q).splitReq with
  | some n, some r =>
    if q < 40 ∧ (s.pair q).atSplit ∧ s.canCommit (2 * n) ∧ s.coreRuns (2 * n) then ((s.takePref q).commit (2 * n)).splitNow q n r.1 r.2 else s
  | _, _ => s

/-- R268: what core 2n + 1 has retired commits, and its stores become visible, before it is absorbed; false while a line is
awaited. -/
def State.absorb (s : State) (lc : Nat) : State × Bool :=
  let s1 := (s.modCore lc (fun c => c.completeAll (fun _ => true))).commit lc
  s1.drainUpTo lc (s1.core lc).sb.length

/-- R268: the commit of an accepted JOIN. -/
def State.joinCommit (s : State) (q : Nat) : State :=
  match (s.pair q).logical, (s.pair q).joinReq with
  | some n, true =>
    if q < 40 ∧ s.canCommit (2 * n) ∧ s.coreRuns (2 * n) then
      match s.absorb (2 * n + 1) with
      | (s1, true) => (s1.commit (2 * n)).joinNow q n
      | (s1, false) => s1
    else s
  | _, _ => s

/-- The position of the service pair where it needs a cut-in: contained, or stopped with its checkpoint unreadable. -/
def State.serviceNeeds (s : State) : Option Nat :=
  [38, 39].find? (fun q => (s.pair q).st == .cuttingIn && (s.pair q).need.isSome && (s.pair q).cutTo.isNone
    || ((s.pair q).st == .stopped && (s.pair q).cause == causeCkpt))

/-- R269, R270: the fallback sequencer; `mismatch`: one of its copies disagrees. -/
def State.serviceCutin (s : State) (mismatch : Bool) : State :=
  let s0 :=
    if mismatch then
      let t := s.fset F.FBS_STATUS_VOTE_MISMATCH 0 0 1
      t.logFault (t.fault 0x07 0 0x700 1 0 0)
    else s
  match s0.serviceNeeds with
  | none => s0
  | some q =>
    if s0.fbs.gaveUp then s0
    else if (s0.pair q).ckptBad then s0.callerNeeded 5 q
    else match s0.freeSpare q with
      | none => s0.callerNeeded 3 q
      | some r => s0.cutinBegin q r

end Sys2Proof.Machine
end

