-- ==== Sys2Proof/Machine/RegRows.lean ====
section
/-! DEFINITION. Rows of the register file: writes and reads of I/O space, commits, safe points, block resets (R11 to R26,
R42 to R46), with writes of the cue unit, the range engine and the fault collector. -/

namespace Sys2Proof.Machine

/-- The COMMIT register of a block with commit groups. -/
def commitReg (blk : Nat) : Option RegName :=
  match blk with
  | 0x02 => some .PWR_COMMIT
  | 0x10 => some .PCS_COMMIT
  | 0x28 => some .TRS_COMMIT
  | 0x30 => some .XCH_COMMIT
  | 0x71 => some .INST_COMMIT
  | _ => none

/-- R23: a commit group number is written. -/
def State.commitRow (s : State) (who : Master) (blk group : Nat) : State :=
  match commitReg blk with
  | some r => s.writeReg who r 0 0 (BitVec.ofNat 64 group)
  | none => s

/-- The register with class S fields that a safe point of a block concerns, by unit and index. -/
def stagedAt (blk k : Nat) : Option (RegName × Nat × Nat) :=
  if blk = 0x04 then (if k < 4096 then some (.CUE_MAP, 0, k) else none)
  else if blk = 0x70 then (if k < 80 then some (.CORE_PREF_CTL, k, 0) else none)
  else if inRange 0x40 16 blk then some (.MC_SCRUB, blk - 0x40, 0)
  else if blk = 0x28 then (if k < 1024 then some (.TRS_Q_CTL, 0, k) else if k = 1024 then some (.TRS_SVC_CTL, 0, 0) else none)
  else if inRange 0x20 8 blk then some (.TRE_CTL, blk - 0x20, 0)
  else if blk = 0x30 then
    (if k = 0 then some (.XCH_TIMEOUT, 0, 0)
     else if k ≤ 4096 then some (.XCH_RQ_CTL, 0, k - 1)
     else if k ≤ 8192 then some (.XCH_CQ_CTL, 0, k - 4097)
     else none)
  else if inRange 0x31 8 blk then some (.SEQ_CTL, blk - 0x31, 0)
  else if blk = 0x71 then (if k < 1024 then some (.INST_CTL, 0, k) else none)
  else if blk = 0x02 then (if k < 128 then some (.PWR_DOM_CTL, 0, k) else if k = 128 then some (.PWR_CAP, 0, 0) else none)
  else none

/-- R323: an engine has no safe point while it holds a job. -/
def State.atSafePoint (s : State) (blk : Nat) : Bool :=
  blockKnown blk && s.pwr.baseOn && s.powered blk 0 && !s.inReset blk
    && !(inRange 0x20 8 blk && (mapGet? s.trs.jobs (blk - 0x20)).isSome)


/-- R235: the safe point of a position's CORE_PREF_CTL: of a pair its agreement points (R246), which this event is none of; of a split
position an instruction boundary of its cores. -/
def State.prefSafe (s : State) (q : Nat) : State :=
  if (s.pair q).st == .split && (s.coresAt q).all (fun lc => (s.core lc).issuedAt.isNone && (s.core lc).waitIo.isNone) then s.takePref q
  else s

/-- R21, R23, R26: a safe point of a block: for its commit group `k`, or for the staged values of its register `k`.  An event in the
input buffer of a checked pair has left the cue unit and arrived, so that any moment is one of CUE_MAP (R66; DESIGN CHOICE, log entry
185). -/
def State.safePoint (s : State) (blk : Nat) (grouped : Bool) (k : Nat) : State :=
  if !s.atSafePoint blk then s
  else if grouped then (s.groupSafe blk k).settle
  else if blk = 0x71 ∧ s.visited k then s
  else match stagedAt blk k with
    | some (.CORE_PREF_CTL, u, _) => (s.prefSafe (u / 2)).settle
    | some (r, u, i) =>
      let s1 := s.takeStaged r u i
      if r == .CUE_MAP then s1.refreshAbsent else s1.settle
    | none => s

/-- R18: An I/O-space write reaches a register that has no row of its own and acts on each field by its access code
and change class. -/
def execRegisterWrite (who : Master) (addr : Nat) (value : Reads (BitVec 64)) (s : State) : Out :=
  s.run (fun s => (s.copyChecks (s.writeReads addr value.arg) value.chks).ioAccess who addr (some value.arg) .none)

/-- R15: A read at a register's own offset returns an RC field and then clears it, keeping any event that arrives
during the read. -/
def execRcRead (who : Master) (addr : Nat) (s : State) : Out :=
  s.run (fun s => s.ioAccess who addr none .none)

/-- R23: A write of a group number to a block's COMMIT register captures the group's held values for the next safe point. -/
def execCommitWrite (who : Master) (blk group : Nat) (s : State) : Out :=
  s.run (fun s => s.commitRow who blk group)

/-- R26: A block reaches a safe point, and its staged class S values and committed class G values take force. -/
def execSafePointReached (blk : Nat) (grouped : Bool) (k : Nat) (s : State) : Out :=
  s.run (fun s => s.safePoint blk grouped k)

/-- R45: A block reset ends, and the accesses held at the block act on its post-reset state. -/
def execBlockResetEnd (blk : Nat) (s : State) : Out :=
  s.run (fun s => if s.inReset blk then ((s.endReset blk).releaseHeld blk).settle else s)

/-- R68: A write to CUE_RAISE raises an event from a doorbell or message source, queued or merged by source. -/
def execCueRaise (who : Master) (value : BitVec 64) (s : State) : Out :=
  s.run (fun s => s.writeReg who .CUE_RAISE 0 0 value)

/-- R228: PCS_RNG_CMD FLUSH writes back modified lines of a physical range. -/
def execRngFlush (who : Master) (source : Option Nat) (s : State) : Out :=
  s.run (fun s => s.writeReg who .PCS_RNG_CMD 0 0 (cmdWord 1 source))

/-- R228: PCS_RNG_CMD FLUSH_INVAL writes back and invalidates the lines of a range. -/
def execRngFlushInval (who : Master) (source : Option Nat) (s : State) : Out :=
  s.run (fun s => s.writeReg who .PCS_RNG_CMD 0 0 (cmdWord 2 source))

/-- R228: PCS_RNG_CMD INVAL discards the lines of a range without write-back. -/
def execRngInval (who : Master) (source : Option Nat) (s : State) : Out :=
  s.run (fun s => s.writeReg who .PCS_RNG_CMD 0 0 (cmdWord 3 source))

/-- R228: PCS_RNG_CMD ZERO sets the lines of a range to zero, clearing poison. -/
def execRngZero (who : Master) (source : Option Nat) (s : State) : Out :=
  s.run (fun s => s.writeReg who .PCS_RNG_CMD 0 0 (cmdWord 4 source))

/-- R229: The range engine finishes or stops early, sets DONE or ERROR and raises its source. -/
def execRangeDone (s : State) : Out :=
  s.run (fun s => s.rngDone)

/-- R227: A resident-memory conversion completes and CONVERTING clears, releasing held accesses. -/
def execResConversionDone (s : State) : Out :=
  s.run (fun s => s.resConvert.settle)

/-- R234: A memory controller reads and corrects its next line on its scrub schedule. -/
def execScrubRead (chan line : Nat) (err : Option ErrSeen) (s : State) : Out :=
  s.run (fun s => upTo chan 16 (fun s => s.scrub chan line err) s)

/-- R434: The collector logs a fault message, sets pending bits, escalates, raises a notice and forwards. -/
def execFaultMessage (blk unit kind cls akind addr : Nat) (s : State) : Out :=
  s.run (fun s => if wellSent blk unit kind cls akind addr then s.logFault (s.fault blk unit kind cls akind addr) else s)

/-- R438: A write of FLT_RESET with GO starts a block reset and opens a shadow, or is refused. -/
def execFltResetGo (who : Master) (blk : Reads Nat) (s : State) : Out :=
  s.run (fun s => (s.copyChecks (fun x => inRange 0x60 8 (blk.arg % 2 ^ 7) && s.isLive x) blk.chks).writeReg who .FLT_RESET 0 0
    (BitVec.ofNat 64 (blk.arg % 2 ^ 7 + 2 ^ 8)))

/-- R439: A reset shadow closes 10 µs after its reset ends. -/
def execShadowClose (blk : Nat) (s : State) : Out :=
  s.run (fun s => s.closeShadow blk)

/-- R436: A write of 1 to a pending bit acknowledges it, which sets again at once while its cause stands. -/
def execFltPendAck (who : Master) (pair : Bool) (unit bits : Nat) (s : State) : Out :=
  s.run (fun s => s.writeReg who (if pair then .FLT_CORE_PEND else .FLT_PEND) 0 unit (BitVec.ofNat 64 bits))

/-- R438: Clearing FLT_CTL.BOOT_HOLD lets the collector raise notices, including those for records logged during start. -/
def execBootHoldClear (who : Master) (s : State) : Out :=
  s.run (fun s => s.setBits who .FLT_CTL 0 0 (2 ^ 2))

/-- R444: CALLER_NEEDED stays set for 10 ms without a controller write and a C4 record is logged. -/
def execNoController (s : State) : Out :=
  s.run (fun s => s.noController)

end Sys2Proof.Machine
end

