-- ==== Sys2Proof/Machine/CoreRows.lean ====
section
/-! DEFINITION. Rows of the cores and the pair positions (R58, R84 to R91, R212, R239 to R276), and of the fallback sequencer
(R269 to R272). -/

namespace Sys2Proof.Machine

/-- R84: After in-flight floating-point operations complete, the file is saved for the old owner and loaded for the
new one. -/
def execFpSwitch (run : FpRun) (s : State) : Out :=
  s.run (fun s => s.fpSwitchNow run.core run.saveFails)

/-- R90: A long operation writes its result and flags, clearing its scoreboard bits and possibly making an exception
pending. -/
def execLongOpComplete (core lvl k : Nat) (s : State) : Out :=
  s.run (fun s => s.longOpDone core lvl k)

/-- R91: A deliverable imprecise exception is taken at the first instruction boundary of its level with TA clear. -/
def execImpreciseException (core : Nat) (s : State) : Out :=
  s.run (fun s => s.imprecise core)

/-- R212: A store-buffer entry becomes visible at its slice and leaves the buffer. -/
def execStoreDrain (core : Nat) (s : State) : Out :=
  s.run (fun s => s.storeDrain core)

/-- R58: An event reaches its core's level and enters, wakes or queues on it according to the level's state. -/
def execEventDelivery (src : Nat) (s : State) : Out :=
  s.run (fun s => s.deliverEvent src)

/-- R239: A trailing partner's token is compared with the stagger-FIFO head and released, held or found a miscompare. -/
def execTokenCompare (pos : Nat) (seen : Compare) (ckpt : CopyCheck) (s : State) : Out :=
  s.run (fun s => s.tokenCompare pos seen ckpt)

/-- R245: A FIFO head waits 1 µs without a matching trailing token and is a miscompare with cause TIMEOUT. -/
def execTokenTimeout (pos : Nat) (ckpt : CopyCheck) (s : State) : Out :=
  s.run (fun s => s.tokenTimeout pos ckpt)

/-- R254: A partner detects an internal parity error and starts a retry with cause INTERNAL. -/
def execDetectedInternalError (pos partner : Nat) (err : IntErr) (ckpt : CopyCheck) (s : State) : Out :=
  s.run (fun s => s.internalError pos partner err.permanent err.storeBuffer ckpt)

/-- R247: The pair seals the agreed input set and both partners apply its invalidations, responses and events. -/
def execAgreementPoint (pos : Nat) (s : State) : Out :=
  s.run (fun s => s.agreement pos)

/-- R252: A completed retirement group is written to both checkpoint copies and its held tokens are released. -/
def execGroupCommit (core : Nat) (s : State) : Out :=
  s.run (fun s => s.groupCommit core)

/-- R261: A write of CORE_PAIR_CTL.CUTIN moves a logical pair to a spare, waking it through the promenade. -/
def execCutin (who : Master) (core spare : Nat) (s : State) : Out :=
  s.run (fun s => s.writeReg who .CORE_PAIR_CTL core 0 (BitVec.ofNat 64 (4 + spare % 2 ^ 8 * 2 ^ 8)))

/-- R266: A write of CORE_PAIR_CTL.SPLIT requests that a checked pair become two unchecked cores. -/
def execPairSplit (who : Master) (core : Nat) (s : State) : Out :=
  s.run (fun s => s.writeReg who .CORE_PAIR_CTL core 0 1)

/-- R266: At the agreement point with the FIFO empty, the pair becomes two logical cores and the new core starts at
the captured level and PC. -/
def execSplitHandover (pos : Nat) (s : State) : Out :=
  s.run (fun s => s.splitHandover pos)

/-- R268: A write of CORE_PAIR_CTL.JOIN requests that split cores become a pair, refusing if core 2n+1 is not idle. -/
def execPairJoin (who : Master) (core : Nat) (s : State) : Out :=
  s.run (fun s => s.writeReg who .CORE_PAIR_CTL core 0 2)

/-- R268: When core 2n stops at its commit, its checkpoint is copied to 2n+1, caches are emptied and the pair restarts
checked. -/
def execJoinCommit (pos : Nat) (s : State) : Out :=
  s.run (fun s => s.joinCommit pos)

/-- R263: A write of CORE_PAIR_CTL.RETIRE powers a stopped pair off and marks it FAILED. -/
def execRetire (who : Master) (core : Nat) (s : State) : Out :=
  s.run (fun s => s.writeReg who .CORE_PAIR_CTL core 0 8)

/-- R269: The fallback sequencer cuts the service spare pair in when the service pair's comparator requests it. -/
def execServiceCutin (mismatch : Bool) (s : State) : Out :=
  s.run (fun s => s.serviceCutin mismatch)

/-- R271: A watchdog period passes without FBS_KICK and the fallback sequencer calls the caller without cutting in. -/
def execFbsWatchdogExpiry (s : State) : Out :=
  s.run (fun s => s.watchdogExpiry)

/-- R271: A write of FBS_KICK restarts the watchdog period. -/
def execFbsKick (who : Master) (s : State) : Out :=
  s.run (fun s => s.writeReg who .FBS_KICK 0 0 1)

/-- R271: Clearing FBS_STATUS.CALLER_NEEDED releases DEV_ALERT_N and starts a new watchdog period. -/
def execCallerNeededClear (who : Master) (s : State) : Out :=
  s.run (fun s => s.setBits who .FBS_STATUS 0 0 (2 ^ 3))

end Sys2Proof.Machine
end

