-- ==== Sys2Proof/Machine/EngineRows.lean ====
section
/-! DEFINITION. Rows of the transform engines (R278 to R323). -/

namespace Sys2Proof.Machine

/-- R307: A write of a queue's TAIL posts descriptors, or is discarded if it would overfill the queue. -/
def execTrsDoorbell (who : Master) (queue tail : Nat) (s : State) : Out :=
  s.run (fun s => if queue = 1024 then s.writeReg who .TRS_SVC_DOORBELL 0 0 (BitVec.ofNat 64 tail)
    else s.writeReg who .TRS_DOORBELL 0 queue (BitVec.ofNat 64 tail))

/-- R308: The scheduler starts a TRANSFORM descriptor on an engine to compress, cipher and digest its source. -/
def execTransform (engine : Nat) (s : State) : Out :=
  s.run (fun s => upTo engine 8 (fun s => s.dispatchJob engine none) s)

/-- R304: A KEY_LOAD descriptor replaces a key slot from a key record and zeroes the record. -/
def execKeyLoad (engine : Nat) (s : State) : Out :=
  s.run (fun s => upTo engine 8 (fun s => s.dispatchJob engine (some 2)) s)

/-- R304: A KEY_ERASE descriptor clears a key slot to empty. -/
def execKeyErase (engine : Nat) (s : State) : Out :=
  s.run (fun s => upTo engine 8 (fun s => s.dispatchJob engine (some 3)) s)

/-- R320: A service-queue VERIFY_ECDSA descriptor checks a P-384 signature. -/
def execVerifyEcdsa (engine : Nat) (s : State) : Out :=
  s.run (fun s => upTo engine 8 (fun s => s.dispatchJob engine (some 0x10)) s)

/-- R320: A service-queue VERIFY_LMS descriptor checks an HSS signature. -/
def execVerifyLms (engine : Nat) (s : State) : Out :=
  s.run (fun s => upTo engine 8 (fun s => s.dispatchJob engine (some 0x11)) s)

/-- R287: An engine finishes compressing a block, chooses its class and writes it or stops with OUT_FULL. -/
def execCompressBlock (engine segs : Nat) (s : State) : Out :=
  s.run (fun s => upTo engine 8 (fun s => s.runBlock engine segs 1 (fun s j => s.compressNext engine j)) s)

/-- R288: An engine checks and decodes a whole block and writes its output or ends the job with an error. -/
def execDecompressBlock (run : EngRun) (s : State) : Out :=
  s.run (fun s => upTo run.engine 8 (fun s => s.runBlock run.engine run.segs 2 (fun s j => s.decompressNext run.engine j)) s)

/-- R310: An engine finishes a piece of a COMP = 0 cipher or digest job, checks the space left, writes the piece whole
or stops with OUT_FULL, and at the end of the input writes the tag, digest and status. -/
def execPieceWritten (run : EngRun) (s : State) : Out :=
  s.run (fun s => upTo run.engine 8 (fun s => s.runBlock run.engine run.segs 0 (fun s j => s.pieceNext run.engine j)) s)

/-- R316: An engine self-check fails; the engine is reset and the job is rerun from its last completed block. -/
def execEngineInternalError (engine kind spill : Nat) (clears : Bool) (s : State) : Out :=
  s.run (fun s => upTo engine 8 (fun s => (s.spillSegs engine spill).engineError engine kind clears) s)

end Sys2Proof.Machine
end

