-- ==== Sys2Proof/Machine/XchRows.lean ====
section
/-! DEFINITION. Rows of the channel subsystem (R324 to R370) and of the virtual instances (R371 to R388). -/

namespace Sys2Proof.Machine

/-- R340, R341: the record of an entry in STATUS becomes visible, and is reported. -/
def State.visibleRow (s : State) (x : Nat) : State :=
  let e := s.entry x
  -- R348: nothing of an exchange in doubt can take effect once its record is visible
  let running := e.result == xInDoubt && rqOp (s.exch x).record != opRead && !(s.attemptsOf x).isEmpty
  if !s.ownerRuns x ∨ e.state ≠ stStatus ∨ running then s
  else match s.slotReady e.cq e.seq with
    | (s1, false) => s1
    | (s1, true) => (s1.recordVisible x).reportRecord x

/-- R327: A serving pair takes a READ request record and accepts or refuses it. -/
def execRead (pair : Nat) (units : List Nat) (chk : CopyCheck) (s : State) : Out :=
  s.run (fun s => upTo pair 8 (fun s => s.byPair pair (fun s => s.serve pair opRead units chk)) s)

/-- R327: A serving pair takes a WRITE request record and accepts or refuses it. -/
def execWrite (pair : Nat) (units : List Nat) (chk : CopyCheck) (s : State) : Out :=
  s.run (fun s => upTo pair 8 (fun s => s.byPair pair (fun s => s.serve pair opWrite units chk)) s)

/-- R327: A serving pair takes a FLUSH request record and accepts or refuses it. -/
def execFlush (pair : Nat) (units : List Nat) (chk : CopyCheck) (s : State) : Out :=
  s.run (fun s => upTo pair 8 (fun s => s.byPair pair (fun s => s.serve pair opFlush units chk)) s)

/-- R327: A serving pair takes a WRITE_ZEROES request record and accepts or refuses it. -/
def execWriteZeroes (pair : Nat) (units : List Nat) (chk : CopyCheck) (s : State) : Out :=
  s.run (fun s => upTo pair 8 (fun s => s.byPair pair (fun s => s.serve pair opZeroes units chk)) s)

/-- R327: A serving pair takes a DSM deallocate request record and accepts or refuses it. -/
def execDsm (pair : Nat) (units : List Nat) (chk : CopyCheck) (s : State) : Out :=
  s.run (fun s => upTo pair 8 (fun s => s.byPair pair (fun s => s.serve pair opDsm units chk)) s)

/-- R327: A serving pair takes a MGMT admin request record and accepts or refuses it. -/
def execMgmt (pair : Nat) (units : List Nat) (chk : CopyCheck) (s : State) : Out :=
  s.run (fun s => upTo pair 8 (fun s => s.byPair pair (fun s => s.serve pair opMgmt units chk)) s)

/-- R326: A write of a request ring's TAIL posts request entries. -/
def execXchRqDoorbell (who : Master) (ring tail : Nat) (s : State) : Out :=
  s.run (fun s => s.writeReg who .XCH_RQ_DOORBELL 0 ring (BitVec.ofNat 64 tail))

/-- R345: A sequencer chooses a path for a POSTED entry and moves it to STARTED, or ends it PATHS_EXHAUSTED. -/
def execPathChoice (exch : Nat) (cids : List Nat) (chk : CopyCheck) (s : State) : Out :=
  s.run (fun s => (s.byPair (s.entry exch).owner (fun s => (s.copyCheck exch chk).pathChoice exch cids)).settle)

/-- R351: An exchange's inline transform ends and the entry proceeds on its path or to STATUS. -/
def execExchangeTransformDone (exch : Nat) (run : SubmitRun) (s : State) : Out :=
  s.run (fun s => s.byPair (s.entry exch).owner (fun s => s.transformDone exch run.cids run.chk))

/-- R346: A target moves data through an attempt's window, moving the entry to DATA or being discarded as late. -/
def execWindowTransfer (op : WindowOp) (s : State) : Out :=
  s.run (fun s => s.byPairs (fun s => (s.fecSeen op).windowTransfer op))

/-- R369: An endpoint's MSI-X write to a group's interrupt address raises device-interrupt source v. -/
def execInterruptWrite (group port : Nat) (addr : BitVec 64) (data : List (BitVec 8)) (s : State) : Out :=
  s.run (fun s => upTo group 4 (fun s => s.interruptWrite group port addr data) s)

/-- R340: A target's NVMe completion arrives and the entry goes to STATUS with its SEQ assigned, or is discarded by CID. -/
def execTargetCompletion (target path cid status : Nat) (run : CmplRun) (s : State) : Out :=
  s.run (fun s => s.byPairs (fun s =>
    (s.fecCompletion target path cid run.fecFixed run.fecBad).targetCompletion target path cid status run.data run.chk))

/-- R341: A completion record becomes visible and the entry moves to COMPLETE_WRITTEN and then REPORTED. -/
def execCompletionRecordVisible (run : EntryRun) (s : State) : Out :=
  s.run (fun s => s.byPair (s.entry run.exch).owner (fun s => (s.copyCheck run.exch run.chk).visibleRow run.exch))

/-- R332: A write of a completion ring's HEAD consumes records and returns their entries to IDLE. -/
def execXchCqHead (who : Master) (ring : Nat) (head : Reads Nat) (s : State) : Out :=
  s.run (fun s => (s.copyChecks (s.reportedIn ring) head.chks).writeReg who .XCH_CQ_HEAD 0 ring (BitVec.ofNat 64 head.arg))

/-- R343: A path's link, connection or controller fails and the path is marked failed with its exchanges re-driven. -/
def execPathFailed (target path : Nat) (cause : Reads PathCause) (s : State) : Out :=
  s.run (fun s => s.byPairs (fun s => (s.copyChecks (s.onPath target path) cause.chks).pathFail target path cause.arg))

/-- R343: A command exceeds XCH_TIMEOUT and its path fails. -/
def execCommandTimeout (exch : EntryRun) (s : State) : Out :=
  s.run (fun s => s.byPairs (fun s => (s.copyCheck exch.exch exch.chk).commandTimeout exch.exch))

/-- R347: An attempt ends by controller reset, successful Abort or all commands done, freeing its CIDs and allowing a
re-drive. -/
def execAttemptEnd (exch : EntryRun) (number : Nat) (s : State) : Out :=
  s.run (fun s => s.byPairs (fun s => (s.copyCheck exch.exch exch.chk).attemptEnd exch.exch number))

/-- R347: XCH_TIMEOUT.FENCE elapses after an RDMA connection failed and its attempts end. -/
def execFenceExpiry (target : Nat) (path : Reads Nat) (s : State) : Out :=
  s.run (fun s => s.byPairs (fun s => (s.copyChecks (s.onPath target path.arg) path.chks).fenceExpiry target path.arg))

/-- R352: The remaining pairs adopt a failed or disabled pair's rings, queues and entries. -/
def execSequencerAdoption (pair : Reads Nat) (s : State) : Out :=
  s.run (fun s => upTo pair.arg 8 (fun s => s.byPairs (fun s =>
    (s.copyChecks (fun x => s.isLive x && (s.entry x).owner == pair.arg) pair.chks).adopt pair.arg)) s)

/-- R355: A table copy fails whole; the device runs on the other and starts a rebuild. -/
def execTableCopyFailure (copy : Nat) (s : State) : Out :=
  s.run (fun s => upTo copy 2 (fun s => s.copyFail copy) s)

/-- R355: A table copy rebuild completes or fails. -/
def execTableRebuildDone (ok : Bool) (s : State) : Out :=
  s.run (fun s => s.rebuildDone ok)

/-- R369: An Ethernet or PCIe/CXL port's link goes up or down, raising its source and failing its paths when down. -/
def execLinkChange (group : Nat) (port : LinkRun) (up flit : Bool) (s : State) : Out :=
  s.run (fun s => upTo group 8 (fun s => s.byPairs (fun s =>
    ((s.fecFound group port.fecFixed port.fecBad).copyChecks s.isLive port.chks).linkChange group port.port up flit)) s)

/-- R357: The 1 ms drain after t0 ends and every non-IDLE entry is written to the save target. -/
def execDrainEnd (done : Reads Nat) (s : State) : Out :=
  s.run (fun s => (s.copyChecks s.isLive done.chks).drainEnd done.arg)

/-- R360: A write of XCH_REPLAY.START writes RESUMED or IN_DOUBT records for the saved entries. -/
def execReplayStart (who : Master) (ring : Nat) (s : State) : Out :=
  s.run (fun s => s.writeReg who .XCH_REPLAY 0 0 (BitVec.ofNat 64 (ring % 2 ^ 12 + 2 ^ 16)))

/-- R360: Replay finishes, sets DONE and raises the ring's source. -/
def execReplayDone (s : State) : Out :=
  s.run (fun s => s.replayDone)

/-- R360: A write of XCH_REPLAY.CONSUME erases the save image. -/
def execReplayConsume (who : Master) (s : State) : Out :=
  s.run (fun s => s.setBits who .XCH_REPLAY 0 0 (2 ^ 17))

/-- R430: An Ethernet or PCIe/CXL group finds it cannot continue, stops, and sends a C3 fault whose cause stands until
the group is reset. -/
def execGroupFatal (group : Reads Nat) (s : State) : Out :=
  s.run (fun s => upTo group.arg 8 (fun s => (s.copyChecks s.isLive group.chks).groupFatal group.arg) s)

/-- R375: INST_CMD CREATE builds an instance from its parameter block. -/
def execCreate (who : Master) (inst : Nat) (s : State) : Out :=
  s.run (fun s => s.writeReg who .INST_CMD 0 0 (BitVec.ofNat 64 (1 + inst % 2 ^ 10 * 2 ^ 16)))

/-- R375: INST_CMD REMOVE removes a present instance. -/
def execInstCmdRemove (who : Master) (inst : Reads Nat) (s : State) : Out :=
  s.run (fun s => (s.copyChecks (s.liveOf inst.arg) inst.chks).writeReg who .INST_CMD 0 0
    (BitVec.ofNat 64 (2 + inst.arg % 2 ^ 10 * 2 ^ 16)))

/-- R375: INST_CMD MODIFY changes the rates and weights of a present instance. -/
def execModify (who : Master) (inst : Nat) (s : State) : Out :=
  s.run (fun s => s.writeReg who .INST_CMD 0 0 (BitVec.ofNat 64 (3 + inst % 2 ^ 10 * 2 ^ 16)))

/-- R382: A write of INST_OP.RESET increments the generation and sends it to every unit. -/
def execInstReset (who : Master) (inst : Reads Nat) (s : State) : Out :=
  s.run (fun s => (s.copyChecks (s.liveOf inst.arg) inst.chks).writeReg who .INST_OP 0 inst.arg 1)

/-- R386: A write of INST_OP.REMOVE resets the instance and then removes it. -/
def execInstRemove (who : Master) (inst : Reads Nat) (s : State) : Out :=
  s.run (fun s => (s.copyChecks (s.liveOf inst.arg) inst.chks).writeReg who .INST_OP 0 inst.arg 2)

/-- R382: When every unit has acknowledged, untaken entries are dropped, buckets filled and RESET_DONE set. -/
def execResetAcksComplete (inst : Reads Nat) (s : State) : Out :=
  s.run (fun s => ((s.copyChecks (s.liveOf inst.arg) inst.chks).acksComplete inst.arg).settle)

end Sys2Proof.Machine
end

