-- ==== Sys2Proof/Machine/LinkRows.lean ====
section
/-! DEFINITION. Rows of Shabek Link (R389 to R409), of the image (R410 to R415) and of the time of day (R416 to R418). -/

namespace Sys2Proof.Machine

/-- R489: step 11 is in progress once the device begins to join. -/
def State.joinPhase (s : State) : State :=
  if s.fget F.CFG_START_STATUS_PHASE 0 0 = 10 then s.fset F.CFG_START_STATUS_PHASE 0 0 11 else s

/-- R393: an SVC message of a subkind. -/
def svcAs (sub : Nat) (m : Msg) : Msg := { m with data := BitVec.ofNat 8 sub :: m.data.drop 1 }

/-- R407: A home handles READ_SHARED for a line, snooping an owner if needed. -/
def execReadShared (port : Nat) (m : Msg) (errs : List ErrSeen) (ecc : DirEcc) (evict : Option Nat) (s : State) : Out :=
  s.run (fun s => s.request port 0x01 m errs ecc evict)

/-- R407: A home handles READ_OWN, invalidating other holders before granting data. -/
def execReadOwn (port : Nat) (m : Msg) (errs : List ErrSeen) (ecc : DirEcc) (evict : Option Nat) (s : State) : Out :=
  s.run (fun s => s.request port 0x02 m errs ecc evict)

/-- R407: A home handles UPGRADE, invalidating other holders and granting ownership. -/
def execUpgrade (port : Nat) (m : Msg) (errs : List ErrSeen) (ecc : DirEcc) (evict : Option Nat) (s : State) : Out :=
  s.run (fun s => s.request port 0x03 m errs ecc evict)

/-- R407: A home handles OWN_NO_DATA for a whole-line write, granting ownership without data. -/
def execOwnNoData (port : Nat) (m : Msg) (errs : List ErrSeen) (ecc : DirEcc) (evict : Option Nat) (s : State) : Out :=
  s.run (fun s => s.request port 0x04 m errs ecc evict)

/-- R407: A home writes a modified line back to memory and answers WB_ACK. -/
def execWriteback (port : Nat) (m : Msg) (s : State) : Out :=
  s.run (fun s => s.message port 0x05 m)

/-- R407: A requester receives a line in shared state. -/
def execDataShared (port : Nat) (m : Msg) (s : State) : Out :=
  s.run (fun s => s.message port 0x10 m)

/-- R407: A requester receives a line with ownership. -/
def execDataOwn (port : Nat) (m : Msg) (s : State) : Out :=
  s.run (fun s => s.message port 0x11 m)

/-- R407: A requester receives ownership without data. -/
def execGrant (port : Nat) (m : Msg) (s : State) : Out :=
  s.run (fun s => s.message port 0x12 m)

/-- R419: A requester receives RETRY and sends the request again, promoted after 16 refusals. -/
def execRetry (port : Nat) (m : Msg) (s : State) : Out :=
  s.run (fun s => s.message port 0x13 m)

/-- R405: A requester receives NO_HOME and delivers a contained data fault or discards the write. -/
def execNoHome (port : Nat) (m : Msg) (s : State) : Out :=
  s.run (fun s => s.message port 0x14 m)

/-- R407: A sender receives acknowledgement of its write-back. -/
def execWbAck (port : Nat) (m : Msg) (s : State) : Out :=
  s.run (fun s => s.message port 0x15 m)

/-- R407: A holder invalidates its copy and answers SNP_ACK. -/
def execSnpInv (port : Nat) (m : Msg) (s : State) : Out :=
  s.run (fun s => s.message port 0x20 m)

/-- R407: An owner sends shared data to the requester and SNP_DATA to the home. -/
def execSnpShare (port : Nat) (m : Msg) (s : State) : Out :=
  s.run (fun s => s.message port 0x21 m)

/-- R407: An owner passes its line with ownership to the requester and acknowledges the home. -/
def execSnpOwn (port : Nat) (m : Msg) (s : State) : Out :=
  s.run (fun s => s.message port 0x22 m)

/-- R407: A home receives a snoop acknowledgement, granting once all have arrived. -/
def execSnpAck (port : Nat) (m : Msg) (s : State) : Out :=
  s.run (fun s => s.message port 0x23 m)

/-- R407: A home receives an owner's data and writes memory. -/
def execSnpData (port : Nat) (m : Msg) (s : State) : Out :=
  s.run (fun s => s.message port 0x24 m)

/-- R392: A device receives an I/O-space read over Shabek Link and answers IO_DATA. -/
def execIoRead (port : Nat) (m : Msg) (s : State) : Out :=
  s.run (fun s => s.message port 0x30 m)

/-- R392: A device receives an I/O-space write over Shabek Link and answers IO_ACK. -/
def execIoWrite (port : Nat) (m : Msg) (s : State) : Out :=
  s.run (fun s => s.message port 0x31 m)

/-- R392: An originator receives the value of a remote I/O read. -/
def execIoData (port : Nat) (m : Msg) (s : State) : Out :=
  s.run (fun s => s.message port 0x32 m)

/-- R392: An originator receives acknowledgement of a remote I/O write. -/
def execIoAck (port : Nat) (m : Msg) (s : State) : Out :=
  s.run (fun s => s.message port 0x33 m)

/-- R433: A collector receives a forwarded fault record and logs it with FORWARDED set. -/
def execFault (port : Nat) (m : Msg) (s : State) : Out :=
  s.run (fun s => s.message port 0x38 m)

/-- R411: The caller receives JOIN and admits the device if its digest matches, or refuses it. -/
def execJoin (port : Nat) (m : Msg) (s : State) : Out :=
  s.run (fun s => s.message port 0x34 (svcAs 1 m))

/-- R411: A member receives ADMIT and takes the new member mask and EPOCH. -/
def execAdmit (port : Nat) (m : Msg) (s : State) : Out :=
  s.run (fun s => s.message port 0x34 (svcAs 2 m))

/-- R411: A joining device receives REFUSE and logs a C3 fault of the image. -/
def execRefuse (port : Nat) (m : Msg) (s : State) : Out :=
  s.run (fun s => s.message port 0x34 (svcAs 3 m))

/-- R412: A heartbeat with the member mask is received from the caller or a worker. -/
def execHeartbeat (port : Nat) (m : Msg) (s : State) : Out :=
  s.run (fun s => s.message port 0x34 (svcAs 4 m))

/-- R413: A member accepts TAKEOVER from the named standby with EPOCH + 1. -/
def execTakeover (port : Nat) (m : Msg) (s : State) : Out :=
  s.run (fun s => s.message port 0x34 (svcAs 5 m))

/-- R417: A worker receives SYNC and locks or slews its time of day. -/
def execSync (port : Nat) (m : Msg) (s : State) : Out :=
  s.run (fun s => s.message port 0x34 (svcAs 6 m))

/-- R413: A member receives ALERT from a device whose fallback sequencer needs the caller. -/
def execAlert (port : Nat) (m : Msg) (s : State) : Out :=
  s.run (fun s => s.message port 0x34 (svcAs 7 m))

/-- R401: A device receives HANDOVER and resends messages past the last delivered SEQ on the new route. -/
def execHandover (port : Nat) (m : Msg) (s : State) : Out :=
  s.run (fun s => s.message port 0x34 (svcAs 8 m))

/-- R395: A Shabek flit is received, checked by CRC and delivered, or NAKed for replay. -/
def execFlitReceive (port : Nat) (bytes : List (BitVec 8)) (fec : Nat) (bad : Bool) (s : State) : Out :=
  s.run (fun s => upTo port 10 (fun s => s.flit port bytes fec bad) s)

/-- R396: A lane loses lock or exceeds its replay limit and the port retrains narrower or goes DOWN. -/
def execLaneFault (port lane : Nat) (s : State) : Out :=
  s.run (fun s => if lane < 8 then upTo port 10 (fun s => (s.laneFault port lane).settle) s else s)

/-- R401: A port goes DOWN, its messages are resent on the new route and a C2 fault is logged. -/
def execPortDown (port : Nat) (s : State) : Out :=
  s.run (fun s => upTo port 10 (fun s => s.portDown port) s)

/-- R399: A port completes training and compares its peer, coming UP or entering MISMATCH. -/
def execPortTrained (port peer peerPort : Nat) (lanes : Lanes) (delay credit : Nat) (s : State) : Out :=
  s.run (fun s => s.portTrained port peer peerPort lanes delay credit)

/-- R396: A write of SHB_CTL.RETRAIN retrains a port at the widest width its lanes allow. -/
def execShbRetrain (who : Master) (port : Nat) (s : State) : Out :=
  s.run (fun s => s.setBits who .SHB_CTL port 0 2)

/-- R397: A port with TRICKLE set sees no request, response or coherence flit for 100 µs and enters trickle. -/
def execTrickleIdleExpiry (port : Nat) (s : State) : Out :=
  s.run (fun s => upTo port 10 (fun s => s.trickleEnter port) s)

/-- R397: A trickle port returns to full width and waiting flits proceed. -/
def execTrickleExitDone (port : Nat) (s : State) : Out :=
  s.run (fun s => upTo port 10 (fun s => s.trickleExit port) s)

/-- R410: After 2 × HB_TIMEOUT of listening a starting device becomes caller or sends JOIN. -/
def execListenExpiry (s : State) : Out :=
  s.run (fun s => (s.joinPhase.listenEnd).settle)

/-- R410: JOIN is repeated every 100 ms until an answer arrives. -/
def execJoinRepeat (s : State) : Out :=
  s.run (fun s => s.joinAgain)

/-- R412: Every 100 µs the caller and each worker send HEARTBEAT. -/
def execHeartbeatSend (s : State) : Out :=
  s.run (fun s => s.sendHeartbeats)

/-- R412: No heartbeat arrives for HB_TIMEOUT; after a failed probe the caller declares a worker lost or the standby
takes over. -/
def execHeartbeatTimeout (dev : Silence) (s : State) : Out :=
  s.run (fun s => (upTo dev.dev 32 (fun s => s.heartbeatsLost dev.dev dev.answered) s).settle)

/-- R417: Every 1 µs a device keeping the image's time sends SYNC on every up port. -/
def execSyncSend (s : State) : Out :=
  s.run (fun s => s.sendSync)

/-- R417: A worker hears no SYNC for 10 µs and enters holdover with a C1 fault. -/
def execSyncLoss (s : State) : Out :=
  s.run (fun s => s.syncLost)

/-- R416: A write of TOD_SET on the caller steps the image's time and increments the step count. -/
def execTodSet (who : Master) (value : BitVec 64) (s : State) : Out :=
  s.run (fun s => s.writeReg who .TOD_SET 0 0 value)

/-- R416: A rising edge of TOD_PPS aligns the caller's second boundary. -/
def execTodPpsEdge (s : State) : Out :=
  s.run (fun s => s.ppsEdge)

/-- R418: TOD_TIME reaches an armed timer's compare value and the timer's source is raised. -/
def execTimerExpiry (timer : Nat) (s : State) : Out :=
  s.run (fun s => s.timerExpiry timer)

end Sys2Proof.Machine
end

