-- ==== Sys2Proof/Machine/PowerRows.lean ====
section
/-! DEFINITION. Rows of the supply and the power domains (R452 to R473, R516, R534), of start-up and trust (R474 to R513). -/

namespace Sys2Proof.Machine

/-- R464, R487, R492: a granted domain is ready; the records held for it are applied. -/
def State.wakeDone (s : State) (dom : Nat) (pass : Bool) : State :=
  if 128 ≤ dom ∨ s.domState (domKey dom) ≠ domWaking then s
  else ((s.wakeRecords (domKey dom)).domAwake dom pass).settle

/-- R461: the cores of a position come to rest: their groups commit and their stores drain. -/
def State.restCores (s : State) (q : Nat) : State × Bool :=
  (s.coresAt q).foldl (fun x lc => ((x.1.quiesce lc).1, x.2 && (x.1.quiesce lc).2)) (s, true)

/-- R460, R461: a STOPPING domain goes off. -/
def State.offDone (s : State) (dom : Nat) : State :=
  if 128 ≤ dom ∨ s.domState (domKey dom) ≠ domStopping then s
  else if dom < 80 then
    match s.restCores (dom / 2) with
    | (s1, true) => (s1.domOffDone dom).settle
    | (s1, false) => s1
  else (s.domOffDone dom).settle

/-- R455: VIN54 has been below 46 V for 10 µs; rails drop to the floor and the refill halves. -/
def execBrownoutEntry (s : State) : Out :=
  s.run (fun s => s.brownoutEntry)

/-- R455: VIN54 has been above 47 V for 1 ms; rails slew back. -/
def execBrownoutExit (s : State) : Out :=
  s.run (fun s => s.brownoutExit)

/-- R456: VIN54 has been below 40 V for 100 µs; the power-fail sequence empties the promenade and stops taking work. -/
def execPowerFailStart (s : State) : Out :=
  s.run (fun s => s.powerFail)

/-- R456: When the save image closes, or at t0 + 4 ms, every regulator but the always-on island turns off and PWR_OK
goes low. -/
def execSafeStateEntry (s : State) : Out :=
  s.run (fun s => s.safeEntry.heldGo)

/-- R458: After a supply-failure safe state, VIN54 above 46 V for 10 ms restarts the start sequence. -/
def execFailRestart (s : State) : Out :=
  s.run (fun s => s.failRestart)

/-- R452: VIN54 stays above 60 V for over 100 µs and PWR_OVERVOLTAGE is logged. -/
def execOvervoltage (s : State) : Out :=
  s.run (fun s => s.overvoltage)

/-- R453: A converter phase fails and is switched out, with a lowered cap after a second failure. -/
def execPhaseFailure (s : State) : Out :=
  s.run (fun s => s.phaseFailure)

/-- R459: At the end of each 100 µs window the power cap lowers or raises compute rails. -/
def execCapWindow (vin iin watts : Nat) (s : State) : Out :=
  s.run (fun s => s.capWindow vin iin watts)

/-- R459: A junction sensor reads above 105 °C and hardware starts lowering every rail. -/
def execThermalSlowEntry (temp : Nat) (s : State) : Out :=
  s.run (fun s => s.thermalEntry temp)

/-- R459: Every 100 µs under thermal slowing the rails step down, or step up once below 103 °C. -/
def execThermalStep (temp : Nat) (s : State) : Out :=
  s.run (fun s => s.thermalStep temp)

/-- R459: A sensor reaches 115 °C; THERM_TRIP_N goes low and the power-fail sequence runs. -/
def execThermalTrip (s : State) : Out :=
  s.run (fun s => s.thermalTrip)

/-- R534: VIN54 rises above 18 V and the always-on island takes its power-on values. -/
def execPowerOn (s : State) : Out :=
  .next (s.powerOn)

/-- R534: VIN54 falls below 16 V and the always-on island loses power. -/
def execVin54Removed (s : State) : Out :=
  .next (s.vinRemoved)

/-- R516: RESET_N low for 100 µs turns off the regulators and holds the island at power-on values. -/
def execResetNAssert (s : State) : Out :=
  .next (s.resetAssert)

/-- R516: Releasing RESET_N with VIN54 above 46 V starts the sequence as a power-on. -/
def execResetNRelease (s : State) : Out :=
  .next (s.resetRelease)

/-- R462: A write of PWR_DOM_CTL.ON queues a software wake of a domain in the promenade. -/
def execDomainOn (who : Master) (dom : Nat) (s : State) : Out :=
  s.run (fun s => s.setBits who .PWR_DOM_CTL 0 dom (2 ^ 8))

/-- R460: A write of PWR_DOM_CTL.OFF switches a domain off when its condition allows, or is refused. -/
def execDomainOff (who : Master) (dom : Reads Nat) (s : State) : Out :=
  s.run (fun s => (s.copyChecks (fun x => inRange 118 8 dom.arg && s.isLive x) dom.chks).setBits who .PWR_DOM_CTL 0 dom.arg (2 ^ 9))

/-- R462: The head of the promenade is granted when credits cover its cost. -/
def execWakeGrant (s : State) : Out :=
  s.run (fun s => s.grant)

/-- R464: A granted domain reaches regulation and becomes ready, applying held records and running pair tests. -/
def execDomainWakeDone (dom : Nat) (pass : Bool) (s : State) : Out :=
  s.run (fun s => s.wakeDone dom pass)

/-- R460: A STOPPING domain goes off and DONE sets. -/
def execDomainOffDone (dom : Nat) (s : State) : Out :=
  s.run (fun s => s.offDone dom)

/-- R471: A domain fails to reach regulation or its regulator fails, and its unit stops. -/
def execPwrDomainFailed (dom : Reads Nat) (s : State) : Out :=
  s.run (fun s => ((s.copyChecks (fun x => (inRange 104 4 dom.arg || inRange 118 8 dom.arg) && s.isLive x) dom.chks).domFail dom.arg).settle)

/-- R468: A write of PWR_STATE_REQ = ACTIVE leaves rest or standby. -/
def execStateReqActive (who : Master) (s : State) : Out :=
  s.run (fun s => s.writeReg who .PWR_STATE_REQ 0 0 0)

/-- R467: A write of PWR_STATE_REQ = REST enters rest, or is refused. -/
def execStateReqRest (who : Master) (s : State) : Out :=
  s.run (fun s => s.writeReg who .PWR_STATE_REQ 0 0 2)

/-- R467: A write of PWR_STATE_REQ = STANDBY recalls homed lines and enters standby, or is refused. -/
def execStateReqStandby (who : Master) (s : State) : Out :=
  s.run (fun s => s.writeReg who .PWR_STATE_REQ 0 0 3)

/-- R489: Start reads fuses, tests the service pair, runs stage 0 to choose and check a slot, and passes control to
root firmware. -/
def execStartSequence (run : StartRun) (s : State) : Out :=
  s.run (fun s => s.startSequence run)

/-- R486: A write of CFG_CTL.APPLY applies the configuration records in image order. -/
def execCfgApply (who : Master) (s : State) : Out :=
  s.run (fun s => s.writeReg who .CFG_CTL 0 0 1)

/-- R489: A write of CFG_CTL.READY sets READY. -/
def execCfgReady (who : Master) (s : State) : Out :=
  s.run (fun s => s.writeReg who .CFG_CTL 0 0 2)

/-- R497: A write of CFG_CTL.SVC_RESTART logs and counts a service firmware restart. -/
def execSvcRestart (who : Master) (s : State) : Out :=
  s.run (fun s => s.writeReg who .CFG_CTL 0 0 4)

/-- R493: DDR5 training ends and the populated set is fixed, falling back where channels fail. -/
def execChannelTrained (good capacity : Nat) (s : State) : Out :=
  s.run (fun s => (s.channelsTrained good capacity).settle)

/-- R493: Background ECC initialisation of every channel finishes and MEM_INIT_DONE sets. -/
def execMemInitComplete (s : State) : Out :=
  s.run (fun s => s.memInitDone)

/-- R505: CFG_NVM_CMD READ copies flash to memory. -/
def execNvmRead (who : Master) (source : Option Nat) (s : State) : Out :=
  s.run (fun s => s.writeReg who .CFG_NVM_CMD 0 0 (cmdWord 1 source))

/-- R476: CFG_NVM_CMD PROGRAM writes memory to flash, refused for protected regions. -/
def execNvmProgram (who : Master) (source : Option Nat) (s : State) : Out :=
  s.run (fun s => s.writeReg who .CFG_NVM_CMD 0 0 (cmdWord 2 source))

/-- R476: CFG_NVM_CMD ERASE erases 64 KiB sectors, refused for protected regions. -/
def execNvmErase (who : Master) (source : Option Nat) (s : State) : Out :=
  s.run (fun s => s.writeReg who .CFG_NVM_CMD 0 0 (cmdWord 3 source))

/-- R505: An NVM command ends, setting DONE or ERROR and raising its source. -/
def execNvmDone (fails : Bool) (s : State) : Out :=
  s.run (fun s => s.nvmDone fails)

/-- R484: A write of SEC_SVN_ADVANCE blows security-version fuses up to TO, or is refused. -/
def execSvnAdvance (who : Master) (to_ : Nat) (s : State) : Out :=
  s.run (fun s => s.writeReg who .SEC_SVN_ADVANCE 0 0 (BitVec.ofNat 64 (to_ % 2 ^ 7)))

/-- R504: A write of SEC_REKEY.GO blows the next epoch fuse and restarts signing at index 0, or is refused. -/
def execRekey (who : Master) (s : State) : Out :=
  s.run (fun s => s.writeReg who .SEC_REKEY 0 0 1)

/-- R502: A write of SEC_ATT_CMD.GO starts an attestation report, reserving journal indices first. -/
def execAttestGo (who : Master) (source : Option Nat) (s : State) : Out :=
  s.run (fun s => s.writeReg who .SEC_ATT_CMD 0 0 (cmdWord 1 source))

/-- R501: A report's bytes are written, DONE sets and the event follows. -/
def execAttestDone (journal : Bool) (s : State) : Out :=
  s.run (fun s => s.attestDone journal)

end Sys2Proof.Machine
end

