-- ==== Sys2Proof/Machine/LandRows.lean ====
section
/-! DEFINITION. Rows of the lands: the board management port (R521, R522) and the TAP (R524). -/

namespace Sys2Proof.Machine

/-! The board management port -/

/-- R522: a private write: a READ or a WRITE of I/O space, or a refused command.  While an access is pending the port answers
none. -/
def State.bmpCommand (s : State) (bytes : List Byte) : State :=
  let start (a : Nat) : State := { s with bmp := { s.bmp with status := 1, value := 0, addr := a } }
  if s.bmp.status = 1 then s
  else
    let a := bytesToNat ((bytes.drop 1).take 4)
    match bytes.head?, bytes.length with
    | some 0x01, 5 => (start a).ioAccess ⟨s.devnum, .bmp, 0, 0⟩ a none .bmp
    | some 0x02, 13 => (start a).ioAccess ⟨s.devnum, .bmp, 0, 0⟩ a (some (BitVec.ofNat 64 (bytesToNat (bytes.drop 5)))) .bmp
    | _, _ => { s with bmp := { s.bmp with status := 2, value := 0 } }

/-- R522: a private read: STATUS and the value, which is a free value after a refused command (log entry 8). -/
def State.bmpAnswer (s : State) : State :=
  let v := if s.bmp.status = 2 then Config.freeWord s.free else s.bmp.value
  let s1 := if s.bmp.status = 2 then s.draw else s
  { s1 with outbox := s1.outbox ++ [.bmp (BitVec.ofNat 8 s.bmp.status :: wordBytes v)] }

/-- R521: the identity of the port: its static address, BCR, DCR and provisioned ID.  No row of the table reads the last three. -/
def State.i3cStatic (s : State) : Nat := 0x40 ||| s.devnum
def i3cBcr : Nat := 0x06
def i3cDcr : Nat := 0x00
def State.i3cProvisioned (s : State) : Nat := 0x3A5C * 2 ^ 33 + 0x7420 * 2 ^ 16 + s.devnum % 32

/-- R521: a dynamic address is taken. -/
def State.takeAddress (s : State) (dyn : Nat) : State :=
  ({ s with bmp := { s.bmp with dyn := some (dyn % 128) } } : State).sendIbi

/-! The TAP: powered with the always-on 1.8 V rail -/

/-- R524: an instruction is in force. -/
def State.tapLoad (s : State) (code : Nat) : State := { s with tap := { s.tap with ir := code } }

/-- A value is shifted out. -/
def State.tapShift (s : State) (code value : Nat) : State :=
  let s1 := s.tapLoad code
  { s1 with outbox := s1.outbox ++ [.tdo value] }

/-- The boundary register captures the pins and takes what is shifted in. -/
def State.tapScan (s : State) (code pins shifted : Nat) : State :=
  let s1 := s.tapShift code pins
  { s1 with tap := { s1.tap with boundary := shifted } }

/-- R524: an instruction that takes effect only while RESET_N is low, and loads as BYPASS otherwise. -/
def State.tapHold (s : State) (code : Nat) : State := s.tapLoad (if s.pwr.resetN then code else 0xFF)
def State.tapDrive (s : State) (code pins drive : Nat) : State :=
  if s.pwr.resetN then s.tapScan code pins drive else s.tapLoad 0xFF

/-- R522: An I3C private write with command 0x01 starts an I/O-space read. -/
def execBmpRead (bytes : List (BitVec 8)) (s : State) : Out :=
  s.run (fun s => s.bmpCommand bytes)

/-- R522: An I3C private write with command 0x02 starts an I/O-space write. -/
def execBmpWrite (bytes : List (BitVec 8)) (s : State) : Out :=
  s.run (fun s => s.bmpCommand bytes)

/-- R522: An I3C private read returns STATUS and the value of the last access. -/
def execBmpPrivateRead (s : State) : Out :=
  s.run (fun s => s.bmpAnswer)

/-- R521: The I3C target takes a dynamic address through SETDASA. -/
def execSetdasa (static dyn : Nat) (s : State) : Out :=
  s.run (fun s => if static = s.i3cStatic ∧ s.bmp.dyn.isNone then s.takeAddress dyn else s)

/-- R521: The I3C target takes a dynamic address through ENTDAA. -/
def execEntdaa (dyn : Nat) (s : State) : Out :=
  s.run (fun s => if s.bmp.dyn.isNone then s.takeAddress dyn else s)

/-- R521: The board management port receives the I3C ENEC command and enables its in-band interrupt. -/
def execEnec (s : State) : Out :=
  s.run (fun s => ({ s with bmp := { s.bmp with ibi := true } } : State).sendIbi)

/-- R524: JTAG EXTEST drives and samples the boundary while RESET_N is low. -/
def execExtest (pins drive : Nat) (s : State) : Out :=
  .next (if s.pwr.vin then s.tapDrive 0x00 pins drive else s)

/-- R524: JTAG SAMPLE/PRELOAD samples and preloads the boundary register. -/
def execSamplePreload (pins preload : Nat) (s : State) : Out :=
  .next (if s.pwr.vin then s.tapScan 0x01 pins preload else s)

/-- R524: JTAG IDCODE returns 0x1742_09A7. -/
def execIdcode (s : State) : Out :=
  .next (if s.pwr.vin then s.tapShift 0x02 0x174209A7 else s)

/-- R524: JTAG CLAMP holds the outputs while RESET_N is low. -/
def execClamp (s : State) : Out :=
  .next (if s.pwr.vin then s.tapHold 0x03 else s)

/-- R524: JTAG HIGHZ floats the outputs while RESET_N is low. -/
def execHighz (s : State) : Out :=
  .next (if s.pwr.vin then s.tapHold 0x04 else s)

/-- R524: JTAG EXTEST_PULSE tests AC-coupled lanes under IEEE 1149.6 while RESET_N is low. -/
def execExtestPulse (pins drive : Nat) (s : State) : Out :=
  .next (if s.pwr.vin then s.tapDrive 0x05 pins drive else s)

/-- R524: JTAG EXTEST_TRAIN tests AC-coupled lanes with pulse trains while RESET_N is low. -/
def execExtestTrain (pins drive : Nat) (s : State) : Out :=
  .next (if s.pwr.vin then s.tapDrive 0x06 pins drive else s)

/-- R524: JTAG BYPASS, or any other code, selects the one-bit bypass register. -/
def execBypass (s : State) : Out :=
  .next (if s.pwr.vin then s.tapLoad 0xFF else s)

/-- R524: TRST_N low, or TMS held high, resets the TAP to test-logic reset, selecting IDCODE and releasing any hold of
start at step 1. -/
def execTestLogicReset (s : State) : Out :=
  .next (if s.pwr.vin then s.tapLoad 0x02 else s)

end Sys2Proof.Machine
end

