-- ==== Sys2Proof/Machine/Dispatch.lean ====
section
/-! DEFINITION. What each command does: one arm per row of the opcode table. -/

namespace Sys2Proof.Machine

def exec (i : Instr) (s : State) : Host.Outcome State Fault Refusal :=
  match i with
  | .registerWrite who addr value => Sys2Proof.Machine.execRegisterWrite who addr value s
  | .rcRead who addr => Sys2Proof.Machine.execRcRead who addr s
  | .commitWrite who blk group => Sys2Proof.Machine.execCommitWrite who blk group s
  | .safePointReached blk grouped k => Sys2Proof.Machine.execSafePointReached blk grouped k s
  | .blockResetEnd blk => Sys2Proof.Machine.execBlockResetEnd blk s
  | .nop n => Sys2Proof.Machine.execNop n s
  | .xbar n => Sys2Proof.Machine.execXbar n s
  | .fbar n => Sys2Proof.Machine.execFbar n s
  | .mbar n => Sys2Proof.Machine.execMbar n s
  | .isync n => Sys2Proof.Machine.execIsync n s
  | .retw n => Sys2Proof.Machine.execRetw n s
  | .retl n => Sys2Proof.Machine.execRetl n s
  | .rett n => Sys2Proof.Machine.execRett n s
  | .wait n => Sys2Proof.Machine.execWait n s
  | .svc n o => Sys2Proof.Machine.execSvc n o s
  | .bkpt n o => Sys2Proof.Machine.execBkpt n o s
  | .jmp n o => Sys2Proof.Machine.execJmp n o s
  | .callwr n o => Sys2Proof.Machine.execCallwr n o s
  | .prefd n o => Sys2Proof.Machine.execPrefd n o s
  | .prefw n o => Sys2Proof.Machine.execPrefw n o s
  | .prefi n o => Sys2Proof.Machine.execPrefi n o s
  | .neg n o => Sys2Proof.Machine.execNeg n o s
  | .not n o => Sys2Proof.Machine.execNot n o s
  | .abs n o => Sys2Proof.Machine.execAbs n o s
  | .clz n o => Sys2Proof.Machine.execClz n o s
  | .popc n o => Sys2Proof.Machine.execPopc n o s
  | .bswap n o => Sys2Proof.Machine.execBswap n o s
  | .sxt n o => Sys2Proof.Machine.execSxt n o s
  | .zxt n o => Sys2Proof.Machine.execZxt n o s
  | .shli n o => Sys2Proof.Machine.execShli n o s
  | .shri n o => Sys2Proof.Machine.execShri n o s
  | .sari n o => Sys2Proof.Machine.execSari n o s
  | .rori n o => Sys2Proof.Machine.execRori n o s
  | .dstep n o => Sys2Proof.Machine.execDstep n o s
  | .dval n o => Sys2Proof.Machine.execDval n o s
  | .mfs n o => Sys2Proof.Machine.execMfs n o s
  | .mts n o => Sys2Proof.Machine.execMts n o s
  | .lvlResume n rd => Sys2Proof.Machine.execLvlResume n rd s
  | .lvlDismiss n rd => Sys2Proof.Machine.execLvlDismiss n rd s
  | .fpOwnerWrite n rd => Sys2Proof.Machine.execFpOwnerWrite n rd s
  | .mft n o => Sys2Proof.Machine.execMft n o s
  | .mtt n o => Sys2Proof.Machine.execMtt n o s
  | .tlbi n o => Sys2Proof.Machine.execTlbi n o s
  | .add n o => Sys2Proof.Machine.execAdd n o s
  | .adc n o => Sys2Proof.Machine.execAdc n o s
  | .sub n o => Sys2Proof.Machine.execSub n o s
  | .sbc n o => Sys2Proof.Machine.execSbc n o s
  | .and n o => Sys2Proof.Machine.execAnd n o s
  | .or n o => Sys2Proof.Machine.execOr n o s
  | .xor n o => Sys2Proof.Machine.execXor n o s
  | .andn n o => Sys2Proof.Machine.execAndn n o s
  | .shl n o => Sys2Proof.Machine.execShl n o s
  | .shr n o => Sys2Proof.Machine.execShr n o s
  | .sar n o => Sys2Proof.Machine.execSar n o s
  | .ror n o => Sys2Proof.Machine.execRor n o s
  | .mul n o => Sys2Proof.Machine.execMul n o s
  | .mulh n o => Sys2Proof.Machine.execMulh n o s
  | .mulhu n o => Sys2Proof.Machine.execMulhu n o s
  | .cmp n o => Sys2Proof.Machine.execCmp n o s
  | .tst n o => Sys2Proof.Machine.execTst n o s
  | .cas n o => Sys2Proof.Machine.execCas n o s
  | .dadd n o => Sys2Proof.Machine.execDadd n o s
  | .dsub n o => Sys2Proof.Machine.execDsub n o s
  | .daddt n o => Sys2Proof.Machine.execDaddt n o s
  | .dsubt n o => Sys2Proof.Machine.execDsubt n o s
  | .dsfix n o => Sys2Proof.Machine.execDsfix n o s
  | .dsfixs n o => Sys2Proof.Machine.execDsfixs n o s
  | .cinv n o => Sys2Proof.Machine.execCinv n o s
  | .cflush n o => Sys2Proof.Machine.execCflush n o s
  | .br n o => Sys2Proof.Machine.execBr n o s
  | .callw n o => Sys2Proof.Machine.execCallw n o s
  | .ldbu n o => Sys2Proof.Machine.execLdbu n o s
  | .ldbs n o => Sys2Proof.Machine.execLdbs n o s
  | .ldhu n o => Sys2Proof.Machine.execLdhu n o s
  | .ldhs n o => Sys2Proof.Machine.execLdhs n o s
  | .ldwu n o => Sys2Proof.Machine.execLdwu n o s
  | .ldws n o => Sys2Proof.Machine.execLdws n o s
  | .ldd n o seen => Sys2Proof.Machine.execLdd n o seen s
  | .stb n o => Sys2Proof.Machine.execStb n o s
  | .sth n o => Sys2Proof.Machine.execSth n o s
  | .stw n o => Sys2Proof.Machine.execStw n o s
  | .std n o => Sys2Proof.Machine.execStd n o s
  | .ild n o => Sys2Proof.Machine.execIld n o s
  | .ist n o => Sys2Proof.Machine.execIst n o s
  | .inp n o => Sys2Proof.Machine.execIn n o s
  | .outp n o => Sys2Proof.Machine.execOut n o s
  | .addi n o => Sys2Proof.Machine.execAddi n o s
  | .andi n o => Sys2Proof.Machine.execAndi n o s
  | .ori n o => Sys2Proof.Machine.execOri n o s
  | .xori n o => Sys2Proof.Machine.execXori n o s
  | .cmpi n o => Sys2Proof.Machine.execCmpi n o s
  | .bc n o => Sys2Proof.Machine.execBc n o s
  | .ldm n o part => Sys2Proof.Machine.execLdm n o part s
  | .stm n o part => Sys2Proof.Machine.execStm n o part s
  | .fmov n o => Sys2Proof.Machine.execFmov n o s
  | .fneg n o => Sys2Proof.Machine.execFneg n o s
  | .fabs n o => Sys2Proof.Machine.execFabs n o s
  | .fdstartDiv n o => Sys2Proof.Machine.execFdstartDiv n o s
  | .fdstartSqrt n o => Sys2Proof.Machine.execFdstartSqrt n o s
  | .fdstep n o => Sys2Proof.Machine.execFdstep n o s
  | .fdfin n o => Sys2Proof.Machine.execFdfin n o s
  | .fcvt n o => Sys2Proof.Machine.execFcvt n o s
  | .frint n o => Sys2Proof.Machine.execFrint n o s
  | .fcvtfi n o => Sys2Proof.Machine.execFcvtfi n o s
  | .fcvtif n o => Sys2Proof.Machine.execFcvtif n o s
  | .fadd n o => Sys2Proof.Machine.execFadd n o s
  | .fsub n o => Sys2Proof.Machine.execFsub n o s
  | .fmul n o => Sys2Proof.Machine.execFmul n o s
  | .fcmp n o => Sys2Proof.Machine.execFcmp n o s
  | .fcmps n o => Sys2Proof.Machine.execFcmps n o s
  | .fmvfg n o => Sys2Proof.Machine.execFmvfg n o s
  | .fmvgf n o => Sys2Proof.Machine.execFmvgf n o s
  | .fmfc n o => Sys2Proof.Machine.execFmfc n o s
  | .fmtc n o => Sys2Proof.Machine.execFmtc n o s
  | .flds n o => Sys2Proof.Machine.execFlds n o s
  | .fldd n o => Sys2Proof.Machine.execFldd n o s
  | .fldq n o => Sys2Proof.Machine.execFldq n o s
  | .fsts n o => Sys2Proof.Machine.execFsts n o s
  | .fstd n o => Sys2Proof.Machine.execFstd n o s
  | .fstq n o => Sys2Proof.Machine.execFstq n o s
  | .fpSwitch run => Sys2Proof.Machine.execFpSwitch run s
  | .longOpComplete core lvl k => Sys2Proof.Machine.execLongOpComplete core lvl k s
  | .impreciseException core => Sys2Proof.Machine.execImpreciseException core s
  | .storeDrain core => Sys2Proof.Machine.execStoreDrain core s
  | .cueRaise who value => Sys2Proof.Machine.execCueRaise who value s
  | .eventDelivery src => Sys2Proof.Machine.execEventDelivery src s
  | .tokenCompare pos seen ckpt => Sys2Proof.Machine.execTokenCompare pos seen ckpt s
  | .tokenTimeout pos ckpt => Sys2Proof.Machine.execTokenTimeout pos ckpt s
  | .detectedInternalError pos partner err ckpt => Sys2Proof.Machine.execDetectedInternalError pos partner err ckpt s
  | .agreementPoint pos => Sys2Proof.Machine.execAgreementPoint pos s
  | .groupCommit core => Sys2Proof.Machine.execGroupCommit core s
  | .cutin who core spare => Sys2Proof.Machine.execCutin who core spare s
  | .pairSplit who core => Sys2Proof.Machine.execPairSplit who core s
  | .splitHandover pos => Sys2Proof.Machine.execSplitHandover pos s
  | .pairJoin who core => Sys2Proof.Machine.execPairJoin who core s
  | .joinCommit pos => Sys2Proof.Machine.execJoinCommit pos s
  | .retire who core => Sys2Proof.Machine.execRetire who core s
  | .serviceCutin mismatch => Sys2Proof.Machine.execServiceCutin mismatch s
  | .fbsWatchdogExpiry => Sys2Proof.Machine.execFbsWatchdogExpiry s
  | .fbsKick who => Sys2Proof.Machine.execFbsKick who s
  | .callerNeededClear who => Sys2Proof.Machine.execCallerNeededClear who s
  | .scrubRead chan line err => Sys2Proof.Machine.execScrubRead chan line err s
  | .rngFlush who source => Sys2Proof.Machine.execRngFlush who source s
  | .rngFlushInval who source => Sys2Proof.Machine.execRngFlushInval who source s
  | .rngInval who source => Sys2Proof.Machine.execRngInval who source s
  | .rngZero who source => Sys2Proof.Machine.execRngZero who source s
  | .rangeDone => Sys2Proof.Machine.execRangeDone s
  | .resConversionDone => Sys2Proof.Machine.execResConversionDone s
  | .trsDoorbell who queue tail => Sys2Proof.Machine.execTrsDoorbell who queue tail s
  | .transform engine => Sys2Proof.Machine.execTransform engine s
  | .keyLoad engine => Sys2Proof.Machine.execKeyLoad engine s
  | .keyErase engine => Sys2Proof.Machine.execKeyErase engine s
  | .verifyEcdsa engine => Sys2Proof.Machine.execVerifyEcdsa engine s
  | .verifyLms engine => Sys2Proof.Machine.execVerifyLms engine s
  | .compressBlock engine segs => Sys2Proof.Machine.execCompressBlock engine segs s
  | .decompressBlock run => Sys2Proof.Machine.execDecompressBlock run s
  | .engineInternalError engine kind spill clears => Sys2Proof.Machine.execEngineInternalError engine kind spill clears s
  | .read pair units chk => Sys2Proof.Machine.execRead pair units chk s
  | .write pair units chk => Sys2Proof.Machine.execWrite pair units chk s
  | .flush pair units chk => Sys2Proof.Machine.execFlush pair units chk s
  | .writeZeroes pair units chk => Sys2Proof.Machine.execWriteZeroes pair units chk s
  | .dsm pair units chk => Sys2Proof.Machine.execDsm pair units chk s
  | .mgmt pair units chk => Sys2Proof.Machine.execMgmt pair units chk s
  | .xchRqDoorbell who ring tail => Sys2Proof.Machine.execXchRqDoorbell who ring tail s
  | .pathChoice exch cids chk => Sys2Proof.Machine.execPathChoice exch cids chk s
  | .exchangeTransformDone exch run => Sys2Proof.Machine.execExchangeTransformDone exch run s
  | .windowTransfer op => Sys2Proof.Machine.execWindowTransfer op s
  | .interruptWrite group port addr data => Sys2Proof.Machine.execInterruptWrite group port addr data s
  | .targetCompletion target path cid status run => Sys2Proof.Machine.execTargetCompletion target path cid status run s
  | .completionRecordVisible run => Sys2Proof.Machine.execCompletionRecordVisible run s
  | .xchCqHead who ring head => Sys2Proof.Machine.execXchCqHead who ring head s
  | .pathFailed target path cause => Sys2Proof.Machine.execPathFailed target path cause s
  | .commandTimeout exch => Sys2Proof.Machine.execCommandTimeout exch s
  | .attemptEnd exch number => Sys2Proof.Machine.execAttemptEnd exch number s
  | .fenceExpiry target path => Sys2Proof.Machine.execFenceExpiry target path s
  | .sequencerAdoption pair => Sys2Proof.Machine.execSequencerAdoption pair s
  | .tableCopyFailure copy => Sys2Proof.Machine.execTableCopyFailure copy s
  | .tableRebuildDone ok => Sys2Proof.Machine.execTableRebuildDone ok s
  | .linkChange group port up flit => Sys2Proof.Machine.execLinkChange group port up flit s
  | .drainEnd done => Sys2Proof.Machine.execDrainEnd done s
  | .replayStart who ring => Sys2Proof.Machine.execReplayStart who ring s
  | .replayDone => Sys2Proof.Machine.execReplayDone s
  | .replayConsume who => Sys2Proof.Machine.execReplayConsume who s
  | .create who inst => Sys2Proof.Machine.execCreate who inst s
  | .instCmdRemove who inst => Sys2Proof.Machine.execInstCmdRemove who inst s
  | .modify who inst => Sys2Proof.Machine.execModify who inst s
  | .instReset who inst => Sys2Proof.Machine.execInstReset who inst s
  | .instRemove who inst => Sys2Proof.Machine.execInstRemove who inst s
  | .resetAcksComplete inst => Sys2Proof.Machine.execResetAcksComplete inst s
  | .flitReceive port bytes fec bad => Sys2Proof.Machine.execFlitReceive port bytes fec bad s
  | .laneFault port lane => Sys2Proof.Machine.execLaneFault port lane s
  | .portDown port => Sys2Proof.Machine.execPortDown port s
  | .portTrained port peer peerPort lanes delay credit => Sys2Proof.Machine.execPortTrained port peer peerPort lanes delay credit s
  | .shbRetrain who port => Sys2Proof.Machine.execShbRetrain who port s
  | .trickleIdleExpiry port => Sys2Proof.Machine.execTrickleIdleExpiry port s
  | .trickleExitDone port => Sys2Proof.Machine.execTrickleExitDone port s
  | .readShared port m errs ecc evict => Sys2Proof.Machine.execReadShared port m errs ecc evict s
  | .readOwn port m errs ecc evict => Sys2Proof.Machine.execReadOwn port m errs ecc evict s
  | .upgrade port m errs ecc evict => Sys2Proof.Machine.execUpgrade port m errs ecc evict s
  | .ownNoData port m errs ecc evict => Sys2Proof.Machine.execOwnNoData port m errs ecc evict s
  | .writeback port m => Sys2Proof.Machine.execWriteback port m s
  | .dataShared port m => Sys2Proof.Machine.execDataShared port m s
  | .dataOwn port m => Sys2Proof.Machine.execDataOwn port m s
  | .grant port m => Sys2Proof.Machine.execGrant port m s
  | .retry port m => Sys2Proof.Machine.execRetry port m s
  | .noHome port m => Sys2Proof.Machine.execNoHome port m s
  | .wbAck port m => Sys2Proof.Machine.execWbAck port m s
  | .snpInv port m => Sys2Proof.Machine.execSnpInv port m s
  | .snpShare port m => Sys2Proof.Machine.execSnpShare port m s
  | .snpOwn port m => Sys2Proof.Machine.execSnpOwn port m s
  | .snpAck port m => Sys2Proof.Machine.execSnpAck port m s
  | .snpData port m => Sys2Proof.Machine.execSnpData port m s
  | .ioRead port m => Sys2Proof.Machine.execIoRead port m s
  | .ioWrite port m => Sys2Proof.Machine.execIoWrite port m s
  | .ioData port m => Sys2Proof.Machine.execIoData port m s
  | .ioAck port m => Sys2Proof.Machine.execIoAck port m s
  | .join port m => Sys2Proof.Machine.execJoin port m s
  | .admitJoin port m => Sys2Proof.Machine.execAdmit port m s
  | .refuse port m => Sys2Proof.Machine.execRefuse port m s
  | .heartbeat port m => Sys2Proof.Machine.execHeartbeat port m s
  | .takeover port m => Sys2Proof.Machine.execTakeover port m s
  | .sync port m => Sys2Proof.Machine.execSync port m s
  | .alert port m => Sys2Proof.Machine.execAlert port m s
  | .handover port m => Sys2Proof.Machine.execHandover port m s
  | .fault port m => Sys2Proof.Machine.execFault port m s
  | .listenExpiry => Sys2Proof.Machine.execListenExpiry s
  | .joinRepeat => Sys2Proof.Machine.execJoinRepeat s
  | .heartbeatSend => Sys2Proof.Machine.execHeartbeatSend s
  | .heartbeatTimeout dev => Sys2Proof.Machine.execHeartbeatTimeout dev s
  | .syncSend => Sys2Proof.Machine.execSyncSend s
  | .syncLoss => Sys2Proof.Machine.execSyncLoss s
  | .todSet who value => Sys2Proof.Machine.execTodSet who value s
  | .todPpsEdge => Sys2Proof.Machine.execTodPpsEdge s
  | .timerExpiry timer => Sys2Proof.Machine.execTimerExpiry timer s
  | .faultMessage blk unit kind cls akind addr => Sys2Proof.Machine.execFaultMessage blk unit kind cls akind addr s
  | .fltResetGo who blk => Sys2Proof.Machine.execFltResetGo who blk s
  | .shadowClose blk => Sys2Proof.Machine.execShadowClose blk s
  | .fltPendAck who pair unit bits => Sys2Proof.Machine.execFltPendAck who pair unit bits s
  | .bootHoldClear who => Sys2Proof.Machine.execBootHoldClear who s
  | .noController => Sys2Proof.Machine.execNoController s
  | .brownoutEntry => Sys2Proof.Machine.execBrownoutEntry s
  | .brownoutExit => Sys2Proof.Machine.execBrownoutExit s
  | .powerFailStart => Sys2Proof.Machine.execPowerFailStart s
  | .safeStateEntry => Sys2Proof.Machine.execSafeStateEntry s
  | .failRestart => Sys2Proof.Machine.execFailRestart s
  | .overvoltage => Sys2Proof.Machine.execOvervoltage s
  | .phaseFailure => Sys2Proof.Machine.execPhaseFailure s
  | .capWindow vin iin watts => Sys2Proof.Machine.execCapWindow vin iin watts s
  | .thermalSlowEntry temp => Sys2Proof.Machine.execThermalSlowEntry temp s
  | .thermalStep temp => Sys2Proof.Machine.execThermalStep temp s
  | .thermalTrip => Sys2Proof.Machine.execThermalTrip s
  | .powerOn => Sys2Proof.Machine.execPowerOn s
  | .vin54Removed => Sys2Proof.Machine.execVin54Removed s
  | .resetNAssert => Sys2Proof.Machine.execResetNAssert s
  | .resetNRelease => Sys2Proof.Machine.execResetNRelease s
  | .domainOn who dom => Sys2Proof.Machine.execDomainOn who dom s
  | .domainOff who dom => Sys2Proof.Machine.execDomainOff who dom s
  | .wakeGrant => Sys2Proof.Machine.execWakeGrant s
  | .domainWakeDone dom pass => Sys2Proof.Machine.execDomainWakeDone dom pass s
  | .domainOffDone dom => Sys2Proof.Machine.execDomainOffDone dom s
  | .pwrDomainFailed dom => Sys2Proof.Machine.execPwrDomainFailed dom s
  | .stateReqActive who => Sys2Proof.Machine.execStateReqActive who s
  | .stateReqRest who => Sys2Proof.Machine.execStateReqRest who s
  | .stateReqStandby who => Sys2Proof.Machine.execStateReqStandby who s
  | .startSequence run => Sys2Proof.Machine.execStartSequence run s
  | .cfgApply who => Sys2Proof.Machine.execCfgApply who s
  | .cfgReady who => Sys2Proof.Machine.execCfgReady who s
  | .svcRestart who => Sys2Proof.Machine.execSvcRestart who s
  | .channelTrained good capacity => Sys2Proof.Machine.execChannelTrained good capacity s
  | .memInitComplete => Sys2Proof.Machine.execMemInitComplete s
  | .nvmRead who source => Sys2Proof.Machine.execNvmRead who source s
  | .nvmProgram who source => Sys2Proof.Machine.execNvmProgram who source s
  | .nvmErase who source => Sys2Proof.Machine.execNvmErase who source s
  | .nvmDone fails => Sys2Proof.Machine.execNvmDone fails s
  | .svnAdvance who to_ => Sys2Proof.Machine.execSvnAdvance who to_ s
  | .rekey who => Sys2Proof.Machine.execRekey who s
  | .attestGo who source => Sys2Proof.Machine.execAttestGo who source s
  | .attestDone journal => Sys2Proof.Machine.execAttestDone journal s
  | .bmpRead bytes => Sys2Proof.Machine.execBmpRead bytes s
  | .bmpWrite bytes => Sys2Proof.Machine.execBmpWrite bytes s
  | .bmpPrivateRead => Sys2Proof.Machine.execBmpPrivateRead s
  | .setdasa static dyn => Sys2Proof.Machine.execSetdasa static dyn s
  | .entdaa dyn => Sys2Proof.Machine.execEntdaa dyn s
  | .extest pins drive => Sys2Proof.Machine.execExtest pins drive s
  | .samplePreload pins preload => Sys2Proof.Machine.execSamplePreload pins preload s
  | .idcode => Sys2Proof.Machine.execIdcode s
  | .clamp => Sys2Proof.Machine.execClamp s
  | .highz => Sys2Proof.Machine.execHighz s
  | .extestPulse pins drive => Sys2Proof.Machine.execExtestPulse pins drive s
  | .extestTrain pins drive => Sys2Proof.Machine.execExtestTrain pins drive s
  | .bypass => Sys2Proof.Machine.execBypass s
  | .illegalInstruction core bytes => Sys2Proof.Machine.execIllegalInstruction core bytes s
  | .fetchTranslation run => Sys2Proof.Machine.execFetchTranslation run s
  | .pieceWritten run => Sys2Proof.Machine.execPieceWritten run s
  | .groupFatal group => Sys2Proof.Machine.execGroupFatal group s
  | .testLogicReset => Sys2Proof.Machine.execTestLogicReset s
  | .enec => Sys2Proof.Machine.execEnec s

end Sys2Proof.Machine
end

