-- ==== Sys2Proof/Machine/Tick.lean ====
section
/-! DEFINITION. What the passing of time does by itself, one nanosecond at a time (log entry 2): time of day and its slew (R416,
R417), wake credits (R462), the buckets (R377), the steps of the power cap (R459), the writing of memory after training (R493). -/

namespace Sys2Proof.Machine

/-- R417: nanoseconds that TOD_TIME advances in one nanosecond, and the slew after it: at most 100 ppm. -/
def Tod.advance (t : Tod) : Nat × Tod :=
  if t.phase < 9999 then (1, { t with phase := t.phase + 1 })
  else if t.slew = 0 then (1, { t with phase := 0 })
  else if 0 < t.slew then (2, { t with phase := 0, slew := t.slew - 1 })
  else (0, { t with phase := 0, slew := t.slew + 1 })

/-- R416: the caller counts from TOD_REF; every other device from its internal reference. -/
def State.onRef (s : State) : Bool := s.role == 3 && s.fbit F.TOD_CFG_REF_EN 0 0

/-- R416, R417: TOD_TIME counts: exactly from TOD_REF, and from the internal reference with an error of at most one nanosecond in
20,000 (50 ppm), which is a free value (log entry 159); it never decreases. -/
def State.tickTime (s : State) : State :=
  let (n, t) := s.tod.advance
  let s1 : State := { s with tod := t }
  if s.onRef || s.now % 20000 != 0 then s1.setTime ((s.time + n) % 2 ^ 64)
  else s1.draw.setTime ((s.time + (n + (Config.freeWord s.free).toNat % 3 - 1)) % 2 ^ 64)

/-- R462, R455: the credits refill. -/
def State.tickCredits (s : State) : State :=
  let rate := s.fget F.PWR_WAKE_REFILL_RATE 0 0
  let budget := s.fget F.PWR_WAKE_BUDGET_CREDITS 0 0
  { s with pwr := s.pwr.refill rate budget (s.fbit F.PWR_STATUS_BROWNOUT 0 0) }

/-- R467, R45: standby is entered once what its entry waits for has been done by itself; accesses held at blocks then find no power. -/
def State.tickStandby (s : State) : State := if s.pwr.recalling then s.standbyGo.heldGo else s

/-- One nanosecond of a device whose base logic has power; the eviction buffers go on (R224, R468).  A granule is written every 1.5 ms, so
that 8 TiB take 12.3 s (R493; DESIGN CHOICE, log entry 155). -/
def State.tickBase (s : State) : State :=
  let s1 := s.tickCredits.refillBuckets.evictAwake.evictGo
  let s2 := if s.now % 1500000 = 0 then s1.granuleDone else s1
  (if s.now % 10000 = 0 then s2.capStep else s2).tickStandby

/-- R255: the cores that retries have returned to their checkpoints run again. -/
def State.restart (s : State) : State :=
  (positions.filter (fun q => !(s.pair q).restarts.isEmpty)).foldl (fun s q =>
    (s.modPair q (fun p => { p with restarts := [] })).againMerged q) s

/-- One nanosecond passes. -/
def State.tick (s : State) : State :=
  let s1 : State := { s with now := s.now + 1 }
  if s.down then s1
  else
    let s2 := (s1.farPorts (Config.farDown s1.now)).tickTime
    if s.pwr.baseOn then s2.restart.seqsGo.tickBase else s2

end Sys2Proof.Machine
end

