-- ==== Sys2Proof/Safety.lean ====
section
/-! DEFINITION. Safe runs: what a step may end in, and the states that a run passes. -/

namespace Sys2Proof.Safety

open Sys2Proof.Machine

/-- The states of the runs from a state. -/
inductive Reaches (s : State) : State → Prop where
  | start : Reaches s s
  | step (t u : State) : Reaches s t → Machine.step t = .next u → Reaches s u

/-- A state from which every run goes on. -/
def Safe (s : State) : Prop := ∀ t, Reaches s t → ∃ u, Machine.step t = .next u

/-- A property that every step keeps. -/
def Kept (p : State → Prop) : Prop := ∀ s t, p s → Machine.step s = .next t → p t

/-- The canonical form of the device's memory and of its flash. -/
def MemInv (s : State) : Prop := Memory.wf s.mem = true ∧ cellsWf none s.boot.flash = true

end Sys2Proof.Safety
end

