-- ==== Sys2Proof/Certificates/Slice0/Obligations.lean ====
section
/-! DEFINITION. The statements about the machine (OBLIGATIONS.json lists them), and the words they are said in. -/

namespace Sys2Proof.Slice0

open Sys2Proof.Machine Sys2Proof.Safety

/-- What comes at the boundary before the instruction has come: inputs of an agreed set, a refetch, an OUT (R246, R203, R154). -/
def bound (i : Ins) (s : State) : State := (s.boundary i.core).1

/-- The state with the instruction's bytes fetched, the physical lines that hold them, and how the fetch ends (R206). -/
def gotten (op : OpInfo) (i : Ins) (l : Nat) (s : State) : State × List Nat × FetchSt :=
  (bound i s).fetched i.core l (op.length i.pfx) i.met.fetch

/-- What an instruction knows of itself at level `l` of its core. -/
def envOf (op : OpInfo) (i : Ins) (x l : Nat) (s : State) : Env :=
  mkEnv i.core l ((gotten op i l s).1.core i.core) op i.pfx i.met (gotten op i l s).2.1 x

/-- The state that the instruction's own effect starts from: the long operations that it needs or overwrites have completed
(R198). -/
def issued (op : OpInfo) (i : Ins) (x l : Nat) (s : State) : State :=
  (gotten op i l s).1.modCore i.core (fun c => c.scoreboard op l (envOf op i x l s).bank x)

/-- The instruction's core in that state. -/
def found (op : OpInfo) (i : Ins) (x l : Nat) (s : State) : Core := (issued op i x l s).core i.core

/-- The instruction issues at level `l`: its core can execute and nothing holds it at the boundary, no exception is to be delivered
first, its bytes are there and the decoder accepts them, and the floating-point file, if it needs it, belongs to the level. -/
abbrev Ready (op : OpInfo) (i : Ins) (x l : Nat) (s : State) : Prop :=
  s.canIssue i.core = true ∧ (s.boundary i.core).2 = true ∧ (bound i s).canIssue i.core = true ∧
  ((bound i s).core i.core).current = some l ∧ (bound i s).comesFirst i.core l = none ∧
  (gotten op i l s).2.2 = .ok ∧
  decodeCheck op i.pfx x (envOf op i x l s).sup = none ∧
  (op.fp = true → ((gotten op i l s).1.core i.core).fpOwner = l) ∧
  (issued op i x l s).comesFirst i.core l = none

/-- The address of the next instruction. -/
def past (e : Env) : Word := e.ia + BitVec.ofNat 64 e.len

/-- Each event that the core has consumed since the boundary is acknowledged at the comparator (R240). -/
def acked (i : Ins) (s t : State) : State := t.ackConsumed ((bound i s).core i.core) i.core

/-- The state after an instruction that has left `t`: the PC moves past it. -/
def afterIn (op : OpInfo) (i : Ins) (x l : Nat) (s t : State) : State :=
  acked i s (t.modCore i.core (fun c => c.retire op (envOf op i x l s) false (past (envOf op i x l s))))

/-- The state after an instruction whose whole effect is on its own core: the effect, then the PC at `next`, without a break of the
flow of control. -/
def after (op : OpInfo) (i : Ins) (x l : Nat) (s : State) (effect : Env → Core → Core) (next : Env → Word) : State :=
  acked i s ((issued op i x l s).setCore i.core
    ((effect (envOf op i x l s) (found op i x l s)).retire op (envOf op i x l s) false (next (envOf op i x l s))))

/-- The same of an instruction that goes elsewhere: the flow of control is broken (R246, R252). -/
def afterJump (op : OpInfo) (i : Ins) (x l : Nat) (s : State) (effect : Env → Core → Core) (next : Env → Word) : State :=
  acked i s ((issued op i x l s).setCore i.core
    ((effect (envOf op i x l s) (found op i x l s)).retire op (envOf op i x l s) true (next (envOf op i x l s))))

/-- Register `n` of the bank that the operands name, at the instruction's width. -/
def operand (e : Env) (c : Core) (n : BitVec 5) : BitVec e.width := ((c.level e.bank).readR n.toNat).setWidth e.width

/-- A whole register of the bank that the operands name. -/
def register (e : Env) (c : Core) (n : Nat) : Word := (c.level e.bank).readR n

/-- A base register: number 24 is the instruction's own address (R104, R106). -/
def baseOf (e : Env) (c : Core) (n : BitVec 5) : Word := if n = 24 then e.ia else register e c n.toNat

/-- A register of the named bank is written. -/
def putReg (e : Env) (n : Nat) (v : Word) (c : Core) : Core := c.modLevel e.bank (fun b => b.writeR n v)

/-- The flags of the current level are written. -/
def putFlags (e : Env) (f : Nat) (c : Core) : Core := c.modLevel e.lvl (fun b => { b with sw := swSetFlags b.sw f })

/-- A result, zero-extended, and its flags. -/
def putResult (e : Env) (n : BitVec 5) {w : Nat} (r : BitVec w × Nat) (c : Core) : Core :=
  putFlags e r.2 (putReg e n.toNat (r.1.setWidth 64) c)

/-- C and V as given, Z and N of a result, laid out as SW[3:0] (R51). -/
def nzvc (c v : Bool) {w : Nat} (r : BitVec w) : Nat :=
  (if c then 1 else 0) + (if v then 2 else 0) + (if r = 0 then 4 else 0) + (if r.msb then 8 else 0)

/-- R132, add: the sum, C its carry, V its signed overflow. -/
def sumOf {w : Nat} (a b : BitVec w) (cin : Nat) : BitVec w × Nat :=
  let r := a + b + BitVec.ofNat w cin
  (r, nzvc (decide (2 ^ w ≤ a.toNat + b.toNat + cin)) (decide (a.toInt + b.toInt + cin ≠ r.toInt)) r)

/-- R132, subtract: the difference, C where no borrow occurs, V its signed overflow. -/
def differenceOf {w : Nat} (a b : BitVec w) (borrow : Nat) : BitVec w × Nat :=
  let r := a - b - BitVec.ofNat w borrow
  (r, nzvc (decide (b.toNat + borrow ≤ a.toNat)) (decide (a.toInt - b.toInt - borrow ≠ r.toInt)) r)

/-- R132, logic: C and V are 0. -/
def logicOf {w : Nat} (r : BitVec w) : BitVec w × Nat := (r, nzvc false false r)

/-- R133: the flags of a shift by `n`: C is the bit given, 0 where nothing is shifted. -/
def shiftOf {w : Nat} (n : Nat) (r : BitVec w) (c : Bool) : BitVec w × Nat := (r, nzvc (decide (n ≠ 0) && c) false r)

/-- The carry flag of the current level, as a number. -/
def carryIn (e : Env) (c : Core) : Nat := if swC (c.level e.lvl).sw then 1 else 0

/-- The immediate of either form, at the instruction's width: 22 bits or 32 bits sign-extended, or all 64 under IMM64 (R105). -/
def immediate (e : Env) : ImmForm → BitVec e.width
  | .ri o => (o.imm.signExtend 64).setWidth e.width
  | .ri32 o => (if e.imm64 then o.imm else (o.imm.setWidth 32).signExtend 64).setWidth e.width

/-- A long operation of integer registers as it issues: what it will write (R90). -/
def longOf (e : Env) (c : Core) (writes : List (Dst × Word)) (flags : Option Nat) (dss : Option Bool) (exc : Option TrapInfo) :
    LongOp :=
  { iaddr := e.ia, idx := c.count, writes, flags, dss, fpFlags := 0, isFp := false, exc, done := false }

/-- The write of a register of the named bank that a long operation will make: none for G0. -/
def writeOf (e : Env) (c : Core) (n : Nat) (v : Word) : List (Dst × Word) :=
  match (c.level e.bank).dstOf e.bank n with
  | some d => [(d, v)]
  | none => []

/-- A register pair, the second register the higher half (R127). -/
def pairOf (e : Env) (c : Core) (n : Nat) : BitVec 128 := register e c (n + 1) ++ register e c n

/-- The writes of a 128-bit value to a pair. -/
def writesPair (e : Env) (c : Core) (n : Nat) (v : BitVec 128) : List (Dst × Word) :=
  writeOf e c n (v.setWidth 64) ++ writeOf e c (n + 1) ((v >>> 64).setWidth 64)

/-- A pending imprecise exception of the instruction (R91). -/
def excOf (e : Env) (code detail : Nat) : TrapInfo := { code, imp := true, addr := 0, iaddr := e.ia, detail }

/-- A precise trap of the instruction (R70). -/
def trapOf (e : Env) (code detail : Nat) (addr : Word) : TrapInfo := { code, imp := false, addr, iaddr := e.ia, detail }

/-- R131, R132: AND, OR, XOR, ANDN, NOT, TST and the immediate ANDI, ORI, XORI complete with the bitwise result, N and Z
from it, C and V 0; TST writes no register. -/
def LogicResults : Prop :=
  ∀ (s : State) (i : Ins) (l : Nat),
    (∀ o : OpsRRR, Ready Op.and i o.pack l s →
      exec (.and i o) s = .next (after Op.and i o.pack l s
        (fun e c => putResult e o.rd (logicOf (operand e c o.ra &&& operand e c o.rb)) c) past)) ∧
    (∀ o : OpsRRR, Ready Op.or i o.pack l s →
      exec (.or i o) s = .next (after Op.or i o.pack l s
        (fun e c => putResult e o.rd (logicOf (operand e c o.ra ||| operand e c o.rb)) c) past)) ∧
    (∀ o : OpsRRR, Ready Op.xor i o.pack l s →
      exec (.xor i o) s = .next (after Op.xor i o.pack l s
        (fun e c => putResult e o.rd (logicOf (operand e c o.ra ^^^ operand e c o.rb)) c) past)) ∧
    (∀ o : OpsRRR, Ready Op.andn i o.pack l s →
      exec (.andn i o) s = .next (after Op.andn i o.pack l s
        (fun e c => putResult e o.rd (logicOf (operand e c o.ra &&& ~~~ operand e c o.rb)) c) past)) ∧
    (∀ o : OpsRR, Ready Op.not i o.pack l s →
      exec (.not i o) s = .next (after Op.not i o.pack l s
        (fun e c => putResult e o.rd (logicOf (~~~ operand e c o.ra)) c) past)) ∧
    (∀ o : OpsRRR, Ready Op.tst i o.pack l s →
      exec (.tst i o) s = .next (after Op.tst i o.pack l s
        (fun e c => putFlags e (logicOf (operand e c o.ra &&& operand e c o.rb)).2 c) past)) ∧
    (∀ o : OpsRI, Ready Op.andiRI i o.pack l s →
      exec (.andi i (.ri o)) s = .next (after Op.andiRI i o.pack l s
        (fun e c => putResult e o.rd (logicOf (operand e c o.ra &&& immediate e (.ri o))) c) past)) ∧
    (∀ o : OpsRI32, Ready Op.andi32 i o.pack l s →
      exec (.andi i (.ri32 o)) s = .next (after Op.andi32 i o.pack l s
        (fun e c => putResult e o.rd (logicOf (operand e c o.ra &&& immediate e (.ri32 o))) c) past)) ∧
    (∀ o : OpsRI, Ready Op.oriRI i o.pack l s →
      exec (.ori i (.ri o)) s = .next (after Op.oriRI i o.pack l s
        (fun e c => putResult e o.rd (logicOf (operand e c o.ra ||| immediate e (.ri o))) c) past)) ∧
    (∀ o : OpsRI32, Ready Op.ori32 i o.pack l s →
      exec (.ori i (.ri32 o)) s = .next (after Op.ori32 i o.pack l s
        (fun e c => putResult e o.rd (logicOf (operand e c o.ra ||| immediate e (.ri32 o))) c) past)) ∧
    (∀ o : OpsRI, Ready Op.xoriRI i o.pack l s →
      exec (.xori i (.ri o)) s = .next (after Op.xoriRI i o.pack l s
        (fun e c => putResult e o.rd (logicOf (operand e c o.ra ^^^ immediate e (.ri o))) c) past)) ∧
    (∀ o : OpsRI32, Ready Op.xori32 i o.pack l s →
      exec (.xori i (.ri32 o)) s = .next (after Op.xori32 i o.pack l s
        (fun e c => putResult e o.rd (logicOf (operand e c o.ra ^^^ immediate e (.ri32 o))) c) past))

/-- The magnitude of a number as its bits, with R131's flags: C = 0, V = 1 only for the most negative number. -/
def magnitudeOf {w : Nat} (a : BitVec w) : BitVec w × Nat :=
  let r := if a.msb then -a else a
  (r, nzvc false (decide (a.toNat = 2 ^ (w - 1))) r)

/-- `n` is the number of zero bits above the highest 1 bit of `a`, `w` where there is none. -/
def IsLeadingZeros {w : Nat} (a : BitVec w) (n : Nat) : Prop :=
  n ≤ w ∧ (∀ k, w - n ≤ k → k < w → a.getLsbD k = false) ∧ (n < w → a.getLsbD (w - 1 - n) = true)

/-- The number of 1 bits. -/
def onesOf {w : Nat} (a : BitVec w) : Nat := (List.range w).countP (fun k => a.getLsbD k)

/-- The bytes in the opposite order. -/
def IsByteReverse {w : Nat} (a r : BitVec w) : Prop :=
  ∀ k, k < w → r.getLsbD k = a.getLsbD (8 * (w / 8 - 1 - k / 8) + k % 8)

/-- R131: ABS, CLZ, POPC, BSWAP, SXT and ZXT complete with their result and flags; SXT and ZXT extend from bit imm6. -/
def UnaryResults : Prop :=
  ∀ (s : State) (i : Ins) (l : Nat) (o : OpsRR),
    (Ready Op.abs i o.pack l s →
      exec (.abs i o) s = .next (after Op.abs i o.pack l s
        (fun e c => putResult e o.rd (magnitudeOf (operand e c o.ra)) c) past)) ∧
    (Ready Op.clz i o.pack l s → ∃ n,
      IsLeadingZeros (operand (envOf Op.clz i o.pack l s) (found Op.clz i o.pack l s) o.ra) n ∧
      exec (.clz i o) s = .next (after Op.clz i o.pack l s
        (fun e c => putResult e o.rd (logicOf (BitVec.ofNat e.width n)) c) past)) ∧
    (Ready Op.popc i o.pack l s →
      exec (.popc i o) s = .next (after Op.popc i o.pack l s
        (fun e c => putResult e o.rd (logicOf (BitVec.ofNat e.width (onesOf (operand e c o.ra)))) c) past)) ∧
    (Ready Op.bswap i o.pack l s → ∃ r : BitVec (envOf Op.bswap i o.pack l s).width,
      IsByteReverse (operand (envOf Op.bswap i o.pack l s) (found Op.bswap i o.pack l s) o.ra) r ∧
      exec (.bswap i o) s = .next (after Op.bswap i o.pack l s (fun e c => putResult e o.rd (logicOf r) c) past)) ∧
    (Ready Op.sxt i o.pack l s →
      exec (.sxt i o) s = .next (after Op.sxt i o.pack l s
        (fun e c => putResult e o.rd
          (logicOf (((register e c o.ra.toNat).setWidth (o.imm6.toNat + 1)).signExtend 64)) c) past)) ∧
    (Ready Op.zxt i o.pack l s →
      exec (.zxt i o) s = .next (after Op.zxt i o.pack l s
        (fun e c => putResult e o.rd
          (logicOf (((register e c o.ra.toNat).setWidth (o.imm6.toNat + 1)).setWidth 64)) c) past))

/-- The count of a register shift: the low bits of rb (R129, R133). -/
def countOf (e : Env) (c : Core) (n : BitVec 5) : Nat := (register e c n.toNat).toNat % e.width

/-- R133, R90: MUL completes with the low half of the product, C where the unsigned and V where the signed product exceeds the
width; MULH and MULHU issue as long operations that will write the high half of the signed and unsigned product, and no flag. -/
def MultiplyResults : Prop :=
  ∀ (s : State) (i : Ins) (l : Nat) (o : OpsRRR),
    (Ready Op.mul i o.pack l s →
      exec (.mul i o) s = .next (after Op.mul i o.pack l s (fun e c =>
        let a := operand e c o.ra; let b := operand e c o.rb
        putResult e o.rd (a * b, nzvc (decide (2 ^ e.width ≤ a.toNat * b.toNat))
          (decide (a.toInt * b.toInt ≠ (a * b).toInt)) (a * b)) c) past)) ∧
    (Ready Op.mulh i o.pack l s →
      exec (.mulh i o) s = .next (after Op.mulh i o.pack l s (fun e c =>
        let a := (operand e c o.ra).signExtend (2 * e.width); let b := (operand e c o.rb).signExtend (2 * e.width)
        c.issueOp l (longOf e c (writeOf e c o.rd.toNat ((((a * b) >>> e.width).setWidth e.width).setWidth 64)) none none none)) past)) ∧
    (Ready Op.mulhu i o.pack l s →
      exec (.mulhu i o) s = .next (after Op.mulhu i o.pack l s (fun e c =>
        let a := (operand e c o.ra).setWidth (2 * e.width); let b := (operand e c o.rb).setWidth (2 * e.width)
        c.issueOp l (longOf e c (writeOf e c o.rd.toNat ((((a * b) >>> e.width).setWidth e.width).setWidth 64)) none none none)) past))

/-- R134: one step of a division: remainder, quotient, divisor, the sign of the partial remainder. -/
def stepOf (p q d : Word) (neg : Bool) : Word × Word × Bool :=
  let x : BitVec 65 := ((BitVec.ofBool neg ++ p) <<< 1) + (BitVec.ofBool q.msb).setWidth 65
  let t := if neg then x + d.setWidth 65 else x - d.setWidth 65
  (t.setWidth 64, (q <<< 1) + (BitVec.ofBool (!t.msb)).setWidth 64, t.msb)

/-- R135: the correction after the last step, signed or not: remainder, quotient, the flags. -/
def fixOf (sgn : Bool) (p q ra rb : Word) (neg : Bool) : Word × Word × Nat :=
  let p1 := if neg then p + (if sgn && ra.msb then -ra else ra) else p
  let minus := sgn && (ra.msb != rb.msb)
  let q1 := if minus then -q else q
  (if sgn && rb.msb then -p1 else p1, q1,
    nzvc false (sgn && !minus && decide (q = BitVec.intMin 64)) q1)

/-- What a division instruction leaves: its operation in flight, and whose chain the level's DSS now is (R136). -/
def divides (l : Nat) (op : LongOp) (by_ : DssBy) (c : Core) : Core :=
  (c.issueOp l op).modLevel l (fun v => { v with dssBy := by_ })

/-- The state in which a division of another form has left its `n` free values, drawn from the counter. -/
def drawnFrom (s : State) (n lc : Nat) (f : Core → Core) : State := (s.drawn n).modCore lc f

/-- R134, R136, R90: DSTEP issues one step on the pair rd, beginning a chain with a remainder of zero where its imm6 is odd; a step that
does not go on with the chain of the level's DSS on this pair and divisor leaves free values in the pair and DSS. -/
def DivisionStep : Prop :=
  ∀ (s : State) (i : Ins) (l : Nat) (o : OpsRR), Ready Op.dstep i o.pack l s →
    let e := envOf Op.dstep i o.pack l s
    let c := found Op.dstep i o.pack l s
    let d := register e c o.ra.toNat
    let odd := decide (o.imm6.toNat % 2 = 1)
    let by_ := (c.level l).dssBy
    let r := stepOf (if odd then 0 else register e c o.rd.toNat) (register e c (o.rd.toNat + 1)) d (!odd && swDss (c.level l).sw)
    ((odd || by_.steps e.bank o.rd.toNat d.toNat) = true →
      exec (.dstep i o) s = .next (after Op.dstep i o.pack l s (fun e c => divides l
        (longOf e c (writeOf e c o.rd.toNat r.1 ++ writeOf e c (o.rd.toNat + 1) r.2.1) none (some r.2.2) none)
        (if odd then .int e.bank o.rd.toNat d.toNat 1 else by_.next) c) past)) ∧
    ((odd || by_.steps e.bank o.rd.toNat d.toNat) = false →
      let n := (issued Op.dstep i o.pack l s).free
      exec (.dstep i o) s = .next (afterIn Op.dstep i o.pack l s (drawnFrom (issued Op.dstep i o.pack l s) 3 i.core (fun c => divides l
        (longOf e c (writeOf e c o.rd.toNat (Config.freeWord n) ++ writeOf e c (o.rd.toNat + 1) (Config.freeWord (n + 1)))
          none (some (bitOf (Config.freeWord (n + 2)) 0)) none) .none c))))

/-- R135: the divisor of the chain that a correction, signed or not, ends. -/
def divisorOf (sgn : Bool) (ra : Word) : Nat := if sgn then ra.toInt.natAbs else ra.toNat

/-- R135, R136, R90: DSFIX and DSFIXS issue the correction of the chain of the level's DSS with its flags, and DSS 0; a zero divisor
writes nothing and makes DIVIDE_BY_ZERO's exception pending; at the end of a chain of another form the pair and the flags are free. -/
def DivisionEnd : Prop :=
  ∀ (s : State) (i : Ins) (l : Nat) (o : OpsRRR),
    ∀ x ∈ [(Instr.dsfix i o, Op.dsfix, false), (Instr.dsfixs i o, Op.dsfixs, true)], Ready x.2.1 i o.pack l s →
      let e := envOf x.2.1 i o.pack l s
      let c := found x.2.1 i o.pack l s
      let d := register e c o.ra.toNat
      let r := fixOf x.2.2 (register e c o.rd.toNat) (register e c (o.rd.toNat + 1)) d (register e c o.rb.toNat) (swDss (c.level l).sw)
      let ends := (c.level l).dssBy.ends e.bank o.rd.toNat (divisorOf x.2.2 d)
      (d = 0 → exec x.1 s = .next (after x.2.1 i o.pack l s (fun e c => divides l
        (longOf e c [] none (some false) (some (excOf e 0x0C 0))) .none c) past)) ∧
      (d ≠ 0 → ends = true → exec x.1 s = .next (after x.2.1 i o.pack l s (fun e c => divides l
        (longOf e c (writeOf e c o.rd.toNat r.1 ++ writeOf e c (o.rd.toNat + 1) r.2.1) (some r.2.2) (some false) none) .none c) past)) ∧
      (d ≠ 0 → ends = false →
        let n := (issued x.2.1 i o.pack l s).free
        exec x.1 s = .next (afterIn x.2.1 i o.pack l s (drawnFrom (issued x.2.1 i o.pack l s) 3 i.core (fun c => divides l
          (longOf e c (writeOf e c o.rd.toNat (Config.freeWord n) ++ writeOf e c (o.rd.toNat + 1) (Config.freeWord (n + 1)))
            (some (fld (Config.freeWord (n + 2)) 0 4)) (some false) none) .none c))))

/-- R139, R141: the long operation of a decimal instruction with value `v`: the low 31 digits with their sign, Z and N of
them, V where the value needs more; `trap`: whether that makes DECIMAL_OVERFLOW pending. -/
def decimalOp (e : Env) (c : Core) (rd : BitVec 5) (v : Int) (trap : Bool) : LongOp :=
  let low := v.natAbs % 10 ^ 31
  let beyond := decide (10 ^ 31 ≤ v.natAbs)
  longOf e c (writesPair e c rd.toNat (BitVec.ofNat 128 ((if v < 0 then 0xD else 0xC) + 16 * decDigits 31 low)))
    (some ((if beyond then 2 else 0) + (if low = 0 then 4 else 0) + (if v < 0 then 8 else 0))) none
    (if trap && beyond then some (excOf e 0x0B 0) else none)

/-- A valid decimal operand (R139). -/
def validDec (e : Env) (c : Core) (n : BitVec 5) : Prop := decInvalid (pairOf e c n.toNat).toNat = none

/-- The value of a decimal operand (R138). -/
def decimalAt (e : Env) (c : Core) (n : BitVec 5) : Int := decValue (pairOf e c n.toNat).toNat

/-- R139 to R141: on valid operands DVAL, DADD, DSUB, DADDT and DSUBT issue with the value, sum or difference; of them only
DADDT and DSUBT make DECIMAL_OVERFLOW pending. -/
def DecimalResults : Prop :=
  ∀ (s : State) (i : Ins) (l : Nat),
    (∀ o : OpsRR, Ready Op.dval i o.pack l s →
      validDec (envOf Op.dval i o.pack l s) (found Op.dval i o.pack l s) o.ra →
      exec (.dval i o) s = .next (after Op.dval i o.pack l s (fun e c =>
        c.issueOp l (decimalOp e c o.rd (decimalAt e c o.ra) false)) past)) ∧
    (∀ o : OpsRRR,
      (Ready Op.dadd i o.pack l s →
        validDec (envOf Op.dadd i o.pack l s) (found Op.dadd i o.pack l s) o.ra →
        validDec (envOf Op.dadd i o.pack l s) (found Op.dadd i o.pack l s) o.rb →
        exec (.dadd i o) s = .next (after Op.dadd i o.pack l s (fun e c =>
          c.issueOp l (decimalOp e c o.rd (decimalAt e c o.ra + decimalAt e c o.rb) false)) past)) ∧
      (Ready Op.dsub i o.pack l s →
        validDec (envOf Op.dsub i o.pack l s) (found Op.dsub i o.pack l s) o.ra →
        validDec (envOf Op.dsub i o.pack l s) (found Op.dsub i o.pack l s) o.rb →
        exec (.dsub i o) s = .next (after Op.dsub i o.pack l s (fun e c =>
          c.issueOp l (decimalOp e c o.rd (decimalAt e c o.ra - decimalAt e c o.rb) false)) past)) ∧
      (Ready Op.daddt i o.pack l s →
        validDec (envOf Op.daddt i o.pack l s) (found Op.daddt i o.pack l s) o.ra →
        validDec (envOf Op.daddt i o.pack l s) (found Op.daddt i o.pack l s) o.rb →
        exec (.daddt i o) s = .next (after Op.daddt i o.pack l s (fun e c =>
          c.issueOp l (decimalOp e c o.rd (decimalAt e c o.ra + decimalAt e c o.rb) true)) past)) ∧
      (Ready Op.dsubt i o.pack l s →
        validDec (envOf Op.dsubt i o.pack l s) (found Op.dsubt i o.pack l s) o.ra →
        validDec (envOf Op.dsubt i o.pack l s) (found Op.dsubt i o.pack l s) o.rb →
        exec (.dsubt i o) s = .next (after Op.dsubt i o.pack l s (fun e c =>
          c.issueOp l (decimalOp e c o.rd (decimalAt e c o.ra - decimalAt e c o.rb) true)) past)))

/-- R139: `n` is the first invalid nibble of a decimal operand, from nibble 0, its sign, upward. -/
def FirstInvalid (x n : Nat) : Prop :=
  n < 32 ∧ (if n = 0 then nibble x 0 < 10 else 9 < nibble x n ∧ 10 ≤ nibble x 0 ∧ ∀ k, 0 < k → k < n → nibble x k < 10)

/-- R138: the 31 digit nibbles of a number below 10^31 have its value again, and each is a digit. -/
def DecimalDigits : Prop :=
  ∀ (m : Nat), m < 10 ^ 31 → decMag 31 (decDigits 31 m) = m ∧ decDigits 31 m < 16 ^ 31 ∧
    ∀ k, k < 31 → nibble (decDigits 31 m) k < 10

/-- The displacement of a branch: 32 bits sign-extended, or 64 under IMM64 (R105). -/
def displacement (e : Env) (d : BitVec 64) : Word := if e.imm64 then d else (d.setWidth 32).signExtend 64

/-- R142, R156: NOP moves on; BR goes to its own address plus its displacement, BC does where its condition holds and moves on
otherwise, JMP goes to its base register. -/
def BranchResults : Prop :=
  ∀ (s : State) (i : Ins) (l : Nat),
    (Ready Op.nop i 0 l s → exec (.nop i) s = .next (after Op.nop i 0 l s (fun _ c => c) past)) ∧
    (∀ o : OpsJ, Ready Op.br i o.pack l s →
      exec (.br i o) s = .next (afterJump Op.br i o.pack l s (fun _ c => c) (fun e => e.ia + displacement e o.disp))) ∧
    (∀ o : OpsR, Ready Op.jmp i o.pack l s →
      exec (.jmp i o) s = .next (afterJump Op.jmp i o.pack l s (fun _ c => c)
        (fun e => baseOf e (found Op.jmp i o.pack l s) o.ra))) ∧
    (∀ o : OpsJC, Ready Op.bc i o.pack l s →
      let w := ((found Op.bc i o.pack l s).level l).sw
      (condHolds o.cond.toNat (swC w) (swV w) (swZ w) (swN w) = true →
        exec (.bc i o) s = .next (afterJump Op.bc i o.pack l s (fun _ c => c) (fun e => e.ia + displacement e o.disp))) ∧
      (condHolds o.cond.toNat (swC w) (swV w) (swZ w) (swN w) = false →
        exec (.bc i o) s = .next (after Op.bc i o.pack l s (fun _ c => c) past)))

/-- The window position is moved, and register W5 of the new window receives the return address (R78). -/
def enterWindow (e : Env) (c : Core) : Core :=
  c.modLevel e.lvl (fun v => ({ v with sw := swSetWp v.sw ((swWp v.sw + 1) % 10) }).writeR 13 (past e))

/-- R78, R142: outside window handlers CALLW and CALLWR move to the next window, unless it is the guard window, and leave the
return address in its W5; RETW goes to W5 of the window it leaves for the one before, unless that is the guard window. -/
def WindowCalls : Prop :=
  ∀ (s : State) (i : Ins) (l : Nat),
    (∀ o : OpsJ, Ready Op.callw i o.pack l s →
      let v := (found Op.callw i o.pack l s).level l
      v.inWindowHandler = false → (swWp v.sw + 1) % 10 ≠ swWg v.sw →
      exec (.callw i o) s = .next (afterJump Op.callw i o.pack l s enterWindow (fun e => e.ia + displacement e o.disp))) ∧
    (∀ o : OpsR, Ready Op.callwr i o.pack l s →
      let v := (found Op.callwr i o.pack l s).level l
      v.inWindowHandler = false → (swWp v.sw + 1) % 10 ≠ swWg v.sw →
      exec (.callwr i o) s = .next (afterJump Op.callwr i o.pack l s enterWindow
        (fun e => baseOf e (found Op.callwr i o.pack l s) o.ra))) ∧
    (Ready Op.retw i 0 l s →
      let v := (found Op.retw i 0 l s).level l
      v.inWindowHandler = false → (swWp v.sw + 9) % 10 ≠ swWg v.sw →
      exec (.retw i) s = .next (afterJump Op.retw i 0 l s
        (fun e c => c.modLevel e.lvl (fun u => { u with sw := swSetWp u.sw ((swWp u.sw + 9) % 10) })) (fun _ => v.readR 13)))

/-- The operations of the level that write its flags or DSS, or would had they not failed, have completed: its SW is what program order
gives (R128). -/
def settledSw (l : Nat) (c : Core) : Core :=
  c.completeWhere l (fun p => p.flags.isSome || (!p.isFp && p.exc.isSome) || p.dss.isSome)

/-- A trap taken at level `l`, which is not in a trap already (R70): the registers that save, the status, the entry; `ret`: where
RETT resumes; `tsw` and `live`: the status saved and the status before step 4, from that of program order. -/
def trapped (l : Nat) (t : TrapInfo) (ret : Word) (tsw live : Word → Word) (c : Core) : Core :=
  { (settledSw l c).modLevel l (fun v => { v with
      trapPc := ret
      trapSw := tsw v.sw
      trapCause := BitVec.ofNat 64 (t.code + (if t.imp then 2 ^ 8 else 0) + t.detail * 2 ^ 32)
      trapAddr := t.addr
      trapIaddr := t.iaddr
      trapBy := v.dssBy
      sw := swTrap (live v.sw)
      dssBy := .none
      pc := v.vector + BitVec.ofNat 64 (0x40 * t.code)
      run := .active }) with priv := c.priv.emptyLoop, due := true, issuedAt := none, stalls := false, given := [] }

/-- The state after a precise trap of the instruction. -/
def afterTrap (op : OpInfo) (i : Ins) (x l : Nat) (s : State) (t : TrapInfo) (tsw live : Word → Word) : State :=
  acked i s ((issued op i x l s).setCore i.core
    (trapped l t (envOf op i x l s).ia tsw live (found op i x l s)))

/-- The exception that comes before a core goes on at level `l`: none during a switch of the floating-point file (R91, R93). -/
def firstOf (l : Nat) (c : Core) : Option TrapInfo := if c.fpBusy then none else c.deliverable l

/-- The core of a logical core stands before an instruction of level `l` that it must fetch: nothing holds it, no exception comes first, and
the loop buffer does not play it. -/
abbrev Fetches (lc l : Nat) (s : State) : Prop :=
  s.canIssue lc = true ∧ (s.boundary lc).2 = true ∧ (s.boundary lc).1.canIssue lc = true ∧
  ((s.boundary lc).1.core lc).current = some l ∧ (s.boundary lc).1.comesFirst lc l = none ∧
  ((s.boundary lc).1.core lc).priv.plays (((s.boundary lc).1.core lc).level l).pc = false

/-- Everything earlier is visible, and no exception is pending for the level (R91, R214). -/
def Drains (op : OpInfo) (i : Ins) (x l : Nat) (s t : State) : Prop :=
  (issued op i x l s).quiesce i.core = (t, true) ∧ t.comesFirst i.core l = none

/-- The state after an instruction that sets PC and status itself: it has retired, its group is closed, the loop buffer empty. -/
def afterFlow (op : OpInfo) (i : Ins) (x l : Nat) (s : State) (f : Core → Core) (c : Core) : State :=
  acked i s ((issued op i x l s).setCore i.core
    { (f c).retired1 true with priv := c.priv.emptyLoop, issuedAt := none, stalls := false, given := [] })

/-- Level m + 1 is frozen, its status that of program order, and `t` enters level m, where TA is clear, under `code` (R73, R74). -/
def nested (m code : Nat) (t : TrapInfo) (c : Core) : Core :=
  let u := settledSw m ((settledSw (m + 1) c).modLevel (m + 1) (fun v => { v with run := .frozen }))
  u.modLevel m (fun v => { v with
    trapPc := v.pc
    trapSw := v.sw
    trapCause := causeWord t code (v.run == .inactive) (m + 1) (if code = 0x21 then t.code else 0)
    trapAddr := t.addr
    trapIaddr := t.iaddr
    trapBy := v.dssBy
    sw := swTrap v.sw
    dssBy := .none
    pc := v.vector + BitVec.ofNat 64 (0x40 * code)
    run := .active })

/-- A core after a trap: nothing issued, the loop buffer empty, an agreement point due. -/
def afterEntry (c d : Core) : Core :=
  { d with priv := c.priv.emptyLoop, due := true, issuedAt := none, stalls := false, given := [] }

/-- A core whose level 0 is frozen, its status that of program order. -/
def frozenAtZero (c : Core) : Core := (settledSw 0 c).modLevel 0 (fun v => { v with run := .frozen })

/-- A core stops as `c` (R75): its queues go back, the invalidations it has not agreed on are applied, and a C3 fault of the core is
logged: MACHINE_CHECK. -/
def machineStops (s : State) (lc : Nat) (c : Core) : State :=
  let q := (s.posOf lc).getD 63
  let u := (((s.setCore lc c).returnQueues lc).modCore lc (fun d => { d with stopped := true })).applyInvals q
  (u.logFault (u.fault 0x70 q 0x105 3 3 (lc * 2 ^ 8 + 63 * 2 ^ 16))).refreshAbsent

/-- The level's long operations have completed (R63, R91). -/
def serialized (l : Nat) (c : Core) : Core := c.completeWhere l (fun _ => true)

/-- R90, R91, R139: a decimal instruction one of whose operands, ra first, has an invalid nibble issues with DECIMAL_DATA pending, DETAIL
the first one's position, and writes neither pair nor flags; an exception that is pending when its level goes on is taken there,
before the next instruction, once what the level has issued has completed: IMP is set, the operation gone. -/
def DecimalTraps : Prop :=
  (∀ (s : State) (i : Ins) (l n : Nat),
    (∀ o : OpsRR, Ready Op.dval i o.pack l s →
      FirstInvalid (pairOf (envOf Op.dval i o.pack l s) (found Op.dval i o.pack l s) o.ra.toNat).toNat n →
      exec (.dval i o) s = .next (after Op.dval i o.pack l s (fun e c =>
        c.issueOp l (longOf e c [] none none (some (excOf e 0x0A n)))) past)) ∧
    (∀ o : OpsRRR, ∀ x ∈ [(Instr.dadd i o, Op.dadd), (.dsub i o, Op.dsub), (.daddt i o, Op.daddt), (.dsubt i o, Op.dsubt)],
      Ready x.2 i o.pack l s →
      let e := envOf x.2 i o.pack l s
      let c := found x.2 i o.pack l s
      FirstInvalid (pairOf e c o.ra.toNat).toNat n ∨ (validDec e c o.ra ∧ FirstInvalid (pairOf e c o.rb.toNat).toNat n) →
      exec x.1 s = .next (after x.2 i o.pack l s (fun e c =>
        c.issueOp l (longOf e c [] none none (some (excOf e 0x0A n)))) past))) ∧
  (∀ (s : State) (i : Ins) (l : Nat) (t : TrapInfo), s.canIssue i.core = true → (s.boundary i.core).2 = true →
    (bound i s).canIssue i.core = true → ((bound i s).core i.core).current = some l → (bound i s).comesFirst i.core l = some t →
    let c := (bound i s).core i.core
    let d := (serialized l c).modLevel l (fun v => { v with ops := v.ops.drop 1 })
    exec (.nop i) s = .next (acked i s ((bound i s).setCore i.core
      { trapped l { t with imp := true } (c.level l).pc id id d with priv := c.priv.emptyLoop })))

/-- The value that MFS reads of system register `n` of the bank that the operands name (R53, R54, R55). -/
def sysValue (s : State) (e : Env) (c : Core) (n : Nat) : Word :=
  if n = 0x10 then c.arch.lvlCtl
  else if n = 0x11 then s.coreId e.lc
  else (c.level e.bank).sysWord n (c.queue e.bank).length

/-- R53 to R55, R114, R115, R158: MFS and MFT read a system and a translation register into rd, SW after the operations that write
it; MTT, once everything earlier is visible, writes a translation register's fields. -/
def SystemRegisterReads : Prop :=
  ∀ (s : State) (i : Ins) (l : Nat) (o : OpsRR),
    (Ready Op.mfs i o.pack l s →
      let e := envOf Op.mfs i o.pack l s
      let c := found Op.mfs i o.pack l s
      let d := if o.imm6 = 0 then settledSw e.bank c else c
      let u := if o.imm6 = 0 then (issued Op.mfs i o.pack l s).setCore i.core d else issued Op.mfs i o.pack l s
      exec (.mfs i o) s = .next (after Op.mfs i o.pack l s (fun e _ =>
        putReg e o.rd.toNat (sysValue u e d o.imm6.toNat) d) past)) ∧
    (Ready Op.mft i o.pack l s →
      exec (.mft i o) s = .next (after Op.mft i o.pack l s (fun e c =>
        putReg e o.rd.toNat ((c.level e.bank).trnWord o.imm6.toNat) c) past)) ∧
    (Ready Op.mtt i o.pack l s → ∀ t : State, Drains Op.mtt i o.pack l s t →
      let e := envOf Op.mtt i o.pack l s
      let w := register e (t.core i.core) o.rd.toNat
      exec (.mtt i o) s = .next (afterIn Op.mtt i o.pack l s (t.modCore i.core (fun c => c.modLevel e.bank (fun v =>
        match o.imm6.toNat with
        | 0 => { v with iroot := w &&& 0x000FFFFFFFFFF001 }
        | 1 => { v with droot := w &&& 0x000FFFFFFFFFF001 }
        | 2 => { v with asid := w &&& 0xFFFF }
        | _ => v)))))

/-- R122, R158, R214: TLBI, once everything earlier is visible, drops exactly the entries of its scope: of one page, of one
address space, or all, and every entry of the table-entry cache; it changes no other private structure but the loop buffer. -/
def TlbInvalidation : Prop :=
  ∀ (s : State) (i : Ins) (l : Nat) (o : OpsRR) (t : State), Ready Op.tlbi i o.pack l s → Drains Op.tlbi i o.pack l s t →
    let e := envOf Op.tlbi i o.pack l s
    let data := o.imm6.getLsbD 2
    let asid := (register e (t.core i.core) o.rd.toNat).toNat % 2 ^ 16
    let va := (register e (t.core i.core) o.ra.toNat).toNat
    exec (.tlbi i o) s = .next (afterIn Op.tlbi i o.pack l s (t.modCore i.core (fun c => { c with
      priv := { c.priv with ring := [], loop := none, tec := [], tlb := c.priv.tlb.filter (fun n =>
        match o.imm6.toNat % 4 with
        | 0 => !(n.data == data && decide (n.vbase ≤ va) && decide (va < n.vbase + n.size) && (n.gl || n.asid == asid))
        | 1 => !(n.data == data && !n.gl && n.asid == asid)
        | _ => false) } })))

/-- The virtual address of a load or store of either form (R106). -/
def addressOf (e : Env) (c : Core) : MemForm → Nat
  | .ri o => (baseOf e c o.ra + o.imm.signExtend 64).toNat
  | .rri o => (baseOf e c o.ra + (register e c o.rb.toNat <<< o.scale.toNat) + displacement e o.imm).toNat

/-- The opcode of the form. -/
def opOf (ri rri : OpInfo) : MemForm → OpInfo
  | .ri _ => ri
  | .rri _ => rri

/-- The operand block of the form. -/
def blockOf : MemForm → Nat
  | .ri o => o.pack
  | .rri o => o.pack

/-- The register that a load writes or a store reads. -/
def dataReg : MemForm → BitVec 5
  | .ri o => o.rd
  | .rri o => o.rd

/-- A load of `n` bytes is answered with bytes, leaving state `t` (the lines it brought into the private caches). -/
def Loads (op : OpInfo) (i : Ins) (l : Nat) (o : MemForm) (n : Nat) (s t : State) (bs : List Byte) : Prop :=
  Ready op i (blockOf o) l s ∧
  (issued op i (blockOf o) l s).load (envOf op i (blockOf o) l s) .ld
    (addressOf (envOf op i (blockOf o) l s) (found op i (blockOf o) l s) o) n = .bytes t bs

/-- The state after a load that wrote `v` to its register. -/
def loaded (op : OpInfo) (i : Ins) (l : Nat) (o : MemForm) (s t : State) (v : Word) : State :=
  afterIn op i (blockOf o) l s (t.modCore i.core (putReg (envOf op i (blockOf o) l s) (dataReg o).toNat v))

/-- R145: where the bytes can be read, each load completes with its 1, 2, 4 or 8 bytes, zero- or sign-extended, in its register. -/
def LoadResults : Prop :=
  ∀ (s t : State) (i : Ins) (l : Nat) (o : MemForm) (bs : List Byte),
    (Loads (opOf Op.ldbuRI Op.ldbu32 o) i l o 1 s t bs →
      exec (.ldbu i o) s = .next (loaded (opOf Op.ldbuRI Op.ldbu32 o) i l o s t (BitVec.ofNat 64 (bytesToNat bs)))) ∧
    (Loads (opOf Op.ldbsRI Op.ldbs32 o) i l o 1 s t bs →
      exec (.ldbs i o) s = .next (loaded (opOf Op.ldbsRI Op.ldbs32 o) i l o s t ((BitVec.ofNat 8 (bytesToNat bs)).signExtend 64))) ∧
    (Loads (opOf Op.ldhuRI Op.ldhu32 o) i l o 2 s t bs →
      exec (.ldhu i o) s = .next (loaded (opOf Op.ldhuRI Op.ldhu32 o) i l o s t (BitVec.ofNat 64 (bytesToNat bs)))) ∧
    (Loads (opOf Op.ldhsRI Op.ldhs32 o) i l o 2 s t bs →
      exec (.ldhs i o) s = .next (loaded (opOf Op.ldhsRI Op.ldhs32 o) i l o s t ((BitVec.ofNat 16 (bytesToNat bs)).signExtend 64))) ∧
    (Loads (opOf Op.ldwuRI Op.ldwu32 o) i l o 4 s t bs →
      exec (.ldwu i o) s = .next (loaded (opOf Op.ldwuRI Op.ldwu32 o) i l o s t (BitVec.ofNat 64 (bytesToNat bs)))) ∧
    (Loads (opOf Op.ldwsRI Op.ldws32 o) i l o 4 s t bs →
      exec (.ldws i o) s = .next (loaded (opOf Op.ldwsRI Op.ldws32 o) i l o s t ((BitVec.ofNat 32 (bytesToNat bs)).signExtend 64))) ∧
    (∀ seen : List ErrSeen,
      let j : Ins := { i with met := { i.met with data := i.met.data ++ seen } }
      Loads (opOf Op.lddRI Op.ldd32 o) j l o 8 s t bs →
      exec (.ldd i o seen) s = .next (loaded (opOf Op.lddRI Op.ldd32 o) j l o s t (BitVec.ofNat 64 (bytesToNat bs))))

/-- R145, R116: where translation is off and the level is supervisor, an access of up to 16 bytes goes to the physical bytes at
its address, and a load of a line that is here and not poisoned, none of whose bytes waits in the store buffer, for which
no answer that a checked pair has agreed on stands, and that meets no error, reads the bytes of memory. -/
def UntranslatedLoad : Prop :=
  ∀ (s t : State) (e : Env) (va n : Nat) (bs : List Byte),
    0 < n → n ≤ 16 → va + n ≤ romGranule → e.sup = true →
    bitOf ((s.core e.lc).level e.lvl).droot 0 = false →
    va % 2 ^ 30 + n ≤ 2 ^ 30 → e.met.data = [] → (s.core e.lc).given = [] →
    sbOverlap (s.core e.lc).sb (pieceAddrs [(va, n)]) = none →
    s.load e .ld va n = .bytes t bs →
    bs = (List.range n).map (fun k => s.byteAt (va + k)) ∧ ∀ a, t.byteAt a = s.byteAt a

/-- A store of bytes is accepted, leaving state `t` (the entries it put in the store buffer, R212). -/
def Stores (op : OpInfo) (i : Ins) (l : Nat) (o : MemForm) (s t : State) (bs : List Byte) : Prop :=
  Ready op i (blockOf o) l s ∧
  (issued op i (blockOf o) l s).store (envOf op i (blockOf o) l s) false
    (addressOf (envOf op i (blockOf o) l s) (found op i (blockOf o) l s) o) bs = .done t

/-- The low bytes of the stored register. -/
def lowBytes (op : OpInfo) (i : Ins) (l : Nat) (o : MemForm) (s : State) (n : Nat) : List Byte :=
  (List.range n).map (fun k => ((register (envOf op i (blockOf o) l s) (found op i (blockOf o) l s) (dataReg o).toNat) >>> (8 * k)).setWidth 8)

/-- R145, R212: where the store is accepted, each store completes with the low 1, 2, 4 or 8 bytes of its register. -/
def StoreResults : Prop :=
  ∀ (s t : State) (i : Ins) (l : Nat) (o : MemForm),
    (Stores (opOf Op.stbRI Op.stb32 o) i l o s t (lowBytes (opOf Op.stbRI Op.stb32 o) i l o s 1) →
      exec (.stb i o) s = .next (afterIn (opOf Op.stbRI Op.stb32 o) i (blockOf o) l s t)) ∧
    (Stores (opOf Op.sthRI Op.sth32 o) i l o s t (lowBytes (opOf Op.sthRI Op.sth32 o) i l o s 2) →
      exec (.sth i o) s = .next (afterIn (opOf Op.sthRI Op.sth32 o) i (blockOf o) l s t)) ∧
    (Stores (opOf Op.stwRI Op.stw32 o) i l o s t (lowBytes (opOf Op.stwRI Op.stw32 o) i l o s 4) →
      exec (.stw i o) s = .next (afterIn (opOf Op.stwRI Op.stw32 o) i (blockOf o) l s t)) ∧
    (Stores (opOf Op.stdRI Op.std32 o) i l o s t (lowBytes (opOf Op.stdRI Op.std32 o) i l o s 8) →
      exec (.std i o) s = .next (afterIn (opOf Op.stdRI Op.std32 o) i (blockOf o) l s t))

/-- R116, R212: where translation is off, the level is supervisor, no exception comes first, and the store touches neither the
loop buffer's body nor an instruction line of the side buffer, a store of up to 8 bytes within one granule joins the store buffer,
where that and the stagger FIFO have room, as one entry with its physical address and bytes, covered by no checkpoint yet; no byte
of memory changes before the entry drains. -/
def UntranslatedStore : Prop :=
  ∀ (s : State) (e : Env) (va : Nat) (bs : List Byte),
    0 < bs.length → bs.length ≤ 8 → va < 2 ^ 52 → va % 2 ^ 30 + bs.length ≤ 2 ^ 30 → e.sup = true →
    bitOf ((s.core e.lc).level e.lvl).droot 0 = false → (s.core e.lc).sb.length ≤ 63 →
    (s.core e.lc).priv.loop = none → (s.core e.lc).priv.side = [] → s.fifoRoom e.lc 1 = true → s.comesFirst e.lc e.lvl = none →
    ∃ t, s.store e false va bs = .done t ∧
      (t.core e.lc).sb = (s.core e.lc).sb ++ [⟨va, bs, e.nt, (s.core e.lc).count, false, false⟩] ∧
      (t.core e.lc).arch = (s.core e.lc).arch ∧ t.mem = s.mem ∧ t.io = s.io ∧ t.flt = s.flt ∧
      ∀ k, k ≠ e.lc → t.core k = s.core k

/-- R156, R202, R214, R154, R155: once everything earlier is visible, MBAR moves on; ISYNC discards what was fetched; OUT joins
what the core holds until its group commits, as a token at the comparator; IN, once its token is compared, waits for the value of
its I/O address; IST, once its tokens are compared and its lines can be written, stores to instruction space, and is a group of
its own. -/
def DrainedInstructions : Prop :=
  ∀ (s t : State) (i : Ins) (l : Nat),
    (Ready Op.mbar i 0 l s → Drains Op.mbar i 0 l s t →
      exec (.mbar i) s = .next (afterIn Op.mbar i 0 l s t)) ∧
    (Ready Op.isync i 0 l s → Drains Op.isync i 0 l s t →
      exec (.isync i) s = .next (afterIn Op.isync i 0 l s (t.modCore i.core (fun c => { c with
        priv := { c.priv with ring := [], loop := none, side := c.priv.side.filter (fun x => !x.2) } })))) ∧
    (∀ o : OpsRI, Ready Op.out i o.pack l s → Drains Op.out i o.pack l s t →
      let e := envOf Op.out i o.pack l s
      let a := (baseOf e (t.core i.core) o.ra + o.imm.signExtend 64).toNat % 2 ^ 32
      let v := register e (t.core i.core) o.rd.toNat
      exec (.outp i o) s = .next (afterIn Op.out i o.pack l s
        ((t.modCore i.core (fun c => { c with acts := c.acts ++ [(c.count, .out a v i.met.chks)] })).pushToken i.core (.out a v)))) ∧
    (∀ (o : OpsRI) (u : State), Ready Op.inp i o.pack l s → Drains Op.inp i o.pack l s t →
      let e := envOf Op.inp i o.pack l s
      let a := (baseOf e (t.core i.core) o.ra + o.imm.signExtend 64).toNat % 2 ^ 32
      t.answered e = false → t.compared i.core [] (.inp a) = (u, true) →
      let v := u.modCore i.core (fun c => { c with
        waitIo := some { lvl := l, bank := e.bank, rd := o.rd.toNat, len := e.len, addr := a, cas := none }
        priv := c.priv.emptyLoop })
      exec (.inp i o) s = .next (acked i s ((v.ioAccess (v.coreMaster i.core) a none (.core i.core)).modCore i.core
        (fun c => { c with issuedAt := none, stalls := false, given := [] })))) ∧
    (∀ (o : OpsRI) (t1 t2 t3 : State) (ps : List (Nat × Nat)), Ready Op.ist i o.pack l s → Drains Op.ist i o.pack l s t →
      let e := envOf Op.ist i o.pack l s
      let n := if e.w32 then 4 else 8
      let bs := (wordBytes (register e (t.core i.core) o.rd.toNat)).take n
      let ts := (pieceBytes ps bs).map (fun p => TokenBody.store p.1 p.2)
      t.pieces e .ist (baseOf e (t.core i.core) o.ra + o.imm.signExtend 64).toNat n = .ok t1 ps →
      t1.compared i.core ts.dropLast (ts.getLastD (.store 0 [])) = (t2, true) →
      ((pieceLines ps).foldl State.mcAccess t2).readyWrite (.core i.core) false (pieceLines ps) = (t3, true) →
      let u := (pieceBytes ps bs).foldl (fun s p => s.storeBytes (.core i.core) p.1 p.2) t3
      exec (.ist i o) s = .next ((afterIn Op.ist i o.pack l s
        ((u.storeCheck e (pieceLines ps)).dropFetched i.core)).groupEnd i.core))

/-- R151: ILD completes with 4 bytes under W32, else 8, of instruction space, zero-extended. -/
def InstructionLoad : Prop :=
  ∀ (s t : State) (i : Ins) (l : Nat) (o : OpsRI) (bs : List Byte), Ready Op.ild i o.pack l s →
    let e := envOf Op.ild i o.pack l s
    (issued Op.ild i o.pack l s).load e .ild (baseOf e (found Op.ild i o.pack l s) o.ra + o.imm.signExtend 64).toNat
      (if e.w32 then 4 else 8) = .bytes t bs →
    exec (.ild i o) s = .next (afterIn Op.ild i o.pack l s
      (t.modCore i.core (putReg e o.rd.toNat (BitVec.ofNat 64 (bytesToNat bs)))))

/-- R149: a hint whose enable is off moves on and does nothing else; PREFD, PREFW and PREFI with the enable set that translate bring
their line into the side buffer, PREFW asking for ownership, and move on. -/
def Hints : Prop :=
  ∀ (s : State) (i : Ins) (l : Nat) (o : OpsR),
    (∀ (c : Instr) (op : OpInfo), (c, op) ∈ [(Instr.prefd i o, Op.prefd), (Instr.prefw i o, Op.prefw), (Instr.prefi i o, Op.prefi)] →
      Ready op i o.pack l s → (issued op i o.pack l s).fbit F.CORE_PREF_CTL_HINT_EN ((issued op i o.pack l s).windowOf i.core) 0 = false →
      exec c s = .next (after op i o.pack l s (fun _ c => c) past)) ∧
    (∀ (t : State) (pa left : Nat), Ready Op.prefd i o.pack l s →
      (issued Op.prefd i o.pack l s).fbit F.CORE_PREF_CTL_HINT_EN ((issued Op.prefd i o.pack l s).windowOf i.core) 0 = true →
      let e := envOf Op.prefd i o.pack l s
      (issued Op.prefd i o.pack l s).onePage e .prefd (baseOf e (found Op.prefd i o.pack l s) o.ra).toNat = (t, .ok pa left) →
      exec (.prefd i o) s = .next (afterIn Op.prefd i o.pack l s (t.prefetchLine i.core (lineOf pa) false))) ∧
    (∀ (t : State) (pa left : Nat), Ready Op.prefw i o.pack l s →
      (issued Op.prefw i o.pack l s).fbit F.CORE_PREF_CTL_HINT_EN ((issued Op.prefw i o.pack l s).windowOf i.core) 0 = true →
      let e := envOf Op.prefw i o.pack l s
      (issued Op.prefw i o.pack l s).onePage e .prefw (baseOf e (found Op.prefw i o.pack l s) o.ra).toNat = (t, .ok pa left) →
      exec (.prefw i o) s = .next (afterIn Op.prefw i o.pack l s (t.prefetchOwned i.core (lineOf pa)))) ∧
    (∀ (t : State) (pa left : Nat), Ready Op.prefi i o.pack l s →
      (issued Op.prefi i o.pack l s).fbit F.CORE_PREF_CTL_HINT_EN ((issued Op.prefi i o.pack l s).windowOf i.core) 0 = true →
      let e := envOf Op.prefi i o.pack l s
      (issued Op.prefi i o.pack l s).onePage e .prefi (baseOf e (found Op.prefi i o.pack l s) o.ra).toNat = (t, .ok pa left) →
      exec (.prefi i o) s = .next (afterIn Op.prefi i o.pack l s (t.prefetchLine i.core (lineOf pa) true)))

/-- R150: CINV and CFLUSH of zero bytes write 0; else they act on the lines of the range within the page of its first byte, and
rd receives the bytes covered and the lines skipped as resident. -/
def LineOperations : Prop :=
  ∀ (s : State) (i : Ins) (l : Nat) (o : OpsRRR),
    (Ready Op.cinv i o.pack l s → register (envOf Op.cinv i o.pack l s) (found Op.cinv i o.pack l s) o.rb.toNat = 0 →
      exec (.cinv i o) s = .next (after Op.cinv i o.pack l s (fun e c => putReg e o.rd.toNat 0 c) past)) ∧
    (Ready Op.cflush i o.pack l s → register (envOf Op.cflush i o.pack l s) (found Op.cflush i o.pack l s) o.rb.toNat = 0 →
      exec (.cflush i o) s = .next (after Op.cflush i o.pack l s (fun e c => putReg e o.rd.toNat 0 c) past)) ∧
    (∀ (t u : State) (pa left n : Nat), Ready Op.cinv i o.pack l s →
      let e := envOf Op.cinv i o.pack l s
      let len := (register e (found Op.cinv i o.pack l s) o.rb.toNat).toNat
      len ≠ 0 →
      (issued Op.cinv i o.pack l s).onePage e .cinv (baseOf e (found Op.cinv i o.pack l s) o.ra).toNat = (t, .ok pa left) →
      (t.core i.core).sb = [] → t.comesFirst i.core l = none →
      State.lineOps .inval (linesOf pa (min len left)) 0 t = (u, some n) →
      exec (.cinv i o) s = .next (afterIn Op.cinv i o.pack l s
        (u.modCore i.core (putReg e o.rd.toNat (BitVec.ofNat 64 (min len left + n * 2 ^ 32)))))) ∧
    (∀ (t u : State) (pa left n : Nat), Ready Op.cflush i o.pack l s →
      let e := envOf Op.cflush i o.pack l s
      let len := (register e (found Op.cflush i o.pack l s) o.rb.toNat).toNat
      len ≠ 0 →
      (issued Op.cflush i o.pack l s).onePage e .cflush (baseOf e (found Op.cflush i o.pack l s) o.ra).toNat = (t, .ok pa left) →
      (t.core i.core).sb = [] → t.comesFirst i.core l = none →
      State.lineOps .flush (linesOf pa (min len left)) 0 t = (u, some n) →
      exec (.cflush i o) s = .next (afterIn Op.cflush i o.pack l s
        (u.modCore i.core (putReg e o.rd.toNat (BitVec.ofNat 64 (min len left + n * 2 ^ 32))))))

/-- The registers that a value of a format fills (R160), written to the file. -/
def putFp (fmt n bits : Nat) (c : Core) : Core :=
  if fmt = 0 then c.writeDst (.f n) (BitVec.ofNat 64 (bits % 2 ^ 32))
  else if fmt = 1 then c.writeDst (.f n) (BitVec.ofNat 64 bits)
  else (c.writeDst (.f n) (BitVec.ofNat 64 bits)).writeDst (.f (n + 1)) (BitVec.ofNat 64 (bits / 2 ^ 64))

/-- A floating-point operation issues with its writes, flags, DSS, FCW flags and exception (R90). -/
def issueFpWith (e : Env) (c : Core) (writes : List (Dst × Word)) (flags : Option Nat) (dss : Option Bool) (fl : Nat)
    (exc : Option TrapInfo) : Core :=
  let op : LongOp := { iaddr := e.ia, idx := c.count, writes, flags, dss, fpFlags := fl, isFp := true, exc, done := false }
  { c.issueOp e.lvl op with fcwIss := c.fcwIss ||| BitVec.ofNat 64 fl }

/-- R90, R92, R170: a floating-point operation issues: FP_EXCEPTION will be pending, with the flags as DETAIL, if it sets a flag that
was clear and is enabled. -/
def issueFpOp (e : Env) (c : Core) (writes : List (Dst × Word)) (flags : Option Nat) (dss : Option Bool) (fl : Nat) : Core :=
  let newly := Nat.land fl (31 - fld c.fcwIss 0 5)
  issueFpWith e c writes flags dss fl
    (if Nat.land newly (swEnables (c.level e.lvl).sw) = 0 then none else some (excOf e 0x09 newly))

/-- A result of a format in register `n`, with the flags it sets. -/
def issueResult (e : Env) (c : Core) (fmt : Nat) (n : BitVec 5) (r : FRes) : Core :=
  issueFpOp e c (fpWrites fmt n.toNat r.bits) none none r.flags

/-- FCW.RM, as the operations issued leave it (R164). -/
def roundingOf (c : Core) : Nat := fld c.fcwIss 8 3

/-- The rounding mode of a selector: 7 is FCW.RM (R165). -/
def selectedOf (c : Core) (imm6 : BitVec 6) : Nat :=
  if imm6.toNat / 4 % 8 = 7 then roundingOf c else imm6.toNat / 4 % 8

/-- The level's DSS now belongs to a chain, or to none (R177). -/
def chained (e : Env) (by_ : DssBy) (c : Core) : Core := c.modLevel e.lvl (fun v => { v with dssBy := by_ })

/-- A group of four registers holds a chain (with DSS 0), or a result that needs no steps (with DSS 1): R178 to R180. -/
def startGroup (e : Env) (c : Core) (fmt : Nat) (n : BitVec 5) : FdStart → Core
  | .chain g => chained e (.flt n.toNat) (issueFpOp e c (fdWrites n.toNat g.encode) none (some false) 0)
  | .result r => chained e (.flt n.toNat) (issueFpOp e c (fdWrites n.toNat (fdResultBits fmt r.bits)) none (some true) r.flags)

/-- The number that the group of four registers from `n` on holds. -/
def groupOf (c : Core) (n : Nat) : Nat :=
  Nat.xor ((c.readF n).toNat + (c.readF (n + 1)).toNat * 2 ^ 64 + (c.readF (n + 2)).toNat * 2 ^ 128 + (c.readF (n + 3)).toNat * 2 ^ 192)
    Config.fdMask.toNat

/-- The number that an operand or a result of a format is, if it is finite (R160, R161). -/
def valueOf (f : Fmt) (x : Nat) : Option ℚ :=
  match fUnpack f x with
  | .fin s m e => some ((if s then -1 else 1) * (m : ℚ) * (2 : ℚ) ^ e)
  | _ => none

/-- A number with at most p significant bits; `low`: and an exponent not below the format's (R166). -/
def OfPrecision (f : Fmt) (low : Bool) (z : ℚ) : Prop :=
  ∃ (m : Nat) (e : Int), m < 2 ^ f.p ∧ (low = true → f.eMin - ((f.p : Int) - 1) ≤ e) ∧ |z| = (m : ℚ) * (2 : ℚ) ^ e

/-- Such a number with an even least significant bit, at its full precision where the exponent lets it have that. -/
def EvenOf (f : Fmt) (low : Bool) (z : ℚ) : Prop :=
  ∃ (m : Nat) (e : Int), m < 2 ^ f.p ∧ m % 2 = 0 ∧ (low = true → f.eMin - ((f.p : Int) - 1) ≤ e) ∧ |z| = (m : ℚ) * (2 : ℚ) ^ e ∧
    (2 ^ (f.p - 1) ≤ m ∨ (low = true ∧ e = f.eMin - ((f.p : Int) - 1)))

/-- R164: `z` is the number of a set that `v` rounds to under a mode; `even`: those of the set that ties go to under RNE. -/
def RoundsTo (among even : ℚ → Prop) (rm : Nat) (v z : ℚ) : Prop :=
  among z ∧ match rm with
    | 0 => (∀ y, among y → |v - z| ≤ |v - y|) ∧ ∀ y, among y → y ≠ z → |v - y| = |v - z| → even z
    | 1 => |z| ≤ |v| ∧ 0 ≤ z * v ∧ ∀ y, among y → |y| ≤ |v| → |y| ≤ |z|
    | 2 => v ≤ z ∧ ∀ y, among y → v ≤ y → z ≤ y
    | 3 => z ≤ v ∧ ∀ y, among y → y ≤ v → y ≤ z
    | _ => (∀ y, among y → |v - z| ≤ |v - y|) ∧ ∀ y, among y → y ≠ z → |v - y| = |v - z| → |y| < |z|

/-- The largest finite value M of a format. -/
def largest (f : Fmt) : ℚ := ((2 ^ f.p - 1 : Nat) : ℚ) * (2 : ℚ) ^ (f.eMax - ((f.p : Int) - 1))

/-- R164, R166, R167: `r` is the exact result `v` rounded once: zero for zero, with no flag; else the number of the format that `v` rounds
to, IX where they differ, and UF where `v`, rounded to p bits with an unbounded exponent, is also below the least normal number;
where that is above M, OF and IX and what the table of R167 delivers. -/
def RoundedOnce (f : Fmt) (rm : Nat) (v : ℚ) (r : FRes) : Prop :=
  (v = 0 → valueOf f r.bits = some 0 ∧ r.flags = 0) ∧
  (v ≠ 0 → ∃ z u : ℚ, RoundsTo (OfPrecision f true) (EvenOf f true) rm v z ∧ RoundsTo (OfPrecision f false) (EvenOf f false) rm v u ∧
    fSign f r.bits = decide (v < 0) ∧
    (|u| ≤ largest f → valueOf f r.bits = some z ∧
      (z = v → r.flags = 0) ∧ (z ≠ v → |u| < (2 : ℚ) ^ f.eMin → r.flags = 3) ∧ (z ≠ v → (2 : ℚ) ^ f.eMin ≤ |u| → r.flags = 1)) ∧
    (largest f < |u| → r.flags = 5 ∧
      (rm = 1 ∨ (rm = 2 ∧ v < 0) ∨ (rm = 3 ∧ 0 < v) → valueOf f r.bits = some (if v < 0 then -largest f else largest f)) ∧
      (¬ (rm = 1 ∨ (rm = 2 ∧ v < 0) ∨ (rm = 3 ∧ 0 < v)) → fUnpack f r.bits = .inf (decide (v < 0)))))

/-- The integers, and the even ones. -/
def IsInteger (z : ℚ) : Prop := ∃ k : Int, z = k
def IsEven (z : ℚ) : Prop := ∃ k : Int, z = 2 * k

/-- R164 to R167, R186, R187, R190: on finite operands the sum, difference, product and conversions are the exact result rounded once; a value
rounded to an integral one, or converted to an integer that can hold it, is the integer it rounds to. -/
def RoundingIsExact : Prop :=
  ∀ (fmt src rm a b : Nat) (x y : ℚ), fmt < 3 → src < 3 → rm ≤ 4 →
    let f := fmtOf fmt
    (valueOf f a = some x → valueOf f b = some y →
      RoundedOnce f rm (x + y) (fAdd f rm a b) ∧ RoundedOnce f rm (x - y) (fSub f rm a b) ∧
      RoundedOnce f rm (x * y) (fMul f rm a b)) ∧
    (valueOf (fmtOf src) a = some x → RoundedOnce f rm x (fConvert (fmtOf src) f rm a)) ∧
    (a < 2 ^ 64 → RoundedOnce f rm (a : ℚ) (fFromInt f true rm a) ∧
      RoundedOnce f rm ((BitVec.ofNat 64 a).toInt : ℚ) (fFromInt f false rm a)) ∧
    (valueOf f a = some x → ∃ z : Int, RoundsTo IsInteger IsEven rm x z ∧
      valueOf f (fRint f rm a).bits = some (z : ℚ) ∧ (fRint f rm a).flags = 0 ∧
      (0 ≤ z → z < 2 ^ 64 → (fToInt f true rm a).bits = z.toNat ∧ (fToInt f true rm a).flags = (if (z : ℚ) = x then 0 else 1)) ∧
      (-(2 ^ 63) ≤ z → z < 2 ^ 63 → (fToInt f false rm a).bits = (BitVec.ofInt 64 z).toNat ∧
        (fToInt f false rm a).flags = (if (z : ℚ) = x then 0 else 1)))

/-- A floating-point load or store of a form. -/
def fpLoaded (op : OpInfo) (i : Ins) (l : Nat) (o : MemForm) (s t : State) (ws : List (Nat × Word)) : State :=
  afterIn op i (blockOf o) l s (t.modCore i.core (fun c => ws.foldl (fun c w => c.writeDst (.f w.1) w.2) c))

/-- The low bytes of the stored floating-point registers. -/
def fpBytes (op : OpInfo) (i : Ins) (l : Nat) (o : MemForm) (s : State) (n : Nat) : List Byte :=
  let c := found op i (blockOf o) l s
  (wordBytes (c.readF (dataReg o).toNat) ++ wordBytes (c.readF ((dataReg o).toNat + 1))).take n

/-- A command at the front of the queue acts on the state with the queue's rest. -/
def StepRunsFront : Prop :=
  ∀ (s : State) (c : Instr) (rest : List Instr), s.pending = c :: rest → step s = exec c { s with pending := rest }

/-- The model's choice (log entry 2): with no command waiting a nanosecond passes, and the queue stays empty. -/
def IdleStep : Prop :=
  ∀ (s : State), s.pending = [] → step s = .next s.tick ∧ s.tick.now = s.now + 1 ∧ s.tick.pending = [] ∧
    (s.down = true → s.tick = { s with now := s.now + 1 })

/-- What every step keeps: memory and flash in canonical form, and a device number of 5 bits. -/
def Invariant (s : State) : Prop := MemInv s ∧ s.devnum < 32

/-- R77: a bank's windowed registers are ten positions of ten, modulo 100: W i of the window at position p is register 10 p + i;
so W10 to W15 are the first six of the next position, and a value written as W10 + k is read as W k of the next window. -/
def WindowOverlap : Prop :=
  ∀ (v : Level) (p : Nat), p < 10 →
    let at_ : Nat → Level := fun p => { v with sw := swSetWp v.sw p }
    (∀ i, i < 16 → (at_ p).readR (8 + i) = mapGet 0 v.w ((10 * p + i) % 100)) ∧
    (∀ k, k < 6 → (at_ p).readR (8 + (10 + k)) = (at_ ((p + 1) % 10)).readR (8 + k)) ∧
    ∀ (k : Nat) (x : Word), k < 6 →
      ({ ((at_ p).writeR (8 + (10 + k)) x) with sw := swSetWp v.sw ((p + 1) % 10) } : Level).readR (8 + k) = x

/-- R88, R104, R132: a register reads what was last written to it, a write changes no other register of the window, and G0 reads
zero whatever is written to it, which changes nothing (the model's reading for the uses that the rules do not name, log entry 6). -/
def RegisterFile : Prop :=
  ∀ (v : Level) (n m : Nat) (x : Word), n < 24 → m < 24 →
    (v.writeR n x).readR m = (if m = 0 then 0 else if m = n then x else v.readR m) ∧
    v.writeR 0 x = v

/-- The block of a register's unit (R42). -/
def blockOfReg (r : RegName) (u : Nat) : Nat := if (regPlace r).blk = 0x70 then 0x70 else (regPlace r).blk + u

/-- The offset of a register in its block; in block 0x70 the units are the windows of the cores (R44). -/
def offsetOfReg (r : RegName) (u k : Nat) : Nat :=
  (if (regPlace r).blk = 0x70 then u * 0x1000 else 0) + (regPlace r).off + 8 * k

/-- A register that an access of a master can reach: I/O space is for that master, the register exists, the island runs, its block
has power and is not in reset (R35, R45, R46, R534). -/
abbrev Hears (s : State) (who : Master) (r : RegName) (u k : Nat) : Prop :=
  who.kind.reachesIo = true ∧ s.down = false ∧ s.devnum < 32 ∧ u < (regPlace r).units ∧ k < (regPlace r).count ∧
  s.powered (blockOfReg r u) (offsetOfReg r u k) = true ∧ s.inReset (blockOfReg r u) = false

/-- The registers that a write does more to than R11 says of their fields. -/
def ownRule : List RegName :=
  [.CUE_MAP, .CUE_RAISE, .CORE_PAIR_CTL, .PCS_RNG_CMD, .PCS_COMMIT, .PWR_COMMIT, .TRS_COMMIT, .XCH_COMMIT, .INST_COMMIT,
   .TRS_DOORBELL, .TRS_SVC_DOORBELL, .XCH_RQ_DOORBELL, .XCH_CQ_HEAD, .XCH_REPLAY, .INST_OP, .INST_BYTE_RATE, .INST_EXCH_RATE,
   .INST_CMD, .SHB_CTL, .TOD_SET, .PCIE_PERST, .FLT_CTL, .FLT_RESET, .FLT_PEND, .FLT_CORE_PEND, .FBS_STATUS, .FBS_KICK] ++
  [.PWR_STATE_REQ, .PWR_DOM_CTL, .CFG_CTL, .CFG_NVM_CMD, .SEC_SVN_ADVANCE, .SEC_REKEY, .SEC_ATT_CMD]

/-- A register whose fields are all of class L, with no rule of its own. -/
def plainReg (r : RegName) : Bool := !ownRule.contains r && (regFields r).all (fun f => f.cls == .live)

/-- A register of class S or G fields. -/
def waitsForForce (f : Field) : Bool := f.cls == .staged || f.cls == .grouped

/-- A write of a register by its fields' classes: class L fields act (R11), class S and G fields are staged or held, and the register's
commit group has been written (R18, R22, R25). -/
def writtenOf (s : State) (r : RegName) (u k : Nat) (v : Word) : State :=
  let t := s.setActing r u k (liveWrite r (s.acting r u k) v)
  if (regFields r).any waitsForForce then
    { t with io := { t.io with
        held := mapSet t.io.held (regKey r u k) (heldWrite r (s.heldWord r u k) v)
        dirty := match regGroup r k with
          | some g => if t.io.dirty.contains g then t.io.dirty else g :: t.io.dirty
          | none => t.io.dirty } }
  else t

/-- An access to an address of this device that its block refuses: a read and a write log a fault of a kind with the address and do
nothing else, and the value read is zero. -/
def RefusedAs (s : State) (who : Master) (addr kind : Nat) : Prop :=
  let t := s.ioFault kind (addr / 2 ^ 20 % 128) addr
  exec (.rcRead who addr) s = .next t ∧ (∀ v : Word, exec (.registerWrite who addr ⟨v, []⟩) s = .next t) ∧
  s.ioAccess who addr none .bmp = { t with bmp := { t.bmp with status := 0, value := 0 } }

/-- R6, R7, R20, R43, R45, R46: the accesses that no register takes, and those of in-force views. One to a reserved block, to a block
without power, or to an offset at which the block has no register, is refused with a class C1 fault; one to a device outside the
image is, by the issuer; one to a block in reset is held. A read of an in-force view changes nothing and answers the values in
force; a write of one is refused. -/
def AccessesTurnedAway : Prop :=
  ∀ (s : State) (who : Master) (addr : Nat), who.kind.reachesIo = true → s.down = false → addr < 2 ^ 32 →
    let blk := addr / 2 ^ 20 % 128
    let off := addr % 2 ^ 20
    (addr / 2 ^ 27 = s.devnum →
      (blockKnown blk = false → RefusedAs s who addr 0x003) ∧
      (blockKnown blk = true → s.powered blk off = false → RefusedAs s who addr 0x004) ∧
      (blockKnown blk = true → s.powered blk off = true → s.inReset blk = false → off < 0x80000 → findReg blk off = none →
        RefusedAs s who addr 0x002) ∧
      (blockKnown blk = true → s.powered blk off = true → s.inReset blk = true →
        exec (.rcRead who addr) s = .next { s with flt := { s.flt with held := s.flt.held ++ [⟨who, addr, none, .none⟩] } } ∧
        ∀ v : Word, exec (.registerWrite who addr ⟨v, []⟩) s =
          .next { s with flt := { s.flt with held := s.flt.held ++ [⟨who, addr, some v, .none⟩] } })) ∧
    (addr / 2 ^ 27 ≠ s.devnum → who.dev = s.devnum → s.isMember (addr / 2 ^ 27) = false →
      exec (.rcRead who addr) s = .next (s.issuerFault who addr) ∧
      ∀ v : Word, exec (.registerWrite who addr ⟨v, []⟩) s = .next (s.issuerFault who addr)) ∧
    (∀ (r : RegName) (u k : Nat), Hears s who r u k → (r = .CORE_IMAGE → k % 16 ≠ 0xA ∧ k % 16 ≠ 0xB ∧ k % 16 ≠ 0xF) →
      (regsOfBlock (blockOfReg r u)).any (fun x => (regFields x).any waitsForForce) = true → r ≠ .XCH_ENT_DATA →
      addr = s.regAddr r u k + 0x80000 →
      exec (.rcRead who addr) s = .next s ∧
      s.ioAccess who addr none .bmp = { s with bmp := { s.bmp with status := 0, value := s.viewWord r u k } } ∧
      ∀ v : Word, exec (.registerWrite who addr ⟨v, []⟩) s = .next (s.ioFault 0x006 (blockOfReg r u) addr))

/-- The state with a group captured: the values held of its registers wait after the commits before them, its mark gone (R23 to R25). -/
def captured (s : State) (blk g : Nat) : State :=
  { s with io := { s.io with
      captured := s.io.captured ++ [⟨blk, g, (groupRegs blk g).map (fun p => s.heldWord p.1 0 p.2)⟩]
      dirty := s.io.dirty.filter (fun x => x != (blk, g)) } }

/-- What the waiting commits of a group do at its safe point, found from state `u`: where the block refuses none, the last one's values
take force and the block does `act`; where it refuses the only one, that is reported and has no effect (R23, R24, R535). -/
def CommitActs (s u : State) (blk g : Nat) (cs : List Commit) (c : Commit) (act : State → State) : Prop :=
  let t : State := { u with io := { u.io with captured := u.io.captured.filter (fun d => !(d.blk == blk && d.group == g)) } }
  ((∀ d ∈ cs ++ [c], u.groupBad blk g d.words = false) →
    exec (.safePointReached blk true g) s = .next ((act (t.takeGroup blk g c.words)).settle)) ∧
  (cs = [] → u.groupBad blk g c.words = true →
    exec (.safePointReached blk true g) s = .next ((t.logFault (t.fault blk 0 0x008 1 3 g)).settle))

/-- Two ranges, by first and count, have a number in common. -/
def Shares (a n b m : Nat) : Prop := ∃ x, a ≤ x ∧ x < a + n ∧ b ≤ x ∧ x < b + m

/-- R58, R60: an event at a level: one that is held, active or frozen queues it; else an inactive level is entered at its vector
in supervisor state with TA and the flags clear, and a waiting one goes on after its WAIT; a level that becomes current finds the
loop buffer empty (R201). -/
def EventAtLevel : Prop :=
  ∀ (c : Core) (l : Nat) (e : Event),
    (c.held l = true ∨ (c.level l).run = .active ∨ (c.level l).run = .frozen →
      (c.deliver l e).queue l = c.queue l ++ [e] ∧ (∀ j, j ≠ l → (c.deliver l e).queue j = c.queue j) ∧ (c.deliver l e).arch = c.arch) ∧
    (c.held l = false → (c.level l).run = .inactive → ((c.deliver l e).level l).pc = (c.level l).vector ∧
      ((c.deliver l e).level l).run = .active ∧ ((c.deliver l e).level l).evtCurrent = e.word64 ∧
      swS ((c.deliver l e).level l).sw = true ∧ swTa ((c.deliver l e).level l).sw = false ∧
      fld ((c.deliver l e).level l).sw 0 4 = 0 ∧ ∀ j, j ≠ l → (c.deliver l e).level j = c.level j) ∧
    (c.held l = false → (c.level l).run = .waiting → (c.deliver l e).level l = { c.level l with
      pc := (c.level l).pc + BitVec.ofNat 64 (c.level l).waitLen, evtCurrent := e.word64, run := .active, waitLen := 0 }) ∧
    ((c.deliver l e).current ≠ c.current → (c.deliver l e).priv.loop = none ∧ (c.deliver l e).priv.ring = [])

/-- R64, R66, R67, R68, R461, R473: CUE_RAISE and EVENT_DELIVERY complete in every form. A CUE_RAISE of a doorbell or message
source makes it pending with its word, at the end of the order, or merges into its event that is pending at the cue unit or waits
at a core; of another source it is discarded and logged. An EVENT_DELIVERY takes a pending event of an enabled source from the cue
unit: a split core takes it at once, unless a floating-point switch is in progress (R93); a checked pair receives it as an input,
on which it agrees first, at once where it is idle or waits for an answer (R246, R247); for a pair that is off it ends rest and
asks for a wake; a source that is disabled, or whose core is absent or is being switched off, keeps it. -/
def CueEvents : Prop :=
  ∀ (s : State),
    (∀ (who : Master) (v : Word), Hears s who .CUE_RAISE 0 0 → inRange 0x400 0x500 (fld v 0 12) = true →
      mapGet? s.cue.srcs (fld v 0 12) = none → s.queuedAt (fld v 0 12) = none → s.coreAbsent (s.srcCore (fld v 0 12)) = false →
      exec (.cueRaise who v) s = .next { s with cue := {
        srcs := mapSet s.cue.srcs (fld v 0 12) ⟨1, fld v 32 32, false⟩, order := s.cue.order ++ [fld v 0 12] } }) ∧
    (∀ (who : Master) (v : Word) (c : CueSrc), Hears s who .CUE_RAISE 0 0 → inRange 0x400 0x500 (fld v 0 12) = true →
      mapGet? s.cue.srcs (fld v 0 12) = some c →
      exec (.cueRaise who v) s = .next { s with cue := { s.cue with
        srcs := mapSet s.cue.srcs (fld v 0 12) { c with count := min 255 (c.count + 1), word := fld v 32 32 } } }) ∧
    (∀ (who : Master) (v : Word), Hears s who .CUE_RAISE 0 0 → inRange 0x400 0x500 (fld v 0 12) = true →
      exec (.cueRaise who v) s = .next (s.raise (fld v 0 12) (fld v 32 32)) ∧
      (∀ lc, mapGet? s.cue.srcs (fld v 0 12) = none → s.queuedAt (fld v 0 12) = some lc →
        exec (.cueRaise who v) s = .next (s.modCore lc (fun d => d.mergeAt (fld v 0 12) (fld v 32 32))))) ∧
    (∀ (who : Master) (v : Word), Hears s who .CUE_RAISE 0 0 → inRange 0x400 0x500 (fld v 0 12) = false →
      exec (.cueRaise who v) s = .next (s.logFault (s.fault 0x04 0 0x007 1 2 (s.regAddr .CUE_RAISE 0 0)))) ∧
    (∀ (src q : Nat) (c : CueSrc), s.down = false → mapGet? s.cue.srcs src = some c → s.posOf (s.srcCore src) = some q →
      s.fbit F.CUE_MAP_ENABLE 0 src = true → s.coreAbsent (s.srcCore src) = false → s.pwr.baseOn = true → s.domState (2 * q) ≠ domStopping →
      (s.pair q).st = .off → exec (.eventDelivery src) s = .next (s.endRest.wake (2 * q) 1)) ∧
    (∀ src : Nat, mapGet? s.cue.srcs src = none ∨ s.posOf (s.srcCore src) = none ∨ s.fbit F.CUE_MAP_ENABLE 0 src = false ∨
      s.coreAbsent (s.srcCore src) = true ∨ s.pwr.baseOn = false ∨ (∃ q, s.posOf (s.srcCore src) = some q ∧ s.domState (2 * q) = domStopping) →
      exec (.eventDelivery src) s = .next s) ∧
    (∀ (src q : Nat) (c : CueSrc), s.down = false → mapGet? s.cue.srcs src = some c → s.posOf (s.srcCore src) = some q →
      s.fbit F.CUE_MAP_ENABLE 0 src = true → s.coreAbsent (s.srcCore src) = false → s.pwr.baseOn = true → s.domState (2 * q) ≠ domStopping →
      (s.pair q).st ≠ .off → (s.pair q).runs (s.srcCore src) = true → s.flt.fatal = false →
      let taken : State := { s with cue := { srcs := mapErase s.cue.srcs src, order := s.cue.order.filter (fun x => x != src) } }
      ((s.pair q).checks = true → exec (.eventDelivery src) s = .next ((taken.modCore (s.srcCore src) (fun d => { d with
        inbox := d.inbox ++ [.event (s.srcLevel src) ⟨src, c.count, c.word⟩ false] })).agreeIdle q)) ∧
      ((s.pair q).checks = false → (s.core (s.srcCore src)).fpBusy = false → exec (.eventDelivery src) s = .next
        ((taken.modCore (s.srcCore src) (fun d => d.deliver (s.srcLevel src) ⟨src, c.count, c.word⟩)).ackConsumed
          (s.core (s.srcCore src)) (s.srcCore src))) ∧
      ((s.pair q).checks = false → (s.core (s.srcCore src)).fpBusy = true → exec (.eventDelivery src) s = .next s))

/-- The state with a range command accepted: BUSY, its counts cleared, the job from PCS_RNG_BASE and PCS_RNG_LEN (R229). -/
def rangeAccepted (s : State) (op : Nat) (source : Option Nat) : State :=
  let t := ((((s.fset F.PCS_RNG_STATUS_BUSY 0 0 1).fset F.PCS_RNG_STATUS_CODE 0 0 0).fset F.PCS_RNG_LINES_DONE 0 0 0).fset
    F.PCS_RNG_SKIPPED_RESIDENT 0 0 0).fset F.PCS_RNG_POISONED_POISONED 0 0 0
  { t with rng := some { op, base := s.fget F.PCS_RNG_BASE_LINE 0 0 * 128, len := s.fget F.PCS_RNG_LEN_LINES 0 0, next := 0,
                         src := source.map (fun n => n % 2 ^ 12), stop := 0 } }

/-- The state in which a range command has ended: BUSY clear, DONE set, ERROR and a code where it stopped early; its source raised
(R229). -/
def rangeEnded (s : State) (j : RngJob) : State :=
  let t := (({ s with rng := none }).fset F.PCS_RNG_STATUS_BUSY 0 0 0).fset F.PCS_RNG_STATUS_DONE 0 0 1
  let u := if j.stop = 0 then t else (t.fset F.PCS_RNG_STATUS_ERROR 0 0 1).fset F.PCS_RNG_STATUS_CODE 0 0 j.stop
  match j.src with
  | some n => u.raiseBlock n
  | none => u

/-- R228, R229: a range command (RNG_FLUSH, RNG_FLUSH_INVAL, RNG_INVAL, RNG_ZERO) that is not refused is accepted and goes on as
far as its lines are here; with a length of 0 it does nothing but set DONE (R236); a command that has passed its last line, or has
stopped, ends with DONE and raises its source; one that has one line left acts on it, counts it, and ends; one whose next line is
awaited waits, and one whose next line has no home ends with code 1. The model's choices: a new command leaves DONE and ERROR of the one
before (log entry 123), a length of 0 raises no event (log entry 124), and a row that finds its line elsewhere asks for it and ends
(log entry 149). -/
def RangeCommands : Prop :=
  ∀ (s : State),
    (∀ (who : Master) (source : Option Nat), Hears s who .PCS_RNG_CMD 0 0 → s.fbit F.PCS_RNG_STATUS_BUSY 0 0 = false →
      s.fget F.PCS_RNG_LEN_LINES 0 0 ≠ 0 →
      exec (.rngFlush who source) s = .next (rangeAccepted s 1 source).rngGo ∧
      exec (.rngFlushInval who source) s = .next (rangeAccepted s 2 source).rngGo ∧
      exec (.rngInval who source) s = .next (rangeAccepted s 3 source).rngGo ∧
      exec (.rngZero who source) s = .next (rangeAccepted s 4 source).rngGo) ∧
    (∀ (who : Master) (source : Option Nat), Hears s who .PCS_RNG_CMD 0 0 → s.fbit F.PCS_RNG_STATUS_BUSY 0 0 = false →
      s.fget F.PCS_RNG_LEN_LINES 0 0 = 0 →
      ∀ c ∈ [Instr.rngFlush who source, .rngFlushInval who source, .rngInval who source, .rngZero who source],
        exec c s = .next (s.fset F.PCS_RNG_STATUS_DONE 0 0 1)) ∧
    (∀ (j : RngJob), s.down = false → s.rng = some j → j.stop ≠ 0 ∨ j.len ≤ j.next →
      exec .rangeDone s = .next (rangeEnded s j) ∧
      (j.src = none → (rangeEnded s j).rng = none ∧ (rangeEnded s j).fbit F.PCS_RNG_STATUS_BUSY 0 0 = false ∧
        (rangeEnded s j).fbit F.PCS_RNG_STATUS_DONE 0 0 = true ∧ { rangeEnded s j with rng := s.rng, io := s.io } = s)) ∧
    (∀ (j : RngJob) (op : LineOp) (t : State) (poisoned : Bool), s.down = false → s.rng = some j → j.stop = 0 → j.len = j.next + 1 →
      rngOp j.op = some op → (s.lineAwake op (j.base + 128 * j.next)).lineOp op (j.base + 128 * j.next) = (t, .acted poisoned) →
      exec .rangeDone s = .next (rangeEnded (t.rngTally (.acted poisoned)) { j with next := j.next + 1 })) ∧
    (∀ (j : RngJob) (op : LineOp) (t : State), s.down = false → s.rng = some j → j.stop = 0 → j.next < j.len → rngOp j.op = some op →
      ((s.lineAwake op (j.base + 128 * j.next)).lineOp op (j.base + 128 * j.next) = (t, .wait) →
        exec .rangeDone s = .next { t with rng := some j }) ∧
      ((s.lineAwake op (j.base + 128 * j.next)).lineOp op (j.base + 128 * j.next) = (t, .noHome) →
        exec .rangeDone s = .next (rangeEnded t { j with stop := 1 })))

/-- A line of this device's own memory, outside resident memory, with which nothing interferes: its slice serves it, its memory is
good where the cached copy is, and no checked pair has to agree first on giving up its copy (R207, R221, R234). -/
abbrev Plain (s : State) (line : Nat) : Prop :=
  line % 128 = 0 ∧ s.resident line = false ∧ s.homeOf line = .dev s.devnum ∧ s.sliceUp line = true ∧ s.mem.bad.contains line = false ∧
  (s.presence line).all (fun q => !s.agrees q) = true

/-- R228: what becomes of a line that is here and homed here, outside resident memory: INVAL gives it back what its home holds,
FLUSH makes its home hold what it holds and leaves its bytes, FLUSH_INVAL leaves its bytes too, ZERO makes its bytes zero and
unpoisoned, and is no poisoned line that the command has met (the model's choice, log entry 117). -/
def LineActions : Prop :=
  ∀ (s : State) (line : Nat), Memory.wf s.mem = true → Plain s line →
    (∀ (p : PoolLine) (bs : List Byte) (po : Bool), s.poolLine line = some p → p.home = some (bs, po) → bs.length = 128 →
      s.lineState false true false line = .here →
      (s.lineOp .inval line).2 = .acted (s.poisoned line) ∧
      (s.lineOp .inval line).1.lineBytes line = bs ∧ (s.lineOp .inval line).1.poisoned line = po ∧
      (∀ a, lineOf a ≠ line → (s.lineOp .inval line).1.byteAt a = s.byteAt a)) ∧
    (∀ p : PoolLine, s.poolLine line = some p → s.lineState false false false line = .here →
      (s.lineOp .flush line).2 = .acted (s.poisoned line) ∧
      (s.lineOp .flush line).1 = if p.home.isNone then s
        else { s with mem := { s.mem with pool := mapSet s.mem.pool line { p with home := none } } }) ∧
    (s.lineState false true false line = .here → (s.lineOp .flushInval line).2 = .acted (s.poisoned line) ∧
      (∀ a, (s.lineOp .flushInval line).1.byteAt a = s.byteAt a) ∧
      (mapSorted s.mem.pool = true → (s.lineOp .flushInval line).1.poolLine line = none)) ∧
    (s.lineState false true true line = .here →
      (s.lineOp .zero line).2 = .acted false ∧ (∀ a, lineOf a = line → (s.lineOp .zero line).1.byteAt a = 0) ∧
      (s.lineOp .zero line).1.poisoned line = false ∧ ∀ a, lineOf a ≠ line → (s.lineOp .zero line).1.byteAt a = s.byteAt a)

/-- The first failure that a checked position meets: none before it, its checkpoint good (R255 to R259). -/
def FirstFailure (s : State) (q : Nat) : Prop :=
  q < 40 ∧ (s.pair q).checks = true ∧ (s.pair q).st ≠ .split ∧ (s.pair q).joinReq = false ∧ (s.pair q).hist0 = FailHist.reset ∧
  (s.pair q).checkers = [] ∧ (s.pair q).staggers = [] ∧ (s.pair q).ckptBad = false

/-- What a retry leaves: each core of the position at its checkpoint, with the stores that its groups had committed, nothing at the
comparator, the retry marked, and the cores held there until the next tick (R255, R276; the model's choice, log entry 53). -/
def Retried (s t : State) (q : Nat) : Prop :=
  (∀ lc ∈ s.coresAt q, (t.core lc).arch = (s.core lc).ckpt ∧ (t.core lc).count = (s.core lc).base ∧
    (t.core lc).sb = (s.core lc).sb.filter (fun e => e.kept)) ∧ (t.pair q).fifo = [] ∧ (t.pair q).restarts = s.coresAt q ∧
  t.fbit F.CORE_PAIR_STATUS_RETRY_EVT (2 * q) 0 = true

/-- R263, R266, R268, R276: the commands of CORE_PAIR_CTL that their rules accept: SPLIT and JOIN begin, CUTIN begins towards the
named or the lowest free spare, RETIRE gives the stopped pair's position up; a split goes through, once its agreement point has
been taken, when everything up to that has committed, a join once both cores have committed and the stores of core 2n + 1 are
visible. -/
def PairCommands : Prop :=
  ∀ (s : State) (who : Master) (core n : Nat),
    let q := core / 2
    (s.pair q).logical = some n →
    (Hears s who .CORE_PAIR_CTL core 0 → (s.pair q).busy = false →
      (n ≠ 38 → (s.pair q).st = .checked → s.fget F.CORE_SPLIT_LEVEL_LEVEL (2 * q) 0 ≠ 0 →
        exec (.pairSplit who core) s = .next (s.modPair q (fun p => { p with
          st := .switching
          splitReq := some (s.fget F.CORE_SPLIT_LEVEL_LEVEL (2 * q) 0, s.acting .CORE_SPLIT_PC (2 * q) 0) }))) ∧
      ((s.pair q).st = .split → (∀ l, l < 8 → ((s.core (2 * n + 1)).level l).run ≠ .active ∧ ((s.core (2 * n + 1)).level l).run ≠ .frozen) →
        exec (.pairJoin who core) s = .next
          ((s.modPair q (fun p => { p with st := .switching, joinReq := true })).returnQueues (2 * n + 1)).refreshAbsent) ∧
      ((s.pair q).st = .stopped →
        exec (.retire who core) s = .next (((s.modPair q (fun p => { p with
          st := .failed, logical := none, failed0 := true, failed1 := true })).setDom (2 * q) domOff).idleCheck)) ∧
      (∀ r low : Nat, (s.pair q).checks = true → (s.pair q).need = none → s.freeSpare q = some low →
        let t := s.modPair q (fun p => { p with need := some causeSoftware, cause := causeSoftware })
        exec (.cutin who core 0xFF) s = .next ((t.cutinBegin q low).plannedContain q) ∧
        (r < 40 → (sparesOf q).contains r = true → s.spareFree r = true →
          exec (.cutin who core (2 * r)) s = .next ((t.cutinBegin q r).plannedContain q)))) ∧
    (s.down = false → q < 40 → s.canCommit (2 * n) = true → s.coreRuns (2 * n) = true →
      (∀ (l : Nat) (pc : Word), (s.pair q).atSplit = true → (s.pair q).splitReq = some (l, pc) →
        exec (.splitHandover q) s = .next (((s.takePref q).commit (2 * n)).splitNow q n l pc)) ∧
      (∀ t : State, (s.pair q).joinReq = true → s.absorb (2 * n + 1) = (t, true) →
        exec (.joinCommit q) s = .next ((t.commit (2 * n)).joinNow q n)))

/-- R266: the new core of a split pair: only the level given is active, at the PC given, and no level owns the floating-point file. -/
def SplitCoreBegins : Prop :=
  ∀ (a : Arch) (l : Nat) (pc : Word), l < 8 →
    ((splitArch a l pc).level l).run = .active ∧ ((splitArch a l pc).level l).pc = pc ∧
    swS ((splitArch a l pc).level l).sw = true ∧ swTa ((splitArch a l pc).level l).sw = false ∧
    (∀ j, j < 8 → j ≠ l → ((splitArch a l pc).level j).run = .inactive) ∧
    (∀ j n, j < 8 → ((splitArch a l pc).level j).readR n = (a.level j).readR n) ∧
    fld (splitArch a l pc).lvlCtl 8 4 = 8

/-- What the scheduler does with a free engine `e`: it takes the entry of queue `q` at `desc`, whose descriptor is here, which
need not wait for what it reads first, and whose own lines can be written; `j` is its job, `t` the state with the entry taken
(R307, R379). -/
def TakesEntry (s : State) (e q desc : Nat) (j : Job) (t : State) : Prop :=
  let s1 := (s.takeStaged .TRE_CTL e 0).tidyQueues
  s.down = false ∧ e < 8 ∧ mapGet? s.trs.jobs e = none ∧ (s.takeStaged .TRE_CTL e 0).inReset 0x28 = false ∧
  (s.takeStaged .TRE_CTL e 0).pwr.t0 = none ∧ (s.takeStaged .TRE_CTL e 0).flt.fatal = false ∧ s1.engineFree e = true ∧
  ∃ (k : Sched) (s2 s3 : State), s1.nextWork = .queue q desc k ∧
    s1.readyRead (.eng (if q = svcQueue then 0 else q)) (linesOf desc 512) = (s2, .ok) ∧
    j = s2.queueJob q desc (s2.bytesAt desc 512) ∧
    s2.mustWait ((j.startSpans q).flatMap (fun p => linesOf p.1 p.2)) = false ∧
    s2.readyWrite j.by_ true j.ownLines = (s3, true) ∧
    t = s3.takeEntry e q k (s2.bytesAt desc 512)

/-- R304, R307, R308, R309, R320: the scheduler starts the head entry on a free engine by its operation: TRANSFORM with its
checks; KEY_LOAD of a valid record replaces its slot and zeroes the record; KEY_ERASE empties its slot; VERIFY_ECDSA and
VERIFY_LMS end with the verdict on their bytes. -/
def EngineJobs : Prop :=
  ∀ (s : State) (e q desc : Nat) (j : Job) (t : State), TakesEntry s e q desc j t →
    (j.op = 1 → badTransform j.d = false → exec (.transform e) s = .next (t.startTransform e j)) ∧
    (∀ (k : Nat) (u : State) (r key : List Byte), j.op = 2 → badKeyOp j.d true = false → j.srcLen = 80 → t.keySlot j = some k →
      t.readSpans (engBlk e) (j.inst.getD 0) [(dn j.d 16 8, 80)] = .bytes u r → keyRecord r = (0, key) → u.jobStale j = false →
      exec (.keyLoad e) s = .next (((u.putKey k (dn r 0 1) key).storeBytes j.by_ (dn j.d 16 8) (List.replicate 80 0)).endJob
        e j stDone (0, 0) 0 none)) ∧
    (∀ k : Nat, j.op = 3 → badKeyOp j.d false = false → t.keySlot j = some k → t.jobStale j = false →
      exec (.keyErase e) s = .next ((t.eraseKey k).endJob e j stDone (0, 0) 0 none)) ∧
    (∀ (u : State) (bs : List Byte), q = svcQueue → badVerify j.d (j.op == 0x10) = false →
      t.readSpans (engBlk e) (j.inst.getD 0)
        [(dn j.d 16 8, dn j.d 24 8), (dn j.d 32 8, dn j.d 40 8), (dn j.d 48 8, dn j.d 56 8)] = .bytes u bs →
      let msg := bs.take (dn j.d 24 8)
      let key := sub bs (dn j.d 24 8) (dn j.d 40 8)
      let sig := bs.drop (dn j.d 24 8 + dn j.d 40 8)
      (j.op = 0x10 → exec (.verifyEcdsa e) s = .next
        (u.endJob e j (if ecdsaOk msg key sig then stDone else stSigFail) (0, 0) 0 none)) ∧
      (j.op = 0x11 → hssVerify msg key sig = .passes → exec (.verifyLms e) s = .next (u.endJob e j stDone (0, 0) 0 none)) ∧
      (j.op = 0x11 → hssVerify msg key sig = .fails → exec (.verifyLms e) s = .next (u.endJob e j stSigFail (0, 0) 0 none)))

/-- R286, R287, R288, R290, R307, R310, R313, R316: a doorbell that leaves no more entries than the queue holds sets its TAIL; a
block that an engine has compressed, decoded or passed through, and that fits the space left, is held with the job's progress
after it, and up to `segs` of its segments are written; a block that is held goes on alike; an internal error stops the job for a
rerun. The model's choices: the first block of a new stream has HIST set as the rest have (log entry 169), and a block is read whole
before its header is checked (log entry 171). -/
def EngineBlocks : Prop :=
  ∀ (s : State),
    (∀ (who : Master) (q tail : Nat), q < 1024 → tail < 65536 → Hears s who .TRS_DOORBELL 0 q →
      (tail + 65536 - s.fget F.TRS_Q_HEAD_HEAD 0 q) % 65536 ≤ 2 ^ s.fget F.TRS_Q_CTL_SIZE_LOG2 0 q →
      let t := s.fset F.TRS_DOORBELL_TAIL 0 q tail
      exec (.trsDoorbell who q tail) s = .next (if s.fbit F.TRS_Q_CTL_ENABLE 0 q then t.endRest else t)) ∧
    (∀ (e segs : Nat) (j : Job), s.down = false → e < 8 → mapGet? s.trs.jobs e = some j → j.op = 1 → j.rest ≠ [] →
      (j.comp = 1 → exec (.compressBlock e segs) s = .next (State.writeSegs e segs s)) ∧
      (j.comp = 2 → exec (.decompressBlock ⟨e, segs⟩) s = .next (State.writeSegs e segs s)) ∧
      (j.comp = 0 → exec (.pieceWritten ⟨e, segs⟩) s = .next (State.writeSegs e segs s))) ∧
    (∀ (e segs : Nat) (j : Job), s.down = false → e < 8 → mapGet? s.trs.jobs e = some j → j.op = 1 → j.rest = [] →
      j.prog.inDone < j.srcLen →
      (∀ (t : State) (raw plain : List Byte) (p : Prog), j.comp = 1 → 512 * max 1 j.target ≤ j.dstLen - j.prog.outHere →
        s.jobInput e j (min j.blockSize (j.srcLen - j.prog.inDone)) = .ok t raw plain p →
        let hist := j.ctx != 0 && !j.independent
        let n := min j.blockSize (j.srcLen - j.prog.inDone)
        let last := (j.last || j.isExch) && decide (j.srcLen ≤ j.prog.inDone + n)
        let body := compressed raw (if hist then j.prog.hist else []) j.blockSize j.flags
        let blk := blockBytes raw body j.target j.prog.nextSeq hist last (decide (n < j.blockSize))
        blk.length ≤ j.dstLen - j.prog.outHere →
        let (out, p1) := j.crypt j.prog [] blk
        let p2 : Prog := { p1 with
          nextSeq := (j.prog.nextSeq + 1) % 2 ^ 32
          raised := j.prog.raised || (j.target != 0 && decide (j.target < (emitClass raw.length body.length).1))
          ended := j.prog.ended || last }
        exec (.compressBlock e segs) s = .next (t.putBlock e segs j (j.advance p2 raw out raw 1) out)) ∧
      (∀ (t u : State) (r1 hd raw blk out : List Byte) (p0 p1 : Prog), j.comp = 2 → j.prog.ended = false → 16 ≤ j.srcLen - j.prog.inDone →
        s.jobInput e j 16 = .ok t r1 hd p0 → 1 ≤ hdrClass hd → hdrClass hd ≤ 129 →
        t.jobInput e j (min (j.srcLen - j.prog.inDone) (hdrClass hd * 512)) = .ok u raw blk p1 →
        decodeBlock blk (j.srcLen - j.prog.inDone) j.prog.nextSeq (if j.ctx = 0 then [] else j.prog.hist) = .ok out →
        out.length ≤ j.dstLen - j.prog.outHere →
        let p2 : Prog := { p1 with nextSeq := (hdrSeq blk + 1) % 2 ^ 32, ended := hdrLast blk }
        exec (.decompressBlock ⟨e, segs⟩) s = .next (u.putBlock e segs j (j.advance p2 raw out out 1) out)) ∧
      (∀ (t : State) (raw plain : List Byte) (p1 : Prog), j.comp = 0 → j.encrypts = false →
        let n := min (if j.flag 6 then (j.blockSize + 4095) / 4096 * 4096 else j.blockSize) (j.srcLen - j.prog.inDone)
        n ≤ j.dstLen - j.prog.outHere → s.jobInput e j n = .ok t raw plain p1 →
        exec (.pieceWritten ⟨e, segs⟩) s = .next (t.putBlock e segs j (j.advance p1 raw plain raw 0) plain))) ∧
    (∀ (e kind spill : Nat) (clears : Bool) (j : Job),
      let w := s.spillSegs e spill
      s.down = false → e < 8 → w.fbit F.TRE_STATUS_IN_SERVICE e 0 = true →
      w.domPowered (96 + e) = true → mapGet? w.trs.jobs e = some j →
      ∃ t, exec (.engineInternalError e kind spill clears) s = .next t ∧ t.inReset (engBlk e) = true ∧
        t.trs.jobs = mapErase w.trs.jobs e ∧ t.trs.reruns = w.trs.reruns ++ [{ j with rest := [] }])

/-- Pair `p` finds the request at the head of `ring` next, for an instance `n` (R327, R380): `u` the state after reading it, `t`
what taking it would do. -/
def ServesNext (s : State) (p ring : Nat) (offered : List Nat) (u : State) (n : Nat) (c : Sched) (t : Take) : Prop :=
  let s0 := (s.listedOf .XCH_RQ_DOORBELL).foldl (fun s r => s.rqSafe r) s
  let s1 := (s0.ringsOf p).foldl (fun s r => (State.rqHeadOf p r 65536 s).1) s0
  s.down = false ∧ p < 8 ∧ s.xchTakes = true ∧ s.seqRuns p = true ∧
  (s1.seqSched p).next s1.seqWeight (s1.instAwaits p) (s1.seqWork p offered) = some (n, c) ∧
  nextRing (mapGet? c.ring n) ((s1.ringsOf p).filter (fun r => s1.rqInst r == n && s1.canTake p r offered)) = some ring ∧
  s1.takeable p ring offered = (u, t)

/-- The state with an instance command accepted (R375). -/
def instAccepted (s : State) (op n : Nat) : State :=
  let t := (s.fset F.INST_CMD_STATUS_BUSY 0 0 1).fset F.INST_CMD_STATUS_INSTANCE 0 0 n
  { t with inst := { t.inst with cmd := some ⟨op, n, false⟩ } }

/-- A message of another member reaches this device, which runs, by an enabled port (R391, R392). -/
abbrev Arrives (s : State) (k : Nat) (m : Msg) : Prop :=
  s.down = false ∧ k < 10 ∧ s.fbit F.SHB_CFG_ENABLE k 0 = true ∧ m.dst = s.devnum ∧ m.src ≠ s.devnum ∧ s.isMember m.src = true

/-- The message's line has its home here, which serves it: out of the safe state, of standby and of a conversion (R227, R405, R456,
R470). -/
abbrev HomedHere (s : State) (m : Msg) : Prop :=
  s.pwr.safe = false ∧ s.homeOf (lineOf m.addr) = .dev s.devnum ∧ s.standby = false ∧ s.sliceUp (lineOf m.addr) = true

/-- A request that the directory serves: its line's home is here, and no request of the line is in progress (R405, R407). -/
abbrev Homed (s : State) (k : Nat) (m : Msg) : Prop :=
  Arrives s k m ∧ HomedHere s m ∧ mapGet? s.dir.busy (lineOf m.addr) = none ∧ s.lost.contains m.src = false

/-- The state in which the directory serves a request: an access beside resident memory ends rest (R468). -/
def served (s : State) (m : Msg) : State := if s.resident (lineOf m.addr) then s else s.endRest

/-- The state after the errors that a request's read of its line meets, and a corrected error of the directory's entry (R234, R408). -/
def metErrors (s : State) (m : Msg) (errs : List ErrSeen) (ecc : DirEcc) : State :=
  let u := errs.foldl (fun u e => u.lineErr (lineOf m.addr) e) s
  if ecc = .corrected then u.fcount F.DIR_ECC_CORRECTED 0 0 1 else u

/-- A row of a request: port, message, errors met, the entry's code, the line whose entry gives way. -/
abbrev RequestRow : Type := Nat → Msg → List ErrSeen → DirEcc → Option Nat → Instr

/-- R407: a request for ownership completes: it is granted where no other member holds the line; else an owner is sent the snoop,
and holders are invalidated, first. `q`: the request as it is served. -/
def TakesOwnership (row : RequestRow) (s w : State) (k : Nat) (m q : Msg) (errs : List ErrSeen) (ecc : DirEcc) (snoop reply : Nat) : Prop :=
  let entry := mapGet? w.dir.entries (lineOf m.addr)
  (entry = none → exec (row k m errs ecc none) s = .next (w.grantOwn q reply).settle) ∧
  (∀ o, entry = some (.modified o) →
    (o = w.devnum ∨ o = m.src → exec (row k m errs ecc none) s = .next (w.grantOwn q reply).settle) ∧
    (o ≠ w.devnum → o ≠ m.src → exec (row k m errs ecc none) s = .next (w.snoopAll q snoop [o]).settle)) ∧
  (∀ mask, entry = some (.shared mask) →
    (w.farHolders m mask = [] → exec (row k m errs ecc none) s = .next (w.grantOwn q reply).settle) ∧
    (w.farHolders m mask ≠ [] → exec (row k m errs ecc none) s = .next (w.snoopAll q 0x20 (w.farHolders m mask)).settle))

/-- R407: the table of the directory: READ_SHARED, READ_OWN, UPGRADE and OWN_NO_DATA complete for every entry of their line.
READ_SHARED of a line that no other member has modified is answered from memory, and the requester joins the holders; of one that
another member has modified it is sent on to the owner. The requests for ownership are granted where no other member holds the
line, and the requester is its owner; else the other holders are invalidated first, the owner's copy by SNP_INV where the line is
overwritten whole (the model's reading, log entry 65). An UPGRADE whose sender is no holder is served as READ_OWN. -/
def DirectoryRequests : Prop :=
  (∀ (s : State) (k : Nat) (m : Msg) (errs : List ErrSeen) (ecc : DirEcc),
    let v := metErrors s m errs ecc
    let w := served v m
    Homed s k m → Homed v k m → ecc ≠ .lost → w.lost.contains m.src = false → w.dirFull (lineOf m.addr) = false →
    let line := lineOf m.addr
    let entry := mapGet? w.dir.entries line
    let shares : Nat → State := fun mask => (((w.writeBack line).dirReply (msgAs 0x01 m) 0x10).setDir line
      (some (.shared (mask ||| maskOf (m.src :: if (w.poolLine line).isSome then [w.devnum] else []))))).settle
    (entry = none → exec (.readShared k m errs ecc none) s = .next (shares 0)) ∧
    (∀ mask, entry = some (.shared mask) → exec (.readShared k m errs ecc none) s = .next (shares mask)) ∧
    (∀ o, entry = some (.modified o) →
      (o = w.devnum ∨ o = m.src → exec (.readShared k m errs ecc none) s = .next (shares 0)) ∧
      (o ≠ w.devnum → o ≠ m.src → exec (.readShared k m errs ecc none) s = .next (w.snoopAll (msgAs 0x01 m) 0x21 [o]).settle)) ∧
    TakesOwnership .readOwn s w k m (msgAs 0x02 m) errs ecc 0x22 0x11 ∧
    TakesOwnership .ownNoData s w k m (msgAs 0x04 m) errs ecc 0x20 0x12 ∧
    ((∀ mask, entry = some (.shared mask) → mask.testBit m.src = false) →
      TakesOwnership .upgrade s w k m { msgAs 0x03 m with kind := 0x02 } errs ecc 0x22 0x11) ∧
    (∀ mask, entry = some (.shared mask) → mask.testBit m.src = true →
      (w.farHolders m mask = [] → exec (.upgrade k m errs ecc none) s = .next (w.grantOwn (msgAs 0x03 m) 0x12).settle) ∧
      (w.farHolders m mask ≠ [] →
        exec (.upgrade k m errs ecc none) s = .next (w.snoopAll (msgAs 0x03 m) 0x20 (w.farHolders m mask)).settle))) ∧
  (∀ (u t : State) (q : Msg) (reply : Nat), q.src ≠ u.devnum →
    (u.clearCopies (lineOf q.addr) = (t, true) → u.grantOwn q reply =
      (((if reply = 0x11 then t.flushInval (lineOf q.addr) else t.discardLine (lineOf q.addr)).dirReply q reply).setDir
        (lineOf q.addr) (some (.modified q.src)))) ∧
    (u.clearCopies (lineOf q.addr) = (t, false) →
      u.grantOwn q reply = t.setBusy (lineOf q.addr) (some ⟨q, [u.devnum], false⟩)) ∧
    u.dirReply q reply = u.send { kind := reply, src := u.devnum, mkind := 5, unit := 0, inst := 0, dst := q.src
                                  poison := reply != 0x12 && u.poisoned (lineOf q.addr), promoted := false, tag := q.tag
                                  addr := lineOf q.addr, data := if reply = 0x12 then [] else u.lineBytes (lineOf q.addr) })

/-- R227, R405, R406, R408, R419, R426, R470: the requests complete where the directory does not serve them at once. One that finds
the line's request in progress is refused with RETRY, or kept if it is promoted; in standby it starts the exit; where this device
is not the line's home it is answered NO_HOME; one for a line that is being converted, or whose entry is being evicted, waits, and
so does one for whose entry the set has no room yet; in the safe state none is served (the model's choice, log entry 183). An entry
that cannot be read has the line invalidated everywhere first; one that gives way to it too. -/
def DirectoryWaits : Prop :=
  ∀ (s : State) (k : Nat) (m : Msg), Arrives s k m →
    let line := lineOf m.addr
    ∀ x ∈ [((Instr.readShared : RequestRow), 0x01), (.readOwn, 0x02), (.upgrade, 0x03), (.ownNoData, 0x04)],
      (∀ (errs : List ErrSeen) (ecc : DirEcc) (evict : Option Nat),
        (HomedHere s m → (mapGet? s.dir.busy line).isSome = true → s.evicting line = false →
          let w := served s m
          (m.promoted = true → exec (x.1 k m errs ecc evict) s = .next (w.keepRequest (msgAs x.2 m)).settle) ∧
          (m.promoted = false → w.devnum ≠ m.src →
            let t := w.fcount F.DIR_COUNT_RETRIES 0 0 1
            exec (x.1 k m errs ecc evict) s = .next (t.send (t.dirMsg 0x13 m.src m.tag line false [])).settle)) ∧
        (s.pwr.safe = true → exec (x.1 k m errs ecc evict) s = .next s.settle) ∧
        (s.pwr.safe = false → s.homeOf line ≠ .dev s.devnum →
          exec (x.1 k m errs ecc evict) s = .next (s.send (s.dirMsg 0x14 m.src m.tag line false [])).settle) ∧
        (s.pwr.safe = false → s.homeOf line = .dev s.devnum → s.standby = true →
          exec (x.1 k m errs ecc evict) s = .next (s.asleep (msgAs x.2 m)).settle) ∧
        (s.pwr.safe = false → s.standby = false → s.homeOf line = .dev s.devnum → s.evicting line = true →
          exec (x.1 k m errs ecc evict) s = .next ((s.wantGranule line).keepRequest (msgAs x.2 m)).settle)) ∧
      (s.pwr.safe = false → s.standby = false → s.homeOf line = .dev s.devnum → mapGet? s.dir.busy line = none → s.sliceUp line = false →
        exec (x.1 k m [] .fine none) s = .next ((s.wantGranule line).keepRequest (msgAs x.2 m)).settle) ∧
      (Homed s k m → ∀ t : State, (served s m).dirRoom line = (t, false) →
        exec (x.1 k m [] .fine none) s = .next (t.keepRequest (msgAs x.2 m)).settle) ∧
      (Homed s k m → ∀ (errs : List ErrSeen) (evict : Option Nat),
        exec (x.1 k m errs .lost evict) s = .next ((metErrors s m errs .lost).dirBroadcast (msgAs x.2 m)).settle) ∧
      (Homed s k m → ∀ (errs : List ErrSeen) (ecc : DirEcc) (old : Nat), ecc ≠ .lost → old % 128 = 0 → old ≠ line →
        let t := (metErrors s m errs ecc).dirEvict old
        ((mapGet? t.dir.busy old).isSome = true →
          exec (x.1 k m errs ecc (some old)) s = .next (t.keepRequest (msgAs x.2 m)).settle) ∧
        ((mapGet? t.dir.busy old).isSome = false →
          exec (x.1 k m errs ecc (some old)) s = .next (t.dirRequest (msgAs x.2 m)).settle))

/-- R407, R409, R419: what comes back to the home completes in every form. A WRITEBACK of the line's owner is stored in memory,
leaves the line uncached and is acknowledged, and one of another is acknowledged only (the model's reading, log entry 66); one that
meets a request in progress is refused or kept, and one that meets an eviction of the line waits (R426). An acknowledgement of a snoop
(SNP_ACK) is one fewer to wait for, and the last completes the request; PROMOTED in it says that its sender held no copy (the model's
choice, log entry 73). An owner's data (SNP_DATA) for a reader are stored in memory, and owner and reader share the line; an answer
that nothing waits for does nothing. -/
def DirectoryAnswers : Prop :=
  ∀ (s : State) (k : Nat) (m : Msg), Arrives s k m →
    let line := lineOf m.addr
    (HomedHere s m → mapGet? s.dir.busy line = none →
      (mapGet? s.dir.entries line = some (.modified m.src) →
        let t := ((served s m).dirStore line (msgAs 0x05 m).data m.poison).setDir line none
        exec (.writeback k m) s = .next (t.send (t.dirMsg 0x15 m.src m.tag line false [])).settle) ∧
      (mapGet? s.dir.entries line ≠ some (.modified m.src) →
        exec (.writeback k m) s = .next (s.send (s.dirMsg 0x15 m.src m.tag line false [])).settle)) ∧
    (HomedHere s m → s.evicting line = true →
      exec (.writeback k m) s = .next ((s.wantGranule line).keepRequest (msgAs 0x05 m)).settle) ∧
    (HomedHere s m → (mapGet? s.dir.busy line).isSome = true → s.evicting line = false →
      let w := served s m
      (m.promoted = true → exec (.writeback k m) s = .next (w.keepRequest (msgAs 0x05 m)).settle) ∧
      (m.promoted = false → w.devnum ≠ m.src →
        let t := w.fcount F.DIR_COUNT_RETRIES 0 0 1
        exec (.writeback k m) s = .next (t.send (t.dirMsg 0x13 m.src m.tag line false [])).settle)) ∧
    (s.pwr.safe = true → exec (.writeback k m) s = .next s.settle) ∧
    (s.pwr.safe = false → s.homeOf line = .dev s.devnum → s.standby = true →
      exec (.writeback k m) s = .next (s.asleep (msgAs 0x05 m)).settle) ∧
    (s.pwr.safe = false → s.homeOf line ≠ .dev s.devnum →
      exec (.writeback k m) s = .next (s.send (s.dirMsg 0x14 m.src m.tag line false [])).settle) ∧
    ((mapGet? s.dir.busy line).all (fun r => !r.acks.contains m.src) = true →
      exec (.snpAck k m) s = .next s.settle ∧ exec (.snpData k m) s = .next s.settle) ∧
    (∀ r : DirReq, mapGet? s.dir.busy line = some r → r.acks.contains m.src = true →
      let q : DirReq := { r with acks := r.acks.filter (fun d => d != m.src) }
      exec (.snpAck k m) s = .next
        (if q.acks.isEmpty then s.dirFinish q m.promoted else s.setBusy line (some q)).settle ∧
      (r.bcast = true → exec (.snpData k m) s = .next
        ((((served s m).dirStore line (msgAs 0x24 m).data m.poison).dirAck line m.src true)).settle) ∧
      (r.bcast = false → r.msg.kind = 0x01 → exec (.snpData k m) s = .next
        (((((served s m).dirStore line (msgAs 0x24 m).data m.poison).setBusy line none).setDir line
          (some (.shared (maskOf ([m.src, r.msg.src].filter (fun d => !s.lost.contains d)))))).dirResume).settle) ∧
      (r.bcast = false → r.msg.kind ≠ 0x01 → exec (.snpData k m) s = .next
        (if q.acks.isEmpty then s.dirFinish q true else s.setBusy line (some q)).settle) ∧
      (r.bcast = false → s.lost.contains r.msg.src = false → lineOf r.msg.addr = line →
        (r.msg.kind = 0x03 ∨ r.msg.kind = 0x04 → s.dirFinish q m.promoted = ((s.setBusy line none).grantOwn r.msg 0x12).dirResume) ∧
        (∀ o, r.msg.kind = 0x02 → mapGet? s.dir.entries line = some (.modified o) → o ≠ s.devnum →
          s.dirFinish q false = ((s.setBusy line none).setDir line (some (.modified r.msg.src))).dirResume)))

/-- The state with a flash command accepted (R505). -/
def nvmAccepted (s : State) (op : Nat) (source : Option Nat) : State :=
  let t := (s.fset F.CFG_NVM_STATUS_BUSY 0 0 1).fset F.CFG_NVM_STATUS_CODE 0 0 0
  { t with boot := { t.boot with nvm := some { op, addr := s.fget F.CFG_NVM_ADDR_OFFSET 0 0, mem := s.fget F.CFG_NVM_MEM_ADDR 0 0
                                               len := s.fget F.CFG_NVM_LEN_LEN 0 0, src := source.map (fun n => n % 2 ^ 12)
                                               code := none } } }

/-- R521, R522: the board management port starts the access that a private write of five bytes with 0x01, or of thirteen with
0x02, names, and refuses every other; a private read answers STATUS and the value. SETDASA of the static address, or ENTDAA, gives
a port without one its dynamic address; ENEC enables its interrupt. -/
def ManagementPort : Prop :=
  ∀ (s : State), s.down = false →
    (∀ bytes : List Byte, s.bmp.status ≠ 1 →
      let a := bytesToNat ((bytes.drop 1).take 4)
      let t : State := { s with bmp := { s.bmp with status := 1, value := 0, addr := a } }
      (bytes.head? = some 0x01 → bytes.length = 5 →
        exec (.bmpRead bytes) s = .next (t.ioAccess ⟨s.devnum, .bmp, 0, 0⟩ a none .bmp)) ∧
      (bytes.head? = some 0x02 → bytes.length = 13 →
        exec (.bmpWrite bytes) s = .next
          (t.ioAccess ⟨s.devnum, .bmp, 0, 0⟩ a (some (BitVec.ofNat 64 (bytesToNat (bytes.drop 5)))) .bmp)) ∧
      (¬ (bytes.head? = some 0x01 ∧ bytes.length = 5) → ¬ (bytes.head? = some 0x02 ∧ bytes.length = 13) →
        exec (.bmpRead bytes) s = .next { s with bmp := { s.bmp with status := 2, value := 0 } } ∧
        exec (.bmpWrite bytes) s = .next { s with bmp := { s.bmp with status := 2, value := 0 } })) ∧
    (s.bmp.status ≠ 2 → exec .bmpPrivateRead s = .next
      { s with outbox := s.outbox ++ [.bmp (BitVec.ofNat 8 s.bmp.status :: wordBytes s.bmp.value)] }) ∧
    (∀ dyn : Nat, s.bmp.dyn = none →
      let t : State := { s with bmp := { s.bmp with dyn := some (dyn % 128) } }
      exec (.setdasa (0x40 ||| s.devnum) dyn) s = .next t.sendIbi ∧ exec (.entdaa dyn) s = .next t.sendIbi) ∧
    exec .enec s = .next ({ s with bmp := { s.bmp with ibi := true } } : State).sendIbi

/-- R524: the TAP while VIN54 stands: IDCODE shifts out 0x174209A7; SAMPLE/PRELOAD captures the pins and takes what is shifted in;
with RESET_N low EXTEST, EXTEST_PULSE and EXTEST_TRAIN do so too, and CLAMP and HIGHZ take effect, and otherwise load as BYPASS;
test-logic reset selects IDCODE. None changes anything but the TAP. -/
def TapInstructions : Prop :=
  ∀ (s : State) (pins drive : Nat), s.pwr.vin = true →
    exec .idcode s = .next { s with tap := { s.tap with ir := 0x02 }, outbox := s.outbox ++ [.tdo 0x174209A7] } ∧
    exec (.samplePreload pins drive) s = .next { s with tap := ⟨0x01, drive⟩, outbox := s.outbox ++ [.tdo pins] } ∧
    exec .bypass s = .next { s with tap := { s.tap with ir := 0xFF } } ∧
    exec .testLogicReset s = .next { s with tap := { s.tap with ir := 0x02 } } ∧
    (s.pwr.resetN = true →
      exec (.extest pins drive) s = .next { s with tap := ⟨0x00, drive⟩, outbox := s.outbox ++ [.tdo pins] } ∧
      exec (.extestPulse pins drive) s = .next { s with tap := ⟨0x05, drive⟩, outbox := s.outbox ++ [.tdo pins] } ∧
      exec (.extestTrain pins drive) s = .next { s with tap := ⟨0x06, drive⟩, outbox := s.outbox ++ [.tdo pins] } ∧
      exec .clamp s = .next { s with tap := { s.tap with ir := 0x03 } } ∧
      exec .highz s = .next { s with tap := { s.tap with ir := 0x04 } }) ∧
    (s.pwr.resetN = false →
      ∀ c ∈ [Instr.extest pins drive, .extestPulse pins drive, .extestTrain pins drive, .clamp, .highz],
        exec c s = .next { s with tap := { s.tap with ir := 0xFF } })

end Sys2Proof.Slice0

section Statements

open Sys2Proof Sys2Proof.Machine Sys2Proof.Safety Sys2Proof.Slice0

/-- R131, R132: ADD, ADC, SUB, SBC, NEG, CMP and the immediate ADDI and CMPI complete with the sum or difference of their
operands at width 64 or 32, and its flags; CMP and CMPI write no register. -/
def Obligations.AddSubtractResults : Prop :=
  ∀ (s : State) (i : Ins) (l : Nat),
    (∀ o : OpsRRR, Ready Op.add i o.pack l s →
      exec (.add i o) s = .next (after Op.add i o.pack l s
        (fun e c => putResult e o.rd (sumOf (operand e c o.ra) (operand e c o.rb) 0) c) past)) ∧
    (∀ o : OpsRRR, Ready Op.adc i o.pack l s →
      exec (.adc i o) s = .next (after Op.adc i o.pack l s
        (fun e c => putResult e o.rd (sumOf (operand e c o.ra) (operand e c o.rb) (carryIn e c)) c) past)) ∧
    (∀ o : OpsRRR, Ready Op.sub i o.pack l s →
      exec (.sub i o) s = .next (after Op.sub i o.pack l s
        (fun e c => putResult e o.rd (differenceOf (operand e c o.ra) (operand e c o.rb) 0) c) past)) ∧
    (∀ o : OpsRRR, Ready Op.sbc i o.pack l s →
      exec (.sbc i o) s = .next (after Op.sbc i o.pack l s
        (fun e c => putResult e o.rd (differenceOf (operand e c o.ra) (operand e c o.rb) (1 - carryIn e c)) c) past)) ∧
    (∀ o : OpsRR, Ready Op.neg i o.pack l s →
      exec (.neg i o) s = .next (after Op.neg i o.pack l s
        (fun e c => putResult e o.rd (differenceOf 0 (operand e c o.ra) 0) c) past)) ∧
    (∀ o : OpsRRR, Ready Op.cmp i o.pack l s →
      exec (.cmp i o) s = .next (after Op.cmp i o.pack l s
        (fun e c => putFlags e (differenceOf (operand e c o.ra) (operand e c o.rb) 0).2 c) past)) ∧
    (∀ o : OpsRI, Ready Op.addiRI i o.pack l s →
      exec (.addi i (.ri o)) s = .next (after Op.addiRI i o.pack l s
        (fun e c => putResult e o.rd (sumOf (operand e c o.ra) (immediate e (.ri o)) 0) c) past)) ∧
    (∀ o : OpsRI32, Ready Op.addi32 i o.pack l s →
      exec (.addi i (.ri32 o)) s = .next (after Op.addi32 i o.pack l s
        (fun e c => putResult e o.rd (sumOf (operand e c o.ra) (immediate e (.ri32 o)) 0) c) past)) ∧
    (∀ o : OpsRI, Ready Op.cmpiRI i o.pack l s →
      exec (.cmpi i (.ri o)) s = .next (after Op.cmpiRI i o.pack l s
        (fun e c => putFlags e (differenceOf (operand e c o.ra) (immediate e (.ri o)) 0).2 c) past)) ∧
    (∀ o : OpsRI32, Ready Op.cmpi32 i o.pack l s →
      exec (.cmpi i (.ri32 o)) s = .next (after Op.cmpi32 i o.pack l s
        (fun e c => putFlags e (differenceOf (operand e c o.ra) (immediate e (.ri32 o)) 0).2 c) past))

/-- The bitwise instructions and the one-operand instructions complete with their results and flags. -/
def Obligations.LogicAndUnaryResults : Prop := Slice0.LogicResults ∧ Slice0.UnaryResults

/-- R133: SHL, SHR, SAR, ROR by rb and SHLI, SHRI, SARI, RORI by imm6 complete with the shifted operand; C is the last bit
shifted out, for a rotate the top bit of the result, and 0 for a count of zero; V is 0. -/
def Obligations.ShiftResults : Prop :=
  ∀ (s : State) (i : Ins) (l : Nat),
    (∀ o : OpsRRR,
      (Ready Op.shl i o.pack l s →
        exec (.shl i o) s = .next (after Op.shl i o.pack l s (fun e c =>
          let a := operand e c o.ra; let n := countOf e c o.rb
          putResult e o.rd (shiftOf n (a <<< n) (a.getLsbD (e.width - n))) c) past)) ∧
      (Ready Op.shr i o.pack l s →
        exec (.shr i o) s = .next (after Op.shr i o.pack l s (fun e c =>
          let a := operand e c o.ra; let n := countOf e c o.rb
          putResult e o.rd (shiftOf n (a >>> n) (a.getLsbD (n - 1))) c) past)) ∧
      (Ready Op.sar i o.pack l s →
        exec (.sar i o) s = .next (after Op.sar i o.pack l s (fun e c =>
          let a := operand e c o.ra; let n := countOf e c o.rb
          putResult e o.rd (shiftOf n (a.sshiftRight n) (a.getLsbD (n - 1))) c) past)) ∧
      (Ready Op.ror i o.pack l s →
        exec (.ror i o) s = .next (after Op.ror i o.pack l s (fun e c =>
          let a := operand e c o.ra; let n := countOf e c o.rb
          putResult e o.rd (shiftOf n (a.rotateRight n) (a.rotateRight n).msb) c) past))) ∧
    (∀ o : OpsRR,
      (Ready Op.shli i o.pack l s →
        exec (.shli i o) s = .next (after Op.shli i o.pack l s (fun e c =>
          let a := operand e c o.ra; let n := o.imm6.toNat
          putResult e o.rd (shiftOf n (a <<< n) (a.getLsbD (e.width - n))) c) past)) ∧
      (Ready Op.shri i o.pack l s →
        exec (.shri i o) s = .next (after Op.shri i o.pack l s (fun e c =>
          let a := operand e c o.ra; let n := o.imm6.toNat
          putResult e o.rd (shiftOf n (a >>> n) (a.getLsbD (n - 1))) c) past)) ∧
      (Ready Op.sari i o.pack l s →
        exec (.sari i o) s = .next (after Op.sari i o.pack l s (fun e c =>
          let a := operand e c o.ra; let n := o.imm6.toNat
          putResult e o.rd (shiftOf n (a.sshiftRight n) (a.getLsbD (n - 1))) c) past)) ∧
      (Ready Op.rori i o.pack l s →
        exec (.rori i o) s = .next (after Op.rori i o.pack l s (fun e c =>
          let a := operand e c o.ra; let n := o.imm6.toNat
          putResult e o.rd (shiftOf n (a.rotateRight n) (a.rotateRight n).msb) c) past)))

/-- The multiplications and the steps of a division issue or complete with their results, flags and DSS. -/
def Obligations.MultiplyAndDivide : Prop := Slice0.MultiplyResults ∧ Slice0.DivisionStep ∧ Slice0.DivisionEnd

/-- The decimal instructions issue with their results, whose digit nibbles have their value; on an invalid nibble (R139) with
DECIMAL_DATA pending, which is taken before the next instruction (R91). -/
def Obligations.DecimalInstructions : Prop := Slice0.DecimalResults ∧ Slice0.DecimalDigits ∧ Slice0.DecimalTraps

/-- The branches go where their operands say; the window calls and returns move the window with them. -/
def Obligations.BranchesAndWindows : Prop := Slice0.BranchResults ∧ Slice0.WindowCalls

/-- R79, R80, R81: at the guard window CALLW takes WINDOW_OVERFLOW, with TRAP_SW holding WG moved on and the live WP on the guard
window; RETW takes WINDOW_UNDERFLOW, with TRAP_SW holding WG moved back and the live WP on the old guard window. In a window handler
each of them takes WINDOW_GUARD instead: the level is frozen, and the next more urgent level, where its TA is clear, is entered; at
level 0 the core stops (R75). -/
def Obligations.WindowTraps : Prop :=
  ∀ (s : State) (i : Ins) (l : Nat),
    (∀ o : OpsJ, Ready Op.callw i o.pack l s →
      let w := ((found Op.callw i o.pack l s).level l).sw
      swTa w = false → (swWp w + 1) % 10 = swWg w →
      exec (.callw i o) s = .next (afterTrap Op.callw i o.pack l s (trapOf (envOf Op.callw i o.pack l s) 0x06 0 0)
        (fun v => swSetWg v ((swWg w + 1) % 10)) (fun v => swSetWp v ((swWg w + 1) % 10)))) ∧
    (∀ o : OpsR, Ready Op.callwr i o.pack l s →
      let w := ((found Op.callwr i o.pack l s).level l).sw
      swTa w = false → (swWp w + 1) % 10 = swWg w →
      exec (.callwr i o) s = .next (afterTrap Op.callwr i o.pack l s (trapOf (envOf Op.callwr i o.pack l s) 0x06 0 0)
        (fun v => swSetWg v ((swWg w + 1) % 10)) (fun v => swSetWp v ((swWg w + 1) % 10)))) ∧
    (Ready Op.retw i 0 l s →
      let w := ((found Op.retw i 0 l s).level l).sw
      swTa w = false → (swWp w + 9) % 10 = swWg w →
      exec (.retw i) s = .next (afterTrap Op.retw i 0 l s (trapOf (envOf Op.retw i 0 l s) 0x07 0 0)
        (fun v => swSetWg v ((swWg w + 9) % 10)) (fun v => swSetWp v (swWg w)))) ∧
    (∀ (oj : OpsJ) (or_ : OpsR),
      ∀ x ∈ [(Instr.callw i oj, Op.callw, oj.pack), (.callwr i or_, Op.callwr, or_.pack), (.retw i, Op.retw, 0)],
        Ready x.2.1 i x.2.2 l s →
        let c := found x.2.1 i x.2.2 l s
        swTa (c.level l).sw = true → (fld (c.level l).trapCause 0 8 = 6 ∨ fld (c.level l).trapCause 0 8 = 7) →
        (∀ m, l = m + 1 → swTa (c.level m).sw = false →
          exec x.1 s = .next (acked i s ((issued x.2.1 i x.2.2 l s).setCore i.core (afterEntry c
            (nested m 0x20 { code := 0x20, imp := false, addr := 0, iaddr := (envOf x.2.1 i x.2.2 l s).ia, detail := 0 } c))))) ∧
        (l = 0 → exec x.1 s = .next (acked i s ((machineStops (issued x.2.1 i x.2.2 l s) i.core
          { frozenAtZero c with priv := c.priv.emptyLoop, due := true }).modCore i.core
          (fun d => { d with issuedAt := none, stalls := false, given := [] })))))

/-- R157, R70, R102: with TA clear SVC and BKPT take their traps, DETAIL their operand; bytes that do not decode, and can be fetched as
far as the decoder reads them, take ILLEGAL_INSTRUCTION or PRIVILEGED; a first byte that does not translate takes FETCH_TRANSLATION with its address. -/
def Obligations.PreciseTraps : Prop :=
  ∀ (s : State) (l : Nat),
    (∀ (i : Ins) (o : OpsU8), Ready Op.svc i o.pack l s → swTa ((found Op.svc i o.pack l s).level l).sw = false →
      exec (.svc i o) s = .next (afterTrap Op.svc i o.pack l s
        (trapOf (envOf Op.svc i o.pack l s) 0x0E o.imm8.toNat 0) id id)) ∧
    (∀ (i : Ins) (o : OpsU8), Ready Op.bkpt i o.pack l s → swTa ((found Op.bkpt i o.pack l s).level l).sw = false →
      exec (.bkpt i o) s = .next (afterTrap Op.bkpt i o.pack l s
        (trapOf (envOf Op.bkpt i o.pack l s) 0x0D o.imm8.toNat 0) id id)) ∧
    (∀ (lc : Nat) (bytes : List (BitVec 8)) (d : DecodeTrap) (t : State) (lines : List Nat), Fetches lc l s →
      (s.boundary lc).1.fetched lc l (rawRead bytes) [] = (t, lines, .ok) →
      rawTrap bytes (swS (((s.boundary lc).1.core lc).level l).sw) = some d →
      let u := t.modCore lc (settledSw l)
      let v := (u.core lc).level l
      swTa v.sw = false → u.comesFirst lc l = none →
      exec (.illegalInstruction lc bytes) s = .next (u.setCore lc (trapped l
        { code := (match d with
            | .illegal _ => 0x01
            | .privileged => 0x02), imp := false, addr := 0, iaddr := v.pc
          detail := (match d with
            | .illegal n => n
            | .privileged => 0) } v.pc id id (u.core lc)))) ∧
    (∀ (lc : Nat) (bytes : List (BitVec 8)), Fetches lc l s → rawDecode 16 [] 0 bytes = .short →
      let u := (s.boundary lc).1
      (∀ (t : State) (lines : List Nat) (va d : Nat), u.fetched lc l (bytes.length + 1) [] = (t, lines, .refused va d) →
        let w := t.modCore lc (settledSw l)
        let v := (w.core lc).level l
        swTa v.sw = false → w.comesFirst lc l = none →
        exec (.fetchTranslation ⟨lc, bytes⟩) s = .next (w.setCore lc (trapped l
          { code := 0x03, imp := false, addr := BitVec.ofNat 64 va, iaddr := v.pc, detail := d } v.pc id id (w.core lc)))) ∧
      (let w := u.modCore lc (settledSw l)
       let v := (w.core lc).level l
       swTa v.sw = false → w.comesFirst lc l = none → bitOf v.iroot 0 = false → (swS v.sw = false ∨ 2 ^ 52 ≤ v.pc.toNat) →
       exec (.fetchTranslation ⟨lc, bytes⟩) s = .next (w.setCore lc (trapped l
         { code := 0x03, imp := false, addr := v.pc, iaddr := v.pc, detail := 0 } v.pc id id (w.core lc)))))

/-- R73, R74: a trap at a level whose TA is set freezes the level and enters the next more urgent level, where its TA is
clear, as TRAP_NEST, with the level it came from and the code of the trap that could not be taken; each level's SW is first
that of program order (R128). One at level 0 stops the core, and a C3 fault of the core, MACHINE_CHECK, is logged (R75). -/
def Obligations.NestedTrap : Prop :=
  (∀ (c : Core) (m : Nat) (t : TrapInfo) (tpc : Word) (tsw live : Word → Word),
    swTa (c.level (m + 1)).sw = true → swTa (c.level m).sw = false →
    let d := c.trapWith (m + 1) t tpc tsw live
    let u := settledSw m ((settledSw (m + 1) c).modLevel (m + 1) (fun v => { v with run := .frozen }))
    (d.level (m + 1)).run = .frozen ∧
    d.level m = { u.level m with
      trapPc := (u.level m).pc
      trapSw := (u.level m).sw
      trapCause := causeWord t 0x21 ((u.level m).run == .inactive) (m + 1) t.code
      trapAddr := t.addr
      trapIaddr := t.iaddr
      trapBy := (u.level m).dssBy
      sw := swTrap (u.level m).sw
      dssBy := .none
      pc := (u.level m).vector + BitVec.ofNat 64 (0x40 * 0x21)
      run := .active } ∧
    ∀ j, j ≠ m → d.level j = u.level j) ∧
  ∀ (s : State) (i : Ins) (o : OpsU8),
    (Ready Op.svc i o.pack 0 s → swTa ((found Op.svc i o.pack 0 s).level 0).sw = true →
      exec (.svc i o) s = .next (acked i s (machineStops (issued Op.svc i o.pack 0 s) i.core
        (afterEntry (found Op.svc i o.pack 0 s) (frozenAtZero (found Op.svc i o.pack 0 s)))))) ∧
    (Ready Op.bkpt i o.pack 0 s → swTa ((found Op.bkpt i o.pack 0 s).level 0).sw = true →
      exec (.bkpt i o) s = .next (acked i s (machineStops (issued Op.bkpt i o.pack 0 s) i.core
        (afterEntry (found Op.bkpt i o.pack 0 s) (frozenAtZero (found Op.bkpt i o.pack 0 s))))))

/-- R61, R62, R63, R71, R91: with TA clear and no exception pending, RETL ends its level or restarts it with its oldest queued
event; WAIT stops it, or goes on with a queued event; with TA set RETT restores PC and the writable fields of SW, or, where the
trap came to an idle level, clears TA and ends it; XBAR and FBAR move on once the earlier operations of the level, or its
floating-point ones, have completed. -/
def Obligations.LevelControl : Prop :=
  ∀ (s : State) (i : Ins) (l : Nat),
    (Ready Op.retl i 0 l s →
      let c := serialized l (found Op.retl i 0 l s)
      swTa ((found Op.retl i 0 l s).level l).sw = false → firstOf l c = none →
      exec (.retl i) s = .next (afterFlow Op.retl i 0 l s (fun c => c.endLevel l) c)) ∧
    (Ready Op.wait i 0 l s →
      let e := envOf Op.wait i 0 l s
      let c := serialized l (found Op.wait i 0 l s)
      swTa ((found Op.wait i 0 l s).level l).sw = false → firstOf l c = none →
      exec (.wait i) s = .next (afterFlow Op.wait i 0 l s
        (fun c => (c.modLevel l (fun v => { v with sw := swSetMpc v.sw 0 })).beginWait l e.len) c)) ∧
    (Ready Op.rett i 0 l s →
      let c := found Op.rett i 0 l s
      swTa (c.level l).sw = true →
      (bitOf (c.level l).trapCause 9 = false →
        exec (.rett i) s = .next (afterFlow Op.rett i 0 l s (fun c => (settledSw l c).modLevel l (fun v => { v with
          pc := v.trapPc, sw := mergeWord v.sw v.trapSw 0x1FFF1FFF, dssBy := v.trapBy })) c)) ∧
      (bitOf (c.level l).trapCause 9 = true →
        let d := serialized l (c.modLevel l (fun v => { v with sw := swSetTa v.sw false }))
        firstOf l d = none → exec (.rett i) s = .next (afterFlow Op.rett i 0 l s (fun c => c.endLevel l) d))) ∧
    (Ready Op.xbar i 0 l s → firstOf l (serialized l (found Op.xbar i 0 l s)) = none →
      exec (.xbar i) s = .next (after Op.xbar i 0 l s (fun _ c => serialized l c) past)) ∧
    (Ready Op.fbar i 0 l s →
      let c := (found Op.fbar i 0 l s).completeWhere l (fun o => o.isFp)
      ((c.level l).ops.all (fun o => !(o.isFp && o.exc.isSome)) = true ∨ swTa (c.level l).sw = true) →
      exec (.fbar i) s = .next (after Op.fbar i 0 l s (fun _ c => c.completeWhere l (fun o => o.isFp)) past))

/-- R52, R54, R76, R86, R153, R158: MTS writes the writable fields of a system register of the named bank once the level's earlier
operations have completed and none of them leaves an exception: SW in problem state under its mask, and in supervisor state where
WP and WG are window positions that differ; the registers 1 to 8 under their masks; RESUME and DISMISS of LVL_STATE act on a
frozen level that is not the current one; a write of LVL_CTL that keeps FP_OWNER changes HOLD and FP_LAZY_TRAP and lets the levels
no longer held take their events; one that names another owner switches the file first. What else R52 and R86 refuse, and a write of
the SW of another bank, are not said here. The model's readings: RESUME acts where DISMISS is set too (log entry 56), and an exception
of an earlier operation is delivered before the write acts (log entry 127). -/
def Obligations.SystemRegisterWrites : Prop :=
  ∀ (s : State) (i : Ins) (l : Nat) (rd : BitVec 5) (n : Nat),
    let o := mtsOps rd n
    let e := envOf Op.mts i o.pack l s
    let d := serialized l (found Op.mts i o.pack l s)
    let w := register e d rd.toNat
    let with_ : (Core → Core) → State := fun f => (issued Op.mts i o.pack l s).setCore i.core (f d)
    Ready Op.mts i o.pack l s → firstOf l d = none →
    (n = 0 → e.bank = l → e.sup = false →
      exec (.mts i o) s = .next (after Op.mts i o.pack l s (fun _ _ => (settledSw l d).modLevel l
        (fun v => { v with sw := mergeWord v.sw w 0x1F6F, dssBy := .any })) past)) ∧
    (n = 0 → e.bank = l → e.sup = true → swWp w ≤ 9 → swWg w ≤ 9 → swWp w ≠ swWg w →
      exec (.mts i o) s = .next (after Op.mts i o.pack l s (fun _ _ => (settledSw l d).modLevel l
        (fun v => { v with sw := mergeWord v.sw w 0x1FFF1FFF, dssBy := .any })) past)) ∧
    (1 ≤ n → n ≤ 8 →
      exec (.mts i o) s = .next (after Op.mts i o.pack l s
        (fun _ _ => d.modLevel e.bank (fun v => v.writeSys n w)) past)) ∧
    (n = 9 → (d.level e.bank).run = .frozen → e.bank ≠ l →
      (bitOf w 32 = true →
        exec (.lvlResume i rd) s = .next (after Op.mts i o.pack l s
          (fun _ _ => d.modLevel e.bank (fun v => { v with run := .active })) past)) ∧
      (bitOf w 32 = false → bitOf w 33 = true →
        exec (.lvlDismiss i rd) s = .next (afterIn Op.mts i o.pack l s (with_ (fun c =>
          (c.modLevel e.bank (fun v => { v with run := .inactive, sw := swSetTa v.sw false })).unhold e.bank))))) ∧
    (n = 0x10 → fld w 8 4 ≤ 8 →
      (fld w 8 4 = d.fpOwner →
        exec (.fpOwnerWrite i rd) s = .next (afterIn Op.mts i o.pack l s (with_ (fun c => c.writeHold w)))) ∧
      ∀ t : State, fld w 8 4 ≠ d.fpOwner → (with_ id).fpSwitch e (fld w 8 4) = .ok t →
        exec (.fpOwnerWrite i rd) s = .next (afterIn Op.mts i o.pack l s (t.modCore i.core (fun c => c.writeHold w))))

/-- System and translation registers are read, translation registers written, TLB entries invalidated. -/
def Obligations.SystemReadsAndTlb : Prop := Slice0.SystemRegisterReads ∧ Slice0.TlbInvalidation

/-- R145, R116: a load whose bytes can be read completes with them; untranslated, it reads the bytes of memory. -/
def Obligations.LoadInstructions : Prop := Slice0.LoadResults ∧ Slice0.UntranslatedLoad

/-- R145, R212, R116: a store that is accepted completes with its register's low bytes; untranslated, it joins the store buffer and
changes no byte of memory before it drains. -/
def Obligations.StoreInstructions : Prop := Slice0.StoreResults ∧ Slice0.UntranslatedStore

/-- R88, R89, R147: with an empty mask LDM and STM only clear MPC; at a base that is not a multiple of 8 they take ALIGNMENT with
the base; an LDM whose loads, and an STM whose stores, are all accepted completes and clears MPC. The selected registers move in
ascending order, the i-th from or to the doubleword at base + 8 * i, and a base register that LDM loads is written last. -/
def Obligations.BlockTransfers : Prop :=
  ∀ (s t : State) (i : Ins) (l : Nat) (o : OpsM),
    (Ready Op.ldm i o.pack l s → o.mask = 0 →
      exec (.ldm i o none) s = .next (after Op.ldm i o.pack l s
        (fun _ c => c.modLevel l (fun v => { v with sw := swSetMpc v.sw 0 })) past)) ∧
    (Ready Op.stm i o.pack l s → o.mask = 0 →
      exec (.stm i o none) s = .next (after Op.stm i o.pack l s
        (fun _ c => c.modLevel l (fun v => { v with sw := swSetMpc v.sw 0 })) past)) ∧
    (∀ x ∈ [(Instr.ldm i o none, Op.ldm), (.stm i o none, Op.stm)], Ready x.2 i o.pack l s → o.mask ≠ 0 →
      let base := baseOf (envOf x.2 i o.pack l s) (found x.2 i o.pack l s) o.ra
      base.toNat % 8 ≠ 0 → swTa ((found x.2 i o.pack l s).level l).sw = false →
      exec x.1 s = .next (afterTrap x.2 i o.pack l s (trapOf (envOf x.2 i o.pack l s) 0x05 0 base) id id)) ∧
    (Ready Op.ldm i o.pack l s → o.mask ≠ 0 →
      let e := envOf Op.ldm i o.pack l s
      let c := found Op.ldm i o.pack l s
      let regs := (List.range 24).filter (fun n => o.mask.getLsbD n)
      let k := swMpc (c.level l).sw
      (baseOf e c o.ra).toNat % 8 = 0 →
      State.ldm regs o.ra.toNat (baseOf e c o.ra) e (regs.drop k) k none (issued Op.ldm i o.pack l s) = .done t →
      exec (.ldm i o none) s = .next (afterIn Op.ldm i o.pack l s (t.setMpc e 0))) ∧
    (Ready Op.stm i o.pack l s → o.mask ≠ 0 →
      let e := envOf Op.stm i o.pack l s
      let c := found Op.stm i o.pack l s
      let k := swMpc (c.level l).sw
      (baseOf e c o.ra).toNat % 8 = 0 →
      State.stm (baseOf e c o.ra) e (((List.range 24).filter (fun n => o.mask.getLsbD n)).drop k) k
        (issued Op.stm i o.pack l s) = .done t →
      exec (.stm i o none) s = .next (afterIn Op.stm i o.pack l s (t.setMpc e 0))) ∧
    (∀ (e : Env) (base : Word) (regs ns : List Nat) (ra n k : Nat) (held : Option Word) (u v : State) (bs : List Byte),
      (u.load e .ld (base + BitVec.ofNat 64 (8 * k)).toNat 8 = .bytes v bs →
        let w := BitVec.ofNat 64 (bytesToNat bs)
        State.ldm regs ra base e (n :: ns) k held u =
          if n = ra then State.ldm regs ra base e.clean ns (k + 1) (some w) v
          else State.ldm regs ra base e.clean ns (k + 1) held (v.modCore e.lc (putReg e n w))) ∧
      State.ldm regs ra base e [] k none u = .done u ∧
      (∀ w, State.ldm regs ra base e [] k (some w) u = .done (u.modCore e.lc (putReg e ra w))) ∧
      (u.store e (decide (0 < k)) (base + BitVec.ofNat 64 (8 * k)).toNat (wordBytes (register e (u.core e.lc) n)) = .done v →
        State.stm base e (n :: ns) k u = State.stm base e.clean ns (k + 1) v) ∧
      State.stm base e [] k u = .done u)

/-- R148, R242, R247, R490: CAS at an aligned address whose token has been compared and whose line is here with ownership: where the
value equals rd the low bytes of rb are written, but for a line of the ROM, which is refused whatever the value; rd and the comparison's Z are, at once on a core that is not checked, and in a
checked pair when it agrees on the old value; it is a retirement group of its own. -/
def Obligations.CompareAndSwap : Prop :=
  ∀ (s t0 t1 t2 t3 t4 t5 : State) (i : Ins) (l pa left : Nat) (o : OpsRRR),
    Ready Op.cas i o.pack l s →
    let e := envOf Op.cas i o.pack l s
    let n := if e.w32 then 4 else 8
    let a := baseOf e (found Op.cas i o.pack l s) o.ra
    let low : State → BitVec 5 → Nat := fun u r => (register e (u.core i.core) r.toNat).toNat % 2 ^ (8 * n)
    a.toNat % n = 0 → Drains Op.cas i o.pack l s t0 →
    t0.onePage e .cas a.toNat = (t1, .ok pa left) → t1.answered e = false →
    t1.compared i.core [] (.cas pa n (low t1 o.rd) (low t1 o.rb)) = (t2, true) →
    (t2.mcAccess (lineOf pa)).ownLines (.core i.core) [lineOf pa] = (t3, true) →
    (t3.dataMet e [(pa, n)]).readyRead (.core i.core) [lineOf pa] = (t4, .ok) →
    t4.readyWrite (.core i.core) false [lineOf pa] = (t5, true) →
    let old := bytesToNat (t5.coreBytes pa n)
    let same := decide (old = low t5 o.rd)
    let new := (wordBytes (register e (t5.core i.core) o.rb.toNat)).take n
    let u := if same then (t5.storeCheck e [lineOf pa]).storeBytes (.core i.core) pa new
      else if inRom pa then t5.romRefused (lineOf pa) else t5
    (u.isChecked i.core = false →
      exec (.cas i o) s = .next ((afterIn Op.cas i o.pack l s
        ((u.setNat e o.rd.toNat old).setFlags e (if same then 4 else 0))).groupEnd i.core)) ∧
    (u.isChecked i.core = true →
      let w : IoWait := { lvl := l, bank := e.bank, rd := o.rd.toNat, len := e.len, addr := pa, cas := some n }
      exec (.cas i o) s = .next ((acked i s (u.modCore i.core (fun c => { c with
        waitIo := some w, inbox := c.inbox ++ [.answer (BitVec.ofNat 64 old)], priv := c.priv.emptyLoop
        issuedAt := none, stalls := false, given := [] }))).groupEnd i.core) ∧
      ∀ c : Core, c.waitIo = some w → ((c.level e.bank).readR o.rd.toNat).toNat % 2 ^ (8 * n) = low t5 o.rd → l < 8 → e.bank < 8 → e.bank = l →
        let d := c.ioAnswer (BitVec.ofNat 64 old)
        (o.rd.toNat ≠ 0 → (d.level l).readR o.rd.toNat = BitVec.ofNat 64 old) ∧
        fld (d.level l).sw 0 4 = (if same then 4 else 0) ∧ d.waitIo = none ∧ d.count = c.count + 1 ∧
        (d.level l).pc = (c.level l).pc + BitVec.ofNat 64 e.len)

/-- The instructions that wait for everything earlier, and those on instruction space, complete with their effects. -/
def Obligations.DrainedAndInstructionSpace : Prop := Slice0.DrainedInstructions ∧ Slice0.InstructionLoad

/-- The hints and the line operations complete, with what they bring, drop or write back. -/
def Obligations.HintsAndLines : Prop := Slice0.Hints ∧ Slice0.LineOperations

/-- R163, R168, R172: FMOV, FNEG and FABS copy a value of their format, its sign kept, changed or cleared; FMVFG and FMVGF copy raw bits
between the files; FMFC reads FCW, and FMTC writes its RM and flags where RM is a rounding mode. -/
def Obligations.FloatMoves : Prop :=
  ∀ (s : State) (i : Ins) (l : Nat) (o : OpsRR),
    (Ready Op.fmov i o.pack l s →
      exec (.fmov i o) s = .next (after Op.fmov i o.pack l s (fun _ c =>
        let fmt := o.imm6.toNat % 4
        putFp fmt o.rd.toNat (c.readFp fmt o.ra.toNat) c) past)) ∧
    (Ready Op.fneg i o.pack l s →
      exec (.fneg i o) s = .next (after Op.fneg i o.pack l s (fun _ c =>
        let fmt := o.imm6.toNat % 4
        putFp fmt o.rd.toNat (Nat.xor (c.readFp fmt o.ra.toNat) (2 ^ ((fmtOf fmt).w - 1))) c) past)) ∧
    (Ready Op.fabs i o.pack l s →
      exec (.fabs i o) s = .next (after Op.fabs i o.pack l s (fun _ c =>
        let fmt := o.imm6.toNat % 4
        putFp fmt o.rd.toNat (c.readFp fmt o.ra.toNat % 2 ^ ((fmtOf fmt).w - 1)) c) past)) ∧
    (Ready Op.fmvfg i o.pack l s →
      exec (.fmvfg i o) s = .next (after Op.fmvfg i o.pack l s (fun e c => putReg e o.rd.toNat (c.readF o.ra.toNat) c) past)) ∧
    (Ready Op.fmvgf i o.pack l s →
      exec (.fmvgf i o) s = .next (after Op.fmvgf i o.pack l s
        (fun e c => c.writeDst (.f o.rd.toNat) (register e c o.ra.toNat)) past)) ∧
    (Ready Op.fmfc i o.pack l s →
      exec (.fmfc i o) s = .next (after Op.fmfc i o.pack l s (fun e c => putReg e o.rd.toNat c.arch.fcw c) past)) ∧
    (Ready Op.fmtc i o.pack l s →
      let w := register (envOf Op.fmtc i o.pack l s) (found Op.fmtc i o.pack l s) o.ra.toNat
      (fld w 8 3 ≤ 4 →
        exec (.fmtc i o) s = .next (after Op.fmtc i o.pack l s
          (fun _ c => { c with arch := { c.arch with fcw := w &&& 0x71F }, fcwIss := w &&& 0x71F }) past)) ∧
      (4 < fld w 8 3 → swTa ((found Op.fmtc i o.pack l s).level l).sw = false → ∃ d,
        exec (.fmtc i o) s = .next (afterTrap Op.fmtc i o.pack l s (trapOf (envOf Op.fmtc i o.pack l s) 0x01 d 0) id id)))

/-- R164 to R167, R175, R186 to R192: FADD, FSUB and FMUL issue with the rounded sum, difference and product of their operands;
FCMP and FCMPS with the integer flags of the comparison, and no register; FCVT, FRINT, FCVTFI and FCVTIF with the converted value;
on finite operands each is the exact result rounded once, with its flags. -/
def Obligations.FloatArithmetic : Prop := Slice0.RoundingIsExact ∧
  ∀ (s : State) (i : Ins) (l : Nat),
    (∀ o : OpsRRR,
      (Ready Op.fadd i o.pack l s →
        exec (.fadd i o) s = .next (after Op.fadd i o.pack l s (fun e c =>
          let fmt := o.scale.toNat
          issueResult e c fmt o.rd (fAdd (fmtOf fmt) (roundingOf c) (c.readFp fmt o.ra.toNat) (c.readFp fmt o.rb.toNat))) past)) ∧
      (Ready Op.fsub i o.pack l s →
        exec (.fsub i o) s = .next (after Op.fsub i o.pack l s (fun e c =>
          let fmt := o.scale.toNat
          issueResult e c fmt o.rd (fSub (fmtOf fmt) (roundingOf c) (c.readFp fmt o.ra.toNat) (c.readFp fmt o.rb.toNat))) past)) ∧
      (Ready Op.fmul i o.pack l s →
        exec (.fmul i o) s = .next (after Op.fmul i o.pack l s (fun e c =>
          let fmt := o.scale.toNat
          issueResult e c fmt o.rd (fMul (fmtOf fmt) (roundingOf c) (c.readFp fmt o.ra.toNat) (c.readFp fmt o.rb.toNat))) past)) ∧
      (Ready Op.fcmp i o.pack l s →
        exec (.fcmp i o) s = .next (after Op.fcmp i o.pack l s (fun e c =>
          let fmt := o.scale.toNat
          let r := fCompare (fmtOf fmt) false (c.readFp fmt o.ra.toNat) (c.readFp fmt o.rb.toNat)
          issueFpOp e c [] (some r.1) none r.2) past)) ∧
      (Ready Op.fcmps i o.pack l s →
        exec (.fcmps i o) s = .next (after Op.fcmps i o.pack l s (fun e c =>
          let fmt := o.scale.toNat
          let r := fCompare (fmtOf fmt) true (c.readFp fmt o.ra.toNat) (c.readFp fmt o.rb.toNat)
          issueFpOp e c [] (some r.1) none r.2) past))) ∧
    (∀ o : OpsRR,
      (Ready Op.fcvt i o.pack l s →
        exec (.fcvt i o) s = .next (after Op.fcvt i o.pack l s (fun e c =>
          let dst := o.imm6.toNat % 4; let src := o.imm6.toNat / 4 % 4
          issueResult e c dst o.rd (fConvert (fmtOf src) (fmtOf dst) (roundingOf c) (c.readFp src o.ra.toNat))) past)) ∧
      (Ready Op.frint i o.pack l s →
        exec (.frint i o) s = .next (after Op.frint i o.pack l s (fun e c =>
          let fmt := o.imm6.toNat % 4
          issueResult e c fmt o.rd (fRint (fmtOf fmt) (selectedOf c o.imm6) (c.readFp fmt o.ra.toNat))) past)) ∧
      (Ready Op.fcvtfi i o.pack l s →
        exec (.fcvtfi i o) s = .next (after Op.fcvtfi i o.pack l s (fun e c =>
          let fmt := o.imm6.toNat % 4
          let r := fToInt (fmtOf fmt) (o.imm6.getLsbD 5) (selectedOf c o.imm6) (c.readFp fmt o.ra.toNat)
          issueFpOp e c (writeOf e c o.rd.toNat (BitVec.ofNat 64 r.bits)) none none r.flags) past)) ∧
      (Ready Op.fcvtif i o.pack l s →
        exec (.fcvtif i o) s = .next (after Op.fcvtif i o.pack l s (fun e c =>
          let fmt := o.imm6.toNat % 4
          issueResult e c fmt o.rd (fFromInt (fmtOf fmt) (o.imm6.getLsbD 5) (selectedOf c o.imm6) (register e c o.ra.toNat).toNat)) past)))

/-- R177 to R182: FDSTART begins the division or square root of its operands in a group; FDSTEP takes one step of it, or with DSS
1 nothing; FDFIN, after exactly the steps of its format, issues with the rounded quotient or root, or with DSS 1 with the result
held, and DSS 0; both leave free values where the chain has another form. -/
def Obligations.FloatDivision : Prop :=
  ∀ (s : State) (i : Ins) (l : Nat),
    (∀ o : OpsRRR, Ready Op.fdstartDiv i o.pack l s →
      exec (.fdstartDiv i o) s = .next (after Op.fdstartDiv i o.pack l s (fun e c =>
        let fmt := o.scale.toNat
        startGroup e c fmt o.rd (fdStartDiv fmt o.rb.toNat (c.readFp fmt o.ra.toNat) (c.readFp fmt o.rb.toNat))) past)) ∧
    (∀ o : OpsRR,
      (Ready Op.fdstartSqrt i o.pack l s →
        exec (.fdstartSqrt i o) s = .next (after Op.fdstartSqrt i o.pack l s (fun e c =>
          let fmt := o.imm6.toNat % 4
          startGroup e c fmt o.rd (fdStartSqrt fmt (c.readFp fmt o.ra.toNat))) past)) ∧
      (Ready Op.fdstep i o.pack l s →
        let c := found Op.fdstep i o.pack l s
        let fmt := o.imm6.toNat % 4
        let n := (issued Op.fdstep i o.pack l s).free
        ((c.level l).dssBy.onGroup o.rd.toNat = true → swDss (c.level l).sw = true →
          exec (.fdstep i o) s = .next (after Op.fdstep i o.pack l s (fun e c => issueFpOp e c [] none none 0) past)) ∧
        ((c.level l).dssBy.onGroup o.rd.toNat = true → swDss (c.level l).sw = false →
          exec (.fdstep i o) s = .next (after Op.fdstep i o.pack l s (fun e c => issueFpOp e c (fdWrites o.rd.toNat
            (fdStepGroup (FdGroup.decode (groupOf c o.rd.toNat)) fmt o.ra.toNat).encode) none none 0) past)) ∧
        ((c.level l).dssBy.onGroup o.rd.toNat = false →
          exec (.fdstep i o) s = .next (afterIn Op.fdstep i o.pack l s (drawnFrom (issued Op.fdstep i o.pack l s) 4 i.core (fun c =>
            chained (envOf Op.fdstep i o.pack l s) .none (issueFpOp (envOf Op.fdstep i o.pack l s) c
              ((List.range 4).map (fun k => (.f (o.rd.toNat + k), Config.freeWord (n + k)))) none none 0)))))) ∧
      (Ready Op.fdfin i o.pack l s →
        let c := found Op.fdfin i o.pack l s
        let fmt := o.imm6.toNat % 4
        let x := groupOf c o.ra.toNat
        let g := FdGroup.decode x
        let n := (issued Op.fdfin i o.pack l s).free
        let mine := (c.level l).dssBy.onGroup o.ra.toNat
        let dss := swDss (c.level l).sw
        let whole := mine && !dss && !g.bad && g.fmt == fmt && g.k == fdSteps fmt
        let held := mine && dss && fdResult x == some fmt
        (whole = true →
          exec (.fdfin i o) s = .next (after Op.fdfin i o.pack l s (fun e c =>
            let r := g.finish (roundingOf c)
            chained e .none (issueFpOp e c (fpWrites fmt o.rd.toNat r.bits) none (some false) r.flags)) past)) ∧
        (held = true →
          exec (.fdfin i o) s = .next (after Op.fdfin i o.pack l s (fun e c =>
            chained e .none (issueFpOp e c (fpWrites fmt o.rd.toNat (x % 2 ^ (fmtOf fmt).w)) none (some false) 0)) past)) ∧
        (whole = false → held = false →
          let v := (Config.freeWord n).toNat + (Config.freeWord (n + 1)).toNat * 2 ^ 64
          exec (.fdfin i o) s = .next (afterIn Op.fdfin i o.pack l s (drawnFrom (issued Op.fdfin i o.pack l s) 3 i.core (fun c =>
            chained (envOf Op.fdfin i o.pack l s) .none (issueFpWith (envOf Op.fdfin i o.pack l s) c (fpWrites fmt o.rd.toNat v) none
              (some false) (fld (Config.freeWord (n + 2)) 0 3) none)))))))

/-- R176: FLDS and FLDD load 4 and 8 bytes, zero-extended, into a register; FLDQ 16 into an even register and the next; FSTS, FSTD and
FSTQ store the low 4, 8 or 16 bytes. -/
def Obligations.FloatLoadsStores : Prop :=
  ∀ (s t : State) (i : Ins) (l : Nat) (o : MemForm) (bs : List Byte),
    (Loads (opOf Op.fldsRI Op.flds32 o) i l o 4 s t bs →
      exec (.flds i o) s = .next (fpLoaded (opOf Op.fldsRI Op.flds32 o) i l o s t
        [((dataReg o).toNat, BitVec.ofNat 64 (bytesToNat bs))])) ∧
    (Loads (opOf Op.flddRI Op.fldd32 o) i l o 8 s t bs →
      exec (.fldd i o) s = .next (fpLoaded (opOf Op.flddRI Op.fldd32 o) i l o s t
        [((dataReg o).toNat, BitVec.ofNat 64 (bytesToNat bs))])) ∧
    (∀ (t1 t2 : State) (ps : List (Nat × Nat)) (hi : List Byte),
      let op := opOf Op.fldqRI Op.fldq32 o
      let e := envOf op i (blockOf o) l s
      Ready op i (blockOf o) l s →
      (issued op i (blockOf o) l s).pieces e .ld (addressOf e (found op i (blockOf o) l s) o) 16 = .ok t1 ps →
      (t1.dataMet e ps).loadPieces e false (splitPieces 8 ps).1 = .bytes t2 bs →
      t2.loadPieces e false (splitPieces 8 ps).2 = .bytes t hi →
      exec (.fldq i o) s = .next (fpLoaded op i l o s t
        [((dataReg o).toNat, BitVec.ofNat 64 (bytesToNat bs)), ((dataReg o).toNat + 1, BitVec.ofNat 64 (bytesToNat hi))])) ∧
    (Stores (opOf Op.fstsRI Op.fsts32 o) i l o s t (fpBytes (opOf Op.fstsRI Op.fsts32 o) i l o s 4) →
      exec (.fsts i o) s = .next (afterIn (opOf Op.fstsRI Op.fsts32 o) i (blockOf o) l s t)) ∧
    (Stores (opOf Op.fstdRI Op.fstd32 o) i l o s t (fpBytes (opOf Op.fstdRI Op.fstd32 o) i l o s 8) →
      exec (.fstd i o) s = .next (afterIn (opOf Op.fstdRI Op.fstd32 o) i (blockOf o) l s t)) ∧
    (Stores (opOf Op.fstqRI Op.fstq32 o) i l o s t (fpBytes (opOf Op.fstqRI Op.fstq32 o) i l o s 16) →
      exec (.fstq i o) s = .next (afterIn (opOf Op.fstqRI Op.fstq32 o) i (blockOf o) l s t))

/-- A step takes the command at the front of the queue; with none, time passes. -/
def Obligations.CommandQueue : Prop := Slice0.StepRunsFront ∧ Slice0.IdleStep

/-- No command touches the queue of commands that wait. -/
def Obligations.ExecKeepsQueue : Prop :=
  ∀ (c : Instr) (s t : State), exec c s = .next t → t.pending = s.pending

/-- Every command is answered with a next state, whatever the state: no command faults or is refused. -/
def Obligations.EveryStateIsSafe : Prop := ∀ s : State, Safe s

/-- Every step keeps memory and flash in canonical form and the device number within its 5 bits (R1). -/
def Obligations.StepKeepsInvariant : Prop := Kept Invariant

/-- The state after reset meets the invariant. -/
def Obligations.ResetInvariant : Prop := Invariant State.reset

/-- R51, R55, R276, R29: at reset every level is inactive with WP = 1 and WG = 0 in supervisor state, no level holds the
floating-point file, every position is OFF, and position n carries logical pair n, the spares none. -/
def Obligations.ResetValues : Prop :=
  State.reset.pending = [] ∧
  (∀ lc l, l < 8 → ((State.reset.core lc).level l).run = .inactive ∧ swS ((State.reset.core lc).level l).sw = true ∧
    swWp ((State.reset.core lc).level l).sw = 1 ∧ swWg ((State.reset.core lc).level l).sw = 0) ∧
  (∀ lc, (State.reset.core lc).fpOwner = 8) ∧
  (∀ q, (State.reset.pair q).st = .off) ∧
  (∀ q, q < 32 ∨ q = 38 → (State.reset.pair q).logical = some q) ∧
  (∀ q, 32 ≤ q → q < 38 → (State.reset.pair q).logical = none) ∧
  (State.reset.pair 39).logical = none

/-- A register reads what was last written to it, in its window and in the windows that overlap it; G0 reads zero (log entry 6). -/
def Obligations.Registers : Prop := Slice0.WindowOverlap ∧ Slice0.RegisterFile

/-- R3, R145: bytes written to memory are read back at their addresses, lowest first, and no other byte changes. -/
def Obligations.MemoryBytes : Prop :=
  ∀ (m : List Host.Cell) (a b : Nat) (bs : List Byte), cellsWf none m = true →
    cellGet (cellsWrite m a bs) b = (if a ≤ b ∧ b < a + bs.length then bs.getD (b - a) 0 else cellGet m b) ∧
    cellsWf none (cellsWrite m a bs) = true

/-- R4, R7, R42, R44: no two registers lie at one address: each register that exists is the one found at its block and offset; numbers
that the images of a core's registers leave out (R274) are none. -/
def Obligations.RegisterPlaces : Prop :=
  ∀ (r : RegName) (u k : Nat), u < (regPlace r).units → k < (regPlace r).count →
    (r = .CORE_IMAGE → k % 16 ≠ 0xA ∧ k % 16 ≠ 0xB ∧ k % 16 ≠ 0xF) →
    findReg (blockOfReg r u) (offsetOfReg r u k) = some (r, u, k)

/-- R11: what a write does to each field of a register of class L fields: an RW field takes the value, a W1C bit written as 1
clears, and no other field changes. -/
def Obligations.WrittenFields : Prop :=
  ∀ (r : RegName) (f : Field) (base w : Word), f ∈ regFields r → (regFields r).all (fun g => g.cls == .live) = true →
    fld (liveWrite r base w) f.lo f.width =
      (if f.access = .rw then fld w f.lo f.width
       else if f.access = .w1c then fld base f.lo f.width &&& ((2 ^ f.width - 1) ^^^ fld w f.lo f.width)
       else fld base f.lo f.width)

/-- R11, R15, R18, R20, R22: a REGISTER_WRITE that reaches a register of class L fields with no rule of its own writes its fields and
changes nothing else; of one with fields of class S or G, those are staged or held, are read back, and are not in force; one that
would change a class B field is logged (WRITE_BOOT_FIELD), leaves that field and acts on the others; an RC_READ clears the RC fields
of the register read, and changes nothing else. An access that no register takes is refused or held, and an in-force view is read
without effect and not written (R6, R7, R43, R45, R46). -/
def Obligations.RegisterAccess : Prop := Slice0.AccessesTurnedAway ∧
  ∀ (s : State) (who : Master) (r : RegName) (u k : Nat), Hears s who r u k →
    (r = .CORE_IMAGE → k % 16 ≠ 0xA ∧ k % 16 ≠ 0xB ∧ k % 16 ≠ 0xF) →
    (∀ (v : Word) (chks : List (Nat × CopyCheck)), plainReg r = true →
      exec (.registerWrite who (s.regAddr r u k) ⟨v, chks⟩) s = .next (s.setActing r u k (liveWrite r (s.acting r u k) v))) ∧
    (∀ (v : Word) (chks : List (Nat × CopyCheck)), ownRule.contains r = false →
      let boot := (regFields r).any (fun f => f.cls == .boot && fld v f.lo f.width != fld (s.acting r u k) f.lo f.width)
      let t := writtenOf s r u k v
      (boot = false → exec (.registerWrite who (s.regAddr r u k) ⟨v, chks⟩) s = .next t) ∧
      (boot = true → exec (.registerWrite who (s.regAddr r u k) ⟨v, chks⟩) s =
        .next (writtenOf (s.ioFault 0x005 (blockOfReg r u) (s.regAddr r u k)) r u k v)) ∧
      ∀ f ∈ regFields r,
        (f.cls = .boot → fld (t.acting r u k) f.lo f.width = fld (s.acting r u k) f.lo f.width) ∧
        (waitsForForce f = true → fld (t.readWord r u k) f.lo f.width = fld v f.lo f.width ∧
          fld (t.acting r u k) f.lo f.width = fld (s.acting r u k) f.lo f.width ∧
          fld (t.viewWord r u k) f.lo f.width = fld (s.viewWord r u k) f.lo f.width)) ∧
    (fieldBits r (fun f => f.access == .rc) ≠ 0 →
      exec (.rcRead who (s.regAddr r u k)) s = .next (s.setActing r u k
        (s.acting r u k &&& ~~~(BitVec.ofNat 64 (fieldBits r (fun f => f.access == .rc))))))

/-- R21, R23, R24, R25, R26, R45, R66, R235, R322, R365, R387, R465: a commit of a group that has been written captures its held values,
and one that has not does nothing; at a safe point staged values take force, those of CORE_PREF_CTL only of a split position whose
cores stand between instructions (a checked pair takes them at its agreement points), and so do, at their block's condition, the
values of the last of a group's waiting commits, which its block accepts; one that the block refuses there, by its condition on the
group, is reported and has no effect (that the test is made at the safe point is the model's choice, log entry 100; that any moment
is a safe point of CUE_MAP, log entry 185); a block's reset that ends lets the accesses held at the block act. -/
def Obligations.CommitsAndSafePoints : Prop :=
  ∀ (s : State),
    (∀ x ∈ [(0x02, RegName.PWR_COMMIT, 8), (0x10, .PCS_COMMIT, 8), (0x28, .TRS_COMMIT, 11), (0x30, .XCH_COMMIT, 14),
        (0x71, .INST_COMMIT, 11)],
      ∀ (who : Master) (g : Nat), Hears s who x.2.1 0 0 → g < 2 ^ x.2.2 →
        (s.io.dirty.contains (x.1, g) = true → exec (.commitWrite who x.1 g) s = .next (captured s x.1 g)) ∧
        (s.io.dirty.contains (x.1, g) = false → exec (.commitWrite who x.1 g) s = .next s)) ∧
    (∀ k : Nat, s.down = false → s.atSafePoint 0x04 = true → k < 4096 →
      exec (.safePointReached 0x04 false k) s = .next (s.takeStaged .CUE_MAP 0 k).refreshAbsent) ∧
    (∀ (blk k u i : Nat) (r : RegName), s.down = false → s.atSafePoint blk = true → (blk = 0x71 → s.visited k = false) →
      stagedAt blk k = some (r, u, i) → r ≠ .CUE_MAP → r ≠ .CORE_PREF_CTL →
      exec (.safePointReached blk false k) s = .next ((s.takeStaged r u i).settle)) ∧
    (∀ u : Nat, s.down = false → s.atSafePoint 0x70 = true → u < 80 →
      exec (.safePointReached 0x70 false u) s = .next (if (s.pair (u / 2)).st = .split ∧
        (∀ lc ∈ s.coresAt (u / 2), (s.core lc).issuedAt = none ∧ (s.core lc).waitIo = none) then s.takePref (u / 2) else s).settle) ∧
    (∀ (blk g : Nat) (cs : List Commit) (c : Commit), s.down = false → s.atSafePoint blk = true →
      s.io.captured.filter (fun d => d.blk == blk && d.group == g) = cs ++ [c] →
      (blk = 0x71 → CommitActs s s blk g cs c id) ∧
      (blk = 0x02 → CommitActs s s blk g cs c (fun t => { t with pwr := { t.pwr with
        credits := min t.pwr.credits (t.fget F.PWR_WAKE_BUDGET_CREDITS 0 0 * 128000) } })) ∧
      (blk = 0x10 → g = 1 → s.rng = none → s.mem.conv = none → cs = [] →
        let t : State := { s with io := { s.io with captured := s.io.captured.filter (fun d => !(d.blk == blk && d.group == g)) } }
        (fld (c.words.getD 1 0) 0 4 ≤ 8 →
          exec (.safePointReached blk true g) s = .next ((t.convertBegin (c.words.getD 0 0) (c.words.getD 1 0)).settle)) ∧
        (8 < fld (c.words.getD 1 0) 0 4 →
          exec (.safePointReached blk true g) s = .next ((t.logFault (t.fault blk 0 0x008 1 3 g)).settle))) ∧
      (∀ q, blk = 0x28 → g = q + 1 → s.trsIdle q = true → CommitActs s s blk g cs c (fun t => (t.setHead q 0).setTail q 0)) ∧
      (blk = 0x30 → g = 1 → CommitActs s s blk g cs c id) ∧
      (∀ r, blk = 0x30 → g = r + 2 → r < 4096 → CommitActs s (s.takeStaged .XCH_RQ_CTL 0 r) blk g cs c
        (fun t => (t.fset F.XCH_RQ_HEAD_HEAD 0 r 0).fset F.XCH_RQ_DOORBELL_TAIL 0 r 0)) ∧
      (∀ r, blk = 0x30 → g = r + 4098 → r < 4096 →
        let u := s.takeStaged .XCH_CQ_CTL 0 r
        u.cqReserved r = 0 → u.cqIssued r = [] → u.cqHead r = u.cqTail r → CommitActs s u blk g cs c id)) ∧
    (∀ (n : Nat) (x k : Word),
      (s.groupBad 0x71 (n + 1) [x, k] = true ↔ ∃ m ∈ s.listedOf .INST_CTL, m ≠ n ∧ s.fbit F.INST_CTL_PRESENT 0 m = true ∧
        (Shares (fld x 0 12) (fld x 16 13) (s.fget F.INST_XRANGE_BASE 0 m) (s.fget F.INST_XRANGE_COUNT 0 m) ∨
          Shares (fld k 0 12) (fld k 16 13) (s.fget F.INST_KEYS_BASE 0 m) (s.fget F.INST_KEYS_COUNT 0 m))) ∧
      (n < 1025 → (s.groupBad 0x28 (n + 1) [x, k] = true ↔ fld k 0 5 < 4 ∨ 16 < fld k 0 5)) ∧
      (n < 4096 → (s.groupBad 0x30 (n + 2) [x, k] = true ↔ fld k 0 5 < 4 ∨ 16 < fld k 0 5 ∨
        (fld x 12 40 ≠ 0 ∧ fld k 8 10 ≠ fld (s.acting .XCH_CQ_CTL 0 (fld k 20 12)) 32 10))) ∧
      (n < 4096 → (s.groupBad 0x30 (n + 4098) [x, k] = true ↔ fld k 0 5 < 4 ∨ 16 < fld k 0 5 ∨
        (fld x 12 40 ≠ 0 ∧ ∃ r ∈ s.listedOf .XCH_RQ_BASE, fld (s.acting .XCH_RQ_BASE 0 r) 12 40 ≠ 0 ∧
          fld (s.acting .XCH_RQ_CTL 0 r) 20 12 = n ∧ fld (s.acting .XCH_RQ_CTL 0 r) 8 10 ≠ fld k 32 10)))) ∧
    (∀ (b : Nat), s.down = false → s.inReset b = true → (s.endReset b).inReset b = false ∧
      exec (.blockResetEnd b) s = .next (((s.endReset b).releaseHeld b).settle))

/-- CUE_RAISE makes an event pending at the cue unit, EVENT_DELIVERY takes it to its core, and it enters, wakes or waits at its
level: both commands complete, in each of their forms. -/
def Obligations.Events : Prop := Slice0.EventAtLevel ∧ Slice0.CueEvents

/-- R427, R428, R431, R434, R438, R535: while BOOT_HOLD withholds notices, a fault message as its block sends it, of class C1 to
C3 whose pending bit is clear, outside every shadow, with forwarding off: it is counted, sets its pending bit, and becomes the
next record with its time; its notice is withheld; nothing else changes. -/
def Obligations.FaultMessageLogged : Prop :=
  ∀ (s : State) (blk unit kind cls akind addr : Nat),
    let m := s.fault blk unit kind cls akind addr
    s.down = false → wellSent blk unit kind cls akind addr = true → 1 ≤ cls → cls ≤ 3 → s.shadowed blk = false → (s.pendOf m).testBit cls = false →
    s.fbit F.FLT_CTL_BOOT_HOLD 0 0 = true → 5 ≤ s.fget F.FLT_CTL_FWD_MIN 0 0 → s.fbit F.FBS_STATUS_CALLER_NEEDED 0 0 = false →
    s.flt.next < 1024 → s.flt.fatal = false →
    ∃ t, exec (.faultMessage blk unit kind cls akind addr) s = .next t ∧
      t.flt.log = mapSet s.flt.log s.flt.next
        { msg := m, arrival := s.fget F.TOD_TIME_NS 0 0, seq := s.flt.next, base := cls, escalated := false, forwarded := false } ∧
      t.flt.next = s.flt.next + 1 ∧ t.pendOf m = s.pendOf m ||| 2 ^ cls ∧
      t.flt.withheld = s.flt.withheld ++ [(0xF00 + cls, s.flt.next)] ∧
      t.fget F.FLT_COUNT_COUNT 0 cls = satAdd F.FLT_COUNT_COUNT.width (s.fget F.FLT_COUNT_COUNT 0 cls) 1 ∧
      { t with flt := s.flt, io := s.io } = s ∧
      { t.flt with log := s.flt.log, next := s.flt.next, pend := s.flt.pend, corePend := s.flt.corePend, withheld := s.flt.withheld } = s.flt

/-- R436, R438, R439, R444: the commands of the collector complete. FLT_RESET_GO of a block that can be reset opens its shadow and
begins its reset; of one that cannot, it is refused and logged (`chks`: what CHECK finds of the entries that the reset of a group
reads, R337). SHADOW_CLOSE closes the shadow of a reset that has ended, and what
lasts of its conditions is reported again; FLT_PEND_ACK clears the pending bits whose causes are gone; BOOT_HOLD_CLEAR raises the
notices withheld; NO_CONTROLLER logs class C4 while CALLER_NEEDED is set and no member has written FLT_RESET, FLT_PEND or
FBS_STATUS, which each such write marks. -/
def Obligations.CollectorCommands : Prop :=
  ∀ (s : State),
    let written : State := { s with fbs := { s.fbs with answered := true } }
    (∀ (who : Master) (b : Nat) (chks : List (Nat × CopyCheck)), b < 128 → 7 < b → b ≠ 0x70 → blockKnown b = true →
      let v := s.copyChecks (fun x => inRange 0x60 8 b && s.isLive x) chks
      let written : State := { v with fbs := { v.fbs with answered := true } }
      s.down = false → Hears v who .FLT_RESET 0 0 → v.inReset b = false → v.powered b 0 = true →
      let t := ((written.fset F.FLT_RESET_STATUS_BLOCK 0 0 b).fset F.FLT_RESET_STATUS_BUSY 0 0 1).openReset b true
      exec (.fltResetGo who ⟨b, chks⟩) s = .next (t.resetClears b) ∧ t.inReset b = true ∧ t.flt.shadows.contains ⟨b, false⟩ = true ∧
        t.fbit F.FLT_RESET_STATUS_BUSY 0 0 = true) ∧
    (∀ (who : Master) (b : Nat) (chks : List (Nat × CopyCheck)), b < 128 →
      let v := s.copyChecks (fun x => inRange 0x60 8 b && s.isLive x) chks
      let written : State := { v with fbs := { v.fbs with answered := true } }
      s.down = false → Hears v who .FLT_RESET 0 0 → b ≤ 7 ∨ b = 0x70 ∨ blockKnown b = false ∨ v.inReset b = true ∨ v.powered b 0 = false →
      let t := (written.fset F.FLT_RESET_STATUS_BLOCK 0 0 b).fset F.FLT_RESET_STATUS_REFUSED 0 0 1
      exec (.fltResetGo who ⟨b, chks⟩) s = .next (t.logFault (t.fault 0x01 0 0x703 1 0 0))) ∧
    (∀ (b : Nat) (h : Shadow), s.down = false → s.flt.shadows.find? (fun x => x.blk == b && x.ended) = some h →
      let t : State := { s with flt := { s.flt with shadows := s.flt.shadows.erase h } }
      let u : State := { t with flt := { t.flt with conseq := t.flt.conseq.filter (fun m => t.shadowed m.blk) } }
      exec (.shadowClose b) s = .next ((t.flt.conseq.filter (fun m => !t.shadowed m.blk)).foldl (fun w m =>
        if w.persists m then w.logFault (w.fault m.blk m.unit m.kind m.cls m.akind m.addr) else w) u) ∧
      (s.flt.conseq = [] → exec (.shadowClose b) s = .next t)) ∧
    (∀ b : Nat, s.flt.shadows.find? (fun x => x.blk == b && x.ended) = none → exec (.shadowClose b) s = .next s) ∧
    (∀ (who : Master) (bits : Nat), Hears s who .FLT_PEND 0 0x70 → exec (.fltPendAck who false 0x70 bits) s = .next written) ∧
    (∀ (who : Master) (b bits : Nat), Hears s who .FLT_PEND 0 b → b ≠ 0x70 → bits < 32 →
      ∃ t, exec (.fltPendAck who false b bits) s = .next t ∧ { t with flt := { t.flt with pend := s.flt.pend } } = written ∧
        (∀ x, x ≠ b → mapGet 0 t.flt.pend x = mapGet 0 s.flt.pend x) ∧
        ∀ c, c < 5 → (mapGet 0 t.flt.pend b).testBit c =
          ((mapGet 0 s.flt.pend b).testBit c && (!bits.testBit c || s.stands b c))) ∧
    (∀ (who : Master) (q bits : Nat), Hears s who .FLT_CORE_PEND 0 q → bits < 32 →
      ∃ t, exec (.fltPendAck who true q bits) s = .next t ∧ { t with flt := { t.flt with corePend := s.flt.corePend } } = s ∧
        ∀ c, c < 5 → (mapGet 0 t.flt.corePend q).testBit c =
          ((mapGet 0 s.flt.corePend q).testBit c && (!bits.testBit c || s.pairStands q c))) ∧
    (∀ (who : Master), Hears s who .FLT_CTL 0 0 →
      let u := if s.fbit F.FLT_CTL_BOOT_HOLD 0 0 then
          s.flt.withheld.foldl (fun w e => w.raise e.1 e.2)
            (({ s with flt := { s.flt with withheld := [] } } : State).fset F.FLT_CTL_BOOT_HOLD 0 0 0)
        else s
      ∃ t, exec (.bootHoldClear who) s = .next t ∧ t.fbit F.FLT_CTL_BOOT_HOLD 0 0 = false ∧ { t with io := u.io } = u) ∧
    (s.down = false → s.fbit F.FBS_STATUS_CALLER_NEEDED 0 0 = true → s.fbs.answered = false →
      exec .noController s = .next (s.logFault (s.fault 0x01 0 0x7F1 4 0 0))) ∧
    (s.fbit F.FBS_STATUS_CALLER_NEEDED 0 0 = false ∨ s.fbs.answered = true → exec .noController s = .next s)

/-- The range commands RNG_FLUSH, RNG_FLUSH_INVAL, RNG_INVAL and RNG_ZERO are accepted and act on their lines by their operation; RANGE_DONE
goes on to the last line, and ends the command. -/
def Obligations.RangeEngine : Prop := Slice0.RangeCommands ∧ Slice0.LineActions

/-- R207, R227, R232, R234: a conversion completes once the private copies of the lines that it takes away have gone: it takes the
new window's values into force and clears CONVERTING; the scrub read of a line of its channel counts and logs a corrected error,
and poisons and logs one that cannot be corrected; a clean read changes nothing. -/
def Obligations.ConversionAndScrub : Prop :=
  ∀ (s : State),
    (∀ (base ways : Nat) (t : State), s.down = false → s.mem.conv = some (base, ways) → ways ≤ 8 →
      s.convReady (s.convLines (s.fget F.PCS_RES_BASE_BASE 0 0 * block16) (s.fget F.PCS_RES_WAYS_WAYS 0 0) base ways) = (t, true) →
      s.resConvert = t.convertNow base ways ∧
      exec .resConversionDone s = .next s.resConvert.settle ∧ s.resConvert.fbit F.PCS_RES_STATUS_CONVERTING 0 0 = false ∧
      s.resConvert.fbit F.PCS_RES_STATUS_DONE 0 0 = true ∧ s.resConvert.fget F.PCS_RES_WAYS_WAYS 0 0 = ways ∧
      s.resConvert.mem.conv = none) ∧
    (∀ (k line : Nat), s.down = false → k < 16 → s.fget F.MC_SCRUB_HOURS k 0 ≠ 0 → s.fbit F.MC_STATUS_TRAINED k 0 = true →
      s.homeOf (lineOf line) = .dev s.devnum → s.resident (lineOf line) = false →
      s.channelOf (lineOf line) = k ∨ (s.mirrored = true ∧ s.channelOf (lineOf line) = mirrorOf k) →
      exec (.scrubRead k line none) s = .next s ∧
      (let t := s.fcount F.MC_CE_COUNT_COUNT k 0 1
       exec (.scrubRead k line (some .mcCe)) s = .next (t.logFault (t.fault (0x40 + k) 0 0x300 0 1 (lineOf line)))) ∧
      (s.poolLine (lineOf line) = none → mapGet? s.mem.evict (lineOf line) = none →
        let t := (((s.setPoison (lineOf line) true).fcount F.MC_UE_COUNT_COUNT k 0 1).fset F.MC_ERR_ADDR_VALID k 0 1).fset
          F.MC_ERR_ADDR_LINE k 0 (lineOf line / 128)
        exec (.scrubRead k line (some .mcUe)) s = .next (t.logFault (t.fault (0x40 + k) 0 0x302 2 1 (lineOf line)))))

/-- R84, R87, R90, R91, R211, R212, R252: a switch of the floating-point file that goes through makes the current level its owner,
and one whose save fails stops the core; a long operation that completes writes its result and leaves only its pending exception;
at the boundary before its next instruction a deliverable exception is taken as an imprecise trap, the level to resume at its PC;
the oldest committed entry of a store buffer whose lines can be written leaves it for memory; the oldest closed group of a core
commits once it is ready, and where none is closed what the core has retired. The model's choices: what a GROUP_COMMIT commits (log
entry 24), what FP_SWITCH does of itself (log entry 106). -/
def Obligations.CoreSteps : Prop :=
  ∀ (s : State) (lc l : Nat), s.down = false →
    (s.canIssue lc = true → (s.core lc).current = some l → (s.core lc).fpOwner ≠ l →
      bitOf (s.core lc).arch.lvlCtl 12 = false → (s.core lc).fpBusy = false → (s.core lc).deliverable l = none →
      (∀ (t : State) (f : Bool), s.fpSwitch (mkEnv lc l (s.core lc) Op.nop [] { Met.none with save := f } [] 0) l = .ok t →
        exec (.fpSwitch ⟨lc, f⟩) s = .next t ∧ (t.core lc).fpOwner = l) ∧
      ((s.core lc).fpOwner < 8 → (s.core lc).arch.fpSaved = false →
        exec (.fpSwitch ⟨lc, true⟩) s = .next
          (((s.modCore lc (fun c => (c.completeAll (fun p => p.isFp)).fpMark false false)).machineCheck lc).modCore lc (fun c =>
            { c with issuedAt := none, stalls := false, given := [] })))) ∧
    (∀ (k : Nat) (op : LongOp), s.coreRuns lc = true → l < 8 → ((s.core lc).level l).ops[k]? = some op → op.done = false →
      exec (.longOpComplete lc l k) s = .next (s.setCore lc (((s.core lc).applyOp l op).modLevel l (fun v => { v with
        ops := v.ops.take k ++ (if op.exc.isSome then [{ op with done := true }] else []) ++ v.ops.drop (k + 1) })))) ∧
    (∀ x : TrapInfo, s.canIssue lc = true → (s.boundary lc).2 = true →
      let u := (s.boundary lc).1
      let c := u.core lc
      u.canIssue lc = true → c.current = some l → u.comesFirst lc l = some x →
      exec (.impreciseException lc) s = .next (u.setCore lc (trapped l { x with imp := true } (c.level l).pc id id
        ((serialized l c).modLevel l (fun v => { v with ops := v.ops.drop 1 }))))) ∧
    (∀ (e : SbEntry) (es : List SbEntry) (t : State), s.flt.fatal = false → (s.core lc).sb = e :: es → e.kept = true →
      let lines := linesOf e.addr e.bytes.length
      (lines.foldl State.mcAccess s).readyWrite (.core lc) false lines = (t, true) →
      let u := (t.modCore lc (fun c => { c with sb := es })).storeBytes (.core lc) e.addr e.bytes
      exec (.storeDrain lc) s = .next
        (if e.nt && (e.cold || s.coldLine lines) then lines.foldl State.toLru u else u)) ∧
    (s.coreRuns lc = true → (∀ q, s.posOf lc = some q → (s.pair q).need ≠ some causeSoftware) →
      ((s.core lc).groups = [] → s.canCommit lc = true → (s.core lc).acts = [] →
        exec (.groupCommit lc) s = .next (s.setCore lc { (s.core lc).commitArch with acts := [] }) ∧
        ((s.core lc).commitArch).ckpt = (s.core lc).arch) ∧
      (∀ (g : Group) (gs : List Group), (s.core lc).groups = g :: gs → s.groupReady lc g = true →
        (∀ a ∈ (s.core lc).acts, g.last ≤ a.1) →
        exec (.groupCommit lc) s = .next (s.setCore lc ((s.core lc).commitGroup g)) ∧
        ((s.core lc).commitGroup g).ckpt = g.arch.settled ∧ ((s.core lc).commitGroup g).base = g.last))

/-- R239, R240, R244 to R248, R250, R254, R255: an equal token leaves the comparator, and what it stands for is released; a first
miscompare, timeout or internal error of a checked pair returns its cores to their checkpoints, where they stand until the next tick (the
model's choice, log entry 53); a pair whose agreement point is
due, or that an input finds idle or waiting, agrees: its inputs and parity notices are applied, and a new interval begins. -/
def Obligations.ComparatorSteps : Prop :=
  ∀ (s : State) (q : Nat), s.down = false → q < 40 → (s.pair q).checks = true →
    (∀ (ck : CopyCheck) (t : Token) (ts : List Token), (s.pair q).fifo = t :: ts →
      let u := s.modPair q (fun p => ({ p with fifo := ts } : PairPos).refill)
      exec (.tokenCompare q .equal ck) s = .next (u.releaseToken q t) ∧
      (t.body.kind ∈ [5, 6, 9] → u.releaseToken q t = u)) ∧
    (FirstFailure s q →
      (∃ t, exec (.tokenCompare q .differs .fine) s = .next t ∧ Retried s t q) ∧
      ((s.pair q).fifo ≠ [] → ∃ t, exec (.tokenTimeout q .fine) s = .next t ∧ Retried s t q) ∧
      ∀ (partner : Nat) (sb : Bool), ∃ t, exec (.detectedInternalError q partner ⟨false, sb⟩ .fine) s = .next t ∧ Retried s t q) ∧
    (let c := s.core (s.pair q).logicalCore
     s.flt.fatal = false → (s.pair q).atSplit = false → s.agreeRoom q = true →
     (c.due = true ∨ (c.agreedSet ≠ [] ∧ (c.current = none ∨ c.waitIo.isSome = true ∨ c.stalls = true)) →
       exec (.agreementPoint q) s = .next (s.agree q) ∧
       (let d := (s.agree q).core (s.pair q).logicalCore
        d.due = false ∧ (c.agreedSet.any Input.isAnswer = false → d.retired = 0) ∧
        (c.logDue = false → c.keepsEvents = false → d.inbox = []) ∧ ((s.agree q).pair q).notices = [])))

/-- The commands of a pair position act where their rules accept them; a split pair's new core begins as its rule says. -/
def Obligations.PairCommandsAndSplit : Prop := Slice0.PairCommands ∧ Slice0.SplitCoreBegins

/-- R269, R271, R272: the fallback sequencer begins the service pair's cut-in, or calls the caller where no spare is free; its
watchdog calls the caller; a kick starts a period while the watchdog has not acted, and clearing CALLER_NEEDED, where its cause is
gone, starts one once it has. -/
def Obligations.FallbackSequencer : Prop :=
  ∀ (s : State) (who : Master),
    (∀ q : Nat, s.down = false → s.serviceNeeds = some q → s.fbs.gaveUp = false → (s.pair q).ckptBad = false →
      (∀ r, s.freeSpare q = some r → exec (.serviceCutin false) s = .next (s.cutinBegin q r)) ∧
      (s.freeSpare q = none → exec (.serviceCutin false) s = .next (s.callerNeeded 3 q))) ∧
    (s.down = false → s.fbs.timing = true →
      exec .fbsWatchdogExpiry s = .next (s.callerNeeded 2 ((s.posOf 76).getD 38)) ∧
      (s.callerNeeded 2 ((s.posOf 76).getD 38)).fbit F.FBS_STATUS_CALLER_NEEDED 0 0 = true ∧
      (s.callerNeeded 2 ((s.posOf 76).getD 38)).fbs =
        { s.fbs with timing := false, acted := true, answered := false }) ∧
    (Hears s who .FBS_KICK 0 0 → exec (.fbsKick who) s = .next { s with fbs := { s.fbs with
      timing := s.fget F.FBS_WDOG_PERIOD 0 0 != 0 && !s.fbs.acted } }) ∧
    (Hears s who .FBS_STATUS 0 0 → s.fbit F.FBS_STATUS_CALLER_NEEDED 0 0 = true → s.callerCause = false → s.inst.cmd = none →
      ∃ t, exec (.callerNeededClear who) s = .next t ∧ t.fbit F.FBS_STATUS_CALLER_NEEDED 0 0 = false ∧
        t.fbs = (if s.fbs.acted then { s.fbs with timing := s.fget F.FBS_WDOG_PERIOD 0 0 != 0, acted := false, answered := true }
          else { s.fbs with answered := true }) ∧
        { t with io := s.io, fbs := s.fbs } = s)

/-- The scheduler starts the head entry on a free engine; an engine's blocks are written whole; an internal error stops its job
for a rerun. -/
def Obligations.EngineCommands : Prop := Slice0.EngineJobs ∧ Slice0.EngineBlocks

/-- R327, R340: a pair that finds a request of its command's operation next, and accepts it, takes it from the ring: its entry is
POSTED, owned by the pair, with the instance's number and generation, the request's address and its completion ring. -/
def Obligations.RequestsAccepted : Prop :=
  ∀ (s u : State) (p ring n a cq stage : Nat) (offered : List Nat) (c : Sched) (b : List Byte) (w : Exch),
    ServesNext s p ring offered u n c (.accept a b cq w stage) → (u.entry (rqExch b)).state = stIdle →
    ∀ x ∈ [(Instr.read, opRead), (.write, opWrite), (.flush, opFlush), (.writeZeroes, opZeroes), (.dsm, opDsm), (.mgmt, opMgmt)],
      rqOp b = x.2 →
      ∃ t, exec (x.1 p offered .fine) s = .next t ∧ t.rqHead ring = (u.rqHead ring + 1) % 65536 ∧
        t.entry (rqExch b) = { Entry.idle with
          attempt := (u.entry (rqExch b)).attempt, state := stPosted, owner := p, gen := u.instGen (u.rqInst ring)
          inst := u.rqInst ring, req := a, cq := cq }

/-- R326, R332, R340, R345, R346, R351, R369: an exchange goes on: a doorbell posts entries; a path is chosen, or none is left; a
transform that is done lets a WRITE be submitted and ends a READ; data moves through a window; the last completion ends it; its
record becomes visible and is reported; records are consumed; an interrupt write raises its source. -/
def Obligations.ExchangeSteps : Prop :=
  ∀ (s : State),
    (∀ (who : Master) (r tail : Nat), Hears s who .XCH_RQ_DOORBELL 0 r → tail < 65536 →
      (tail + 65536 - s.rqHead r) % 65536 ≤ 2 ^ s.fget F.XCH_RQ_CTL_SIZE_LOG2 0 r →
      let t := s.fset F.XCH_RQ_DOORBELL_TAIL 0 r tail
      exec (.xchRqDoorbell who r tail) s = .next (if s.fbit F.XCH_RQ_CTL_ENABLE 0 r then t.endRest else t)) ∧
    (∀ (x : Nat) (cids : List Nat) (u : State), s.down = false → s.ownerRuns x = true → (s.entry x).state = stPosted → s.pwr.t0 = none →
      s.flt.fatal = false → (s.entry x).abort = false → (s.exch x).poison = false →
      s.pathsReady (s.entry x).inst (rqTarget (s.exch x).record) = (u, true) →
      (∀ k tried, u.choosePath x = some (k, tried) →
        u.cidsFree x { s.exch x with desc := u.pathDesc (rqTarget (s.exch x).record) k } = true →
        exec (.pathChoice x cids .fine) s = .next (s.byPair (s.entry x).owner (fun _ => u.startAttempt x k tried cids)).settle) ∧
      (u.choosePath x = none →
        exec (.pathChoice x cids .fine) s = .next (s.byPair (s.entry x).owner (fun _ => u.toStatus x xExhausted 0)).settle)) ∧
    (∀ (x out : Nat) (cids : List Nat), s.down = false → s.ownerRuns x = true → mapGet? s.trs.results x = some (stDone, out) →
      stStarted ≤ (s.entry x).state → (s.entry x).state < stStatus → (s.entry x).abort = false →
      let t := ({ s with trs := { s.trs with results := mapErase s.trs.results x } } : State).modExch x (fun w => { w with outLen := out })
      (∀ u : State, rqOp (t.exch x).record = opWrite → s.pwr.t0 = none → s.flt.fatal = false → t.cidsFree x (t.exch x) = true →
        t.pathsReady (s.entry x).inst (rqTarget (t.exch x).record) = (u, true) →
        exec (.exchangeTransformDone x ⟨cids, .fine⟩) s = .next (s.byPair (s.entry x).owner (fun _ => u.submit x cids))) ∧
      (rqOp (t.exch x).record ≠ opWrite →
        exec (.exchangeTransformDone x ⟨cids, .fine⟩) s = .next (s.byPair (s.entry x).owner (fun _ => t.toStatus x xSuccess 0)))) ∧
    (∀ (o : WindowOp) (t : State),
      let v := s.fecSeen o
      let x := windowExch o
      let off := nfld o.addr.toNat 0 28
      let inst := (v.entry x).inst
      s.down = false → o.chk = .fine → (o.rdma = true ∨ o.addr.toNat.testBit 63 = true) → v.windowCurrent o = true →
      windowMoves (v.exch x).record o.write = true →
      (o.write = true → o.data ≠ [] → off + o.data.length ≤ windowLen (v.exch x) →
        v.writeSpans inst (spans (v.windowMap (v.exch x)) off o.data.length) o.data = (t, true) →
        exec (.windowTransfer o) s = .next (s.byPairs (fun _ => t.dataMoved x o.data.length))) ∧
      (∀ bs, o.write = false → o.len ≠ 0 → off + o.len ≤ windowLen (v.exch x) →
        v.readSpans (0x31 + (v.entry x).owner) inst (spans (v.windowMap (v.exch x)) off o.len) = .bytes t bs →
        exec (.windowTransfer o) s = .next (s.byPairs (fun _ => (t.dataMoved x o.len).answer (.readData o.group o.port bs))))) ∧
    (∀ (x n : Nat) (t : State), ((t.dataMoved x n).entry x).state = stData ∧
      ((t.dataMoved x n).entry x).progress = ((t.exch x).moved + n) / 512 % 2 ^ 32 ∧
      ∀ y, y ≠ x → (t.dataMoved x n).entry y = t.entry y) ∧
    (∀ (target path cid status fixed bad : Nat) (data : List Byte) (a : Attempt) (t : State),
      let v := s.fecCompletion target path cid fixed bad
      s.down = false → s.attemptBy target path cid = some a →
      v.ownerRuns a.exch = true → a.open_ = [cid] → v.mgmtData a cid data = (t, true) → t.completionCurrent a = true →
      (t.exch a.exch).tstat = none → (t.entry a.exch).abort = false → (t.exch a.exch).poison = false →
      (status % 2 ^ 15 = 0 →
        let u := (t.dropAttempt a.exch a.number).modExch a.exch (fun w => { w with redrive := false })
        exec (.targetCompletion target path cid status ⟨data, .fine, fixed, bad⟩) s = .next (s.byPairs (fun _ =>
          if rqTransforms (t.exch a.exch).record && rqOp (t.exch a.exch).record == opRead then u.presentTransform a.exch
          else u.toStatus a.exch xSuccess 0))) ∧
      (status % 2 ^ 15 ≠ 0 →
        let u := ((t.modExch a.exch (fun w => { w with tstat := some (status % 2 ^ 15) })).dropAttempt a.exch a.number).modExch a.exch
          (fun w => { w with redrive := false })
        exec (.targetCompletion target path cid status ⟨data, .fine, fixed, bad⟩) s = .next
          (s.byPairs (fun _ => u.toStatus a.exch xTarget (status % 2 ^ 15))))) ∧
    (∀ (x : Nat) (u : State), s.down = false → s.ownerRuns x = true → (s.entry x).state = stStatus → (s.entry x).result ≠ xInDoubt →
      s.slotReady (s.entry x).cq (s.entry x).seq = (u, true) →
      exec (.completionRecordVisible ⟨x, .fine⟩) s = .next
        (s.byPair (s.entry x).owner (fun _ => (u.recordVisible x).reportRecord x)) ∧
      (((u.recordVisible x).reportRecord x).entry x).state = stReported) ∧
    (∀ (who : Master) (c v : Nat) (chks : List (Nat × CopyCheck)),
      let u := s.copyChecks (s.reportedIn c) chks
      s.down = false → Hears u who .XCH_CQ_HEAD 0 c → v < 2 ^ 32 → u.headOk c v = true →
      exec (.xchCqHead who c ⟨v, chks⟩) s = .next (u.consume c v).instGo) ∧
    (∀ (g port : Nat) (addr : BitVec 64) (data : List Byte), s.down = false → g < 4 → s.fget F.PCIE_MSI_ADDR g 0 ≠ 0 →
      addr.toNat = s.fget F.PCIE_MSI_ADDR g 0 * 2 ^ 12 → data.length = 4 → bytesToNat data % 64 < 60 →
      exec (.interruptWrite g port addr data) s = .next (s.raise (0xA00 + 64 * g + bytesToNat data % 64) (bytesToNat data)))

/-- R343, R347, R352, R355, R367 to R369: what fails beneath the exchanges. A path that fails leaves none of its attempts running as if
it had not; while its descriptor is awaited, the failure waits (the model's reading, log entry 197). A command that times out fails its path; an attempt that ends, and the
fence of a failed connection, free what they held. A pair out of service hands over to pairs in service: its entries; its rings, each
to the pair with the fewest, so that no pair that is given one has more than one ring more than any other; its queues. A table copy
that fails leaves the other, and is rebuilt. A link comes up, of a root port once PERST is released, and sets its state; one that goes
down logs, and fails the paths over it. A group that cannot continue stops. -/
def Obligations.PathsAndFailover : Prop :=
  ∀ (s : State), s.down = false →
    (∀ (t k : Nat) (cause : PathCause) (chks : List (Nat × CopyCheck)),
      let v := s.copyChecks (s.onPath t k) chks
      (∀ w : State, v.pathsReady 0 t = (w, true) →
        ((w.failDesc t k).state = 1 ∨ (w.failDesc t k).state = 3 →
          ∃ u, exec (.pathFailed t k ⟨cause, chks⟩) s = .next u ∧ ∀ a ∈ u.xch.attempts, a.target = t → a.path = k → a.failed = true) ∧
        ((w.failDesc t k).state ≠ 1 → (w.failDesc t k).state ≠ 3 →
          exec (.pathFailed t k ⟨cause, chks⟩) s = .next (s.byPairs (fun _ => w)))) ∧
      (∀ w : State, v.pathsReady 0 t = (w, false) →
        exec (.pathFailed t k ⟨cause, chks⟩) s = .next (s.byPairs (fun _ =>
          { w with xch := { w.xch with lostPaths := w.xch.lostPaths ++ [(t, k, cause)] } })))) ∧
    (∀ (x : Nat) (chk : CopyCheck) (a : Attempt), (s.copyCheck x chk).current x = some a → a.failed = false →
      exec (.commandTimeout ⟨x, chk⟩) s = .next (s.byPairs (fun _ => (s.copyCheck x chk).pathFail a.target a.path .timeout))) ∧
    (∀ (x number : Nat) (chk : CopyCheck) (a : Attempt),
      let v := s.copyCheck x chk
      v.xch.attempts.find? (fun a => a.exch == x && a.number == number) = some a → a.failed = true →
      exec (.attemptEnd ⟨x, chk⟩ number) s = .next (s.byPairs (fun _ => (v.dropAttempt x number).afterAttempt x)) ∧
      ∀ b ∈ (v.dropAttempt x number).xch.attempts, ¬ (b.exch = x ∧ b.number = number)) ∧
    (∀ (t k : Nat) (chks : List (Nat × CopyCheck)),
      let v := s.copyChecks (s.onPath t k) chks
      v.xch.fences.contains (t, k) = true →
      ∃ u, exec (.fenceExpiry t ⟨k, chks⟩) s = .next u ∧ u.xch.fences.contains (t, k) = false ∧
        ∀ a ∈ u.xch.attempts, a.target = t → a.path = k → a.failed = false) ∧
    (∀ (p : Nat) (chks : List (Nat × CopyCheck)), p < 8 →
      let v := s.copyChecks (fun x => s.isLive x && (s.entry x).owner == p) chks
      v.seqRuns p = false → (∃ q, q < 8 ∧ q ≠ p ∧ v.seqRuns q = true) →
      ∃ u, exec (.sequencerAdoption ⟨p, chks⟩) s = .next u ∧
        (∀ x ∈ v.liveEntries, (v.entry x).owner = p → (u.entry x).owner ≠ p ∧ v.seqRuns (u.entry x).owner = true) ∧
        (∀ r, r < 4096 →
          let a := u.fget F.XCH_RQ_CTL_PAIR 0 r
          (v.fget F.XCH_RQ_BASE_BASE 0 r ≠ 0 → v.fget F.XCH_RQ_CTL_PAIR 0 r = p →
            a ≠ p ∧ v.seqRuns a = true ∧ ∀ b, b ≠ p → v.seqRuns b = true → u.ringCount a ≤ u.ringCount b + 1) ∧
          (v.fget F.XCH_RQ_BASE_BASE 0 r = 0 ∨ v.fget F.XCH_RQ_CTL_PAIR 0 r ≠ p → a = v.fget F.XCH_RQ_CTL_PAIR 0 r)) ∧
        ∀ q ∈ u.xch.queues, q.owner ≠ p) ∧
    (∀ copy : Nat, copy < 2 → s.fbit (copyField copy) 0 0 = true → s.fbit F.XCH_STATUS_SINGLE 0 0 = false →
      let t := ((s.fset (copyField copy) 0 0 0).fset F.XCH_STATUS_SINGLE 0 0 1).setDom (126 + copy) domOff
      exec (.tableCopyFailure copy) s = .next ((t.logFault (t.fault 0x30 0 0x502 2 0 0)).wake (126 + copy) 0)) ∧
    (s.fbit F.XCH_STATUS_REBUILDING 0 0 = true → exec (.tableRebuildDone true) s = .next
      ((((s.fset F.XCH_STATUS_REBUILDING 0 0 0).fset F.XCH_STATUS_COPY_A_OK 0 0 1).fset F.XCH_STATUS_COPY_B_OK 0 0 1).fset
        F.XCH_STATUS_SINGLE 0 0 0)) ∧
    (∀ (g p fixed bad : Nat) (flit : Bool) (chks : List (Nat × CopyCheck)), g < 4 →
      let v := s.copyChecks s.isLive chks
      let link : LinkRun := ⟨p, chks, fixed, bad⟩
      v.powered (0x64 + g) 0 = true →
      (p < v.portsOf (g + 4) → v.fbit ⟨.PCIE_PERST, p, 1⟩ g 0 = false → v.fbit ⟨.PCIE_STATUS, p, 1⟩ g 0 = false →
        let t := (v.fset ⟨.PCIE_STATUS, p, 1⟩ g 0 1).fset ⟨.PCIE_STATUS, p + 4, 1⟩ g 0 (b2n (flit && v.fget F.PCIE_CFG_MAX_GEN g 0 == 6))
        exec (.linkChange (g + 4) link true flit) s = .next (s.byPairs (fun _ =>
          if t.fbit ⟨.PCIE_EVT, p, 1⟩ g 0 then t.raiseBlock (0xA00 + 60 + 64 * g + p) else t))) ∧
      (v.fbit ⟨.PCIE_PERST, p, 1⟩ g 0 = true → exec (.linkChange (g + 4) link true flit) s = .next (s.byPairs (fun _ => v))) ∧
      (p < 4 → v.fbit ⟨.PCIE_STATUS, p, 1⟩ g 0 = true →
        let t := (v.fset ⟨.PCIE_STATUS, p, 1⟩ g 0 0).fset ⟨.PCIE_STATUS, p + 4, 1⟩ g 0 0
        let u := if t.fbit ⟨.PCIE_EVT, p, 1⟩ g 0 then t.raiseBlock (0xA00 + 60 + 64 * g + p) else t
        exec (.linkChange (g + 4) link false flit) s = .next (s.byPairs (fun _ =>
          (u.logFault (u.fault (0x64 + g) p 0x520 1 0 0)).linkLost 1 g p)))) ∧
    (∀ (g p fixed bad : Nat) (flit : Bool) (chks : List (Nat × CopyCheck)), g < 4 →
      let v := (s.fecFound g fixed bad).copyChecks s.isLive chks
      let link : LinkRun := ⟨p, chks, fixed, bad⟩
      v.powered (0x60 + g) 0 = true →
      (p < v.portsOf g → v.fbit ⟨.ETH_STATUS, p, 1⟩ g 0 = false →
        let t := v.fset ⟨.ETH_STATUS, p, 1⟩ g 0 1
        exec (.linkChange g link true flit) s = .next (s.byPairs (fun _ =>
          if t.fbit ⟨.ETH_EVT, p, 1⟩ g 0 then t.raiseBlock (0xB00 + 64 * g + p) else t))) ∧
      (p < 8 → v.fbit ⟨.ETH_STATUS, p, 1⟩ g 0 = true →
        let t := v.fset ⟨.ETH_STATUS, p, 1⟩ g 0 0
        let u := if t.fbit ⟨.ETH_EVT, p, 1⟩ g 0 then t.raiseBlock (0xB00 + 64 * g + p) else t
        exec (.linkChange g link false flit) s = .next (s.byPairs (fun _ =>
          (u.logFault (u.fault (0x60 + g) p 0x520 1 0 0)).linkLost 2 g p)))) ∧
    (∀ (g : Nat) (chks : List (Nat × CopyCheck)), g < 8 →
      let v := s.copyChecks s.isLive chks
      v.flt.stopped.contains (0x60 + g) = false → v.powered (0x60 + g) 0 = true →
      let t : State := { v with flt := { v.flt with stopped := (0x60 + g) :: v.flt.stopped } }
      exec (.groupFatal ⟨g, chks⟩) s = .next ((t.groupDown g).logFault (t.fault (0x60 + g) 0 0x521 3 0 0)))

/-- R357, R359, R360, R361: when the drain of a supply failure ends, the entries are listed as in doubt, or saved in the save
area; a replay begins with its first record in the ring that its command names, and ends with DONE and the ring's source once its
last is written; CONSUME erases the image. The model's choices: the order of what is listed as in doubt and of its replay (log entry
71), the place and the records of that list, and the CRC of an OPEN image (log entry 136). -/
def Obligations.SaveAndReplay : Prop :=
  ∀ (s : State),
    (∀ (done : Nat) (chks : List (Nat × CopyCheck)),
      let v := s.copyChecks s.isLive chks
      s.down = false → v.pwr.t0 ≠ none → v.fbit F.XCH_STATUS_IMAGE 0 0 = false → v.pwr.safe = false →
      exec (.drainEnd ⟨done, chks⟩) s = .next (
        if v.fget F.XCH_CTL_SAVE_KIND 0 0 = 0 then
          (v.flashErase doubtBase doubtSize).flashProgram doubtBase
            (doubtHeader v.activeCount ++ (v.doubtOrder.take done).flatMap v.doubtRec)
        else if v.saveReached = true then
          let recs := (v.liveEntries.take done).flatMap v.saveRecord
          if v.liveEntries.length ≤ done then
            v.saveWrite (saveHeader 2 v.liveEntries.length v.devnum (natToBytes 4 (crc32c recs)) ++ recs)
          else
            v.draw.saveWrite (saveHeader 1 v.liveEntries.length v.devnum ((List.range 4).map (Config.freeByte v.free)) ++ recs)
        else v)) ∧
    (∀ (who : Master) (ring : Nat), Hears s who .XCH_REPLAY 0 0 → ring < 4096 → s.fbit F.XCH_STATUS_IMAGE 0 0 = true →
      ∃ t : State, { t with io := s.io } = s ∧ t.fget F.XCH_REPLAY_CQ 0 0 = ring ∧
        exec (.replayStart who ring) s = .next (State.replayOn ring (t.replayRecords.length + 1)
          { t with xch := { t.xch with replayAt := some 0 } })) ∧
    (∀ k : Nat, s.down = false → s.xch.replayAt = some k → s.replayRecords.length ≤ k →
      let t := ({ s with xch := { s.xch with replayAt := none } } : State).fset F.XCH_REPLAY_DONE 0 0 1
      exec .replayDone s = .next (t.raiseBlock (t.fget F.XCH_CQ_CTL_SOURCE 0 (s.fget F.XCH_REPLAY_CQ 0 0)))) ∧
    (∀ who : Master, Hears s who .XCH_REPLAY 0 0 → s.fbit F.XCH_STATUS_IMAGE 0 0 = true →
      ∃ t, exec (.replayConsume who) s = .next t ∧ t.fbit F.XCH_STATUS_IMAGE 0 0 = false ∧ t.xch.replayAt = none ∧
        t.fget F.XCH_REPLAY_COUNT_RECORDS 0 0 = 0 ∧
        (s.fget F.XCH_CTL_SAVE_KIND 0 0 = 0 → cellsWf none s.boot.flash = true → t.doubts = none) ∧
        (s.fget F.XCH_CTL_SAVE_KIND 0 0 ≠ 0 → s.saveHomed = false → t.saveImage = none))

/-- R373, R374, R375, R382, R386: INST_CMD, while none runs: CREATE with a valid parameter block and lists makes its grants,
commits the completion rings and, once they are in force, gives the instance the rest; MODIFY with valid parameters sets rates and
weights; REMOVE of a present instance resets and removes it (while CALLER_NEEDED is clear, R443). A write of INST_OP begins a
reset, or a removal, with a new generation, and when every unit has acknowledged a reset ends with RESET_DONE and its event.
`chks`: what CHECK finds of the entries that a command reads (R337). The model's choice: CREATE gives back first what is still granted
to its number (log entry 131). -/
def Obligations.InstanceCommands : Prop :=
  ∀ (s : State) (n : Nat), n < 1024 →
    (∀ (who : Master) (chks : List (Nat × CopyCheck)),
      let v := s.copyChecks (s.liveOf n) chks
      s.down = false → Hears v who .INST_CMD 0 0 → v.fbit F.INST_CMD_STATUS_BUSY 0 0 = false →
      v.fbit F.FBS_STATUS_CALLER_NEEDED 0 0 = false → v.fbit F.INST_CTL_PRESENT 0 n = true →
      exec (.instCmdRemove who ⟨n, chks⟩) s = .next ((instAccepted v 2 n).instRemove n)) ∧
    (∀ who : Master, Hears s who .INST_CMD 0 0 → s.fbit F.INST_CMD_STATUS_BUSY 0 0 = false →
      s.fbit F.FBS_STATUS_CALLER_NEEDED 0 0 = false →
      (∀ (u : State) (b : List Byte), s.fbit F.INST_CTL_PRESENT 0 n = true →
        (instAccepted s 3 n).fwRead (s.fget F.INST_CMD_ADDR_ADDR 0 0 * 128) 128 = (u, some b, true) →
        dn b 10 1 ≠ 0 → dn b 11 1 ≠ 0 → inRange 1 (2 ^ 31 - 1) (dn b 20 4) = true → inRange 1 (2 ^ 31 - 1) (dn b 28 4) = true →
        exec (.modify who n) s = .next
          (((((u.burstBytes n (BitVec.ofNat 64 (dn b 16 4 + dn b 20 4 * 2 ^ 32))).burstExch n
            (BitVec.ofNat 64 (dn b 24 4 + dn b 28 4 * 2 ^ 32))).putWeight F.INST_CTL_ENGINE_WEIGHT n (dn b 10 1)).putWeight
            F.INST_CTL_SEQ_WEIGHT n (dn b 11 1)).instCmdEnd 0)) ∧
      (∀ (u v w : State) (b rqs cqs : List Byte) (g : Grant), s.fbit F.INST_CTL_PRESENT 0 n = false →
        (instAccepted s 1 n).fwRead (s.fget F.INST_CMD_ADDR_ADDR 0 0 * 128) 128 = (u, some b, true) → badParams b = false →
        u.fwRead (dn b 48 8) (16 * dn b 4 2) = (v, some rqs, true) → u.fwRead (dn b 56 8) (16 * dn b 6 2) = (w, some cqs, true) →
        (ringEntries (dn b 4 2) rqs).any (fun e => badRing e true (dn b 6 2)) = false →
        (ringEntries (dn b 6 2) cqs).any (fun e => badRing e false 0) = false →
        ({ u with inst := { u.inst with grants := mapErase u.inst.grants n } } : State).makeGrant b = (0, g) →
        let t := foldIdx (fun s i e => s.grantCq n g i e)
          ({ u with inst := { u.inst with grants := mapSet u.inst.grants n g, cmd := some ⟨1, n, true⟩, params := (b, rqs) } } : State)
          (ringEntries g.cq.2 cqs)
        exec (.create who n) s = .next (t.createOn n))) ∧
    (∀ (g : Grant) (u : State), mapGet? s.inst.grants n = some g → s.cqsInForce n g = true →
      s.readyWrite .dev true (linesOf (s.fget F.INST_CMD_ADDR_ADDR 0 0 * 128 + 64) 12) = (u, true) →
      s.createOn n = u.createFinish n g u.inst.params.1 u.inst.params.2) ∧
    (∀ (who : Master) (chks : List (Nat × CopyCheck)),
      let v := s.copyChecks (s.liveOf n) chks
      s.down = false → Hears v who .INST_OP 0 n → mapGet? v.inst.resets n = none →
      exec (.instReset who ⟨n, chks⟩) s = .next
        (({ v with inst := { v.inst with resets := mapSet v.inst.resets n false } } : State).newGeneration n) ∧
      exec (.instRemove who ⟨n, chks⟩) s = .next
        (({ v with inst := { v.inst with resets := mapSet v.inst.resets n true } } : State).newGeneration n)) ∧
    (∀ chks : List (Nat × CopyCheck),
      let v := s.copyChecks (s.liveOf n) chks
      s.down = false → mapGet? v.inst.resets n = some false → v.instAcked n = true → v.inst.removes.contains n = false →
      let t := (((v.dropUntaken n).fillBuckets n).fset F.INST_CTL_RESETTING 0 n 0).fset F.INST_CTL_RESET_DONE 0 n 1
      let u : State := { t with inst := { t.inst with resets := mapErase t.inst.resets n } }
      exec (.resetAcksComplete ⟨n, chks⟩) s = .next (u.raiseBlock (u.fget F.INST_CTL_SOURCE 0 n)).settle)

/-- The directory's commands complete: READ_SHARED, READ_OWN, UPGRADE and OWN_NO_DATA are answered, snoop other members, are
refused or wait, as the state of their line says; WRITEBACK, SNP_ACK and SNP_DATA, what owners and holders send back, are taken
in. -/
def Obligations.Directory : Prop := Slice0.DirectoryRequests ∧ Slice0.DirectoryWaits ∧ Slice0.DirectoryAnswers

/-- R207, R224, R228, R405, R407, R419: the commands of a requester and of a holder complete in every form. A line that was asked
for arrives, its bytes with DATA_SHARED and DATA_OWN, ownership with DATA_OWN and GRANT; RETRY asks again, promoted from the
sixteenth refusal on, and of a write-back sends that again; NO_HOME is noted for the access; WB_ACK ends a write-back, and a line
that has stayed here is asked for again; each does nothing where nothing was asked. At a holder a snoop's answer leaves once no
private copy of the line is left (log entry 144): SNP_INV drops the line and acknowledges, or brings modified data that the directory itself
recalls home (log entry 74), those of a write-back on its way included, SNP_SHARE shares the data with requester and home, SNP_OWN hands the line over, and where no copy is held any more
each is acknowledged so, by PROMOTED (log entry 73); RETRY tells a write-back from a request by its tag (log entry 143). These four are the
model's. -/
def Obligations.RequesterAndHolder : Prop :=
  ∀ (s : State) (k : Nat) (m : Msg), Arrives s k m →
    let line := lineOf m.addr
    (∀ a, mapGet? s.mem.asked line = some a → 1 ≤ a → a ≤ 4 →
      exec (.dataShared k m) s = .next (s.gotLine line 0x10 m.src (msgAs 0x10 m).data m.poison).settle ∧
      exec (.dataOwn k m) s = .next (s.gotLine line 0x11 m.src (msgAs 0x11 m).data m.poison).settle ∧
      exec (.grant k m) s = .next (s.gotLine line 0x12 m.src (msgAs 0x12 m).data m.poison).settle) ∧
    ((mapGet? s.mem.asked line).all (fun a => a == 0 || decide (4 < a)) = true →
      exec (.dataShared k m) s = .next s.settle ∧ exec (.dataOwn k m) s = .next s.settle ∧ exec (.grant k m) s = .next s.settle) ∧
    (∀ kind sender data po i, cellsWf none s.mem.cells = true → kind ≠ 0x12 → s.mem.wb.contains line = false → i < data.length → i < 128 →
      (s.gotLine line kind sender data po).byteAt (line + i) = data.getD i 0) ∧
    (m.tag ≠ Nat.xor (line / 128 % 2 ^ 16) 0x8000 →
      (∀ a d, mapGet? s.mem.asked line = some a → s.homeOf line = .dev d →
        let n := mapGet 0 s.dir.retries line + 1
        let u : State := { s with dir := { s.dir with retries := mapSet s.dir.retries line n } }
        let t := if n = 16 then u.fcount F.DIR_PROMOTED_COUNT 0 0 1 else u
        exec (.retry k m) s = .next (t.send { kind := a, src := t.devnum, mkind := 4, unit := sliceOf line
                                              inst := mapGet 0 s.mem.askInst line, dst := d
                                              poison := false, promoted := decide (16 ≤ n), tag := line / 128 % 2 ^ 16
                                              addr := line, data := [] }).settle) ∧
      (mapGet? s.mem.asked line = none → exec (.retry k m) s = .next s.settle)) ∧
    (m.tag = Nat.xor (line / 128 % 2 ^ 16) 0x8000 →
      (s.mem.wb.contains line = false → exec (.retry k m) s = .next s.settle) ∧
      (∀ d, s.mem.wb.contains line = true → s.homeOf line = .dev d →
        (mapGet? s.mem.asked line = none → (s.poolLine line).any (fun p => p.owned) = false →
          exec (.retry k m) s = .next ((s.countRetry line).1.sendWriteBack line d (decide (16 ≤ (s.countRetry line).2))).settle) ∧
        ((mapGet? s.mem.asked line).isSome = true ∨ (s.poolLine line).any (fun p => p.owned) = true →
          exec (.retry k m) s = .next (({ s with mem := { s.mem with
            wb := s.mem.wb.filter (fun x => x != line), evict := mapErase s.mem.evict line } } : State).markModified line).settle))) ∧
    ((mapGet? s.mem.asked line).isSome = true →
      exec (.noHome k m) s = .next ({ s with mem := { s.mem with asked := mapSet s.mem.asked line 0x14 } } : State).settle) ∧
    (mapGet? s.mem.asked line = none → exec (.noHome k m) s = .next s.settle) ∧
    (s.mem.wb.contains line = false → exec (.wbAck k m) s = .next s.settle) ∧
    (s.mem.wb.contains line = true →
      let t : State := { s with
        mem := { s.mem with wb := s.mem.wb.filter (fun x => x != line), evict := mapErase s.mem.evict line }
        dir := { s.dir with retries := mapErase s.dir.retries line } }
      (s.poolLine line = none → exec (.wbAck k m) s = .next t.settle) ∧
      (∀ p, s.poolLine line = some p → p.owned = true → exec (.wbAck k m) s = .next t.settle) ∧
      (∀ p d, s.poolLine line = some p → p.owned = false → t.homeOf line = .dev d →
        exec (.wbAck k m) s = .next (t.askLine .dev line 0x01 d).settle)) ∧
    (let v := s.takeBack line
     (v.poolLine line = none →
       let none_ : Msg → State := fun m =>
         if m.mkind = 5 ∧ v.mem.wb.contains line = true then v.toHome m 0x24 false (v.poisoned line) (v.lineBytes line)
         else v.toHome m 0x23 true false []
       exec (.snpInv k m) s = .next (none_ (msgAs 0x20 m)).settle ∧
       exec (.snpShare k m) s = .next (v.toHome (msgAs 0x21 m) 0x23 true false []).settle ∧
       exec (.snpOwn k m) s = .next (none_ (msgAs 0x22 m)).settle) ∧
     (∀ p, v.poolLine line = some p →
       (∀ u, v.invalAsk line none = (u, true) →
         exec (.snpInv k m) s = .next
           ((if (p.home.isSome = true ∨ u.mem.wb.contains line = true) ∧ m.mkind = 5 then
               u.toHome (msgAs 0x20 m) 0x24 false (u.poisoned line) (u.lineBytes line)
             else u.toHome (msgAs 0x20 m) 0x23 false false []).erasePool line).settle ∧
         exec (.snpOwn k m) s = .next
           (((u.toRequester (msgAs 0x22 m) 0x11).toHome (msgAs 0x22 m) 0x23 false false []).erasePool line).settle) ∧
       (∀ u, v.invalAsk line none = (u, false) →
         exec (.snpInv k m) s = .next
           ({ u with dir := { u.dir with snoops := u.dir.snoops ++ [msgAs 0x20 m] } } : State).settle ∧
         exec (.snpOwn k m) s = .next
           ({ u with dir := { u.dir with snoops := u.dir.snoops ++ [msgAs 0x22 m] } } : State).settle) ∧
       (let t := (v.toRequester (msgAs 0x21 m) 0x10).toHome (msgAs 0x21 m) 0x24 false (v.poisoned line) (v.lineBytes line)
        exec (.snpShare k m) s = .next
          ({ t with mem := { t.mem with pool := mapSet t.mem.pool line { p with home := none, owned := false } } } : State).settle)))

/-- R390, R392, R395 to R397, R399, R401, R515, R533: I/O over the links: a read and a write act on their block, and an IO_DATA or IO_ACK ends
the access that awaits it. A flit that fails its check is discarded with one NAK, and one that passes is acted on; a lane that
fails narrows its port; a port goes down; one that trains with its configured peer comes up, in rest in trickle, one that finds
another, or whose device's straps disagree, does not, and one whose SBB is low goes on training; RETRAIN trains again, after the
hand-over of R401 (log entry 79); an idle port enters trickle and returns to full width for a flit that waits. The model's choice: the
tag by which an answer finds who asked (log entry 21). -/
def Obligations.LinkEvents : Prop :=
  ∀ (s : State),
    (∀ (k : Nat) (m : Msg), Arrives s k m →
      exec (.ioRead k m) s = .next (s.ioAt (msgMaster m) m.addr none (.remote (msgAs 0x30 m))).settle ∧
      exec (.ioWrite k m) s = .next
        (s.ioAt (msgMaster m) m.addr (some (msgWord (msgAs 0x31 m))) (.remote (msgAs 0x31 m))).settle ∧
      (∀ x, m.tag ≠ 128 → (s.core m.tag).waitIn = some x → x.addr / 2 ^ 27 = m.src →
        (s.splitRuns m.tag = false → exec (.ioData k m) s = .next
          (s.modCore m.tag (fun c => { c with inbox := c.inbox ++ [.answer (msgWord (msgAs 0x32 m))] })).settle) ∧
        (s.splitRuns m.tag = true → exec (.ioData k m) s = .next
          ((s.modCore m.tag (fun c => (c.ioAnswer (msgWord (msgAs 0x32 m))).commitArch)).afterCommit m.tag).settle)) ∧
      (m.tag = 128 → s.bmp.status = 1 → s.bmp.addr / 2 ^ 27 = m.src →
        exec (.ioData k m) s = .next
          ({ s with bmp := { s.bmp with status := 0, value := msgWord (msgAs 0x32 m) } } : State).settle ∧
        exec (.ioAck k m) s = .next ({ s with bmp := { s.bmp with status := 0, value := 0 } } : State).settle)) ∧
    (∀ (k fec : Nat) (bs : List Byte), s.down = false → k < 10 → bs.length = 256 →
      s.fget F.SHB_STATUS_STATE k 0 = 2 ∨ s.fget F.SHB_STATUS_STATE k 0 = 3 →
      (dn bs 248 8 ≠ crc64 (bs.take 248) →
        let t := s.fcount F.SHB_ERR_FEC_CORRECTED k 0 fec
        exec (.flitReceive k bs fec false) s = .next ({ t.modPort k (fun p => { p with nak := true }) with
          outbox := t.outbox ++ [.flit k (flitBytes 5 0 0 (t.port k).last true none [])] } : State).settle) ∧
      (∀ (t : State) (ms : List Msg), s.flitIn k bs fec false = (t, ms) →
        exec (.flitReceive k bs fec false) s = .next (ms.foldl (fun s m =>
          if m.dst = s.devnum then s.received k m (State.actOn k m) else s.forward k m) t).settle)) ∧
    (∀ k lane : Nat, s.down = false → k < 10 → lane < 8 → s.fget F.SHB_STATUS_STATE k 0 ≠ 0 → s.fget F.SHB_STATUS_STATE k 0 ≠ 4 →
      (s.fget F.SHB_STATUS_LANES_GOOD k 0).testBit lane = true →
      let left := s.fget F.SHB_STATUS_LANES_GOOD k 0 - 2 ^ lane
      widthOf left ≠ 0 → widthOf left < s.fget F.SHB_STATUS_WIDTH k 0 →
      let u := ((s.fset F.SHB_STATUS_LANES_GOOD k 0 left).modPort k (fun p => { p with off := Nat.lor p.off (2 ^ lane) })).fset
        F.SHB_STATUS_WIDTH k 0 (widthOf left)
      let t := (if s.fget F.SHB_STATUS_STATE k 0 = 3 ∧ lane ≠ 0 then u else u.fset F.SHB_STATUS_STATE k 0 1).fcount F.SHB_ERR_DEGRADES k 0 1
      exec (.laneFault k lane) s = .next (t.logFault (t.fault (0x50 + k) 0 0x601 1 3 left)).settle) ∧
    (∀ k : Nat, s.down = false → k < 10 → s.fget F.SHB_STATUS_STATE k 0 ≠ 0 →
      let t := (((s.loseSource k).fset F.SHB_STATUS_STATE k 0 0).fset F.SHB_STATUS_WIDTH k 0 0).modPort k
        (fun p => { p with exiting := false, widening := false, again := false, part := [] })
      (s.fget F.SHB_STATUS_STATE k 0 = 4 ∨ (s.port k).widening = true → exec (.portDown k) s = .next t) ∧
      (s.fget F.SHB_STATUS_STATE k 0 ≠ 4 → (s.port k).widening = false →
        let u := t.logFault (t.fault (0x50 + k) 0 0x602 2 3 (t.peerOf k))
        exec (.portDown k) s = .next
          (((u.send (u.svcMsg (t.peerOf k) 8 ([BitVec.ofNat 8 k, 0] ++ natToBytes 2 (u.port k).last))).modPort k
            (fun p => { p with handing := true })).reroute []))) ∧
    (∀ (k peer peerPort delay credit : Nat) (lanes : Lanes), s.down = false → k < 10 → s.fbit F.SHB_CFG_ENABLE k 0 = true →
      s.powered (0x50 + k) 0 = true → s.fget F.SHB_STATUS_STATE k 0 = 0 ∨ s.fget F.SHB_STATUS_STATE k 0 = 1 →
      (lanes.sbb = false → ∃ t, exec (.portTrained k peer peerPort lanes delay credit) s = .next t ∧
        t.fget F.SHB_STATUS_STATE k 0 = 1 ∧ (t.port k).sbb = false) ∧
      (lanes.sbb = true →
        let asked := peer = s.peerOf k ∧ peerPort = s.fget F.SHB_CFG_PEER_PORT k 0 ∧ s.devnum / 8 = s.boardnum
        (asked → widthOf (s.lanesKept k lanes.good) ≠ 0 →
          ∃ t, exec (.portTrained k peer peerPort lanes delay credit) s = .next t ∧
            t.fget F.SHB_STATUS_STATE k 0 = (if s.restful then 3 else 2) ∧
            t.fget F.SHB_STATUS_WIDTH k 0 = widthOf (s.lanesKept k lanes.good)) ∧
        (¬ asked → ∃ t, exec (.portTrained k peer peerPort lanes delay credit) s = .next t ∧
          t.fget F.SHB_STATUS_STATE k 0 = 4 ∧ t.fget F.SHB_STATUS_WIDTH k 0 = 0))) ∧
    (∀ (who : Master) (k : Nat), Hears s who .SHB_CTL k 0 → s.fbit F.SHB_CFG_ENABLE k 0 = true → s.fget F.SHB_STATUS_STATE k 0 ≠ 1 →
      ∃ t, exec (.shbRetrain who k) s = .next t ∧ t.fget F.SHB_STATUS_STATE k 0 = 1 ∧ (t.port k).widening = true ∧
        (s.fget F.SHB_STATUS_STATE k 0 = 2 ∨ s.fget F.SHB_STATUS_STATE k 0 = 3 → (t.port k).handing = true) ∧
        (s.fget F.SHB_STATUS_STATE k 0 ≠ 2 → s.fget F.SHB_STATUS_STATE k 0 ≠ 3 → { t with io := s.io, shb := s.shb } = s)) ∧
    (∀ k : Nat, s.down = false → k < 10 →
      (s.fbit F.SHB_CTL_TRICKLE k 0 = true ∨ s.restful = true → s.fget F.SHB_STATUS_STATE k 0 = 2 → (s.port k).wait = [] →
        exec (.trickleIdleExpiry k) s = .next (s.fset F.SHB_STATUS_STATE k 0 3)) ∧
      (s.fget F.SHB_STATUS_STATE k 0 = 3 → (s.port k).exiting = true →
        let t := (s.fset F.SHB_STATUS_STATE k 0 2).modPort k (fun p => { p with exiting := false })
        exec (.trickleExitDone k) s = .next ((if (s.port k).again then t.replayFlits k else t).pump k)))

/-- R392, R401, R410 to R414, R417, R426, R433: the service messages JOIN, ADMIT, REFUSE, HEARTBEAT, TAKEOVER, SYNC, ALERT and
HANDOVER, and the FAULT message, complete in every form. JOIN: the caller admits a device whose digest is its own, and refuses
another; a member that is not the caller passes it on (the model's reading, log entry 138). ADMIT: a joining device, whether its sender is a member or not, is admitted
as worker or standby; a member takes the caller's mask. REFUSE ends a joining. HEARTBEAT is heard by a device that listens, gives
a member the caller's mask, and has a former caller step down. TAKEOVER of the named standby is accepted. SYNC sets or slews a
worker's time, of any port once the one followed has fallen silent (the model's reading, log entry 173). ALERT raises its source, and the standby takes over where the caller sends it. HANDOVER sends what the far end of a
port has not received by the new route, of the port that the sender's own faces (the model's reading, log entry 76). A forwarded FAULT record is logged. What a non-member sends beside the four admission
messages is discarded and logged. -/
def Obligations.ImageMessages : Prop :=
  ∀ (s : State) (k : Nat) (m : Msg), s.down = false → k < 10 → s.fbit F.SHB_CFG_ENABLE k 0 = true → m.dst = s.devnum → m.src ≠ s.devnum →
    let at_ : Nat → Msg := fun sub => msgAs 0x34 (svcAs sub m)
    (s.role = 3 → sub (at_ 1).data 16 48 = s.img.digest →
      let t := s.fset F.DEV_IMG_MEMBERS_MEMBERS 0 0 (s.members ||| 2 ^ m.src)
      let u : State := { t with lost := t.lost.filter (fun d => d != m.src) }
      exec (.join k m) s = .next (u.others.foldl (fun s d => s.send (s.maskMsg d 2)) u).settle) ∧
    (s.role = 3 → sub (at_ 1).data 16 48 ≠ s.img.digest →
      let t := (s.send (s.svcMsg m.src 3 [])).fset F.DEV_IMG_EVT_REFUSED 0 0 1
      exec (.join k m) s = .next (t.logFault (t.fault 0x00 0 0x609 3 3 m.src)).settle) ∧
    (s.role = 0 → exec (.join k m) s = .next s.settle) ∧
    (s.role = 1 ∨ s.role = 2 → exec (.join k m) s = .next (s.send { at_ 1 with dst := s.caller }).settle) ∧
    (s.role = 0 → maskBit (msgMask (at_ 2)) s.devnum = true →
      let t := ((s.setRole (if s.standbyName = some s.devnum then 2 else 1) m.src (msgEpoch (at_ 2))).fset
        F.DEV_IMG_EVT_ADMITTED 0 0 1).fset F.DEV_IMG_MEMBERS_MEMBERS 0 0 (msgMask (at_ 2))
      exec (.admitJoin k m) s = .next ({ t with
        lost := []
        img := { t.img with listening := false, joining := none, admitted := true }
        tod := { t.tod with fresh := true } } : State).settle) ∧
    (s.role = 0 → maskBit (msgMask (at_ 2)) s.devnum = false → exec (.admitJoin k m) s = .next s.settle) ∧
    (s.role ≠ 0 →
      (m.src = s.caller → msgEpoch (at_ 2) = s.epoch → exec (.admitJoin k m) s = .next (s.takeMask (msgMask (at_ 2))).settle) ∧
      (m.src ≠ s.caller ∨ msgEpoch (at_ 2) ≠ s.epoch → exec (.admitJoin k m) s = .next s.settle)) ∧
    (s.role = 0 → s.img.joining.isSome = true →
      let t := ({ s with img := { s.img with joining := none } } : State).fset F.DEV_IMG_EVT_REFUSED 0 0 1
      exec (.refuse k m) s = .next (t.logFault (t.fault 0x00 0 0x609 3 3 s.devnum)).settle) ∧
    (s.role ≠ 0 ∨ s.img.joining = none → exec (.refuse k m) s = .next s.settle) ∧
    (s.role = 0 →
      (s.img.listening = true →
        exec (.heartbeat k m) s = .next ({ s with img := { s.img with heard := some m.src } } : State).settle) ∧
      (s.img.listening = false → exec (.heartbeat k m) s = .next s.settle)) ∧
    (s.role = 1 ∨ s.role = 2 →
      (m.src = s.caller → msgEpoch (at_ 4) = s.epoch → exec (.heartbeat k m) s = .next (s.takeMask (msgMask (at_ 4))).settle) ∧
      (m.src ≠ s.caller ∨ msgEpoch (at_ 4) ≠ s.epoch → exec (.heartbeat k m) s = .next s.settle)) ∧
    (s.role = 3 →
      (s.epoch < msgEpoch (at_ 4) →
        exec (.heartbeat k m) s = .next (s.stepDown (s.standbyName.getD m.src) (msgEpoch (at_ 4))).settle) ∧
      (msgEpoch (at_ 4) ≤ s.epoch → exec (.heartbeat k m) s = .next s.settle)) ∧
    (s.isMember m.src = false →
      (∀ c ∈ [Instr.takeover k m, .sync k m, .alert k m, .handover k m],
        exec c s = .next (s.logFault (s.fault (0x50 + k) 0 0x604 1 3 (0x34 + m.src * 2 ^ 8))).settle) ∧
      exec (.fault k m) s = .next (s.logFault (s.fault (0x50 + k) 0 0x604 1 3 (0x38 + m.src * 2 ^ 8))).settle) ∧
    (s.isMember m.src = true →
    (s.role = 0 → exec (.takeover k m) s = .next s.settle) ∧
    (s.role ≠ 0 →
      (s.standbyName = some m.src → msgEpoch (at_ 5) = (s.epoch + 1) % 2 ^ 32 →
        exec (.takeover k m) s = .next
          (((s.stepDown m.src (msgEpoch (at_ 5))).fset F.DEV_IMG_EVT_TAKEOVER 0 0 1).takeMask (msgMask (at_ 5))).settle) ∧
      (s.standbyName ≠ some m.src ∨ msgEpoch (at_ 5) ≠ (s.epoch + 1) % 2 ^ 32 →
        (s.role = 3 → s.epoch < msgEpoch (at_ 5) →
          exec (.takeover k m) s = .next (s.stepDown m.src (msgEpoch (at_ 5))).settle) ∧
        (s.role ≠ 3 ∨ msgEpoch (at_ 5) ≤ s.epoch → exec (.takeover k m) s = .next s.settle))) ∧
    (s.role = 0 ∨ s.role = 3 → exec (.sync k m) s = .next s.settle) ∧
    (s.role = 1 ∨ s.role = 2 →
      let cur := s.fget F.TOD_STATUS_PORT 0 0
      let hops := dn (at_ 6).data 16 1
      let step := dn (at_ 6).data 17 1
      let time := (dn (at_ 6).data 8 8 + s.fget F.SHB_DELAY_DELAY k 0 / 16) % 2 ^ 64
      let nearer := cur = 15 ∨ cur = k ∨ hops < s.tod.hops ∨ (hops = s.tod.hops ∧ k < cur) ∨ s.tod.heard + 10000 < s.now
      (¬ nearer → exec (.sync k m) s = .next s.settle) ∧
      (nearer → ∃ t : State, exec (.sync k m) s = .next t.settle ∧ t.fbit F.TOD_STATUS_LOCKED 0 0 = true ∧
        t.fbit F.TOD_STATUS_HOLDOVER 0 0 = false ∧ t.fget F.TOD_STATUS_PORT 0 0 = k ∧ t.tod.hops = hops ∧ t.tod.heard = s.now ∧
        (s.tod.fresh = true ∨ step ≠ s.tod.step → t.time = time ∧ t.tod.fresh = false ∧ t.tod.step = step) ∧
        (s.tod.fresh = false → step = s.tod.step → t.time = s.time ∧ t.tod.slew = (time : Int) - (s.time : Int)))) ∧
    (let x := s.draw.notice 0xF30 ((Config.freeWord s.free).toNat % 2 ^ 32)
     let u := x.2.foldl (fun s e => s.raise e.1 e.2) x.1
     (m.src ≠ s.caller ∨ msgEpoch (at_ 7) ≠ s.epoch → exec (.alert k m) s = .next u.settle) ∧
     (m.src = s.caller → msgEpoch (at_ 7) = s.epoch → exec (.alert k m) s = .next u.takeOver.settle)) ∧
    (let port := (List.range 10).find? (fun j => s.fbit F.SHB_CFG_ENABLE j 0 && s.peerOf j == m.src
        && s.fget F.SHB_CFG_PEER_PORT j 0 == dn (at_ 8).data 8 1 % 16)
     (port = none → exec (.handover k m) s = .next s.settle) ∧
     (∀ n, port = some n →
       let v := if (s.port n).widening then s else s.portDown n
       ((v.port n).handing = false → exec (.handover k m) s = .next v.settle) ∧
       ((v.port n).handing = true → exec (.handover k m) s = .next
         ((v.modPort n (fun p => p.acked (nfld (dn (at_ 8).data 10 2) 0 12))).moveTraffic n (fun _ => true)).settle))) ∧
    (let f := faultOf (bytesToNat (msgAs 0x38 m).data)
     ∀ (t : State) (lost : Bool), s.addRecord f f.cls false true = (t, lost) →
       let x := t.notice (0xF10 + m.src) s.flt.next
       (lost = false → exec (.fault k m) s = .next (x.2.foldl (fun s e => s.raise e.1 e.2) x.1).settle) ∧
       (lost = true →
         let y := x.1.notice 0xF09 s.flt.next
         exec (.fault k m) s = .next ((x.2 ++ y.2).foldl (fun s e => s.raise e.1 e.2) y.1).settle)))

/-- R410, R412, R416, R417: the image's own events: listening ends with a JOIN, or as caller; a JOIN is repeated; heartbeats and
SYNC leave; a member whose heartbeats stay away is lost, the new mask going to the others as a HEARTBEAT (the model's reading, log
entry 68); a worker without SYNC holds over; TOD_SET and TOD_PPS set the caller's time, the edge to the nearest second (the model's
reading, log entry 69). -/
def Obligations.ImageEvents : Prop :=
  ∀ (s : State), s.down = false →
    (s.role = 0 → s.img.listening = true → s.fget F.CFG_START_STATUS_PHASE 0 0 ≠ 10 →
      let t : State := { s with img := { s.img with listening := false } }
      (∀ d, s.img.heard = some d → exec .listenExpiry s = .next (t.sendJoin d).settle) ∧
      (s.img.heard = none → s.fget F.DEV_IMG_CFG_CALLER 0 0 = s.devnum →
        let u := t.setRole 3 s.devnum 1
        exec .listenExpiry s = .next ({ u with img := { u.img with admitted := true } } : State).settle) ∧
      (s.img.heard = none → s.fget F.DEV_IMG_CFG_CALLER 0 0 ≠ s.devnum →
        exec .listenExpiry s = .next (t.sendJoin (s.fget F.DEV_IMG_CFG_CALLER 0 0)).settle)) ∧
    (∀ d, s.role = 0 → s.img.joining = some d → exec .joinRepeat s = .next (s.sendJoin d)) ∧
    (s.flt.fatal = false →
      (s.role = 3 → exec .heartbeatSend s = .next (s.others.foldl (fun s d => s.send (s.maskMsg d 4)) s)) ∧
      (s.role = 1 ∨ s.role = 2 → exec .heartbeatSend s = .next (s.send (s.maskMsg s.caller 4)))) ∧
    (∀ d, d < 32 → s.role = 3 → s.isMember d = true → d ≠ s.devnum →
      let v := if s.flt.fatal then s else s.probe d
      let t := (v.loseMember d).releasePorts d
      let u := t.logFault (t.fault 0x00 0 0x608 3 3 d)
      exec (.heartbeatTimeout ⟨d, true⟩) s = .next v.settle ∧
      (v.role = 3 → v.isMember d = true → d ≠ v.devnum →
        exec (.heartbeatTimeout ⟨d, false⟩) s = .next
          (if u.flt.fatal then u else u.others.foldl (fun s d => s.send (s.maskMsg d 4)) u).settle)) ∧
    (s.role = 3 → exec .syncSend s = .next
      (((List.range 10).filter (fun k => s.fget F.SHB_STATUS_STATE k 0 == 2 || s.fget F.SHB_STATUS_STATE k 0 == 3)).foldl
        (fun s k => s.sendOn k 1 (s.svcMsg (s.peerOf k) 6
          (natToBytes 8 s.time ++ [0, BitVec.ofNat 8 s.tod.step]))) s)) ∧
    (s.role = 1 ∨ s.role = 2 → s.fbit F.TOD_STATUS_HOLDOVER 0 0 = false →
      let t := ((s.fset F.TOD_STATUS_LOCKED 0 0 0).fset F.TOD_STATUS_HOLDOVER 0 0 1).fset F.TOD_STATUS_PORT 0 0 15
      let u : State := { t with tod := { t.tod with slew := 0 } }
      exec .syncLoss s = .next (u.logFault (u.fault 0x05 0 0x60B 1 0 0))) ∧
    (∀ (who : Master) (v : Word), Hears s who .TOD_SET 0 0 → s.role = 3 →
      ∃ t, exec (.todSet who v) s = .next t ∧ t.time = v.toNat ∧ t.tod.step = (s.tod.step + 1) % 256 ∧
        { t with io := s.io, tod := s.tod } = s) ∧
    (s.role = 3 → s.fbit F.TOD_CFG_PPS_EN 0 0 = true →
      exec .todPpsEdge s = .next (s.setTime ((s.time + 500000000) / 1000000000 * 1000000000)))

/-- R418: timer n raises source 0x900 + n once TOD_TIME is at or past TMR_CMP[n] while ARM = 1: a periodic timer moves TMR_CMP by
whole periods to the first time beyond TOD_TIME, and another clears ARM; before its time, or disarmed, nothing happens. -/
def Obligations.TimerExpiry : Prop :=
  ∀ (s : State) (n : Nat), s.down = false → n < 256 →
    let cmp := s.fget F.TMR_CMP_TIME 0 n
    let per := max 1 (s.fget F.TMR_CTL_PERIOD 0 n) * 1000
    let next := cmp + ((s.time - cmp) / per + 1) * per
    (s.fbit F.TMR_CTL_ARM 0 n = true → cmp ≤ s.time →
      (s.fbit F.TMR_CTL_PERIODIC 0 n = false →
        exec (.timerExpiry n) s = .next ((s.fset F.TMR_CTL_ARM 0 n 0).raiseBlock (0x900 + n))) ∧
      (s.fbit F.TMR_CTL_PERIODIC 0 n = true → s.time < next ∧ next ≤ s.time + per ∧ per ∣ next - cmp ∧
        exec (.timerExpiry n) s = .next ((s.fset F.TMR_CMP_TIME 0 n next).raiseBlock (0x900 + n)))) ∧
    (s.fbit F.TMR_CTL_ARM 0 n = false ∨ s.time < cmp → exec (.timerExpiry n) s = .next s)

/-- R452, R453, R455, R456, R458, R459, R516, R534: the supply. A brownout sets its flag, logs and raises, and its end clears it;
a power failure empties the promenade, starts the sequence of state 4 and logs; the safe state has every domain off; a restart
makes the start sequence due. Overvoltage and a failed phase are logged; a window above the cap lowers the rails, and so do a hot
sensor and each step while it is hot; the trip runs the power-fail sequence. Power and RESET_N take the island to its power-on
values; RESET_N's release makes the start sequence due. The model's readings: a thermal limit starts at the highest rail set (log entry
54), and a brownout shows that no overvoltage stands (log entry 55). -/
def Obligations.SupplyEvents : Prop :=
  ∀ (s : State),
    (s.down = false → s.pwr.vin = true →
      (s.fbit F.PWR_STATUS_BROWNOUT 0 0 = false →
        let t := (s.fset F.PWR_STATUS_OVERVOLTAGE 0 0 0).fset F.PWR_STATUS_BROWNOUT 0 0 1
        exec .brownoutEntry s = .next (t.logFault (t.fault 0x02 0 0x710 1 0 0)).pwrEvent) ∧
      (s.fbit F.PWR_STATUS_BROWNOUT 0 0 = true → exec .brownoutExit s = .next (s.fset F.PWR_STATUS_BROWNOUT 0 0 0).pwrEvent) ∧
      (s.fget F.PWR_STATUS_STATE 0 0 ≠ 4 →
        exec .powerFailStart s = .next s.powerFail ∧ s.powerFail.pwr.queue = [] ∧ s.powerFail.fget F.PWR_STATUS_STATE 0 0 = 4 ∧
        s.powerFail.pwr.t0 = some (s.pwr.t0.getD s.now)) ∧
      (s.failing = true → s.pwr.resetN = false →
        ∃ t, exec .safeStateEntry s = .next t ∧ t.pwr.safe = true ∧ t.pwr.ok = false ∧ t.pwr.baseOn = false ∧ t.cores = [] ∧
          ∀ d, d < 128 → t.domPowered d = false) ∧
      (s.pwr.safe = true → s.pwr.trip = false →
        exec .failRestart s = .next { s with boot := { s.boot with due := true, noInit := false } }) ∧
      (let t := s.fset F.PWR_STATUS_OVERVOLTAGE 0 0 1
       exec .overvoltage s = .next (t.logFault (t.fault 0x02 0 0x711 1 0 0))) ∧
      (let t : State := { s with pwr := { s.pwr with phases := s.pwr.phases + 1 } }
       exec .phaseFailure s = .next (t.logFault (t.fault 0x02 0 0x716 (if s.pwr.phases = 0 then 2 else 3) 0 0))) ∧
      (s.pwr.baseOn = true →
        (∀ vin iin watts : Nat, s.fbit F.PWR_STATUS_CAP_ACTIVE 0 0 = true → vin < 2 ^ 16 → iin < 2 ^ 16 → watts < 2 ^ 16 →
          ∃ t, exec (.capWindow vin iin watts) s = .next t ∧ (0 < t.effectiveCap → t.effectiveCap < watts → t.pwr.capDown = some true) ∧
            (t.effectiveCap = 0 → t.pwr.capLimit = none)) ∧
        (∀ temp : Nat, 105 < temp → temp < 256 →
          (s.fbit F.PWR_STATUS_THERMAL 0 0 = false →
            let t := ((s.fset F.PWR_TEMP_TJ_MAX 0 0 temp).fset F.PWR_STATUS_THERMAL 0 0 1).setTherm (some (s.topRail allDoms))
            exec (.thermalSlowEntry temp) s = .next (t.logFault (t.fault 0x02 0 0x714 1 0 0)).pwrEvent) ∧
          ∀ l, s.pwr.thermLimit = some l →
            exec (.thermalStep temp) s = .next ((s.fset F.PWR_TEMP_TJ_MAX 0 0 temp).setTherm
              (some (max (s.fget F.PWR_FLOOR_LEVEL 0 0) (l - 2))))) ∧
        (s.pwr.trip = false →
          let t : State := { s with pwr := { s.pwr with trip := true } }
          exec .thermalTrip s = .next (t.logFault (t.fault 0x02 0 0x715 3 0 0)).powerFail))) ∧
    (s.pwr.vin = false → ∃ t, exec .powerOn s = .next t ∧ t.pwr.vin = true ∧ t.boot.due = true ∧ t.cores = [] ∧ t.io.force = []) ∧
    (∃ t, exec .vin54Removed s = .next t ∧ t.pwr.vin = false ∧ t.cores = [] ∧ t.io.force = []) ∧
    (s.pwr.vin = true → s.failing = false →
      (∃ t, exec .resetNAssert s = .next t ∧ t.pwr.resetN = true ∧ t.cores = [] ∧ t.io.force = []) ∧
      (s.pwr.resetN = true →
        exec .resetNRelease s = .next { s with pwr := { s.pwr with resetN := false }, boot := { s.boot with due := true } }))

/-- R460, R462, R467, R468, R469, R471, R473: domains and power states. ON queues a wake behind those of its cause and before those of
later ones, once for a domain, so that the queue stays ordered by cause; the head of the promenade is granted for its credits; OFF of
a domain that may be switched off withdraws its wake and stops it, or is done at once where it is off already (DEDUCED, log entry
140), and of any other is refused with the code of why; a domain without cores that has woken is on, and one
that has stopped is off; a failed domain is logged. ACTIVE ends rest, or starts the way out of standby, and is refused BUSY while
TRANSITION = 1; REST and STANDBY are entered where nothing refuses them, and are refused with the code of what does. -/
def Obligations.PowerCommands : Prop :=
  ∀ (s : State),
    (∀ (who : Master) (d : Nat), Hears s who .PWR_DOM_CTL 0 d →
      let key := domKey d
      let takes := s.pwr.t0 = none ∧ s.domState key ≠ domOn ∧ s.domState key ≠ domWaking ∧ s.domState key ≠ domFailed ∧
        (d < 80 → (s.pair (d / 2)).failed0 = false ∧ (s.pair (d / 2)).failed1 = false)
      let queued : List WakeReq → List WakeReq := fun q =>
        q.takeWhile (fun x => decide (x.cause ≤ 2)) ++ ⟨key, 2⟩ :: q.dropWhile (fun x => decide (x.cause ≤ 2))
      ∃ t, exec (.domainOn who d) s = .next t ∧
        (takes → s.pwr.queue.find? (fun r => r.dom == key) = none →
          t.pwr.queue = queued s.pwr.queue ∧ t.domState key = (if s.domState key = domStopping then domStopping else domQueued) ∧
            t.fget F.PWR_DOM_STATUS_CAUSE 0 key = 2) ∧
        (∀ r, takes → s.pwr.queue.find? (fun r => r.dom == key) = some r →
          (r.cause ≤ 2 → t.pwr.queue = s.pwr.queue) ∧
          (2 < r.cause → t.pwr.queue = queued (s.pwr.queue.filter (fun x => x.dom != key)))) ∧
        (¬ takes → t.pwr.queue = s.pwr.queue) ∧
        (s.pwr.queue.Pairwise (fun a b => a.cause ≤ b.cause) → t.pwr.queue.Pairwise (fun a b => a.cause ≤ b.cause))) ∧
    (∀ (who : Master) (d : Nat) (chks : List (Nat × CopyCheck)),
      let v := s.copyChecks (fun x => inRange 118 8 d && s.isLive x) chks
      let idle := v.domState d = domOff ∨ v.domState d = domQueued
      let may := (d < 80 ∧ d ≠ 76 ∧ d ≠ 77 ∧
          (idle ∨ (((v.pair (d / 2)).st = .checked ∨ (v.pair (d / 2)).st = .split) ∧ v.pairQuiet (d / 2) = true))) ∨
        (96 ≤ d ∧ d < 104) ∨ (104 ≤ d ∧ d < 108 ∧ (idle ∨ v.offWorkDone d = true)) ∨ (118 ≤ d ∧ d < 122) ∨
        (122 ≤ d ∧ d < 126 ∧ v.pwr.backing.contains (d - 122) = false)
      s.down = false → Hears v who .PWR_DOM_CTL 0 d →
      (may → idle → ∃ t, exec (.domainOff who ⟨d, chks⟩) s = .next t ∧ t.domState d = domOff ∧
        t.fbit F.PWR_DOM_STATUS_DONE 0 d = true ∧ t.pwr.queue = v.pwr.queue.filter (fun x => x.dom != domKey d)) ∧
      (may → v.domState d = domOn ∨ v.domState d = domWaking → ∃ t, exec (.domainOff who ⟨d, chks⟩) s = .next t ∧
        t.domState d = domStopping ∧ (d < 118 → t.pwr.queue = v.pwr.queue.filter (fun x => x.dom != domKey d))) ∧
      (¬ may → ∃ t, exec (.domainOff who ⟨d, chks⟩) s = .next t ∧ t.domState d = v.domState d ∧ t.pwr.queue = v.pwr.queue ∧
        t.fbit F.PWR_STATUS_REFUSED 0 0 = true ∧ t.fget F.PWR_STATUS_REFUSE_CODE 0 0 =
          (if (d < 80 ∧ d ≠ 76 ∧ d ≠ 77) ∨ (104 ≤ d ∧ d < 108) then 3 else 4))) ∧
    (∀ (r : WakeReq) (rs : List WakeReq), s.down = false → s.pwr.queue = r :: rs → s.domState r.dom ≠ domStopping →
      domCost r.dom * 128000 ≤ s.pwr.credits → s.pwr.t0 = none → r.dom < 128 →
      let t := ({ s with pwr := { s.pwr with
        queue := rs, credits := s.pwr.credits - domCost r.dom * 128000 } } : State).setDom r.dom domWaking
      exec .wakeGrant s = .next (if r.dom < 80 then
        t.modPair (r.dom / 2) (fun p => if p.st = .off then { p with st := .waking } else p) else t)) ∧
    (∀ (d : Nat) (pass : Bool), s.down = false → 80 ≤ d → d < 128 →
      (s.domState d = domWaking → exec (.domainWakeDone d pass) s = .next ((s.wakeRecords d).domAwake d pass).settle) ∧
      (d < 108 → s.domState d = domWaking → s.fget F.PWR_DOM_STATUS_CAUSE 0 d ≠ 2 → (s.domAwake d pass).domState d = domOn) ∧
      (s.domState d = domStopping → s.stopWorkDone d = true →
        exec (.domainOffDone d) s = .next (s.domOffDone d).settle ∧
        (s.domOffDone d).domState d = (if s.pwr.queue.any (fun r => r.dom == d) then domQueued else domOff)) ∧
      (∀ chks : List (Nat × CopyCheck),
        let v := s.copyChecks (fun x => (inRange 104 4 d || inRange 118 8 d) && s.isLive x) chks
        v.domState d = domOn →
        let t := v.setDom d domFailed
        exec (.pwrDomainFailed ⟨d, chks⟩) s = .next
          ((((((t.logFault (t.fault 0x02 0 0x717 3 3 d)).unitLost d).setDom d domFailed).phaseGo).idleCheck).settle))) ∧
    (∀ who : Master, Hears s who .PWR_STATE_REQ 0 0 → s.pwr.safe = false →
      (s.fbit F.PWR_STATUS_TRANSITION 0 0 = true → exec (.stateReqActive who) s = .next (s.pwrRefuse refBusy)) ∧
      (s.fbit F.PWR_STATUS_TRANSITION 0 0 = false →
        (s.fget F.PWR_STATUS_STATE 0 0 = 2 → exec (.stateReqActive who) s = .next s.endRest) ∧
        (s.fget F.PWR_STATUS_STATE 0 0 = 3 → exec (.stateReqActive who) s = .next
          { s with boot := { s.boot with due := true, noInit := true } })) ∧
      (∀ code : Nat, s.stateRefused false = some code → exec (.stateReqRest who) s = .next (s.pwrRefuse code)) ∧
      (∀ code : Nat, s.stateRefused true = some code → exec (.stateReqStandby who) s = .next (s.pwrRefuse code)) ∧
      (s.stateRefused false = none → s.fget F.PWR_STATUS_STATE 0 0 ≤ 1 → exec (.stateReqRest who) s = .next s.enterRest) ∧
      (s.stateRefused true = none → s.fget F.PWR_STATUS_STATE 0 0 ≤ 2 →
        let t := s.beginStandby
        exec (.stateReqStandby who) s = .next (if s.pwr.baseOn = true ∧ t.pwr.baseOn = false then t.heldGo else t)))

/-- R481, R482, R489, R492, R493, R497: starting. START_SEQUENCE, when it is due and a service position passes its test, loads the
first slot in order that passes its checks (startImage), or stops where none does. CHANNEL_TRAINED ends training: TRAINED is set
of exactly the largest permitted set of channels that is enabled and trained, and PHASE is 10 (said where no request waits and no
channel has SPEED and DPC set, which is a fault beside it). MEM_INIT_COMPLETE sets MEM_INIT_DONE. CFG_CTL: READY sets READY, APPLY
runs the apply phase, SVC_RESTART, while no instance command runs, counts and logs. -/
def Obligations.StartCommands : Prop :=
  ∀ (s : State),
    (∀ (o : StartRun) (t : State), s.down = false → s.boot.due = true → s.pwr.vin = true → s.failing = false → s.pwr.resetN = false →
      s.pwr.trip = false → s.tapHolds = false → (s.startBase o).startPair o = (t, true) →
      let u := (t.wakeEngine (o.engine % 8)).fset F.CFG_START_STATUS_PHASE 0 0 4
      (∀ (v : State) (k : Nat), u.trySlots o.silent (u.slotOrder o.silent) = (v, some k) →
        exec (.startSequence o) s = .next (v.startImage k)) ∧
      (∀ v : State, u.trySlots o.silent (u.slotOrder o.silent) = (v, none) → exec (.startSequence o) s = .next v.startStops)) ∧
    (∀ (silent : List (Nat × Nat)) (ks : List Nat) (t : State) (k : Nat), s.trySlots silent ks = (t, some k) →
      k ∈ ks ∧ s.slotCheck k (silentAt silent k) = 0 ∧
        ∀ i j, ks[i]? = some j → i < ks.idxOf k → s.slotCheck j (silentAt silent j) ≠ 0) ∧
    (∀ (k c : Nat), (s.slotCheck k none = s.slotFlaw k) ∧ (c ≤ s.slotFlaw k ∨ s.slotFlaw k = 0 → s.slotCheck k (some c) = 9) ∧
      (s.slotFlaw k ≠ 0 → s.slotFlaw k < c → s.slotCheck k (some c) = s.slotFlaw k)) ∧
    (∀ good capacity : Nat, s.down = false → s.pwr.baseOn = true → 7 ≤ s.fget F.CFG_START_STATUS_PHASE 0 0 →
      s.fget F.CFG_START_STATUS_PHASE 0 0 ≤ 9 →
      exec (.channelTrained good capacity) s = .next (s.channelsTrained good capacity).settle ∧
      ((∀ k, k < 16 → s.fbit F.MC_CFG_SPEED k 0 = false ∨ s.fbit F.MC_CFG_DPC k 0 = false) → s.dir.waiting = [] →
        let n := trainedSet (fun k => s.fbit F.MC_CFG_ENABLE k 0 &&
          (if s.boot.ddrKept = 0 then good.testBit k else decide (k < s.boot.ddrKept)))
        (∀ k, k < 16 → (s.channelsTrained good capacity).fbit F.MC_STATUS_TRAINED k 0 = decide (k < n)) ∧
        (s.channelsTrained good capacity).fget F.CFG_START_STATUS_PHASE 0 0 = 10)) ∧
    (∀ k : Nat, s.down = false → s.pwr.baseOn = true → k < 16 → s.fbit F.MC_STATUS_TRAINED k 0 = true →
      exec .memInitComplete s = .next
        ((s.ddrWritten s.dir.unwritten).fset F.CFG_START_STATUS_MEM_INIT_DONE 0 0 1).dirResume) ∧
    (∀ who : Master, Hears s who .CFG_CTL 0 0 →
      exec (.cfgReady who) s = .next (s.fset F.CFG_START_STATUS_READY 0 0 1) ∧ exec (.cfgApply who) s = .next s.cfgApply ∧
      (s.inst.cmd = none →
        let t := s.fcount F.CFG_SVC_RESTARTS_COUNT 0 0 1
        exec (.svcRestart who) s = .next (t.logFault (t.fault 0x06 0 0x702 1 0 0))))

/-- R476, R484, R501 to R505: trust. While the flash interface is free, READ copies flash to memory, PROGRAM memory to flash, and
ERASE sets its sectors to ones, outside the protected regions; a command that has moved its bytes ends with DONE. SVN_ADVANCE
blows the version fuses up to TO, REKEY the next epoch, where they are permitted; an attestation begins with its indices reserved,
and without its journal record ends with an error. The model's choices: PROGRAM clears bits only (PRESUMED, log entry 81), and the bytes of
the signatures are free (log entry 156). -/
def Obligations.TrustCommands : Prop :=
  ∀ (s : State) (who : Master),
    (∀ source : Option Nat, Hears s who .CFG_NVM_CMD 0 0 → s.fbit F.CFG_NVM_STATUS_BUSY 0 0 = false →
      let off := s.fget F.CFG_NVM_ADDR_OFFSET 0 0
      let len := s.fget F.CFG_NVM_LEN_LEN 0 0
      off + len ≤ flashSize →
      exec (.nvmRead who source) s = .next (nvmAccepted s 1 source).nvmGo ∧
      (s.nvmProtected 2 off len = false → exec (.nvmProgram who source) s = .next (nvmAccepted s 2 source).nvmGo) ∧
      (s.nvmProtected 3 off len = false → off % 0x10000 = 0 → len % 0x10000 = 0 →
        exec (.nvmErase who source) s = .next (nvmAccepted s 3 source).nvmGo)) ∧
    (∀ (off n a : Nat), cellsWf none s.boot.flash = true →
      (off ≤ a → a < off + n → (s.flashErase off n).flashBytes a 1 = [0xFF]) ∧
      (¬ (off ≤ a ∧ a < off + n) → (s.flashErase off n).flashBytes a 1 = s.flashBytes a 1)) ∧
    (∀ (off k : Nat) (bs : List Byte), cellsWf none s.boot.flash = true → k < bs.length →
      (s.flashProgram off bs).flashBytes (off + k) 1 = (s.flashBytes (off + k) 1).map (fun b => b &&& bs.getD k 0)) ∧
    (∀ (c : NvmCmd), s.down = false → s.boot.nvm = some c → c.code = some 0 → c.src = none →
      exec (.nvmDone false) s = .next ((({ s with boot := { s.boot with nvm := none } } : State).fset
        F.CFG_NVM_STATUS_BUSY 0 0 0).fset F.CFG_NVM_STATUS_DONE 0 0 1)) ∧
    (∀ n : Nat, Hears s who .SEC_SVN_ADVANCE 0 0 → n < 128 → n ≤ s.fget F.SEC_RUN_IMAGE_SVN 0 0 →
      exec (.svnAdvance who n) s = .next { s with boot := { s.boot with svn := max s.boot.svn n } }) ∧
    (Hears s who .SEC_REKEY 0 0 → s.fbit F.SEC_STATUS_REKEY_OK 0 0 = true → s.fbit F.SEC_ATT_STATUS_BUSY 0 0 = false → s.boot.epoch < 15 →
      exec (.rekey who) s = .next (((({ s with boot := { s.boot with epoch := s.boot.epoch + 1 } } : State).fset
        F.SEC_STATUS_REKEY_OK 0 0 0).fset F.SEC_STATUS_EXHAUSTED 0 0 0).fset F.SEC_ATT_STATUS_INDEX 0 0 0)) ∧
    (∀ source : Option Nat, Hears s who .SEC_ATT_CMD 0 0 → s.fbit F.SEC_ATT_STATUS_BUSY 0 0 = false →
      s.fbit F.SEC_STATUS_EXHAUSTED 0 0 = false → s.fget F.SEC_ATT_STATUS_INDEX 0 0 < hssLimit →
      ∃ t a, exec (.attestGo who source) s = .next t ∧ t.fbit F.SEC_ATT_STATUS_BUSY 0 0 = true ∧ t.boot.attest = some a ∧
        a.index = s.fget F.SEC_ATT_STATUS_INDEX 0 0 ∧
        t.boot.journal.contains (s.boot.epoch, a.index / 1024 * 1024) = true) ∧
    (∀ a : Attest, s.down = false → s.boot.attest = some a → a.fresh = true → a.src = none →
      let t : State := { s with boot := { s.boot with journal := s.boot.journal.dropLast, attest := none } }
      exec (.attestDone false) s = .next (((t.fset F.SEC_ATT_STATUS_BUSY 0 0 0).fset F.SEC_ATT_STATUS_ERROR 0 0 1).fset
        F.SEC_ATT_STATUS_CODE 0 0 2)) ∧
    (∀ (a : Attest) (t u : State), s.down = false → s.boot.attest = some a → a.src = none → a.index + 1 ≠ hssLimit →
      s.readyRead .dev (linesOf (a.area + 24) 48) = (t, .ok) → t.readyWrite .dev false (linesOf a.area 4096) = (u, true) →
      let body := u.reportBody a (u.bytesAt (a.area + 24) 48)
      let bs := body ++ (List.range 96).map (Config.ecdsaByte u.free body) ++ hssForm u.boot.epoch a.index body ++ List.replicate 780 0
      let v := (u.draw.storeBytes .dev a.area bs).fset F.SEC_ATT_STATUS_INDEX 0 0 (a.index + 1)
      exec (.attestDone true) s = .next ((({ v with boot := { v.boot with attest := none } } : State).fset
        F.SEC_ATT_STATUS_BUSY 0 0 0).fset F.SEC_ATT_STATUS_DONE 0 0 1))

/-- The board management port and the TAP act on what they receive. -/
def Obligations.LandInterfaces : Prop := Slice0.ManagementPort ∧ Slice0.TapInstructions

end Statements
end

