-- ==== Sys2Proof/Laws/Block.lean ====
section
/-! SUPPORT. The length of a compressed block: what a block of the engines takes, once. -/

namespace Sys2Proof.Laws

open Sys2Proof.Machine

/-- R287: the class of a block is at most that of its input stored raw. -/
theorem emitClass_le (len body : Nat) : (emitClass len body).1 ≤ classOf (16 + len) := by
  unfold emitClass
  split
  · exact Nat.le_of_lt ‹_›
  · exact Nat.le_refl _

theorem natToBytes_length (n v : Nat) : (natToBytes n v).length = n := by
  induction n generalizing v <;> simp_all [natToBytes]

/-- R281: a block fills its class, or the target where that is larger. -/
theorem blockBytes_length (inp body : List Byte) (target seq : Nat) (hist last flushed : Bool) :
    (Machine.blockBytes inp body target seq hist last flushed).length = 512 * max (emitClass inp.length body.length).1 target := by
  have h : 16 + (if (emitClass inp.length body.length).2 then inp else body).length ≤ (emitClass inp.length body.length).1 * 512 := by
    unfold emitClass classOf
    split <;> simp <;> omega
  unfold Machine.blockBytes
  simp only [List.length_append, List.length_replicate, natToBytes_length, List.length_cons, List.length_nil]
  have room : (emitClass inp.length body.length).1 * 512 ≤ (max (emitClass inp.length body.length).1 target) * 512 :=
    Nat.mul_le_mul_right _ (Nat.le_max_left _ _)
  omega

/-- R281, R287: a block fits where its input stored raw, and its target, fit. -/
theorem blockBytes_room {inp body : List Byte} {target seq : Nat} {hist last flushed : Bool} {n : Nat}
    (h : max (classOf (16 + inp.length)) target ≤ n) :
    (Machine.blockBytes inp body target seq hist last flushed).length ≤ 512 * n := by
  have raw := emitClass_le inp.length body.length
  rw [blockBytes_length]
  omega

end Sys2Proof.Laws
end

