-- ==== Sys2Proof/Laws/Memory.lean ====
section
/-! SUPPORT. Laws of the byte cells: a byte reads as it was last written, other bytes stand, and every operation keeps the
canonical form. -/

namespace Sys2Proof.Machine

theorem cellsWf_cons {lo : Option Nat} {a : Nat} {b : Byte} {m : List Host.Cell} :
    cellsWf lo ((a, b) :: m) = true ↔ (∀ l, lo = some l → l < a) ∧ b ≠ unlistedByte ∧ cellsWf (some a) m = true := by
  cases lo <;> simp [cellsWf, and_assoc]

theorem cellsWf_weaken {lo lo' : Option Nat} {m : List Host.Cell} (hl : ∀ l, lo' = some l → ∃ k, lo = some k ∧ l ≤ k)
    (h : cellsWf lo m = true) : cellsWf lo' m = true := by
  cases m with
  | nil => rfl
  | cons p m =>
    rw [cellsWf_cons] at h ⊢
    refine ⟨fun l e => ?_, h.2⟩
    obtain ⟨k, e', hk⟩ := hl l e
    exact Nat.lt_of_le_of_lt hk (h.1 k e')

/-- The form above a bound holds above any lower one. -/
theorem cellsWf_none {lo : Option Nat} {m : List Host.Cell} (h : cellsWf lo m = true) : cellsWf none m = true :=
  cellsWf_weaken (by simp) h

theorem cellGet_of_lt {m : List Host.Cell} {a c : Nat} (h : cellsWf (some a) m = true) (hc : c ≤ a) :
    cellGet m c = unlistedByte := by
  induction m generalizing a with
  | nil => rfl
  | cons p m ih =>
    obtain ⟨k, b⟩ := p
    rw [cellsWf_cons] at h
    have := h.1 a rfl
    simp only [cellGet]
    rw [if_neg (by omega), ih h.2.2 (by omega)]

/-- A byte that was written is read back. -/
theorem cellGet_cellSet_same (m : List Host.Cell) (a : Nat) (b : Byte) (h : cellsWf none m = true) :
    cellGet (cellSet m a b) a = b := by
  induction m with
  | nil => simp only [cellSet]; split <;> simp_all [cellGet]
  | cons p m ih =>
    obtain ⟨k, v⟩ := p
    rw [cellsWf_cons] at h
    simp only [cellSet]
    split <;> rename_i hk
    · subst hk
      split <;> rename_i hb
      · rw [cellGet_of_lt h.2.2 (Nat.le_refl _), hb]
      · simp [cellGet]
    · split <;> rename_i hlt
      · split <;> rename_i hb
        · simp only [cellGet, hk, if_false]
          rw [cellGet_of_lt h.2.2 (by omega), hb]
        · simp [cellGet]
      · simp only [cellGet, hk, if_false]
        exact ih (cellsWf_none h.2.2)

/-- Every other byte stands. -/
theorem cellGet_cellSet_ne (m : List Host.Cell) {a c : Nat} (b : Byte) (hc : c ≠ a) :
    cellGet (cellSet m a b) c = cellGet m c := by
  induction m with
  | nil => simp only [cellSet]; split <;> simp [cellGet, Ne.symm hc]
  | cons p m ih =>
    obtain ⟨k, v⟩ := p
    simp only [cellSet]
    split <;> rename_i hk
    · subst hk; split <;> simp [cellGet, Ne.symm hc]
    · split
      · split <;> simp [cellGet, Ne.symm hc]
      · simp only [cellGet]; split <;> simp [ih]

theorem cellSet_wf {lo : Option Nat} {m : List Host.Cell} {a : Nat} (b : Byte) (hl : ∀ l, lo = some l → l < a)
    (h : cellsWf lo m = true) : cellsWf lo (cellSet m a b) = true := by
  induction m generalizing lo with
  | nil =>
    simp only [cellSet]
    split
    · rfl
    · exact cellsWf_cons.2 ⟨hl, ‹_›, rfl⟩
  | cons p m ih =>
    obtain ⟨k, v⟩ := p
    have h0 := h
    rw [cellsWf_cons] at h
    simp only [cellSet]
    split <;> rename_i hk
    · subst hk
      split
      · exact cellsWf_weaken (fun l e => ⟨k, rfl, Nat.le_of_lt (hl l e)⟩) h.2.2
      · exact cellsWf_cons.2 ⟨hl, ‹_›, h.2.2⟩
    · split <;> rename_i hlt
      · split
        · exact h0
        · refine cellsWf_cons.2 ⟨hl, ‹_›, cellsWf_cons.2 ⟨fun l e => ?_, h.2⟩⟩
          cases e
          exact hlt
      · refine cellsWf_cons.2 ⟨h.1, h.2.1, ih (fun l e => ?_) h.2.2⟩
        cases e
        omega

theorem cellsWrite_wf {m : List Host.Cell} (bs : List Byte) (a : Nat) (h : cellsWf none m = true) :
    cellsWf none (cellsWrite m a bs) = true := by
  induction bs generalizing m a with
  | nil => exact h
  | cons b bs ih => exact ih _ (cellSet_wf b (by simp) h)

theorem cellsFilter_wf {lo : Option Nat} {m : List Host.Cell} (f : Host.Cell → Bool) (h : cellsWf lo m = true) :
    cellsWf lo (m.filter f) = true := by
  induction m generalizing lo with
  | nil => rfl
  | cons p m ih =>
    obtain ⟨a, b⟩ := p
    rw [cellsWf_cons] at h
    simp only [List.filter]
    split
    · exact cellsWf_cons.2 ⟨h.1, h.2.1, ih h.2.2⟩
    · exact ih (cellsWf_weaken (fun l e => ⟨a, rfl, Nat.le_of_lt (h.1 l e)⟩) h.2.2)

/-- A byte outside those written stands. -/
theorem cellGet_cellsWrite_out (bs : List Byte) : ∀ (m : List Host.Cell) (a c : Nat), (c < a ∨ a + bs.length ≤ c) →
    cellGet (cellsWrite m a bs) c = cellGet m c := by
  induction bs with
  | nil => intros; rfl
  | cons b bs ih =>
    intro m a c hc
    simp only [cellsWrite]
    rw [ih _ _ _ (by simp only [List.length_cons] at hc; omega),
      cellGet_cellSet_ne _ _ (by simp only [List.length_cons] at hc; omega)]

/-- A byte of those written reads as written. -/
theorem cellGet_cellsWrite_in (bs : List Byte) : ∀ (m : List Host.Cell) (a k : Nat), cellsWf none m = true →
    k < bs.length → cellGet (cellsWrite m a bs) (a + k) = bs.getD k 0 := by
  induction bs with
  | nil => intro _ _ k _ hk; simp at hk
  | cons b bs ih =>
    intro m a k hm hk
    simp only [cellsWrite]
    cases k with
    | zero =>
      rw [cellGet_cellsWrite_out _ _ _ _ (by omega)]
      simpa using cellGet_cellSet_same m a b hm
    | succ k =>
      have := ih (cellSet m a b) (a + 1) k (cellSet_wf b (by simp) hm) (by simpa using hk)
      rw [show a + 1 + k = a + (k + 1) by omega] at this
      simpa using this

end Sys2Proof.Machine
end

