-- ==== Sys2Proof/Laws/Keep.lean ====
section
/-! SUPPORT. What every operation keeps: the queue of commands, the device number's range, the canonical form of memory and of
flash.  Here: the predicate, on states and on the results that carry one, and how it passes through the shapes that
operations are written in. -/

namespace Sys2Proof.Machine

/-- The queue is `p`, the device number is one of 32 (R1), and memory and flash have their canonical form. -/
def Keep (p : List Instr) (s : State) : Prop :=
  s.pending = p ∧ s.devnum < 32 ∧ Memory.wf s.mem = true ∧ cellsWf none s.boot.flash = true

def KeepP {α : Type} (p : List Instr) (x : State × α) : Prop := Keep p x.1
def KeepO (p : List Instr) (x : Option State) : Prop := ∀ s, x = some s → Keep p s

def KeepR (p : List Instr) : Res → Prop
  | .done s => Keep p s
  | .jump s _ => Keep p s
  | .trap s _ => Keep p s
  | .hold s => Keep p s
  | .wait s => Keep p s
  | .ended s => Keep p s

def KeepL (p : List Instr) : Loaded → Prop
  | .bytes s _ => Keep p s
  | .stop r => KeepR p r

def KeepC (p : List Instr) : Pieces → Prop
  | .ok s _ => Keep p s
  | .stop r => KeepR p r

def KeepS (p : List Instr) : Switched → Prop
  | .ok s => Keep p s
  | .stop r => KeepR p r

variable {p : List Instr} {s t : State} {α β : Type}

theorem keepP_mk {a : α} (h : Keep p s) : KeepP p (s, a) := h
theorem keepP_fst {x : State × α} (h : KeepP p x) : Keep p x.1 := h
theorem keepP_eq {x : State × α} {a : α} (e : x = (s, a)) (h : KeepP p x) : Keep p s := by subst e; exact h
theorem keepO_none : KeepO p none := by intro s h; cases h
theorem keepO_some (h : Keep p s) : KeepO p (some s) := by intro t e; cases e; exact h
theorem keepO_eq {x : Option State} (e : x = some s) (h : KeepO p x) : Keep p s := h s e
theorem keepR_done (h : Keep p s) : KeepR p (.done s) := h
theorem keepR_jump {a : Word} (h : Keep p s) : KeepR p (.jump s a) := h
theorem keepR_trap {a : TrapInfo} (h : Keep p s) : KeepR p (.trap s a) := h
theorem keepR_hold (h : Keep p s) : KeepR p (.hold s) := h
theorem keepR_wait (h : Keep p s) : KeepR p (.wait s) := h
theorem keepR_ended (h : Keep p s) : KeepR p (.ended s) := h
theorem keepR_done_eq {x : Res} (e : x = .done s) (h : KeepR p x) : Keep p s := by subst e; exact h
theorem keepR_jump_eq {x : Res} {a : Word} (e : x = .jump s a) (h : KeepR p x) : Keep p s := by subst e; exact h
theorem keepR_trap_eq {x : Res} {a : TrapInfo} (e : x = .trap s a) (h : KeepR p x) : Keep p s := by subst e; exact h
theorem keepR_hold_eq {x : Res} (e : x = .hold s) (h : KeepR p x) : Keep p s := by subst e; exact h
theorem keepR_wait_eq {x : Res} (e : x = .wait s) (h : KeepR p x) : Keep p s := by subst e; exact h
theorem keepR_ended_eq {x : Res} (e : x = .ended s) (h : KeepR p x) : Keep p s := by subst e; exact h
theorem keepL_bytes {a : List Byte} (h : Keep p s) : KeepL p (.bytes s a) := h
theorem keepL_stop {r : Res} (h : KeepR p r) : KeepL p (.stop r) := h
theorem keepL_bytes_eq {x : Loaded} {a : List Byte} (e : x = .bytes s a) (h : KeepL p x) : Keep p s := by subst e; exact h
theorem keepL_stop_eq {x : Loaded} {r : Res} (e : x = .stop r) (h : KeepL p x) : KeepR p r := by subst e; exact h
theorem keepC_ok {a : List (Nat × Nat)} (h : Keep p s) : KeepC p (.ok s a) := h
theorem keepC_stop {r : Res} (h : KeepR p r) : KeepC p (.stop r) := h
theorem keepC_ok_eq {x : Pieces} {a : List (Nat × Nat)} (e : x = .ok s a) (h : KeepC p x) : Keep p s := by subst e; exact h
theorem keepC_stop_eq {x : Pieces} {r : Res} (e : x = .stop r) (h : KeepC p x) : KeepR p r := by subst e; exact h
theorem keepS_ok (h : Keep p s) : KeepS p (.ok s) := h
theorem keepS_stop {r : Res} (h : KeepR p r) : KeepS p (.stop r) := h
theorem keepS_ok_eq {x : Switched} (e : x = .ok s) (h : KeepS p x) : Keep p s := by subst e; exact h
theorem keepS_stop_eq {x : Switched} {r : Res} (e : x = .stop r) (h : KeepS p x) : KeepR p r := by subst e; exact h

theorem keep_ite {c : Prop} [Decidable c] (h1 : Keep p s) (h2 : Keep p t) : Keep p (if c then s else t) := by
  split <;> assumption

theorem keep_foldl {f : State → α → State} {l : List α} (h : Keep p s) (hf : ∀ t x, Keep p t → Keep p (f t x)) :
    Keep p (l.foldl f s) := by
  induction l generalizing s with
  | nil => exact h
  | cons x l ih => exact ih (hf s x h)

theorem keepP_foldl {f : State × β → α → State × β} {l : List α} {x : State × β} (h : KeepP p x)
    (hf : ∀ t y, KeepP p t → KeepP p (f t y)) : KeepP p (l.foldl f x) := by
  induction l generalizing x with
  | nil => exact h
  | cons y l ih => exact ih (hf x y h)

variable {pending : List Instr} {now free : Nat} {cores : NMap Core} {pairs : NMap PairPos} {mem : Mem} {io : IoFile}
  {cue : Cue} {flt : Flt} {outbox : List OutMsg} {devnum boardnum : Nat} {dir : Dir} {lost : List Nat} {pwr : Pwr} {fbs : Fbs}
  {bmp : Bmp} {tap : Tap} {trs : Trs} {inst : Inst} {xch : Xch} {shb : Shb} {img : Img} {tod : Tod} {boot : Boot}
  {rng : Option RngJob}

/-- A record update that leaves the four as they are. -/
theorem Keep.ofMk (hp : pending = s.pending) (hd : devnum = s.devnum)
    (hm : mem.cells = s.mem.cells) (hf : boot.flash = s.boot.flash) (h : Keep p s) :
    Keep p (State.mk pending now free cores pairs mem io cue flt outbox devnum boardnum dir lost pwr fbs bmp tap trs inst xch
      shb img tod boot rng) := by
  subst hp hd
  exact ⟨h.1, h.2.1, by unfold Memory.wf; rw [hm]; exact h.2.2.1, by show cellsWf none boot.flash = true; rw [hf]; exact h.2.2.2⟩

/-- A record update that writes bytes of memory. -/
theorem Keep.ofMkCells {bs : List Byte} {a : Nat} (hp : pending = s.pending) (hd : devnum = s.devnum)
    (hm : mem.cells = cellsWrite s.mem.cells a bs) (hf : boot.flash = s.boot.flash) (h : Keep p s) :
    Keep p (State.mk pending now free cores pairs mem io cue flt outbox devnum boardnum dir lost pwr fbs bmp tap trs inst xch
      shb img tod boot rng) := by
  subst hp hd
  exact ⟨h.1, h.2.1, by unfold Memory.wf; rw [hm]; exact cellsWrite_wf bs a h.2.2.1, by show cellsWf none boot.flash = true; rw [hf]; exact h.2.2.2⟩

/-- A record update that drops bytes of memory. -/
theorem Keep.ofMkFilter {f : Host.Cell → Bool} (hp : pending = s.pending) (hd : devnum = s.devnum)
    (hm : mem.cells = s.mem.cells.filter f) (hf : boot.flash = s.boot.flash) (h : Keep p s) :
    Keep p (State.mk pending now free cores pairs mem io cue flt outbox devnum boardnum dir lost pwr fbs bmp tap trs inst xch
      shb img tod boot rng) := by
  subst hp hd
  exact ⟨h.1, h.2.1, by unfold Memory.wf; rw [hm]; exact cellsFilter_wf f h.2.2.1, by show cellsWf none boot.flash = true; rw [hf]; exact h.2.2.2⟩

/-- A record update that changes flash to a canonical one. -/
theorem Keep.ofMkFlash (hp : pending = s.pending) (hd : devnum = s.devnum)
    (hm : mem.cells = s.mem.cells) (hf : cellsWf none boot.flash = true) (h : Keep p s) :
    Keep p (State.mk pending now free cores pairs mem io cue flt outbox devnum boardnum dir lost pwr fbs bmp tap trs inst xch
      shb img tod boot rng) := by
  subst hp hd
  exact ⟨h.1, h.2.1, by unfold Memory.wf; rw [hm]; exact h.2.2.1, hf⟩

end Sys2Proof.Machine
end

