-- ==== Sys2Proof/Laws/Map.lean ====
section
/-! SUPPORT. Laws of the finite maps: a read after a write, a read elsewhere, two writes, and the canonical form. -/

namespace Sys2Proof.Machine

variable {α : Type}

theorem mapGet_mapSet (d v : α) (m : NMap α) (k j : Nat) :
    mapGet d (mapSet m k v) j = if j = k then v else mapGet d m j := by
  induction m with
  | nil =>
    simp only [mapSet, mapGet]
    by_cases h : k = j
    · rw [if_pos h, if_pos h.symm]
    · rw [if_neg h, if_neg (Ne.symm h)]
  | cons p m ih =>
    obtain ⟨k', v'⟩ := p
    simp only [mapSet]
    by_cases h : k' = k
    · subst h
      rw [if_pos rfl]
      simp only [mapGet]
      by_cases hj : k' = j
      · rw [if_pos hj, if_pos hj.symm]
      · rw [if_neg hj, if_neg (Ne.symm hj), if_neg hj]
    · rw [if_neg h]
      by_cases hlt : k < k'
      · rw [if_pos hlt]
        simp only [mapGet]
        by_cases hj : k = j
        · rw [if_pos hj, if_pos hj.symm]
        · rw [if_neg hj, if_neg (Ne.symm hj)]
      · rw [if_neg hlt]
        simp only [mapGet, ih]
        by_cases hj : k' = j
        · subst hj; rw [if_pos rfl, if_neg h, if_pos rfl]
        · rw [if_neg hj, if_neg hj]

@[simp] theorem mapGet_mapSet_same (d v : α) (m : NMap α) (k : Nat) : mapGet d (mapSet m k v) k = v := by
  simp [mapGet_mapSet]

theorem mapGet_mapSet_ne (d v : α) (m : NMap α) {k j : Nat} (h : j ≠ k) :
    mapGet d (mapSet m k v) j = mapGet d m j := by
  simp [mapGet_mapSet, h]

theorem mapGet?_mapSet (v : α) (m : NMap α) (k j : Nat) :
    mapGet? (mapSet m k v) j = if j = k then some v else mapGet? m j := by
  induction m with
  | nil =>
    simp only [mapSet, mapGet?]
    by_cases h : k = j
    · rw [if_pos h, if_pos h.symm]
    · rw [if_neg h, if_neg (Ne.symm h)]
  | cons p m ih =>
    obtain ⟨k', v'⟩ := p
    simp only [mapSet]
    by_cases h : k' = k
    · subst h
      rw [if_pos rfl]
      simp only [mapGet?]
      by_cases hj : k' = j
      · rw [if_pos hj, if_pos hj.symm]
      · rw [if_neg hj, if_neg (Ne.symm hj), if_neg hj]
    · rw [if_neg h]
      by_cases hlt : k < k'
      · rw [if_pos hlt]
        simp only [mapGet?]
        by_cases hj : k = j
        · rw [if_pos hj, if_pos hj.symm]
        · rw [if_neg hj, if_neg (Ne.symm hj)]
      · rw [if_neg hlt]
        simp only [mapGet?, ih]
        by_cases hj : k' = j
        · subst hj; rw [if_pos rfl, if_neg h, if_pos rfl]
        · rw [if_neg hj, if_neg hj]

@[simp] theorem mapGet?_mapSet_same (v : α) (m : NMap α) (k : Nat) : mapGet? (mapSet m k v) k = some v := by
  simp [mapGet?_mapSet]

theorem mapSet_mapSet (v w : α) (m : NMap α) (k : Nat) : mapSet (mapSet m k v) k w = mapSet m k w := by
  induction m with
  | nil => simp [mapSet]
  | cons p m ih =>
    obtain ⟨k', v'⟩ := p
    simp only [mapSet]
    split
    · simp [mapSet]
    · split
      · simp [mapSet]
      · simp [mapSet, *]

/-- A read of a map is the listed value, or the default. -/
theorem mapGet_eq (d : α) (m : NMap α) (k : Nat) : mapGet d m k = (mapGet? m k).getD d := by
  induction m with
  | nil => rfl
  | cons p m ih =>
    obtain ⟨k', v'⟩ := p
    simp only [mapGet, mapGet?]
    split <;> simp [*]

end Sys2Proof.Machine
end

