-- ==== Sys2Proof/Laws/State.lean ====
section
/-! SUPPORT. Laws of State: what each named update leaves as it was, field by field, and what the accessors of registers,
cores, positions and entries read after it. -/

namespace Sys2Proof.Machine

/-- A field of a word reads as it was last set. -/
theorem fld_setFld (w : Word) (lo n v : Nat) (h : lo + n ≤ 64) : fld (setFld w lo n v) lo n = v % 2 ^ n := by
  have hv : v % 2 ^ n < 2 ^ n := Nat.mod_lt _ (Nat.two_pow_pos n)
  apply Nat.eq_of_testBit_eq
  intro i
  unfold fld setFld
  rw [Nat.testBit_mod_two_pow, Nat.testBit_div_two_pow]
  by_cases hi : i < n
  · have h1 : ((2 ^ n - 1) * 2 ^ lo).testBit (i + lo) = true := by
      rw [Nat.testBit_mul_two_pow]; simp [hi]
    have h2 : (v % 2 ^ n * 2 ^ lo).testBit (i + lo) = (v % 2 ^ n).testBit i := by
      rw [Nat.testBit_mul_two_pow]; simp
    have h3 : i + lo < 64 := by omega
    have h4 : (2 ^ 64 - 1 - (2 ^ n - 1) * 2 ^ lo % 2 ^ 64).testBit (i + lo) = false := by
      have e : 2 ^ 64 - 1 - (2 ^ n - 1) * 2 ^ lo % 2 ^ 64 = 2 ^ 64 - ((2 ^ n - 1) * 2 ^ lo % 2 ^ 64 + 1) := by omega
      rw [e, Nat.testBit_two_pow_sub_succ (Nat.mod_lt _ (by decide)), Nat.testBit_mod_two_pow]
      simp [h1, h3]
    simp only [BitVec.toNat_or, BitVec.toNat_and, BitVec.toNat_not, BitVec.toNat_ofNat, Nat.testBit_or, Nat.testBit_and,
      h4, Bool.and_false, Bool.false_or]
    rw [Nat.testBit_mod_two_pow (x := v % 2 ^ n * 2 ^ lo), h2]
    simp [h3, hi]
  · simp [hi, Nat.testBit_lt_two_pow (Nat.lt_of_lt_of_le hv (Nat.pow_le_pow_right (by decide) (Nat.le_of_not_lt hi)))]

variable (s : State)

/-! What an update leaves -/

@[simp] theorem State.setCore_rest (lc : Nat) (c : Core) :
    (s.setCore lc c).pending = s.pending ∧ (s.setCore lc c).now = s.now ∧ (s.setCore lc c).free = s.free ∧
    (s.setCore lc c).pairs = s.pairs ∧ (s.setCore lc c).mem = s.mem ∧ (s.setCore lc c).io = s.io ∧
    (s.setCore lc c).cue = s.cue ∧ (s.setCore lc c).flt = s.flt ∧ (s.setCore lc c).outbox = s.outbox ∧
    (s.setCore lc c).devnum = s.devnum ∧ (s.setCore lc c).boardnum = s.boardnum ∧ (s.setCore lc c).dir = s.dir ∧
    (s.setCore lc c).lost = s.lost ∧ (s.setCore lc c).pwr = s.pwr ∧ (s.setCore lc c).fbs = s.fbs ∧
    (s.setCore lc c).bmp = s.bmp ∧ (s.setCore lc c).tap = s.tap ∧ (s.setCore lc c).trs = s.trs ∧
    (s.setCore lc c).inst = s.inst ∧ (s.setCore lc c).xch = s.xch ∧ (s.setCore lc c).shb = s.shb ∧
    (s.setCore lc c).img = s.img ∧ (s.setCore lc c).tod = s.tod ∧ (s.setCore lc c).boot = s.boot ∧
    (s.setCore lc c).rng = s.rng :=
  ⟨rfl, rfl, rfl, rfl, rfl, rfl, rfl, rfl, rfl, rfl, rfl, rfl, rfl, rfl, rfl, rfl, rfl, rfl, rfl, rfl, rfl, rfl, rfl, rfl, rfl⟩

@[simp] theorem State.modCore_rest (lc : Nat) (f : Core → Core) :
    (s.modCore lc f).pending = s.pending ∧ (s.modCore lc f).now = s.now ∧ (s.modCore lc f).free = s.free ∧
    (s.modCore lc f).pairs = s.pairs ∧ (s.modCore lc f).mem = s.mem ∧ (s.modCore lc f).io = s.io ∧
    (s.modCore lc f).cue = s.cue ∧ (s.modCore lc f).flt = s.flt ∧ (s.modCore lc f).outbox = s.outbox ∧
    (s.modCore lc f).devnum = s.devnum ∧ (s.modCore lc f).boardnum = s.boardnum ∧ (s.modCore lc f).dir = s.dir ∧
    (s.modCore lc f).lost = s.lost ∧ (s.modCore lc f).pwr = s.pwr ∧ (s.modCore lc f).fbs = s.fbs ∧
    (s.modCore lc f).bmp = s.bmp ∧ (s.modCore lc f).tap = s.tap ∧ (s.modCore lc f).trs = s.trs ∧
    (s.modCore lc f).inst = s.inst ∧ (s.modCore lc f).xch = s.xch ∧ (s.modCore lc f).shb = s.shb ∧
    (s.modCore lc f).img = s.img ∧ (s.modCore lc f).tod = s.tod ∧ (s.modCore lc f).boot = s.boot ∧
    (s.modCore lc f).rng = s.rng :=
  ⟨rfl, rfl, rfl, rfl, rfl, rfl, rfl, rfl, rfl, rfl, rfl, rfl, rfl, rfl, rfl, rfl, rfl, rfl, rfl, rfl, rfl, rfl, rfl, rfl, rfl⟩

@[simp] theorem State.setPair_rest (q : Nat) (p : PairPos) :
    (s.setPair q p).pending = s.pending ∧ (s.setPair q p).now = s.now ∧ (s.setPair q p).free = s.free ∧
    (s.setPair q p).cores = s.cores ∧ (s.setPair q p).mem = s.mem ∧ (s.setPair q p).io = s.io ∧
    (s.setPair q p).cue = s.cue ∧ (s.setPair q p).flt = s.flt ∧ (s.setPair q p).outbox = s.outbox ∧
    (s.setPair q p).devnum = s.devnum ∧ (s.setPair q p).boardnum = s.boardnum ∧ (s.setPair q p).dir = s.dir ∧
    (s.setPair q p).lost = s.lost ∧ (s.setPair q p).pwr = s.pwr ∧ (s.setPair q p).fbs = s.fbs ∧
    (s.setPair q p).bmp = s.bmp ∧ (s.setPair q p).tap = s.tap ∧ (s.setPair q p).trs = s.trs ∧
    (s.setPair q p).inst = s.inst ∧ (s.setPair q p).xch = s.xch ∧ (s.setPair q p).shb = s.shb ∧
    (s.setPair q p).img = s.img ∧ (s.setPair q p).tod = s.tod ∧ (s.setPair q p).boot = s.boot ∧
    (s.setPair q p).rng = s.rng :=
  ⟨rfl, rfl, rfl, rfl, rfl, rfl, rfl, rfl, rfl, rfl, rfl, rfl, rfl, rfl, rfl, rfl, rfl, rfl, rfl, rfl, rfl, rfl, rfl, rfl, rfl⟩

@[simp] theorem State.modPair_rest (q : Nat) (f : PairPos → PairPos) :
    (s.modPair q f).pending = s.pending ∧ (s.modPair q f).now = s.now ∧ (s.modPair q f).free = s.free ∧
    (s.modPair q f).cores = s.cores ∧ (s.modPair q f).mem = s.mem ∧ (s.modPair q f).io = s.io ∧
    (s.modPair q f).cue = s.cue ∧ (s.modPair q f).flt = s.flt ∧ (s.modPair q f).outbox = s.outbox ∧
    (s.modPair q f).devnum = s.devnum ∧ (s.modPair q f).boardnum = s.boardnum ∧ (s.modPair q f).dir = s.dir ∧
    (s.modPair q f).lost = s.lost ∧ (s.modPair q f).pwr = s.pwr ∧ (s.modPair q f).fbs = s.fbs ∧
    (s.modPair q f).bmp = s.bmp ∧ (s.modPair q f).tap = s.tap ∧ (s.modPair q f).trs = s.trs ∧
    (s.modPair q f).inst = s.inst ∧ (s.modPair q f).xch = s.xch ∧ (s.modPair q f).shb = s.shb ∧
    (s.modPair q f).img = s.img ∧ (s.modPair q f).tod = s.tod ∧ (s.modPair q f).boot = s.boot ∧
    (s.modPair q f).rng = s.rng :=
  ⟨rfl, rfl, rfl, rfl, rfl, rfl, rfl, rfl, rfl, rfl, rfl, rfl, rfl, rfl, rfl, rfl, rfl, rfl, rfl, rfl, rfl, rfl, rfl, rfl, rfl⟩

@[simp] theorem State.setActing_rest (r : RegName) (u k : Nat) (v : Word) :
    (s.setActing r u k v).pending = s.pending ∧ (s.setActing r u k v).now = s.now ∧ (s.setActing r u k v).free = s.free ∧
    (s.setActing r u k v).cores = s.cores ∧ (s.setActing r u k v).pairs = s.pairs ∧ (s.setActing r u k v).mem = s.mem ∧
    (s.setActing r u k v).cue = s.cue ∧ (s.setActing r u k v).flt = s.flt ∧ (s.setActing r u k v).outbox = s.outbox ∧
    (s.setActing r u k v).devnum = s.devnum ∧ (s.setActing r u k v).boardnum = s.boardnum ∧
    (s.setActing r u k v).dir = s.dir ∧ (s.setActing r u k v).lost = s.lost ∧ (s.setActing r u k v).pwr = s.pwr ∧
    (s.setActing r u k v).fbs = s.fbs ∧ (s.setActing r u k v).bmp = s.bmp ∧ (s.setActing r u k v).tap = s.tap ∧
    (s.setActing r u k v).trs = s.trs ∧ (s.setActing r u k v).inst = s.inst ∧ (s.setActing r u k v).xch = s.xch ∧
    (s.setActing r u k v).shb = s.shb ∧ (s.setActing r u k v).img = s.img ∧ (s.setActing r u k v).tod = s.tod ∧
    (s.setActing r u k v).boot = s.boot ∧ (s.setActing r u k v).rng = s.rng :=
  ⟨rfl, rfl, rfl, rfl, rfl, rfl, rfl, rfl, rfl, rfl, rfl, rfl, rfl, rfl, rfl, rfl, rfl, rfl, rfl, rfl, rfl, rfl, rfl, rfl, rfl⟩

@[simp] theorem State.fset_rest (f : FieldRef) (u k v : Nat) :
    (s.fset f u k v).pending = s.pending ∧ (s.fset f u k v).now = s.now ∧ (s.fset f u k v).free = s.free ∧
    (s.fset f u k v).cores = s.cores ∧ (s.fset f u k v).pairs = s.pairs ∧ (s.fset f u k v).mem = s.mem ∧
    (s.fset f u k v).cue = s.cue ∧ (s.fset f u k v).flt = s.flt ∧ (s.fset f u k v).outbox = s.outbox ∧
    (s.fset f u k v).devnum = s.devnum ∧ (s.fset f u k v).boardnum = s.boardnum ∧ (s.fset f u k v).dir = s.dir ∧
    (s.fset f u k v).lost = s.lost ∧ (s.fset f u k v).pwr = s.pwr ∧ (s.fset f u k v).fbs = s.fbs ∧
    (s.fset f u k v).bmp = s.bmp ∧ (s.fset f u k v).tap = s.tap ∧ (s.fset f u k v).trs = s.trs ∧
    (s.fset f u k v).inst = s.inst ∧ (s.fset f u k v).xch = s.xch ∧ (s.fset f u k v).shb = s.shb ∧
    (s.fset f u k v).img = s.img ∧ (s.fset f u k v).tod = s.tod ∧ (s.fset f u k v).boot = s.boot ∧
    (s.fset f u k v).rng = s.rng :=
  ⟨rfl, rfl, rfl, rfl, rfl, rfl, rfl, rfl, rfl, rfl, rfl, rfl, rfl, rfl, rfl, rfl, rfl, rfl, rfl, rfl, rfl, rfl, rfl, rfl, rfl⟩

@[simp] theorem State.fcount_rest (f : FieldRef) (u k d : Nat) :
    (s.fcount f u k d).pending = s.pending ∧ (s.fcount f u k d).now = s.now ∧ (s.fcount f u k d).free = s.free ∧
    (s.fcount f u k d).cores = s.cores ∧ (s.fcount f u k d).pairs = s.pairs ∧ (s.fcount f u k d).mem = s.mem ∧
    (s.fcount f u k d).cue = s.cue ∧ (s.fcount f u k d).flt = s.flt ∧ (s.fcount f u k d).outbox = s.outbox ∧
    (s.fcount f u k d).devnum = s.devnum ∧ (s.fcount f u k d).boardnum = s.boardnum ∧ (s.fcount f u k d).dir = s.dir ∧
    (s.fcount f u k d).lost = s.lost ∧ (s.fcount f u k d).pwr = s.pwr ∧ (s.fcount f u k d).fbs = s.fbs ∧
    (s.fcount f u k d).bmp = s.bmp ∧ (s.fcount f u k d).tap = s.tap ∧ (s.fcount f u k d).trs = s.trs ∧
    (s.fcount f u k d).inst = s.inst ∧ (s.fcount f u k d).xch = s.xch ∧ (s.fcount f u k d).shb = s.shb ∧
    (s.fcount f u k d).img = s.img ∧ (s.fcount f u k d).tod = s.tod ∧ (s.fcount f u k d).boot = s.boot ∧
    (s.fcount f u k d).rng = s.rng :=
  ⟨rfl, rfl, rfl, rfl, rfl, rfl, rfl, rfl, rfl, rfl, rfl, rfl, rfl, rfl, rfl, rfl, rfl, rfl, rfl, rfl, rfl, rfl, rfl, rfl, rfl⟩

@[simp] theorem State.draw_rest :
    (s.draw).pending = s.pending ∧ (s.draw).now = s.now ∧ (s.draw).cores = s.cores ∧ (s.draw).pairs = s.pairs ∧
    (s.draw).mem = s.mem ∧ (s.draw).io = s.io ∧ (s.draw).cue = s.cue ∧ (s.draw).flt = s.flt ∧ (s.draw).outbox = s.outbox ∧
    (s.draw).devnum = s.devnum ∧ (s.draw).boardnum = s.boardnum ∧ (s.draw).dir = s.dir ∧ (s.draw).lost = s.lost ∧
    (s.draw).pwr = s.pwr ∧ (s.draw).fbs = s.fbs ∧ (s.draw).bmp = s.bmp ∧ (s.draw).tap = s.tap ∧ (s.draw).trs = s.trs ∧
    (s.draw).inst = s.inst ∧ (s.draw).xch = s.xch ∧ (s.draw).shb = s.shb ∧ (s.draw).img = s.img ∧ (s.draw).tod = s.tod ∧
    (s.draw).boot = s.boot ∧ (s.draw).rng = s.rng :=
  ⟨rfl, rfl, rfl, rfl, rfl, rfl, rfl, rfl, rfl, rfl, rfl, rfl, rfl, rfl, rfl, rfl, rfl, rfl, rfl, rfl, rfl, rfl, rfl, rfl, rfl⟩

@[simp] theorem State.modPort_rest (k : Nat) (f : Port → Port) :
    (s.modPort k f).pending = s.pending ∧ (s.modPort k f).now = s.now ∧ (s.modPort k f).free = s.free ∧
    (s.modPort k f).cores = s.cores ∧ (s.modPort k f).pairs = s.pairs ∧ (s.modPort k f).mem = s.mem ∧
    (s.modPort k f).io = s.io ∧ (s.modPort k f).cue = s.cue ∧ (s.modPort k f).flt = s.flt ∧
    (s.modPort k f).outbox = s.outbox ∧ (s.modPort k f).devnum = s.devnum ∧ (s.modPort k f).boardnum = s.boardnum ∧
    (s.modPort k f).dir = s.dir ∧ (s.modPort k f).lost = s.lost ∧ (s.modPort k f).pwr = s.pwr ∧
    (s.modPort k f).fbs = s.fbs ∧ (s.modPort k f).bmp = s.bmp ∧ (s.modPort k f).tap = s.tap ∧ (s.modPort k f).trs = s.trs ∧
    (s.modPort k f).inst = s.inst ∧ (s.modPort k f).xch = s.xch ∧ (s.modPort k f).img = s.img ∧
    (s.modPort k f).tod = s.tod ∧ (s.modPort k f).boot = s.boot ∧ (s.modPort k f).rng = s.rng :=
  ⟨rfl, rfl, rfl, rfl, rfl, rfl, rfl, rfl, rfl, rfl, rfl, rfl, rfl, rfl, rfl, rfl, rfl, rfl, rfl, rfl, rfl, rfl, rfl, rfl, rfl⟩

@[simp] theorem State.setPool_rest (line : Nat) (p : PoolLine) :
    (s.setPool line p).pending = s.pending ∧ (s.setPool line p).now = s.now ∧ (s.setPool line p).free = s.free ∧
    (s.setPool line p).cores = s.cores ∧ (s.setPool line p).pairs = s.pairs ∧ (s.setPool line p).io = s.io ∧
    (s.setPool line p).cue = s.cue ∧ (s.setPool line p).flt = s.flt ∧ (s.setPool line p).outbox = s.outbox ∧
    (s.setPool line p).devnum = s.devnum ∧ (s.setPool line p).boardnum = s.boardnum ∧ (s.setPool line p).dir = s.dir ∧
    (s.setPool line p).lost = s.lost ∧ (s.setPool line p).pwr = s.pwr ∧ (s.setPool line p).fbs = s.fbs ∧
    (s.setPool line p).bmp = s.bmp ∧ (s.setPool line p).tap = s.tap ∧ (s.setPool line p).trs = s.trs ∧
    (s.setPool line p).inst = s.inst ∧ (s.setPool line p).xch = s.xch ∧ (s.setPool line p).shb = s.shb ∧
    (s.setPool line p).img = s.img ∧ (s.setPool line p).tod = s.tod ∧ (s.setPool line p).boot = s.boot ∧
    (s.setPool line p).rng = s.rng :=
  ⟨rfl, rfl, rfl, rfl, rfl, rfl, rfl, rfl, rfl, rfl, rfl, rfl, rfl, rfl, rfl, rfl, rfl, rfl, rfl, rfl, rfl, rfl, rfl, rfl, rfl⟩

@[simp] theorem State.setPoison_rest (line : Nat) (b : Bool) :
    (s.setPoison line b).pending = s.pending ∧ (s.setPoison line b).now = s.now ∧ (s.setPoison line b).free = s.free ∧
    (s.setPoison line b).cores = s.cores ∧ (s.setPoison line b).pairs = s.pairs ∧ (s.setPoison line b).io = s.io ∧
    (s.setPoison line b).cue = s.cue ∧ (s.setPoison line b).flt = s.flt ∧ (s.setPoison line b).outbox = s.outbox ∧
    (s.setPoison line b).devnum = s.devnum ∧ (s.setPoison line b).boardnum = s.boardnum ∧ (s.setPoison line b).dir = s.dir ∧
    (s.setPoison line b).lost = s.lost ∧ (s.setPoison line b).pwr = s.pwr ∧ (s.setPoison line b).fbs = s.fbs ∧
    (s.setPoison line b).bmp = s.bmp ∧ (s.setPoison line b).tap = s.tap ∧ (s.setPoison line b).trs = s.trs ∧
    (s.setPoison line b).inst = s.inst ∧ (s.setPoison line b).xch = s.xch ∧ (s.setPoison line b).shb = s.shb ∧
    (s.setPoison line b).img = s.img ∧ (s.setPoison line b).tod = s.tod ∧ (s.setPoison line b).boot = s.boot ∧
    (s.setPoison line b).rng = s.rng :=
  ⟨rfl, rfl, rfl, rfl, rfl, rfl, rfl, rfl, rfl, rfl, rfl, rfl, rfl, rfl, rfl, rfl, rfl, rfl, rfl, rfl, rfl, rfl, rfl, rfl, rfl⟩

@[simp] theorem State.setDir_rest (line : Nat) (e : Option DirSt) :
    (s.setDir line e).pending = s.pending ∧ (s.setDir line e).now = s.now ∧ (s.setDir line e).free = s.free ∧
    (s.setDir line e).cores = s.cores ∧ (s.setDir line e).pairs = s.pairs ∧ (s.setDir line e).mem = s.mem ∧
    (s.setDir line e).io = s.io ∧ (s.setDir line e).cue = s.cue ∧ (s.setDir line e).flt = s.flt ∧
    (s.setDir line e).outbox = s.outbox ∧ (s.setDir line e).devnum = s.devnum ∧ (s.setDir line e).boardnum = s.boardnum ∧
    (s.setDir line e).lost = s.lost ∧ (s.setDir line e).pwr = s.pwr ∧ (s.setDir line e).fbs = s.fbs ∧
    (s.setDir line e).bmp = s.bmp ∧ (s.setDir line e).tap = s.tap ∧ (s.setDir line e).trs = s.trs ∧
    (s.setDir line e).inst = s.inst ∧ (s.setDir line e).xch = s.xch ∧ (s.setDir line e).shb = s.shb ∧
    (s.setDir line e).img = s.img ∧ (s.setDir line e).tod = s.tod ∧ (s.setDir line e).boot = s.boot ∧
    (s.setDir line e).rng = s.rng :=
  ⟨rfl, rfl, rfl, rfl, rfl, rfl, rfl, rfl, rfl, rfl, rfl, rfl, rfl, rfl, rfl, rfl, rfl, rfl, rfl, rfl, rfl, rfl, rfl, rfl, rfl⟩

@[simp] theorem State.setBusy_rest (line : Nat) (r : Option DirReq) :
    (s.setBusy line r).pending = s.pending ∧ (s.setBusy line r).now = s.now ∧ (s.setBusy line r).free = s.free ∧
    (s.setBusy line r).cores = s.cores ∧ (s.setBusy line r).pairs = s.pairs ∧ (s.setBusy line r).mem = s.mem ∧
    (s.setBusy line r).io = s.io ∧ (s.setBusy line r).cue = s.cue ∧ (s.setBusy line r).flt = s.flt ∧
    (s.setBusy line r).outbox = s.outbox ∧ (s.setBusy line r).devnum = s.devnum ∧ (s.setBusy line r).boardnum = s.boardnum ∧
    (s.setBusy line r).lost = s.lost ∧ (s.setBusy line r).pwr = s.pwr ∧ (s.setBusy line r).fbs = s.fbs ∧
    (s.setBusy line r).bmp = s.bmp ∧ (s.setBusy line r).tap = s.tap ∧ (s.setBusy line r).trs = s.trs ∧
    (s.setBusy line r).inst = s.inst ∧ (s.setBusy line r).xch = s.xch ∧ (s.setBusy line r).shb = s.shb ∧
    (s.setBusy line r).img = s.img ∧ (s.setBusy line r).tod = s.tod ∧ (s.setBusy line r).boot = s.boot ∧
    (s.setBusy line r).rng = s.rng :=
  ⟨rfl, rfl, rfl, rfl, rfl, rfl, rfl, rfl, rfl, rfl, rfl, rfl, rfl, rfl, rfl, rfl, rfl, rfl, rfl, rfl, rfl, rfl, rfl, rfl, rfl⟩

@[simp] theorem State.keepRequest_rest (m : Msg) :
    (s.keepRequest m).pending = s.pending ∧ (s.keepRequest m).now = s.now ∧ (s.keepRequest m).free = s.free ∧
    (s.keepRequest m).cores = s.cores ∧ (s.keepRequest m).pairs = s.pairs ∧ (s.keepRequest m).mem = s.mem ∧
    (s.keepRequest m).io = s.io ∧ (s.keepRequest m).cue = s.cue ∧ (s.keepRequest m).flt = s.flt ∧
    (s.keepRequest m).outbox = s.outbox ∧ (s.keepRequest m).devnum = s.devnum ∧ (s.keepRequest m).boardnum = s.boardnum ∧
    (s.keepRequest m).lost = s.lost ∧ (s.keepRequest m).pwr = s.pwr ∧ (s.keepRequest m).fbs = s.fbs ∧
    (s.keepRequest m).bmp = s.bmp ∧ (s.keepRequest m).tap = s.tap ∧ (s.keepRequest m).trs = s.trs ∧
    (s.keepRequest m).inst = s.inst ∧ (s.keepRequest m).xch = s.xch ∧ (s.keepRequest m).shb = s.shb ∧
    (s.keepRequest m).img = s.img ∧ (s.keepRequest m).tod = s.tod ∧ (s.keepRequest m).boot = s.boot ∧
    (s.keepRequest m).rng = s.rng :=
  ⟨rfl, rfl, rfl, rfl, rfl, rfl, rfl, rfl, rfl, rfl, rfl, rfl, rfl, rfl, rfl, rfl, rfl, rfl, rfl, rfl, rfl, rfl, rfl, rfl, rfl⟩

@[simp] theorem State.capture_rest (blk g : Nat) (ws : List Word) :
    (s.capture blk g ws).pending = s.pending ∧ (s.capture blk g ws).now = s.now ∧ (s.capture blk g ws).free = s.free ∧
    (s.capture blk g ws).cores = s.cores ∧ (s.capture blk g ws).pairs = s.pairs ∧ (s.capture blk g ws).mem = s.mem ∧
    (s.capture blk g ws).cue = s.cue ∧ (s.capture blk g ws).flt = s.flt ∧ (s.capture blk g ws).outbox = s.outbox ∧
    (s.capture blk g ws).devnum = s.devnum ∧ (s.capture blk g ws).boardnum = s.boardnum ∧ (s.capture blk g ws).dir = s.dir ∧
    (s.capture blk g ws).lost = s.lost ∧ (s.capture blk g ws).pwr = s.pwr ∧ (s.capture blk g ws).fbs = s.fbs ∧
    (s.capture blk g ws).bmp = s.bmp ∧ (s.capture blk g ws).tap = s.tap ∧ (s.capture blk g ws).trs = s.trs ∧
    (s.capture blk g ws).inst = s.inst ∧ (s.capture blk g ws).xch = s.xch ∧ (s.capture blk g ws).shb = s.shb ∧
    (s.capture blk g ws).img = s.img ∧ (s.capture blk g ws).tod = s.tod ∧ (s.capture blk g ws).boot = s.boot ∧
    (s.capture blk g ws).rng = s.rng :=
  ⟨rfl, rfl, rfl, rfl, rfl, rfl, rfl, rfl, rfl, rfl, rfl, rfl, rfl, rfl, rfl, rfl, rfl, rfl, rfl, rfl, rfl, rfl, rfl, rfl, rfl⟩

@[simp] theorem State.setJob_rest (e : Nat) (j : Job) :
    (s.setJob e j).pending = s.pending ∧ (s.setJob e j).now = s.now ∧ (s.setJob e j).free = s.free ∧
    (s.setJob e j).cores = s.cores ∧ (s.setJob e j).pairs = s.pairs ∧ (s.setJob e j).mem = s.mem ∧
    (s.setJob e j).io = s.io ∧ (s.setJob e j).cue = s.cue ∧ (s.setJob e j).flt = s.flt ∧ (s.setJob e j).outbox = s.outbox ∧
    (s.setJob e j).devnum = s.devnum ∧ (s.setJob e j).boardnum = s.boardnum ∧ (s.setJob e j).dir = s.dir ∧
    (s.setJob e j).lost = s.lost ∧ (s.setJob e j).pwr = s.pwr ∧ (s.setJob e j).fbs = s.fbs ∧ (s.setJob e j).bmp = s.bmp ∧
    (s.setJob e j).tap = s.tap ∧ (s.setJob e j).inst = s.inst ∧ (s.setJob e j).xch = s.xch ∧ (s.setJob e j).shb = s.shb ∧
    (s.setJob e j).img = s.img ∧ (s.setJob e j).tod = s.tod ∧ (s.setJob e j).boot = s.boot ∧ (s.setJob e j).rng = s.rng :=
  ⟨rfl, rfl, rfl, rfl, rfl, rfl, rfl, rfl, rfl, rfl, rfl, rfl, rfl, rfl, rfl, rfl, rfl, rfl, rfl, rfl, rfl, rfl, rfl, rfl, rfl⟩

@[simp] theorem State.setSched_rest (c : Sched) :
    (s.setSched c).pending = s.pending ∧ (s.setSched c).now = s.now ∧ (s.setSched c).free = s.free ∧
    (s.setSched c).cores = s.cores ∧ (s.setSched c).pairs = s.pairs ∧ (s.setSched c).mem = s.mem ∧
    (s.setSched c).io = s.io ∧ (s.setSched c).cue = s.cue ∧ (s.setSched c).flt = s.flt ∧ (s.setSched c).outbox = s.outbox ∧
    (s.setSched c).devnum = s.devnum ∧ (s.setSched c).boardnum = s.boardnum ∧ (s.setSched c).dir = s.dir ∧
    (s.setSched c).lost = s.lost ∧ (s.setSched c).pwr = s.pwr ∧ (s.setSched c).fbs = s.fbs ∧ (s.setSched c).bmp = s.bmp ∧
    (s.setSched c).tap = s.tap ∧ (s.setSched c).inst = s.inst ∧ (s.setSched c).xch = s.xch ∧ (s.setSched c).shb = s.shb ∧
    (s.setSched c).img = s.img ∧ (s.setSched c).tod = s.tod ∧ (s.setSched c).boot = s.boot ∧ (s.setSched c).rng = s.rng :=
  ⟨rfl, rfl, rfl, rfl, rfl, rfl, rfl, rfl, rfl, rfl, rfl, rfl, rfl, rfl, rfl, rfl, rfl, rfl, rfl, rfl, rfl, rfl, rfl, rfl, rfl⟩

@[simp] theorem State.putKey_rest (k kind : Nat) (key : List Byte) :
    (s.putKey k kind key).pending = s.pending ∧ (s.putKey k kind key).now = s.now ∧ (s.putKey k kind key).free = s.free ∧
    (s.putKey k kind key).cores = s.cores ∧ (s.putKey k kind key).pairs = s.pairs ∧ (s.putKey k kind key).mem = s.mem ∧
    (s.putKey k kind key).io = s.io ∧ (s.putKey k kind key).cue = s.cue ∧ (s.putKey k kind key).flt = s.flt ∧
    (s.putKey k kind key).outbox = s.outbox ∧ (s.putKey k kind key).devnum = s.devnum ∧
    (s.putKey k kind key).boardnum = s.boardnum ∧ (s.putKey k kind key).dir = s.dir ∧ (s.putKey k kind key).lost = s.lost ∧
    (s.putKey k kind key).pwr = s.pwr ∧ (s.putKey k kind key).fbs = s.fbs ∧ (s.putKey k kind key).bmp = s.bmp ∧
    (s.putKey k kind key).tap = s.tap ∧ (s.putKey k kind key).inst = s.inst ∧ (s.putKey k kind key).xch = s.xch ∧
    (s.putKey k kind key).shb = s.shb ∧ (s.putKey k kind key).img = s.img ∧ (s.putKey k kind key).tod = s.tod ∧
    (s.putKey k kind key).boot = s.boot ∧ (s.putKey k kind key).rng = s.rng :=
  ⟨rfl, rfl, rfl, rfl, rfl, rfl, rfl, rfl, rfl, rfl, rfl, rfl, rfl, rfl, rfl, rfl, rfl, rfl, rfl, rfl, rfl, rfl, rfl, rfl, rfl⟩

@[simp] theorem State.setEntry_rest (x : Nat) (e : Entry) :
    (s.setEntry x e).pending = s.pending ∧ (s.setEntry x e).now = s.now ∧ (s.setEntry x e).free = s.free ∧
    (s.setEntry x e).cores = s.cores ∧ (s.setEntry x e).pairs = s.pairs ∧ (s.setEntry x e).mem = s.mem ∧
    (s.setEntry x e).io = s.io ∧ (s.setEntry x e).cue = s.cue ∧ (s.setEntry x e).flt = s.flt ∧
    (s.setEntry x e).outbox = s.outbox ∧ (s.setEntry x e).devnum = s.devnum ∧ (s.setEntry x e).boardnum = s.boardnum ∧
    (s.setEntry x e).dir = s.dir ∧ (s.setEntry x e).lost = s.lost ∧ (s.setEntry x e).pwr = s.pwr ∧
    (s.setEntry x e).fbs = s.fbs ∧ (s.setEntry x e).bmp = s.bmp ∧ (s.setEntry x e).tap = s.tap ∧
    (s.setEntry x e).trs = s.trs ∧ (s.setEntry x e).inst = s.inst ∧ (s.setEntry x e).shb = s.shb ∧
    (s.setEntry x e).img = s.img ∧ (s.setEntry x e).tod = s.tod ∧ (s.setEntry x e).boot = s.boot ∧
    (s.setEntry x e).rng = s.rng :=
  ⟨rfl, rfl, rfl, rfl, rfl, rfl, rfl, rfl, rfl, rfl, rfl, rfl, rfl, rfl, rfl, rfl, rfl, rfl, rfl, rfl, rfl, rfl, rfl, rfl, rfl⟩

@[simp] theorem State.setExch_rest (x : Nat) (w : Exch) :
    (s.setExch x w).pending = s.pending ∧ (s.setExch x w).now = s.now ∧ (s.setExch x w).free = s.free ∧
    (s.setExch x w).cores = s.cores ∧ (s.setExch x w).pairs = s.pairs ∧ (s.setExch x w).mem = s.mem ∧
    (s.setExch x w).io = s.io ∧ (s.setExch x w).cue = s.cue ∧ (s.setExch x w).flt = s.flt ∧
    (s.setExch x w).outbox = s.outbox ∧ (s.setExch x w).devnum = s.devnum ∧ (s.setExch x w).boardnum = s.boardnum ∧
    (s.setExch x w).dir = s.dir ∧ (s.setExch x w).lost = s.lost ∧ (s.setExch x w).pwr = s.pwr ∧
    (s.setExch x w).fbs = s.fbs ∧ (s.setExch x w).bmp = s.bmp ∧ (s.setExch x w).tap = s.tap ∧ (s.setExch x w).trs = s.trs ∧
    (s.setExch x w).inst = s.inst ∧ (s.setExch x w).shb = s.shb ∧ (s.setExch x w).img = s.img ∧
    (s.setExch x w).tod = s.tod ∧ (s.setExch x w).boot = s.boot ∧ (s.setExch x w).rng = s.rng :=
  ⟨rfl, rfl, rfl, rfl, rfl, rfl, rfl, rfl, rfl, rfl, rfl, rfl, rfl, rfl, rfl, rfl, rfl, rfl, rfl, rfl, rfl, rfl, rfl, rfl, rfl⟩

@[simp] theorem State.modEntry_rest (x : Nat) (f : Entry → Entry) :
    (s.modEntry x f).pending = s.pending ∧ (s.modEntry x f).now = s.now ∧ (s.modEntry x f).free = s.free ∧
    (s.modEntry x f).cores = s.cores ∧ (s.modEntry x f).pairs = s.pairs ∧ (s.modEntry x f).mem = s.mem ∧
    (s.modEntry x f).io = s.io ∧ (s.modEntry x f).cue = s.cue ∧ (s.modEntry x f).flt = s.flt ∧
    (s.modEntry x f).outbox = s.outbox ∧ (s.modEntry x f).devnum = s.devnum ∧ (s.modEntry x f).boardnum = s.boardnum ∧
    (s.modEntry x f).dir = s.dir ∧ (s.modEntry x f).lost = s.lost ∧ (s.modEntry x f).pwr = s.pwr ∧
    (s.modEntry x f).fbs = s.fbs ∧ (s.modEntry x f).bmp = s.bmp ∧ (s.modEntry x f).tap = s.tap ∧
    (s.modEntry x f).trs = s.trs ∧ (s.modEntry x f).inst = s.inst ∧ (s.modEntry x f).shb = s.shb ∧
    (s.modEntry x f).img = s.img ∧ (s.modEntry x f).tod = s.tod ∧ (s.modEntry x f).boot = s.boot ∧
    (s.modEntry x f).rng = s.rng :=
  ⟨rfl, rfl, rfl, rfl, rfl, rfl, rfl, rfl, rfl, rfl, rfl, rfl, rfl, rfl, rfl, rfl, rfl, rfl, rfl, rfl, rfl, rfl, rfl, rfl, rfl⟩

@[simp] theorem State.modExch_rest (x : Nat) (f : Exch → Exch) :
    (s.modExch x f).pending = s.pending ∧ (s.modExch x f).now = s.now ∧ (s.modExch x f).free = s.free ∧
    (s.modExch x f).cores = s.cores ∧ (s.modExch x f).pairs = s.pairs ∧ (s.modExch x f).mem = s.mem ∧
    (s.modExch x f).io = s.io ∧ (s.modExch x f).cue = s.cue ∧ (s.modExch x f).flt = s.flt ∧
    (s.modExch x f).outbox = s.outbox ∧ (s.modExch x f).devnum = s.devnum ∧ (s.modExch x f).boardnum = s.boardnum ∧
    (s.modExch x f).dir = s.dir ∧ (s.modExch x f).lost = s.lost ∧ (s.modExch x f).pwr = s.pwr ∧
    (s.modExch x f).fbs = s.fbs ∧ (s.modExch x f).bmp = s.bmp ∧ (s.modExch x f).tap = s.tap ∧ (s.modExch x f).trs = s.trs ∧
    (s.modExch x f).inst = s.inst ∧ (s.modExch x f).shb = s.shb ∧ (s.modExch x f).img = s.img ∧
    (s.modExch x f).tod = s.tod ∧ (s.modExch x f).boot = s.boot ∧ (s.modExch x f).rng = s.rng :=
  ⟨rfl, rfl, rfl, rfl, rfl, rfl, rfl, rfl, rfl, rfl, rfl, rfl, rfl, rfl, rfl, rfl, rfl, rfl, rfl, rfl, rfl, rfl, rfl, rfl, rfl⟩

@[simp] theorem State.setAttempts_rest (l : List Attempt) :
    (s.setAttempts l).pending = s.pending ∧ (s.setAttempts l).now = s.now ∧ (s.setAttempts l).free = s.free ∧
    (s.setAttempts l).cores = s.cores ∧ (s.setAttempts l).pairs = s.pairs ∧ (s.setAttempts l).mem = s.mem ∧
    (s.setAttempts l).io = s.io ∧ (s.setAttempts l).cue = s.cue ∧ (s.setAttempts l).flt = s.flt ∧
    (s.setAttempts l).outbox = s.outbox ∧ (s.setAttempts l).devnum = s.devnum ∧ (s.setAttempts l).boardnum = s.boardnum ∧
    (s.setAttempts l).dir = s.dir ∧ (s.setAttempts l).lost = s.lost ∧ (s.setAttempts l).pwr = s.pwr ∧
    (s.setAttempts l).fbs = s.fbs ∧ (s.setAttempts l).bmp = s.bmp ∧ (s.setAttempts l).tap = s.tap ∧
    (s.setAttempts l).trs = s.trs ∧ (s.setAttempts l).inst = s.inst ∧ (s.setAttempts l).shb = s.shb ∧
    (s.setAttempts l).img = s.img ∧ (s.setAttempts l).tod = s.tod ∧ (s.setAttempts l).boot = s.boot ∧
    (s.setAttempts l).rng = s.rng :=
  ⟨rfl, rfl, rfl, rfl, rfl, rfl, rfl, rfl, rfl, rfl, rfl, rfl, rfl, rfl, rfl, rfl, rfl, rfl, rfl, rfl, rfl, rfl, rfl, rfl, rfl⟩

@[simp] theorem State.setSeqPair_rest (p : Nat) (c : SeqPair) :
    (s.setSeqPair p c).pending = s.pending ∧ (s.setSeqPair p c).now = s.now ∧ (s.setSeqPair p c).free = s.free ∧
    (s.setSeqPair p c).cores = s.cores ∧ (s.setSeqPair p c).pairs = s.pairs ∧ (s.setSeqPair p c).mem = s.mem ∧
    (s.setSeqPair p c).io = s.io ∧ (s.setSeqPair p c).cue = s.cue ∧ (s.setSeqPair p c).flt = s.flt ∧
    (s.setSeqPair p c).outbox = s.outbox ∧ (s.setSeqPair p c).devnum = s.devnum ∧ (s.setSeqPair p c).boardnum = s.boardnum ∧
    (s.setSeqPair p c).dir = s.dir ∧ (s.setSeqPair p c).lost = s.lost ∧ (s.setSeqPair p c).pwr = s.pwr ∧
    (s.setSeqPair p c).fbs = s.fbs ∧ (s.setSeqPair p c).bmp = s.bmp ∧ (s.setSeqPair p c).tap = s.tap ∧
    (s.setSeqPair p c).trs = s.trs ∧ (s.setSeqPair p c).inst = s.inst ∧ (s.setSeqPair p c).shb = s.shb ∧
    (s.setSeqPair p c).img = s.img ∧ (s.setSeqPair p c).tod = s.tod ∧ (s.setSeqPair p c).boot = s.boot ∧
    (s.setSeqPair p c).rng = s.rng :=
  ⟨rfl, rfl, rfl, rfl, rfl, rfl, rfl, rfl, rfl, rfl, rfl, rfl, rfl, rfl, rfl, rfl, rfl, rfl, rfl, rfl, rfl, rfl, rfl, rfl, rfl⟩

@[simp] theorem State.setSeqSched_rest (p : Nat) (c : Sched) :
    (s.setSeqSched p c).pending = s.pending ∧ (s.setSeqSched p c).now = s.now ∧ (s.setSeqSched p c).free = s.free ∧
    (s.setSeqSched p c).cores = s.cores ∧ (s.setSeqSched p c).pairs = s.pairs ∧ (s.setSeqSched p c).mem = s.mem ∧
    (s.setSeqSched p c).io = s.io ∧ (s.setSeqSched p c).cue = s.cue ∧ (s.setSeqSched p c).flt = s.flt ∧
    (s.setSeqSched p c).outbox = s.outbox ∧ (s.setSeqSched p c).devnum = s.devnum ∧
    (s.setSeqSched p c).boardnum = s.boardnum ∧ (s.setSeqSched p c).dir = s.dir ∧ (s.setSeqSched p c).lost = s.lost ∧
    (s.setSeqSched p c).pwr = s.pwr ∧ (s.setSeqSched p c).fbs = s.fbs ∧ (s.setSeqSched p c).bmp = s.bmp ∧
    (s.setSeqSched p c).tap = s.tap ∧ (s.setSeqSched p c).trs = s.trs ∧ (s.setSeqSched p c).inst = s.inst ∧
    (s.setSeqSched p c).shb = s.shb ∧ (s.setSeqSched p c).img = s.img ∧ (s.setSeqSched p c).tod = s.tod ∧
    (s.setSeqSched p c).boot = s.boot ∧ (s.setSeqSched p c).rng = s.rng :=
  ⟨rfl, rfl, rfl, rfl, rfl, rfl, rfl, rfl, rfl, rfl, rfl, rfl, rfl, rfl, rfl, rfl, rfl, rfl, rfl, rfl, rfl, rfl, rfl, rfl, rfl⟩

@[simp] theorem State.tapLoad_rest (code : Nat) :
    (s.tapLoad code).pending = s.pending ∧ (s.tapLoad code).now = s.now ∧ (s.tapLoad code).free = s.free ∧
    (s.tapLoad code).cores = s.cores ∧ (s.tapLoad code).pairs = s.pairs ∧ (s.tapLoad code).mem = s.mem ∧
    (s.tapLoad code).io = s.io ∧ (s.tapLoad code).cue = s.cue ∧ (s.tapLoad code).flt = s.flt ∧
    (s.tapLoad code).outbox = s.outbox ∧ (s.tapLoad code).devnum = s.devnum ∧ (s.tapLoad code).boardnum = s.boardnum ∧
    (s.tapLoad code).dir = s.dir ∧ (s.tapLoad code).lost = s.lost ∧ (s.tapLoad code).pwr = s.pwr ∧
    (s.tapLoad code).fbs = s.fbs ∧ (s.tapLoad code).bmp = s.bmp ∧ (s.tapLoad code).trs = s.trs ∧
    (s.tapLoad code).inst = s.inst ∧ (s.tapLoad code).xch = s.xch ∧ (s.tapLoad code).shb = s.shb ∧
    (s.tapLoad code).img = s.img ∧ (s.tapLoad code).tod = s.tod ∧ (s.tapLoad code).boot = s.boot ∧
    (s.tapLoad code).rng = s.rng :=
  ⟨rfl, rfl, rfl, rfl, rfl, rfl, rfl, rfl, rfl, rfl, rfl, rfl, rfl, rfl, rfl, rfl, rfl, rfl, rfl, rfl, rfl, rfl, rfl, rfl, rfl⟩

@[simp] theorem State.drawn_rest (n : Nat) :
    (s.drawn n).pending = s.pending ∧ (s.drawn n).now = s.now ∧ (s.drawn n).cores = s.cores ∧ (s.drawn n).pairs = s.pairs ∧
    (s.drawn n).mem = s.mem ∧ (s.drawn n).io = s.io ∧ (s.drawn n).cue = s.cue ∧ (s.drawn n).flt = s.flt ∧
    (s.drawn n).outbox = s.outbox ∧ (s.drawn n).devnum = s.devnum ∧ (s.drawn n).boardnum = s.boardnum ∧
    (s.drawn n).dir = s.dir ∧ (s.drawn n).lost = s.lost ∧ (s.drawn n).pwr = s.pwr ∧ (s.drawn n).fbs = s.fbs ∧
    (s.drawn n).bmp = s.bmp ∧ (s.drawn n).tap = s.tap ∧ (s.drawn n).trs = s.trs ∧ (s.drawn n).inst = s.inst ∧
    (s.drawn n).xch = s.xch ∧ (s.drawn n).shb = s.shb ∧ (s.drawn n).img = s.img ∧ (s.drawn n).tod = s.tod ∧
    (s.drawn n).boot = s.boot ∧ (s.drawn n).rng = s.rng :=
  ⟨rfl, rfl, rfl, rfl, rfl, rfl, rfl, rfl, rfl, rfl, rfl, rfl, rfl, rfl, rfl, rfl, rfl, rfl, rfl, rfl, rfl, rfl, rfl, rfl, rfl⟩

@[simp] theorem State.clearAsked_rest (line : Nat) :
    (s.clearAsked line).pending = s.pending ∧ (s.clearAsked line).now = s.now ∧ (s.clearAsked line).free = s.free ∧
    (s.clearAsked line).cores = s.cores ∧ (s.clearAsked line).pairs = s.pairs ∧ (s.clearAsked line).io = s.io ∧
    (s.clearAsked line).cue = s.cue ∧ (s.clearAsked line).flt = s.flt ∧ (s.clearAsked line).outbox = s.outbox ∧
    (s.clearAsked line).devnum = s.devnum ∧ (s.clearAsked line).boardnum = s.boardnum ∧ (s.clearAsked line).dir = s.dir ∧
    (s.clearAsked line).lost = s.lost ∧ (s.clearAsked line).pwr = s.pwr ∧ (s.clearAsked line).fbs = s.fbs ∧
    (s.clearAsked line).bmp = s.bmp ∧ (s.clearAsked line).tap = s.tap ∧ (s.clearAsked line).trs = s.trs ∧
    (s.clearAsked line).inst = s.inst ∧ (s.clearAsked line).xch = s.xch ∧ (s.clearAsked line).shb = s.shb ∧
    (s.clearAsked line).img = s.img ∧ (s.clearAsked line).tod = s.tod ∧ (s.clearAsked line).boot = s.boot ∧
    (s.clearAsked line).rng = s.rng :=
  ⟨rfl, rfl, rfl, rfl, rfl, rfl, rfl, rfl, rfl, rfl, rfl, rfl, rfl, rfl, rfl, rfl, rfl, rfl, rfl, rfl, rfl, rfl, rfl, rfl, rfl⟩

@[simp] theorem State.setIssued_rest (c : Nat) (l : List Bool) :
    (s.setIssued c l).pending = s.pending ∧ (s.setIssued c l).now = s.now ∧ (s.setIssued c l).free = s.free ∧
    (s.setIssued c l).cores = s.cores ∧ (s.setIssued c l).pairs = s.pairs ∧ (s.setIssued c l).mem = s.mem ∧
    (s.setIssued c l).io = s.io ∧ (s.setIssued c l).cue = s.cue ∧ (s.setIssued c l).flt = s.flt ∧
    (s.setIssued c l).outbox = s.outbox ∧ (s.setIssued c l).devnum = s.devnum ∧ (s.setIssued c l).boardnum = s.boardnum ∧
    (s.setIssued c l).dir = s.dir ∧ (s.setIssued c l).lost = s.lost ∧ (s.setIssued c l).pwr = s.pwr ∧
    (s.setIssued c l).fbs = s.fbs ∧ (s.setIssued c l).bmp = s.bmp ∧ (s.setIssued c l).tap = s.tap ∧
    (s.setIssued c l).trs = s.trs ∧ (s.setIssued c l).inst = s.inst ∧ (s.setIssued c l).shb = s.shb ∧
    (s.setIssued c l).img = s.img ∧ (s.setIssued c l).tod = s.tod ∧ (s.setIssued c l).boot = s.boot ∧
    (s.setIssued c l).rng = s.rng :=
  ⟨rfl, rfl, rfl, rfl, rfl, rfl, rfl, rfl, rfl, rfl, rfl, rfl, rfl, rfl, rfl, rfl, rfl, rfl, rfl, rfl, rfl, rfl, rfl, rfl, rfl⟩

@[simp] theorem State.setCap_rest (l : Option Nat) (d : Option Bool) :
    (s.setCap l d).pending = s.pending ∧ (s.setCap l d).now = s.now ∧ (s.setCap l d).free = s.free ∧
    (s.setCap l d).cores = s.cores ∧ (s.setCap l d).pairs = s.pairs ∧ (s.setCap l d).mem = s.mem ∧
    (s.setCap l d).io = s.io ∧ (s.setCap l d).cue = s.cue ∧ (s.setCap l d).flt = s.flt ∧ (s.setCap l d).outbox = s.outbox ∧
    (s.setCap l d).devnum = s.devnum ∧ (s.setCap l d).boardnum = s.boardnum ∧ (s.setCap l d).dir = s.dir ∧
    (s.setCap l d).lost = s.lost ∧ (s.setCap l d).fbs = s.fbs ∧ (s.setCap l d).bmp = s.bmp ∧ (s.setCap l d).tap = s.tap ∧
    (s.setCap l d).trs = s.trs ∧ (s.setCap l d).inst = s.inst ∧ (s.setCap l d).xch = s.xch ∧ (s.setCap l d).shb = s.shb ∧
    (s.setCap l d).img = s.img ∧ (s.setCap l d).tod = s.tod ∧ (s.setCap l d).boot = s.boot ∧ (s.setCap l d).rng = s.rng :=
  ⟨rfl, rfl, rfl, rfl, rfl, rfl, rfl, rfl, rfl, rfl, rfl, rfl, rfl, rfl, rfl, rfl, rfl, rfl, rfl, rfl, rfl, rfl, rfl, rfl, rfl⟩

@[simp] theorem State.setTherm_rest (l : Option Nat) :
    (s.setTherm l).pending = s.pending ∧ (s.setTherm l).now = s.now ∧ (s.setTherm l).free = s.free ∧
    (s.setTherm l).cores = s.cores ∧ (s.setTherm l).pairs = s.pairs ∧ (s.setTherm l).mem = s.mem ∧
    (s.setTherm l).io = s.io ∧ (s.setTherm l).cue = s.cue ∧ (s.setTherm l).flt = s.flt ∧ (s.setTherm l).outbox = s.outbox ∧
    (s.setTherm l).devnum = s.devnum ∧ (s.setTherm l).boardnum = s.boardnum ∧ (s.setTherm l).dir = s.dir ∧
    (s.setTherm l).lost = s.lost ∧ (s.setTherm l).fbs = s.fbs ∧ (s.setTherm l).bmp = s.bmp ∧ (s.setTherm l).tap = s.tap ∧
    (s.setTherm l).trs = s.trs ∧ (s.setTherm l).inst = s.inst ∧ (s.setTherm l).xch = s.xch ∧ (s.setTherm l).shb = s.shb ∧
    (s.setTherm l).img = s.img ∧ (s.setTherm l).tod = s.tod ∧ (s.setTherm l).boot = s.boot ∧ (s.setTherm l).rng = s.rng :=
  ⟨rfl, rfl, rfl, rfl, rfl, rfl, rfl, rfl, rfl, rfl, rfl, rfl, rfl, rfl, rfl, rfl, rfl, rfl, rfl, rfl, rfl, rfl, rfl, rfl, rfl⟩

@[simp] theorem State.answer_rest (m : OutMsg) :
    (s.answer m).pending = s.pending ∧ (s.answer m).now = s.now ∧ (s.answer m).free = s.free ∧
    (s.answer m).cores = s.cores ∧ (s.answer m).pairs = s.pairs ∧ (s.answer m).mem = s.mem ∧ (s.answer m).io = s.io ∧
    (s.answer m).cue = s.cue ∧ (s.answer m).flt = s.flt ∧ (s.answer m).devnum = s.devnum ∧
    (s.answer m).boardnum = s.boardnum ∧ (s.answer m).dir = s.dir ∧ (s.answer m).lost = s.lost ∧ (s.answer m).pwr = s.pwr ∧
    (s.answer m).fbs = s.fbs ∧ (s.answer m).bmp = s.bmp ∧ (s.answer m).tap = s.tap ∧ (s.answer m).trs = s.trs ∧
    (s.answer m).inst = s.inst ∧ (s.answer m).xch = s.xch ∧ (s.answer m).shb = s.shb ∧ (s.answer m).img = s.img ∧
    (s.answer m).tod = s.tod ∧ (s.answer m).boot = s.boot ∧ (s.answer m).rng = s.rng :=
  ⟨rfl, rfl, rfl, rfl, rfl, rfl, rfl, rfl, rfl, rfl, rfl, rfl, rfl, rfl, rfl, rfl, rfl, rfl, rfl, rfl, rfl, rfl, rfl, rfl, rfl⟩

@[simp] theorem State.xspiPulse_rest :
    s.xspiPulse.pending = s.pending ∧ s.xspiPulse.now = s.now ∧ s.xspiPulse.free = s.free ∧ s.xspiPulse.cores = s.cores ∧
    s.xspiPulse.pairs = s.pairs ∧ s.xspiPulse.mem = s.mem ∧ s.xspiPulse.io = s.io ∧ s.xspiPulse.cue = s.cue ∧
    s.xspiPulse.flt = s.flt ∧ s.xspiPulse.devnum = s.devnum ∧ s.xspiPulse.boardnum = s.boardnum ∧ s.xspiPulse.dir = s.dir ∧
    s.xspiPulse.lost = s.lost ∧ s.xspiPulse.pwr = s.pwr ∧ s.xspiPulse.fbs = s.fbs ∧ s.xspiPulse.bmp = s.bmp ∧
    s.xspiPulse.tap = s.tap ∧ s.xspiPulse.trs = s.trs ∧ s.xspiPulse.inst = s.inst ∧ s.xspiPulse.xch = s.xch ∧
    s.xspiPulse.shb = s.shb ∧ s.xspiPulse.img = s.img ∧ s.xspiPulse.tod = s.tod ∧ s.xspiPulse.boot = s.boot ∧
    s.xspiPulse.rng = s.rng :=
  ⟨rfl, rfl, rfl, rfl, rfl, rfl, rfl, rfl, rfl, rfl, rfl, rfl, rfl, rfl, rfl, rfl, rfl, rfl, rfl, rfl, rfl, rfl, rfl, rfl, rfl⟩

@[simp] theorem State.eraseKey_rest (k : Nat) :
    (s.eraseKey k).pending = s.pending ∧ (s.eraseKey k).now = s.now ∧ (s.eraseKey k).free = s.free ∧
    (s.eraseKey k).cores = s.cores ∧ (s.eraseKey k).pairs = s.pairs ∧ (s.eraseKey k).mem = s.mem ∧
    (s.eraseKey k).io = s.io ∧ (s.eraseKey k).cue = s.cue ∧ (s.eraseKey k).flt = s.flt ∧ (s.eraseKey k).outbox = s.outbox ∧
    (s.eraseKey k).devnum = s.devnum ∧ (s.eraseKey k).boardnum = s.boardnum ∧ (s.eraseKey k).dir = s.dir ∧
    (s.eraseKey k).lost = s.lost ∧ (s.eraseKey k).pwr = s.pwr ∧ (s.eraseKey k).fbs = s.fbs ∧ (s.eraseKey k).bmp = s.bmp ∧
    (s.eraseKey k).tap = s.tap ∧ (s.eraseKey k).inst = s.inst ∧ (s.eraseKey k).xch = s.xch ∧ (s.eraseKey k).shb = s.shb ∧
    (s.eraseKey k).img = s.img ∧ (s.eraseKey k).tod = s.tod ∧ (s.eraseKey k).boot = s.boot ∧ (s.eraseKey k).rng = s.rng :=
  ⟨rfl, rfl, rfl, rfl, rfl, rfl, rfl, rfl, rfl, rfl, rfl, rfl, rfl, rfl, rfl, rfl, rfl, rfl, rfl, rfl, rfl, rfl, rfl, rfl, rfl⟩

@[simp] theorem State.controllerWrite_rest :
    s.controllerWrite.pending = s.pending ∧ s.controllerWrite.now = s.now ∧ s.controllerWrite.free = s.free ∧
    s.controllerWrite.cores = s.cores ∧ s.controllerWrite.pairs = s.pairs ∧ s.controllerWrite.mem = s.mem ∧
    s.controllerWrite.io = s.io ∧ s.controllerWrite.cue = s.cue ∧ s.controllerWrite.flt = s.flt ∧
    s.controllerWrite.outbox = s.outbox ∧ s.controllerWrite.devnum = s.devnum ∧ s.controllerWrite.boardnum = s.boardnum ∧
    s.controllerWrite.dir = s.dir ∧ s.controllerWrite.lost = s.lost ∧ s.controllerWrite.pwr = s.pwr ∧
    s.controllerWrite.bmp = s.bmp ∧ s.controllerWrite.tap = s.tap ∧ s.controllerWrite.trs = s.trs ∧
    s.controllerWrite.inst = s.inst ∧ s.controllerWrite.xch = s.xch ∧ s.controllerWrite.shb = s.shb ∧
    s.controllerWrite.img = s.img ∧ s.controllerWrite.tod = s.tod ∧ s.controllerWrite.boot = s.boot ∧
    s.controllerWrite.rng = s.rng :=
  ⟨rfl, rfl, rfl, rfl, rfl, rfl, rfl, rfl, rfl, rfl, rfl, rfl, rfl, rfl, rfl, rfl, rfl, rfl, rfl, rfl, rfl, rfl, rfl, rfl, rfl⟩

@[simp] theorem State.showSeq_rest (p code : Nat) :
    (s.showSeq p code).pending = s.pending ∧ (s.showSeq p code).now = s.now ∧ (s.showSeq p code).free = s.free ∧
    (s.showSeq p code).cores = s.cores ∧ (s.showSeq p code).pairs = s.pairs ∧ (s.showSeq p code).mem = s.mem ∧
    (s.showSeq p code).io = s.io ∧ (s.showSeq p code).cue = s.cue ∧ (s.showSeq p code).flt = s.flt ∧
    (s.showSeq p code).outbox = s.outbox ∧ (s.showSeq p code).devnum = s.devnum ∧
    (s.showSeq p code).boardnum = s.boardnum ∧ (s.showSeq p code).dir = s.dir ∧ (s.showSeq p code).lost = s.lost ∧
    (s.showSeq p code).pwr = s.pwr ∧ (s.showSeq p code).fbs = s.fbs ∧ (s.showSeq p code).bmp = s.bmp ∧
    (s.showSeq p code).tap = s.tap ∧ (s.showSeq p code).trs = s.trs ∧ (s.showSeq p code).inst = s.inst ∧
    (s.showSeq p code).shb = s.shb ∧ (s.showSeq p code).img = s.img ∧ (s.showSeq p code).tod = s.tod ∧
    (s.showSeq p code).boot = s.boot ∧ (s.showSeq p code).rng = s.rng :=
  ⟨rfl, rfl, rfl, rfl, rfl, rfl, rfl, rfl, rfl, rfl, rfl, rfl, rfl, rfl, rfl, rfl, rfl, rfl, rfl, rfl, rfl, rfl, rfl, rfl, rfl⟩

/-! What is read after an update -/

@[simp] theorem State.core_setCore (lc : Nat) (c : Core) : (s.setCore lc c).core lc = c := mapGet_mapSet_same _ _ _ _
theorem State.core_setCore_ne {lc j : Nat} (c : Core) (h : j ≠ lc) : (s.setCore lc c).core j = s.core j :=
  mapGet_mapSet_ne _ _ _ h
@[simp] theorem State.core_modCore (lc : Nat) (f : Core → Core) : (s.modCore lc f).core lc = f (s.core lc) :=
  mapGet_mapSet_same _ _ _ _

@[simp] theorem State.pair_setPair (q : Nat) (p : PairPos) : (s.setPair q p).pair q = p := by
  simp [State.pair, State.setPair]
theorem State.pair_setPair_ne {q j : Nat} (p : PairPos) (h : j ≠ q) : (s.setPair q p).pair j = s.pair j := by
  simp [State.pair, State.setPair, mapGet_mapSet, h]
@[simp] theorem State.pair_modPair (q : Nat) (f : PairPos → PairPos) : (s.modPair q f).pair q = f (s.pair q) := by
  simp [State.modPair]

@[simp] theorem State.entry_setEntry (x : Nat) (e : Entry) : (s.setEntry x e).entry x = e := mapGet_mapSet_same _ _ _ _
theorem State.entry_setEntry_ne {x y : Nat} (e : Entry) (h : y ≠ x) : (s.setEntry x e).entry y = s.entry y :=
  mapGet_mapSet_ne _ _ _ h
@[simp] theorem State.exch_setExch (x : Nat) (w : Exch) : (s.setExch x w).exch x = w := mapGet_mapSet_same _ _ _ _
theorem State.exch_setExch_ne {x y : Nat} (w : Exch) (h : y ≠ x) : (s.setExch x w).exch y = s.exch y :=
  mapGet_mapSet_ne _ _ _ h
@[simp] theorem State.port_modPort (k : Nat) (f : Port → Port) : (s.modPort k f).port k = f (s.port k) := mapGet_mapSet_same _ _ _ _
theorem State.port_modPort_ne {k j : Nat} (f : Port → Port) (h : j ≠ k) : (s.modPort k f).port j = s.port j :=
  mapGet_mapSet_ne _ _ _ h
@[simp] theorem State.seqPair_setSeqPair (p : Nat) (c : SeqPair) : (s.setSeqPair p c).seqPair p = c := mapGet_mapSet_same _ _ _ _
theorem State.seqPair_setSeqPair_ne {p q : Nat} (c : SeqPair) (h : q ≠ p) : (s.setSeqPair p c).seqPair q = s.seqPair q :=
  mapGet_mapSet_ne _ _ _ h
@[simp] theorem State.entry_setSeqPair (p x : Nat) (c : SeqPair) : (s.setSeqPair p c).entry x = s.entry x := rfl
@[simp] theorem State.exch_setSeqPair (p x : Nat) (c : SeqPair) : (s.setSeqPair p c).exch x = s.exch x := rfl
@[simp] theorem State.entry_setExch (x y : Nat) (w : Exch) : (s.setExch x w).entry y = s.entry y := rfl
@[simp] theorem State.exch_setEntry (x y : Nat) (e : Entry) : (s.setEntry x e).exch y = s.exch y := rfl

/-- Nothing read, nothing checked (R337). -/
@[simp] theorem State.copyChecks_nil (reads : Nat → Bool) : s.copyChecks reads [] = s := rfl

/-- A register reads as it was last set. -/
@[simp] theorem State.acting_setActing (r : RegName) (u k : Nat) (v : Word) : (s.setActing r u k v).acting r u k = v := by
  simp [State.acting, State.setActing]

/-- Setting a register leaves every one at another key. -/
theorem State.acting_setActing_ne {r r' : RegName} {u k u' k' : Nat} (v : Word) (h : regKey r' u' k' ≠ regKey r u k) :
    (s.setActing r u k v).acting r' u' k' = s.acting r' u' k' := by
  unfold State.acting State.setActing
  rw [mapGet_mapSet_ne _ _ _ h]
  cases r' <;> rfl

/-- A field reads as it was last set, within its width. -/
theorem State.fget_fset (f : FieldRef) (u k v : Nat) (h : f.lo + f.width ≤ 64) :
    (s.fset f u k v).fget f u k = v % 2 ^ f.width := by
  unfold State.fget State.fset
  rw [State.acting_setActing]
  exact fld_setFld _ _ _ _ h

/-- Setting a field leaves every register at another key. -/
theorem State.fget_fset_ne {f g : FieldRef} {u k u' k' : Nat} (v : Nat) (h : regKey g.reg u' k' ≠ regKey f.reg u k) :
    (s.fset f u k v).fget g u' k' = s.fget g u' k' := by
  unfold State.fget State.fset
  rw [State.acting_setActing_ne _ _ h]

end Sys2Proof.Machine
end

