-- ==== Sys2Proof/WellFormed.lean ====
section
/-! DEFINITION. Which operands a command can come with: numbers of units within the spec's tables, fields within their
widths. -/

namespace Sys2Proof

/-- R34, R35: an identity as its fields hold it, of a master that I/O space reaches. -/
def masterOk (m : Master) : Bool := m.kind.reachesIo && decide (m.dev < 32) && decide (m.unit < 128) && decide (m.inst < 1024)

/-- R391: a message as its header holds it. -/
def msgOk (m : Msg) : Bool :=
  decide (m.kind < 256) && decide (m.src < 32) && decide (m.mkind < 8) && decide (m.unit < 128) && decide (m.inst < 1024)
    && decide (m.dst < 32) && decide (m.tag < 65536) && decide (m.addr < 2 ^ 52) && decide (m.data.length ≤ 128)

/-- A cue source, where one is named (R67). -/
def sourceOk : Option Nat → Bool
  | some n => decide (n < 4096)
  | none => true

/-- A line address, where one is named. -/
def lineOk : Option Nat → Bool
  | some n => decide (n < 2 ^ 52) && decide (n % 128 = 0)
  | none => true

/-- R337: the entries named are of the exchange table. -/
def chksOk (chks : List (Nat × CopyCheck)) : Bool := chks.all (fun c => decide (c.1 < 1048576))

/-- Whether a command's operands lie within their fields. -/
def Instr.wf : Instr → Bool
  | .registerWrite who addr ⟨_, chks⟩ => masterOk who && decide (addr < 4294967296) && chksOk chks
  | .rcRead who addr => masterOk who && decide (addr < 4294967296)
  | .commitWrite who blk group => masterOk who && decide (blk < 128) && decide (group < 16384)
  | .safePointReached blk _ k => decide (blk < 128) && decide (k < 16384)
  | .blockResetEnd blk => decide (blk < 128)
  | .nop i => decide (i.core < 128)
  | .xbar i => decide (i.core < 128)
  | .fbar i => decide (i.core < 128)
  | .mbar i => decide (i.core < 128)
  | .isync i => decide (i.core < 128)
  | .retw i => decide (i.core < 128)
  | .retl i => decide (i.core < 128)
  | .rett i => decide (i.core < 128)
  | .wait i => decide (i.core < 128)
  | .svc i _ => decide (i.core < 128)
  | .bkpt i _ => decide (i.core < 128)
  | .jmp i _ => decide (i.core < 128)
  | .callwr i _ => decide (i.core < 128)
  | .prefd i _ => decide (i.core < 128)
  | .prefw i _ => decide (i.core < 128)
  | .prefi i _ => decide (i.core < 128)
  | .neg i _ => decide (i.core < 128)
  | .not i _ => decide (i.core < 128)
  | .abs i _ => decide (i.core < 128)
  | .clz i _ => decide (i.core < 128)
  | .popc i _ => decide (i.core < 128)
  | .bswap i _ => decide (i.core < 128)
  | .sxt i _ => decide (i.core < 128)
  | .zxt i _ => decide (i.core < 128)
  | .shli i _ => decide (i.core < 128)
  | .shri i _ => decide (i.core < 128)
  | .sari i _ => decide (i.core < 128)
  | .rori i _ => decide (i.core < 128)
  | .dstep i _ => decide (i.core < 128)
  | .dval i _ => decide (i.core < 128)
  | .mfs i _ => decide (i.core < 128)
  | .mts i _ => decide (i.core < 128)
  | .lvlResume i _ => decide (i.core < 128)
  | .lvlDismiss i _ => decide (i.core < 128)
  | .fpOwnerWrite i _ => decide (i.core < 128)
  | .mft i _ => decide (i.core < 128)
  | .mtt i _ => decide (i.core < 128)
  | .tlbi i _ => decide (i.core < 128)
  | .add i _ => decide (i.core < 128)
  | .adc i _ => decide (i.core < 128)
  | .sub i _ => decide (i.core < 128)
  | .sbc i _ => decide (i.core < 128)
  | .and i _ => decide (i.core < 128)
  | .or i _ => decide (i.core < 128)
  | .xor i _ => decide (i.core < 128)
  | .andn i _ => decide (i.core < 128)
  | .shl i _ => decide (i.core < 128)
  | .shr i _ => decide (i.core < 128)
  | .sar i _ => decide (i.core < 128)
  | .ror i _ => decide (i.core < 128)
  | .mul i _ => decide (i.core < 128)
  | .mulh i _ => decide (i.core < 128)
  | .mulhu i _ => decide (i.core < 128)
  | .cmp i _ => decide (i.core < 128)
  | .tst i _ => decide (i.core < 128)
  | .cas i _ => decide (i.core < 128)
  | .dadd i _ => decide (i.core < 128)
  | .dsub i _ => decide (i.core < 128)
  | .daddt i _ => decide (i.core < 128)
  | .dsubt i _ => decide (i.core < 128)
  | .dsfix i _ => decide (i.core < 128)
  | .dsfixs i _ => decide (i.core < 128)
  | .cinv i _ => decide (i.core < 128)
  | .cflush i _ => decide (i.core < 128)
  | .br i _ => decide (i.core < 128)
  | .callw i _ => decide (i.core < 128)
  | .ldbu i _ => decide (i.core < 128)
  | .ldbs i _ => decide (i.core < 128)
  | .ldhu i _ => decide (i.core < 128)
  | .ldhs i _ => decide (i.core < 128)
  | .ldwu i _ => decide (i.core < 128)
  | .ldws i _ => decide (i.core < 128)
  | .ldd i _ _ => decide (i.core < 128)
  | .stb i _ => decide (i.core < 128)
  | .sth i _ => decide (i.core < 128)
  | .stw i _ => decide (i.core < 128)
  | .std i _ => decide (i.core < 128)
  | .ild i _ => decide (i.core < 128)
  | .ist i _ => decide (i.core < 128)
  | .inp i _ => decide (i.core < 128)
  | .outp i _ => decide (i.core < 128)
  | .addi i _ => decide (i.core < 128)
  | .andi i _ => decide (i.core < 128)
  | .ori i _ => decide (i.core < 128)
  | .xori i _ => decide (i.core < 128)
  | .cmpi i _ => decide (i.core < 128)
  | .bc i _ => decide (i.core < 128)
  | .ldm i _ part => decide (i.core < 128) && lineOk part
  | .stm i _ part => decide (i.core < 128) && lineOk part
  | .fmov i _ => decide (i.core < 128)
  | .fneg i _ => decide (i.core < 128)
  | .fabs i _ => decide (i.core < 128)
  | .fdstartDiv i _ => decide (i.core < 128)
  | .fdstartSqrt i _ => decide (i.core < 128)
  | .fdstep i _ => decide (i.core < 128)
  | .fdfin i _ => decide (i.core < 128)
  | .fcvt i _ => decide (i.core < 128)
  | .frint i _ => decide (i.core < 128)
  | .fcvtfi i _ => decide (i.core < 128)
  | .fcvtif i _ => decide (i.core < 128)
  | .fadd i _ => decide (i.core < 128)
  | .fsub i _ => decide (i.core < 128)
  | .fmul i _ => decide (i.core < 128)
  | .fcmp i _ => decide (i.core < 128)
  | .fcmps i _ => decide (i.core < 128)
  | .fmvfg i _ => decide (i.core < 128)
  | .fmvgf i _ => decide (i.core < 128)
  | .fmfc i _ => decide (i.core < 128)
  | .fmtc i _ => decide (i.core < 128)
  | .flds i _ => decide (i.core < 128)
  | .fldd i _ => decide (i.core < 128)
  | .fldq i _ => decide (i.core < 128)
  | .fsts i _ => decide (i.core < 128)
  | .fstd i _ => decide (i.core < 128)
  | .fstq i _ => decide (i.core < 128)
  | .fpSwitch run => decide (run.core < 128)
  | .longOpComplete core lvl k => decide (core < 128) && decide (lvl < 8) && decide (k < 65536)
  | .impreciseException core => decide (core < 128)
  | .storeDrain core => decide (core < 128)
  | .cueRaise who _ => masterOk who
  | .eventDelivery src => decide (src < 4096)
  | .tokenCompare pos _ _ => decide (pos < 48)
  | .tokenTimeout pos _ => decide (pos < 48)
  | .detectedInternalError pos partner _ _ => decide (pos < 48) && decide (partner < 2)
  | .agreementPoint pos => decide (pos < 40)
  | .groupCommit core => decide (core < 128)
  | .cutin who core spare => masterOk who && decide (core < 80) && decide (spare < 256)
  | .pairSplit who core => masterOk who && decide (core < 80)
  | .splitHandover pos => decide (pos < 40)
  | .pairJoin who core => masterOk who && decide (core < 80)
  | .joinCommit pos => decide (pos < 40)
  | .retire who core => masterOk who && decide (core < 80)
  | .serviceCutin _ => true
  | .fbsWatchdogExpiry => true
  | .fbsKick who => masterOk who
  | .callerNeededClear who => masterOk who
  | .scrubRead chan line _ => decide (chan < 16) && decide (line < 4503599627370496)
  | .rngFlush who source => masterOk who && sourceOk source
  | .rngFlushInval who source => masterOk who && sourceOk source
  | .rngInval who source => masterOk who && sourceOk source
  | .rngZero who source => masterOk who && sourceOk source
  | .rangeDone => true
  | .resConversionDone => true
  | .trsDoorbell who queue tail => masterOk who && decide (queue < 1025) && decide (tail < 65536)
  | .transform engine => decide (engine < 8)
  | .keyLoad engine => decide (engine < 8)
  | .keyErase engine => decide (engine < 8)
  | .verifyEcdsa engine => decide (engine < 8)
  | .verifyLms engine => decide (engine < 8)
  | .compressBlock engine _ => decide (engine < 8)
  | .decompressBlock run => decide (run.engine < 8)
  | .engineInternalError engine kind _ _ => decide (engine < 8) && decide (kind < 4096)
  | .read pair _ _ => decide (pair < 8)
  | .write pair _ _ => decide (pair < 8)
  | .flush pair _ _ => decide (pair < 8)
  | .writeZeroes pair _ _ => decide (pair < 8)
  | .dsm pair _ _ => decide (pair < 8)
  | .mgmt pair _ _ => decide (pair < 8)
  | .xchRqDoorbell who ring tail => masterOk who && decide (ring < 4096) && decide (tail < 65536)
  | .pathChoice exch _ _ => decide (exch < 1048576)
  | .exchangeTransformDone exch _ => decide (exch < 1048576)
  | .windowTransfer op => decide (op.len < 2 ^ 20)
  | .interruptWrite group port _ data => decide (group < 4) && decide (port < 16) && decide (data.length = 4)
  | .targetCompletion target path cid status _ => decide (target < 1024) && decide (path < 8) && decide (cid < 65536) && decide (status < 32768)
  | .completionRecordVisible run => decide (run.exch < 1048576)
  | .xchCqHead who ring ⟨head, chks⟩ => masterOk who && decide (ring < 4096) && decide (head < 4294967296) && chksOk chks
  | .pathFailed target path ⟨_, chks⟩ => decide (target < 1024) && decide (path < 8) && chksOk chks
  | .commandTimeout ⟨exch, _⟩ => decide (exch < 1048576)
  | .attemptEnd ⟨exch, _⟩ number => decide (exch < 1048576) && decide (number < 65536)
  | .fenceExpiry target ⟨path, chks⟩ => decide (target < 1024) && decide (path < 8) && chksOk chks
  | .sequencerAdoption ⟨pair, chks⟩ => decide (pair < 8) && chksOk chks
  | .tableCopyFailure copy => decide (copy < 2)
  | .tableRebuildDone _ => true
  | .linkChange group ⟨port, chks, _, _⟩ _ _ => decide (group < 8) && decide (port < 16) && chksOk chks
  | .drainEnd ⟨done, chks⟩ => decide (done < 1048576) && chksOk chks
  | .replayStart who ring => masterOk who && decide (ring < 4096)
  | .replayDone => true
  | .replayConsume who => masterOk who
  | .create who inst => masterOk who && decide (inst < 1024)
  | .instCmdRemove who ⟨inst, chks⟩ => masterOk who && decide (inst < 1024) && chksOk chks
  | .modify who inst => masterOk who && decide (inst < 1024)
  | .instReset who ⟨inst, chks⟩ => masterOk who && decide (inst < 1024) && chksOk chks
  | .instRemove who ⟨inst, chks⟩ => masterOk who && decide (inst < 1024) && chksOk chks
  | .resetAcksComplete ⟨inst, chks⟩ => decide (inst < 1024) && chksOk chks
  | .flitReceive port bytes fec _ => decide (port < 10) && decide (bytes.length = 256) && decide (fec < 65536)
  | .laneFault port lane => decide (port < 10) && decide (lane < 8)
  | .portDown port => decide (port < 10)
  | .portTrained port peer peerPort ⟨lanes, _⟩ delay credit => decide (port < 10) && decide (peer < 32) && decide (peerPort < 16) && decide (lanes < 256) && decide (delay < 4294967296) && decide (credit < 256)
  | .shbRetrain who port => masterOk who && decide (port < 10)
  | .trickleIdleExpiry port => decide (port < 10)
  | .trickleExitDone port => decide (port < 10)
  | .readShared port m _ _ evict => decide (port < 10) && msgOk m && lineOk evict
  | .readOwn port m _ _ evict => decide (port < 10) && msgOk m && lineOk evict
  | .upgrade port m _ _ evict => decide (port < 10) && msgOk m && lineOk evict
  | .ownNoData port m _ _ evict => decide (port < 10) && msgOk m && lineOk evict
  | .writeback port m => decide (port < 10) && msgOk m
  | .dataShared port m => decide (port < 10) && msgOk m
  | .dataOwn port m => decide (port < 10) && msgOk m
  | .grant port m => decide (port < 10) && msgOk m
  | .retry port m => decide (port < 10) && msgOk m
  | .noHome port m => decide (port < 10) && msgOk m
  | .wbAck port m => decide (port < 10) && msgOk m
  | .snpInv port m => decide (port < 10) && msgOk m
  | .snpShare port m => decide (port < 10) && msgOk m
  | .snpOwn port m => decide (port < 10) && msgOk m
  | .snpAck port m => decide (port < 10) && msgOk m
  | .snpData port m => decide (port < 10) && msgOk m
  | .ioRead port m => decide (port < 10) && msgOk m
  | .ioWrite port m => decide (port < 10) && msgOk m
  | .ioData port m => decide (port < 10) && msgOk m
  | .ioAck port m => decide (port < 10) && msgOk m
  | .join port m => decide (port < 10) && msgOk m
  | .admitJoin port m => decide (port < 10) && msgOk m
  | .refuse port m => decide (port < 10) && msgOk m
  | .heartbeat port m => decide (port < 10) && msgOk m
  | .takeover port m => decide (port < 10) && msgOk m
  | .sync port m => decide (port < 10) && msgOk m
  | .alert port m => decide (port < 10) && msgOk m
  | .handover port m => decide (port < 10) && msgOk m
  | .fault port m => decide (port < 10) && msgOk m
  | .listenExpiry => true
  | .joinRepeat => true
  | .heartbeatSend => true
  | .heartbeatTimeout ⟨dev, _⟩ => decide (dev < 32)
  | .syncSend => true
  | .syncLoss => true
  | .todSet who _ => masterOk who
  | .todPpsEdge => true
  | .timerExpiry timer => decide (timer < 256)
  | .faultMessage blk unit kind cls akind addr => decide (blk < 128) && decide (unit < 128) && decide (kind < 4096) && decide (cls < 5) && decide (akind < 4) && decide (addr < 4503599627370496)
  | .fltResetGo who ⟨blk, chks⟩ => masterOk who && decide (blk < 128) && chksOk chks
  | .shadowClose blk => decide (blk < 128)
  | .fltPendAck who _ unit bits => masterOk who && decide (unit < 128) && decide (bits < 32)
  | .bootHoldClear who => masterOk who
  | .noController => true
  | .brownoutEntry => true
  | .brownoutExit => true
  | .powerFailStart => true
  | .safeStateEntry => true
  | .failRestart => true
  | .overvoltage => true
  | .phaseFailure => true
  | .capWindow vin iin watts => decide (vin < 65536) && decide (iin < 65536) && decide (watts < 1024)
  | .thermalSlowEntry temp => decide (temp < 256)
  | .thermalStep temp => decide (temp < 256)
  | .thermalTrip => true
  | .powerOn => true
  | .vin54Removed => true
  | .resetNAssert => true
  | .resetNRelease => true
  | .domainOn who dom => masterOk who && decide (dom < 128)
  | .domainOff who ⟨dom, chks⟩ => masterOk who && decide (dom < 128) && chksOk chks
  | .wakeGrant => true
  | .domainWakeDone dom _ => decide (dom < 128)
  | .domainOffDone dom => decide (dom < 128)
  | .pwrDomainFailed ⟨dom, chks⟩ => decide (dom < 128) && chksOk chks
  | .stateReqActive who => masterOk who
  | .stateReqRest who => masterOk who
  | .stateReqStandby who => masterOk who
  | .startSequence run => decide (run.dev < 32) && decide (run.board < 4) && decide (run.engine < 8)
  | .cfgApply who => masterOk who
  | .cfgReady who => masterOk who
  | .svcRestart who => masterOk who
  | .channelTrained good capacity => decide (good < 65536) && decide (capacity < 4194304)
  | .memInitComplete => true
  | .nvmRead who source => masterOk who && sourceOk source
  | .nvmProgram who source => masterOk who && sourceOk source
  | .nvmErase who source => masterOk who && sourceOk source
  | .nvmDone _ => true
  | .svnAdvance who to_ => masterOk who && decide (to_ < 128)
  | .rekey who => masterOk who
  | .attestGo who source => masterOk who && sourceOk source
  | .attestDone _ => true
  | .bmpRead bytes => decide (0 < bytes.length)
  | .bmpWrite bytes => decide (0 < bytes.length)
  | .bmpPrivateRead => true
  | .setdasa static dyn => decide (static < 128) && decide (dyn < 128)
  | .entdaa dyn => decide (dyn < 128)
  | .extest _ _ => true
  | .samplePreload _ _ => true
  | .idcode => true
  | .clamp => true
  | .highz => true
  | .extestPulse _ _ => true
  | .extestTrain _ _ => true
  | .bypass => true
  | .illegalInstruction core bytes => decide (core < 128) && decide (0 < bytes.length)
  | .fetchTranslation run => decide (run.core < 128) && decide (run.bytes.length < 15)
  | .pieceWritten run => decide (run.engine < 8)
  | .groupFatal ⟨group, chks⟩ => decide (group < 8) && chksOk chks
  | .testLogicReset => true
  | .enec => true

end Sys2Proof
end

