-- ==== Sys2Proof/Tests/Slice0.lean ====
section
/-! SUPPORT. The model's own tests: ill-formed commands that the check refuses, behaviour on values worked out from the spec, and for each
statement with hypotheses a state and operands that meet them. -/

namespace Sys2Proof.Tests

-- one theorem at a time: together their evaluations take more memory than there is
set_option Elab.async false

open Sys2Proof Sys2Proof.Machine Sys2Proof.Safety Sys2Proof.Slice0

/-! Operands -/

def boss : Master := { dev := 0, kind := .core, unit := 76, inst := 0 }

/-- A master of a device number that has no code (R34). -/
def stranger : Master := { boss with dev := 32 }
def here : Ins := { core := 0, pfx := [], met := Met.none }
def beyond : Ins := { here with core := 128 }
def letter : Msg :=
  { kind := 1, src := 1, mkind := 4, unit := 0, inst := 0, dst := 0, poison := false, promoted := false, tag := 0, addr := 0, data := [] }

def window (len : Nat) : WindowOp :=
  { rdma := true, group := 0, port := 0, addr := 0, write := false, data := [], len, chk := .fine, fecFixed := 0, fecBad := 0 }

def begins (dev board engine : Nat) : StartRun := { dev, board, pair := true, spare := true, odd := false, engine, silent := [] }

/-! Well-formedness: each bound holds of a good operand and refuses the first one beyond it -/

theorem test_wf_fields : (masterOk boss && !masterOk { boss with kind := .engine } && !masterOk { boss with unit := 128 } &&
    !masterOk { boss with inst := 1024 } && msgOk letter && !msgOk { letter with kind := 256 } && !msgOk { letter with src := 32 } &&
    !msgOk { letter with mkind := 8 } && !msgOk { letter with unit := 128 } && !msgOk { letter with inst := 1024 } &&
    !msgOk { letter with tag := 65536 } && !msgOk { letter with addr := 2 ^ 52 } && !msgOk { letter with data := List.replicate 129 0 } &&
    sourceOk (some 4095) && lineOk (some 128) && !lineOk (some (2 ^ 52))) = true := by decide +kernel

theorem test_wf_accesses : (
  [Instr.registerWrite].all (fun c => (c boss 0 ⟨0, []⟩).wf && !(c stranger 0 ⟨0, []⟩).wf && !(c boss 4294967296 ⟨0, []⟩).wf &&
    !(c boss 0 ⟨0, [(1048576, .fine)]⟩).wf) &&
  [Instr.rcRead].all (fun c => (c boss 0).wf && !(c stranger 0).wf && !(c boss 4294967296).wf) &&
  [Instr.commitWrite].all (fun c => (c boss 0 0).wf && !(c stranger 0 0).wf && !(c boss 128 0).wf && !(c boss 0 16384).wf) &&
  [Instr.safePointReached].all (fun c => (c 0 false 0).wf && !(c 128 false 0).wf && !(c 0 false 16384).wf) &&
  [Instr.blockResetEnd, .impreciseException, .storeDrain, .groupCommit, .shadowClose, .domainOffDone, .entdaa].all (fun c => (c 0).wf
    && !(c 128).wf) &&
  [Instr.pwrDomainFailed].all (fun c => (c ⟨0, []⟩).wf && !(c ⟨128, []⟩).wf && !(c ⟨0, [(1048576, .fine)]⟩).wf)) = true := by decide +kernel

theorem test_wf_instructions : (
  [Instr.nop, .xbar, .fbar, .mbar, .isync, .retw, .retl, .rett, .wait].all (fun c => (c here).wf && !(c beyond).wf) &&
  [Instr.svc, .bkpt].all (fun c => (c here ⟨0⟩).wf && !(c beyond ⟨0⟩).wf) &&
  [Instr.jmp, .callwr, .prefd, .prefw, .prefi].all (fun c => (c here ⟨0, 0⟩).wf && !(c beyond ⟨0, 0⟩).wf) &&
  [Instr.neg, .not, .abs, .clz, .popc, .bswap, .sxt, .zxt, .shli, .shri, .sari, .rori, .dstep, .dval, .mfs, .mts, .mft, .mtt, .tlbi, .fmov, .fneg,
    .fabs, .fdstartSqrt, .fdstep, .fdfin, .fcvt, .frint, .fcvtfi, .fcvtif, .fmvfg, .fmvgf, .fmfc, .fmtc].all (fun c => (c here ⟨0, 0, 0⟩).wf && !(c beyond
    ⟨0, 0, 0⟩).wf) &&
  [Instr.lvlResume, .lvlDismiss, .fpOwnerWrite].all (fun c => (c here 0).wf && !(c beyond 0).wf) &&
  [Instr.add, .adc, .sub, .sbc, .and, .or, .xor, .andn, .shl, .shr, .sar, .ror, .mul, .mulh, .mulhu, .cmp, .tst, .cas, .dadd, .dsub, .daddt, .dsubt,
    .dsfix, .dsfixs, .cinv, .cflush, .fdstartDiv, .fadd, .fsub, .fmul, .fcmp, .fcmps].all (fun c => (c here ⟨0, 0, 0, 0, 0⟩).wf && !(c beyond ⟨0, 0, 0, 0,
    0⟩).wf) &&
  [Instr.br, .callw].all (fun c => (c here ⟨0⟩).wf && !(c beyond ⟨0⟩).wf) &&
  [Instr.ldbu, .ldbs, .ldhu, .ldhs, .ldwu, .ldws, .stb, .sth, .stw, .std, .flds, .fldd, .fldq, .fsts, .fstd, .fstq].all (fun c => (c here (.ri ⟨0, 0,
    0⟩)).wf && !(c beyond (.ri ⟨0, 0, 0⟩)).wf) &&
  [Instr.ldd].all (fun c => (c here (.ri ⟨0, 0, 0⟩) []).wf && !(c beyond (.ri ⟨0, 0, 0⟩) []).wf) &&
  [Instr.ild, .ist, .inp, .outp].all (fun c => (c here ⟨0, 0, 0⟩).wf && !(c beyond ⟨0, 0, 0⟩).wf) &&
  [Instr.addi, .andi, .ori, .xori, .cmpi].all (fun c => (c here (.ri ⟨0, 0, 0⟩)).wf && !(c beyond (.ri ⟨0, 0, 0⟩)).wf) &&
  [Instr.bc].all (fun c => (c here ⟨0, 0, 0⟩).wf && !(c beyond ⟨0, 0, 0⟩).wf) &&
  [Instr.ldm, .stm].all (fun c => (c here ⟨0, 0, 0, 0⟩ none).wf && !(c beyond ⟨0, 0, 0, 0⟩ none).wf && !(c here ⟨0, 0, 0, 0⟩ (some 1)).wf) &&
  [Instr.fpSwitch].all (fun c => (c ⟨0, false⟩).wf && !(c ⟨128, false⟩).wf)) = true := by decide +kernel

theorem test_wf_cores : (
  [Instr.longOpComplete].all (fun c => (c 0 0 0).wf && !(c 128 0 0).wf && !(c 0 8 0).wf && !(c 0 0 65536).wf) &&
  [Instr.cueRaise, .todSet].all (fun c => (c boss 0).wf && !(c stranger 0).wf) &&
  [Instr.eventDelivery].all (fun c => (c 0).wf && !(c 4096).wf) &&
  [Instr.tokenCompare].all (fun c => (c 0 .equal .fine).wf && !(c 48 .equal .fine).wf) &&
  [Instr.tokenTimeout].all (fun c => (c 0 .fine).wf && !(c 48 .fine).wf) &&
  [Instr.detectedInternalError].all (fun c => (c 0 0 ⟨false, false⟩ .fine).wf && !(c 48 0 ⟨false, false⟩ .fine).wf && !(c 0 2 ⟨false, false⟩ .fine).wf) &&
  [Instr.agreementPoint, .splitHandover, .joinCommit].all (fun c => (c 0).wf && !(c 40).wf) &&
  [Instr.cutin].all (fun c => (c boss 0 0).wf && !(c stranger 0 0).wf && !(c boss 80 0).wf && !(c boss 0 256).wf) &&
  [Instr.pairSplit, .pairJoin, .retire].all (fun c => (c boss 0).wf && !(c stranger 0).wf && !(c boss 80).wf) &&
  [Instr.fbsKick, .callerNeededClear, .replayConsume, .bootHoldClear, .stateReqActive, .stateReqRest, .stateReqStandby, .cfgApply, .cfgReady,
    .svcRestart, .rekey].all (fun c => (c boss).wf && !(c stranger).wf) &&
  [Instr.scrubRead].all (fun c => (c 0 0 none).wf && !(c 16 0 none).wf && !(c 0 4503599627370496 none).wf) &&
  [Instr.rngFlush, .rngFlushInval, .rngInval, .rngZero, .nvmRead, .nvmProgram, .nvmErase, .attestGo].all (fun c => (c boss none).wf && !(c stranger
    none).wf && !(c boss (some 4096)).wf)) = true := by decide +kernel

theorem test_wf_engines : (
  [Instr.trsDoorbell].all (fun c => (c boss 0 0).wf && !(c stranger 0 0).wf && !(c boss 1025 0).wf && !(c boss 0 65536).wf) &&
  [Instr.transform, .keyLoad, .keyErase, .verifyEcdsa, .verifyLms].all (fun c => (c 0).wf && !(c 8).wf) &&
  [Instr.groupFatal, .sequencerAdoption].all (fun c => (c ⟨0, []⟩).wf && !(c ⟨8, []⟩).wf && !(c ⟨0, [(1048576, .fine)]⟩).wf) &&
  [Instr.compressBlock].all (fun c => (c 0 0).wf && !(c 8 0).wf) &&
  [Instr.decompressBlock, .pieceWritten].all (fun c => (c ⟨0, 0⟩).wf && !(c ⟨8, 0⟩).wf) &&
  [Instr.engineInternalError].all (fun c => (c 0 0 0 false).wf && !(c 8 0 0 false).wf && !(c 0 4096 0 false).wf) &&
  [Instr.read, .write, .flush, .writeZeroes, .dsm, .mgmt].all (fun c => (c 0 [] .fine).wf && !(c 8 [] .fine).wf) &&
  [Instr.xchRqDoorbell].all (fun c => (c boss 0 0).wf && !(c stranger 0 0).wf && !(c boss 4096 0).wf && !(c boss 0 65536).wf)) = true := by decide +kernel

theorem test_wf_exchanges : (
  [Instr.pathChoice].all (fun c => (c 0 [] .fine).wf && !(c 1048576 [] .fine).wf) &&
  [Instr.exchangeTransformDone].all (fun c => (c 0 ⟨[], .fine⟩).wf && !(c 1048576 ⟨[], .fine⟩).wf) &&
  [Instr.windowTransfer].all (fun c => (c (window 0)).wf && !(c (window (2 ^ 20))).wf) &&
  [Instr.interruptWrite].all (fun c => (c 0 0 0 [0, 0, 0, 0]).wf && !(c 4 0 0 [0, 0, 0, 0]).wf && !(c 0 16 0 [0, 0, 0, 0]).wf && !(c 0 0 0 []).wf) &&
  [Instr.targetCompletion].all (fun c => (c 0 0 0 0 ⟨[], .fine, 0, 0⟩).wf && !(c 1024 0 0 0 ⟨[], .fine, 0, 0⟩).wf &&
    !(c 0 8 0 0 ⟨[], .fine, 0, 0⟩).wf && !(c 0 0 65536 0 ⟨[], .fine, 0, 0⟩).wf && !(c 0 0 0 32768 ⟨[], .fine, 0, 0⟩).wf) &&
  [Instr.completionRecordVisible].all (fun c => (c ⟨0, .fine⟩).wf && !(c ⟨1048576, .fine⟩).wf) &&
  [Instr.xchCqHead].all (fun c => (c boss 0 ⟨0, []⟩).wf && !(c stranger 0 ⟨0, []⟩).wf && !(c boss 4096 ⟨0, []⟩).wf &&
    !(c boss 0 ⟨4294967296, []⟩).wf && !(c boss 0 ⟨0, [(1048576, .fine)]⟩).wf) &&
  [Instr.pathFailed].all (fun c => (c 0 0 ⟨.link, []⟩).wf && !(c 1024 0 ⟨.link, []⟩).wf && !(c 0 8 ⟨.link, []⟩).wf &&
    !(c 0 0 ⟨.link, [(1048576, .fine)]⟩).wf) &&
  [Instr.commandTimeout].all (fun c => (c ⟨0, .fine⟩).wf && !(c ⟨1048576, .fine⟩).wf) &&
  [Instr.drainEnd].all (fun c => (c ⟨0, []⟩).wf && !(c ⟨1048576, []⟩).wf && !(c ⟨0, [(1048576, .fine)]⟩).wf) &&
  [Instr.attemptEnd].all (fun c => (c ⟨0, .fine⟩ 0).wf && !(c ⟨1048576, .fine⟩ 0).wf && !(c ⟨0, .fine⟩ 65536).wf) &&
  [Instr.fenceExpiry].all (fun c => (c 0 ⟨0, []⟩).wf && !(c 1024 ⟨0, []⟩).wf && !(c 0 ⟨8, []⟩).wf && !(c 0 ⟨0, [(1048576, .fine)]⟩).wf) &&
  [Instr.tableCopyFailure].all (fun c => (c 0).wf && !(c 2).wf) &&
  [Instr.linkChange].all (fun c => (c 0 ⟨0, [], 0, 0⟩ false false).wf && !(c 8 ⟨0, [], 0, 0⟩ false false).wf && !(c 0 ⟨16, [], 0, 0⟩ false false).wf &&
    !(c 0 ⟨0, [(1048576, .fine)], 0, 0⟩ false false).wf) &&
  [Instr.replayStart].all (fun c => (c boss 0).wf && !(c stranger 0).wf && !(c boss 4096).wf)) = true := by decide +kernel

theorem test_wf_instances : (
  [Instr.create, .modify].all (fun c => (c boss 0).wf && !(c stranger 0).wf && !(c boss 1024).wf) &&
  [Instr.instCmdRemove, .instReset, .instRemove].all (fun c => (c boss ⟨0, []⟩).wf && !(c stranger ⟨0, []⟩).wf && !(c boss ⟨1024, []⟩).wf &&
    !(c boss ⟨0, [(1048576, .fine)]⟩).wf) &&
  [Instr.resetAcksComplete].all (fun c => (c ⟨0, []⟩).wf && !(c ⟨1024, []⟩).wf && !(c ⟨0, [(1048576, .fine)]⟩).wf) &&
  [Instr.flitReceive].all (fun c => (c 0 (List.replicate 256 0) 0 false).wf && !(c 10 (List.replicate 256 0) 0 false).wf && !(c 0 [] 0 false).wf && !(c
    0 (List.replicate 256 0) 65536 false).wf)) = true := by decide +kernel

theorem test_wf_links : (
  [Instr.laneFault].all (fun c => (c 0 0).wf && !(c 10 0).wf && !(c 0 8).wf) &&
  [Instr.portDown, .trickleIdleExpiry, .trickleExitDone].all (fun c => (c 0).wf && !(c 10).wf) &&
  [Instr.portTrained].all (fun c => (c 0 0 0 ⟨0, true⟩ 0 0).wf && !(c 10 0 0 ⟨0, true⟩ 0 0).wf && !(c 0 32 0 ⟨0, true⟩ 0 0).wf &&
    !(c 0 0 16 ⟨0, true⟩ 0 0).wf && !(c 0 0 0 ⟨256, true⟩ 0 0).wf && !(c 0 0 0 ⟨0, true⟩ 4294967296 0).wf && !(c 0 0 0 ⟨0, true⟩ 0 256).wf) &&
  [Instr.shbRetrain].all (fun c => (c boss 0).wf && !(c stranger 0).wf && !(c boss 10).wf) &&
  [Instr.readShared, .readOwn, .upgrade, .ownNoData].all (fun c => (c 0 letter [] .fine none).wf && !(c 10 letter [] .fine none).wf && !(c 0 { letter
    with dst := 32 } [] .fine none).wf && !(c 0 letter [] .fine (some 1)).wf) &&
  [Instr.writeback, .dataShared, .dataOwn, .grant, .retry, .noHome, .wbAck, .snpInv, .snpShare, .snpOwn, .snpAck, .snpData, .ioRead, .ioWrite, .ioData,
    .ioAck, .join, .admitJoin, .refuse, .heartbeat, .takeover, .sync, .alert, .handover, .fault].all (fun c => (c 0 letter).wf && !(c 10 letter).wf && !(c
    0 { letter with dst := 32 }).wf) &&
  [Instr.heartbeatTimeout].all (fun c => (c ⟨0, false⟩).wf && !(c ⟨32, false⟩).wf) &&
  [Instr.timerExpiry, .thermalSlowEntry, .thermalStep].all (fun c => (c 0).wf && !(c 256).wf)) = true := by decide +kernel

theorem test_wf_device : (
  [Instr.faultMessage].all (fun c => (c 0 0 0 0 0 0).wf && !(c 128 0 0 0 0 0).wf && !(c 0 128 0 0 0 0).wf && !(c 0 0 4096 0 0 0).wf && !(c 0 0 0 5 0
    0).wf && !(c 0 0 0 0 4 0).wf && !(c 0 0 0 0 0 4503599627370496).wf) &&
  [Instr.domainOn, .svnAdvance].all (fun c => (c boss 0).wf && !(c stranger 0).wf && !(c boss 128).wf) &&
  [Instr.fltResetGo, .domainOff].all (fun c => (c boss ⟨0, []⟩).wf && !(c stranger ⟨0, []⟩).wf && !(c boss ⟨128, []⟩).wf) &&
  [Instr.fltPendAck].all (fun c => (c boss false 0 0).wf && !(c stranger false 0 0).wf && !(c boss false 128 0).wf && !(c boss false 0 32).wf) &&
  [Instr.capWindow].all (fun c => (c 0 0 0).wf && !(c 65536 0 0).wf && !(c 0 65536 0).wf && !(c 0 0 1024).wf) &&
  [Instr.domainWakeDone].all (fun c => (c 0 false).wf && !(c 128 false).wf) &&
  [Instr.startSequence].all (fun c => (c (begins 0 0 0)).wf && !(c (begins 32 0 0)).wf && !(c (begins 0 4 0)).wf && !(c (begins 0 0 8)).wf) &&
  [Instr.channelTrained].all (fun c => (c 0 0).wf && !(c 65536 0).wf && !(c 0 4194304).wf) &&
  [Instr.bmpRead, .bmpWrite].all (fun c => (c [0]).wf && !(c []).wf) &&
  [Instr.setdasa].all (fun c => (c 0 0).wf && !(c 128 0).wf && !(c 0 128).wf) &&
  [Instr.illegalInstruction].all (fun c => (c 0 [0]).wf && !(c 128 [0]).wf && !(c 0 []).wf) &&
  [Instr.fetchTranslation].all (fun c => (c ⟨0, []⟩).wf && !(c ⟨128, []⟩).wf && !(c ⟨0, List.replicate 15 0⟩).wf)) = true := by decide +kernel

/-! States -/

/-- The device with its base on and one core of position 0 at level 1, its PC at the first line of the fixed region. -/
def machine (st : PairSt) (f : Level → Level) : State :=
  let a := Arch.reset.setLevel 1 (f { Level.reset 1 with run := .active, pc := 0xFF00000000000 })
  (({ State.reset with pwr := { State.reset.pwr with baseOn := true, ok := true } } : State).setDom 0 domOn
    |>.modPair 0 (fun p => { p with st, tested := true })).setCore 0 { Core.reset with arch := a, ckpt := a }

/-- A checked pair. -/
def paired : State :=
  (machine .checked id).modCore 0 (fun c => { c with priv := { c.priv with l1i := [0xFF00000000000], l2 := [0xFF00000000000] } })

/-- A split core, whose tokens are not compared. -/
def lone : State := machine .split id

/-- The split core with values in registers. -/
def holding (rs : List (Nat × Nat)) : State := machine .split (fun v => rs.foldl (fun v r => v.writeR r.1 (BitVec.ofNat 64 r.2)) v)

/-- The floating-point file of core 0 belongs to level 1. -/
def owning (s : State) : State := s.modCore 0 (fun c => c.setOwner 1)

/-- A level at window 1 with its guard at 9: it can call and return. -/
def amid : State := machine .split (fun v => { v with sw := swSetWg v.sw 9 })

/-- An address of this device's own memory. -/
def somewhere : Nat := 0xFF00000001000

/-- The state after a command that answers a next state. -/
def nextOf (o : Host.Outcome State Fault Refusal) : State :=
  match o with
  | .next t => t
  | _ => State.reset

/-- Level 1 of core 0 after a command that answers a next state. -/
def levelAfter (c : Instr) (s : State) : Level :=
  match exec c s with
  | .next t => (t.core 0).level 1
  | _ => Level.reset 0

/-! Instructions: values from the rules -/

-- R132: 2^64 - 1 + 1 = 0 with C and Z

theorem test_add_wraps : let v := levelAfter (.add here ⟨3, 1, 2, 0, 0⟩) (holding [(1, 2 ^ 64 - 1), (2, 1)])
    v.readR 3 = 0 ∧ swC v.sw = true ∧ swZ v.sw = true ∧ swV v.sw = false ∧ v.pc = 0xFF00000000004 := by decide +kernel
-- R132: the most negative number less 1 overflows; no borrow, so C; the destination is a source

theorem test_sub_overflows : let v := levelAfter (.sub here ⟨1, 1, 2, 0, 0⟩) (holding [(1, 2 ^ 63), (2, 1)])
    v.readR 1 = BitVec.ofNat 64 (2 ^ 63 - 1) ∧ swC v.sw = true ∧ swV v.sw = true ∧ swN v.sw = false := by decide +kernel
-- R129: W32 works on the low halves and zero-extends

theorem test_neg_w32 : (levelAfter (.neg { here with pfx := [.w32] } ⟨2, 1, 0⟩) (holding [(1, 1)])).readR 2 = 0xFFFFFFFF := by
  decide +kernel
-- R133: the last bit shifted out is C

theorem test_shli_carry : let v := levelAfter (.shli here ⟨2, 1, 1⟩) (holding [(1, 2 ^ 63)])
    v.readR 2 = 0 ∧ swC v.sw = true ∧ swZ v.sw = true := by decide +kernel
-- R133: MUL: 2^32 * 2^32 = 2^64: the low half 0, C and V

theorem test_mul_carry : let v := levelAfter (.mul here ⟨3, 1, 1, 0, 0⟩) (holding [(1, 2 ^ 32)])
    v.readR 3 = 0 ∧ swC v.sw = true ∧ swV v.sw = true := by decide +kernel
-- R142, R105: a branch is relative to its own address

theorem test_br_backward : (levelAfter (.br here ⟨0xFFFFFFFE⟩) lone).pc = 0xFEFFFFFFFFFFE := by decide +kernel
-- R51, R78: CALLW moves from window 1 to 2, leaves its return address in W5

theorem test_callw : let v := levelAfter (.callw here ⟨0x40⟩) amid
    v.pc = 0xFF00000000040 ∧ swWp v.sw = 2 ∧ v.readR 13 = 0xFF00000000005 := by decide +kernel
-- R157, R70: SVC's code is 0x0E; its entry 0x380 from the vector

theorem test_svc : let v := levelAfter (.svc here ⟨7⟩) (machine .split (fun v => { v with vector := 0x10000 }))
    v.pc = 0x10380 ∧ v.trapPc = 0xFF00000000000 ∧ v.trapCause = 0x70000000E ∧ swTa v.sw = true := by decide +kernel
-- R102: 0xFF is no opcode; DETAIL 0

theorem test_illegal : (levelAfter (.illegalInstruction 0 [0xFF]) lone).trapCause = 0x01 := by decide +kernel

/-! Hypotheses: instructions -/

theorem witness_Ready_paired : Ready Op.nop here 0 1 paired := by decide +kernel

/-- Every opcode of the map is ready, with operands of zeros, or with pairs and formats where those are refused. -/
theorem witness_Ready : ((opMap ++ fpMap).filter (fun op =>
      !decide (Ready op here 0 1 (owning lone)) && !decide (Ready op here (OpsRRR.pack ⟨2, 4, 6, 0, 0⟩) 1 (owning lone)) &&
      !decide (Ready op here (OpsRR.pack ⟨2, 4, 1⟩) 1 (owning lone)) &&
      !decide (Ready op here (OpsRR.pack ⟨2, 4, 0⟩) 1 (owning lone)) && !decide (Ready op here (OpsRRR.pack ⟨2, 4, 0, 0, 0⟩) 1 (owning lone)))) = [] := by decide +kernel

theorem witness_Drains : ∃ t, Drains Op.mbar here 0 1 lone t := 
  ⟨((issued Op.mbar here 0 1 lone).quiesce 0).1, by unfold Drains; decide +kernel⟩

theorem witness_WindowCalls : let v := (found Op.callw here 0 1 amid).level 1
    v.inWindowHandler = false ∧ (swWp v.sw + 1) % 10 ≠ swWg v.sw ∧ (swWp v.sw + 9) % 10 ≠ swWg v.sw ∧
    ((found Op.callwr here 0 1 amid).level 1).inWindowHandler = false ∧ ((found Op.retw here 0 1 amid).level 1).inWindowHandler = false := by
  decide +kernel

theorem witness_WindowTraps : let w := ((found Op.callw here 0 1 (machine .split (fun v => { v with sw := swSetWg v.sw 2 }))).level 1).sw
    swTa w = false ∧ (swWp w + 1) % 10 = swWg w ∧
    let u := ((found Op.retw here 0 1 lone).level 1).sw
    swTa u = false ∧ (swWp u + 9) % 10 = swWg u := by decide +kernel

theorem witness_Fetches : Fetches 0 1 lone ∧ rawTrap [0xFF] true = some (.illegal 0) ∧ rawDecode 16 [] 0 [] = .short := by
  decide +kernel

theorem witness_FetchTranslation : let s := machine .split (fun v => { v with pc := 0xFFFFFFFFFFFFFF00 })
    Fetches 0 1 s ∧ 2 ^ 52 ≤ (((s.boundary 0).1.core 0).level 1).pc.toNat ∧ bitOf (((s.boundary 0).1.core 0).level 1).iroot 0 = false := by
  decide +kernel

theorem witness_NestedTrap : swTa ((Core.reset.modLevel 3 (fun v => { v with sw := swSetTa v.sw true })).level 3).sw = true ∧
    swTa ((Core.reset.modLevel 3 (fun v => { v with sw := swSetTa v.sw true })).level 2).sw = false := by decide +kernel

theorem witness_LevelControl : firstOf 1 (serialized 1 (found Op.retl here 0 1 lone)) = none ∧
    (let s := machine .split (fun v => { v with sw := swSetTa v.sw true, trapCause := 0x200 })
     Ready Op.rett here 0 1 s ∧ swTa ((found Op.rett here 0 1 s).level 1).sw = true ∧
       bitOf ((found Op.rett here 0 1 s).level 1).trapCause 9 = true) ∧
    ((found Op.fbar here 0 1 lone).completeWhere 1 (fun o => o.isFp)).level 1 = (lone.core 0).level 1 := by decide +kernel

/-- MTS: an SW with window positions that differ, a frozen level, an owner that stays and one that changes. -/
theorem witness_SystemRegisterWrites :
    (let s := holding [(9, 0x50000)]
     let o := mtsOps 9 0
     Ready Op.mts here o.pack 1 s ∧ (envOf Op.mts here o.pack 1 s).bank = 1 ∧ (envOf Op.mts here o.pack 1 s).sup = true ∧
       swWp (register (envOf Op.mts here o.pack 1 s) (found Op.mts here o.pack 1 s) 9) ≠
       swWg (register (envOf Op.mts here o.pack 1 s) (found Op.mts here o.pack 1 s) 9)) ∧
    (let i : Ins := { here with pfx := [.xbank 2] }
     let s := (holding []).modCore 0 (fun c => c.modLevel 2 (fun v => { v with run := .frozen }.writeR 9 0x100000000))
     let o := mtsOps 9 9
     Ready Op.mts i o.pack 1 s ∧ (envOf Op.mts i o.pack 1 s).bank = 2 ∧
       ((serialized 1 (found Op.mts i o.pack 1 s)).level 2).run = .frozen ∧
       bitOf (register (envOf Op.mts i o.pack 1 s) (serialized 1 (found Op.mts i o.pack 1 s)) 9) 32 = true) ∧
    (let o := mtsOps 9 0x10
     Ready Op.mts here o.pack 1 (holding [(9, 0x800)]) ∧ (found Op.mts here o.pack 1 (holding [(9, 0x800)])).fpOwner = 8 ∧
       fld (register (envOf Op.mts here o.pack 1 (holding [(9, 0x100)])) (found Op.mts here o.pack 1 (holding [(9, 0x100)])) 9) 8 4 = 1) := by
  decide +kernel

/-! Hypotheses: memory instructions -/

/-- The split core with an address of its own memory in register 5 and a length in register 6. -/
def aimed : State := holding [(5, somewhere), (6, 100)]

theorem witness_Loads : ∃ t bs, Loads Op.lddRI here 1 (.ri ⟨7, 5, 4⟩) 8 aimed t bs := ⟨_, _, by decide +kernel, by rfl⟩
theorem witness_Stores : ∃ t, Stores Op.sthRI here 1 (.ri ⟨7, 5, 4⟩) aimed t (lowBytes Op.sthRI here 1 (.ri ⟨7, 5, 4⟩) aimed 2) :=
  ⟨_, by decide +kernel, by rfl⟩
-- R145: what was stored is loaded, lowest byte first, through the store buffer

theorem test_store_then_load : (match exec (.std here (.ri ⟨6, 5, 0⟩)) (holding [(5, somewhere), (6, 0x1122334455667788)]) with
    | .next t => (levelAfter (.ldhs here (.ri ⟨7, 5, 1⟩)) t).readR 7
    | _ => 0) = 0x6677 := by decide +kernel

/-- What an instruction at level 1 of the split core knows of itself. -/
def known (met : Met) : Env := mkEnv 0 1 (aimed.core 0) Op.lddRI [] met [] 0
theorem witness_UntranslatedLoad : somewhere % 2 ^ 30 + 16 ≤ 2 ^ 30 ∧ (known Met.none).sup = true ∧
    bitOf ((aimed.core 0).level 1).droot 0 = false ∧ sbOverlap (aimed.core 0).sb (pieceAddrs [(somewhere, 16)]) = none ∧
    ∃ t bs, aimed.load (known Met.none) .ld somewhere 16 = .bytes t bs :=
  ⟨by decide, by decide +kernel, by decide +kernel, by decide +kernel, _, _, by rfl⟩

theorem witness_UntranslatedStore : (known Met.none).sup = true ∧ bitOf ((aimed.core 0).level 1).droot 0 = false ∧
    (aimed.core 0).sb.length ≤ 63 ∧ (aimed.core 0).priv.loop = none ∧ (aimed.core 0).priv.side = [] ∧ somewhere % 2 ^ 30 + 8 ≤ 2 ^ 30 := by
  decide +kernel

theorem witness_DrainedInstructions : ∃ t, Drains Op.ist here (OpsRI.pack ⟨6, 5, 0⟩) 1 aimed t ∧ t.compared 0 [] (.inp 0) = (t, true) ∧
    ∃ t1, t.pieces (envOf Op.ist here (OpsRI.pack ⟨6, 5, 0⟩) 1 aimed) .ist somewhere 8 = .ok t1 [(somewhere, 8)] ∧
      (t1.readyWrite (.core 0) false (pieceLines [(somewhere, 8)])).2 = true :=
  ⟨_, ⟨by rfl, by decide +kernel⟩, by rfl, _, by rfl, by decide +kernel⟩

theorem witness_Hints : ∃ t left, (issued Op.prefd here (OpsR.pack ⟨5, 0⟩) 1 aimed).fbit F.CORE_PREF_CTL_HINT_EN 0 0 = true ∧
    (issued Op.prefd here (OpsR.pack ⟨5, 0⟩) 1 aimed).onePage (envOf Op.prefd here (OpsR.pack ⟨5, 0⟩) 1 aimed) .prefd somewhere =
      (t, .ok somewhere left) := ⟨_, _, by decide +kernel, by rfl⟩

theorem witness_LineOperations : ∃ t u left n, (issued Op.cflush here (OpsRRR.pack ⟨7, 5, 6, 0, 0⟩) 1 aimed).onePage
      (envOf Op.cflush here (OpsRRR.pack ⟨7, 5, 6, 0, 0⟩) 1 aimed) .cflush somewhere = (t, .ok somewhere left) ∧ (t.core 0).sb = [] ∧
    State.lineOps .flush (linesOf somewhere (min 100 left)) 0 t = (u, some n) :=
  ⟨_, _, _, _, by rfl, by decide +kernel, by rfl⟩

theorem witness_BlockTransfers : ∃ t, State.ldm [3, 4, 5] 5 (BitVec.ofNat 64 somewhere) (envOf Op.ldm here (OpsM.pack ⟨0, 5, 0, 0x38⟩) 1 aimed)
      [3, 4, 5] 0 none (issued Op.ldm here (OpsM.pack ⟨0, 5, 0, 0x38⟩) 1 aimed) = .done t ∧
    ∃ u, State.stm (BitVec.ofNat 64 somewhere) (envOf Op.stm here (OpsM.pack ⟨0, 5, 0, 0x38⟩) 1 aimed)
      [3, 4, 5] 0 (issued Op.stm here (OpsM.pack ⟨0, 5, 0, 0x38⟩) 1 aimed) = .done u := ⟨_, by rfl, _, by rfl⟩

theorem witness_CompareAndSwap : let x := OpsRRR.pack ⟨7, 5, 6, 0, 0⟩
    let e := envOf Op.cas here x 1 aimed
    ∃ t left, Drains Op.cas here x 1 aimed t ∧ t.onePage e .cas somewhere = (t, .ok somewhere left) ∧ t.answered e = false ∧
      t.compared 0 [] (.cas somewhere 8 0 100) = (t, true) ∧
      (let owned := (t.mcAccess somewhere).ownLines (.core 0) [somewhere]
       let read := (owned.1.dataMet e [(somewhere, 8)]).readyRead (.core 0) [somewhere]
       owned.2 = true ∧ read.2 = .ok ∧ (read.1.readyWrite (.core 0) false [somewhere]).2 = true) :=
  ⟨_, _, ⟨by rfl, by decide +kernel⟩, by rfl, by decide +kernel, by rfl, by decide +kernel⟩

/-! Floating point and division -/

-- R186: 1 + 2 = 3 in binary64, exactly

theorem test_fadd : fAdd (fmtOf 1) 0 0x3FF0000000000000 0x4000000000000000 = { bits := 0x4008000000000000, flags := 0 } := by decide +kernel
-- R175: a comparison with a quiet NaN is unordered; FCMPS sets IV (R162: bit 4)

theorem test_fcmps_nan : (fCompare (fmtOf 1) true 0x7FF8000000000000 0).2 = 16 ∧ (fCompare (fmtOf 1) false 0x7FF8000000000000 0).2 = 0 := by
  decide +kernel

theorem witness_FloatMoves : let s := owning (holding [(4, 0x400)])
    Ready Op.fmtc here (OpsRR.pack ⟨0, 4, 0⟩) 1 s ∧ fld (register (envOf Op.fmtc here (OpsRR.pack ⟨0, 4, 0⟩) 1 s)
      (found Op.fmtc here (OpsRR.pack ⟨0, 4, 0⟩) 1 s) 4) 8 3 = 4 := by decide +kernel

/-- A level with a chain of each kind, and one of another form. -/
theorem witness_chains : let s := owning (machine .split (fun v => { v with dssBy := .flt 2 }))
    (((found Op.fdstep here (OpsRR.pack ⟨2, 4, 1⟩) 1 s).level 1).dssBy.onGroup 2 = true) ∧
    (((found Op.fdstep here (OpsRR.pack ⟨2, 4, 1⟩) 1 (owning lone)).level 1).dssBy.onGroup 2 = false) ∧
    DssBy.steps (.int 1 2 7 1) 1 2 7 = true ∧ DssBy.steps .none 1 2 7 = false ∧ DssBy.ends (.int 1 2 7 64) 1 2 7 = true := by decide +kernel

theorem witness_FDFIN : let g := fdStartDiv 0 4 0x3F800000 0x40000000
    (match g with
      | .chain c => (Nat.iterate (fun c => fdStepGroup c 0 4) (fdSteps 0) c).k == fdSteps 0 &&
          !(Nat.iterate (fun c => fdStepGroup c 0 4) (fdSteps 0) c).bad && (fdStepGroup c 0 6).bad
      | .result _ => false) = true := by decide +kernel

theorem witness_FLDQ : let x := blockOf (.ri ⟨2, 5, 0⟩)
    ∃ t t2 bs hi, (issued Op.fldqRI here x 1 (owning aimed)).pieces (envOf Op.fldqRI here x 1 (owning aimed)) .ld somewhere 16 =
        .ok t [(somewhere, 16)] ∧
      (t.dataMet (envOf Op.fldqRI here x 1 (owning aimed)) [(somewhere, 16)]).loadPieces (envOf Op.fldqRI here x 1 (owning aimed)) false
        (splitPieces 8 [(somewhere, 16)]).1 = .bytes t2 bs ∧
      (∃ u, t2.loadPieces (envOf Op.fldqRI here x 1 (owning aimed)) false (splitPieces 8 [(somewhere, 16)]).2 = .bytes u hi) :=
  ⟨_, _, _, _, by rfl, by rfl, _, by rfl⟩

theorem witness_DecimalResults : let s := holding [(2, 0x12C), (4, 0x45D)]
    let x := OpsRRR.pack ⟨6, 2, 4, 0, 0⟩
    decInvalid (pairOf (envOf Op.dadd here x 1 s) (found Op.dadd here x 1 s) 2).toNat = none ∧
    decInvalid (pairOf (envOf Op.dadd here x 1 s) (found Op.dadd here x 1 s) 4).toNat = none ∧
    decimalAt (envOf Op.dadd here x 1 s) (found Op.dadd here x 1 s) 2 + decimalAt (envOf Op.dadd here x 1 s) (found Op.dadd here x 1 s) 4 = -33 := by
  decide +kernel

/-- A window handler of level `l`: in a trap, for a window overflow. -/
def handler (l : Nat) : State := lone.modCore 0 (fun c =>
  c.modLevel l (fun v => { v with run := .active, pc := 0xFF00000000000, sw := swSetTa v.sw true, trapCause := 6 }))
theorem witness_WindowGuard : [(Op.callw, (OpsJ.mk 0).pack), (Op.callwr, (OpsR.mk 0 0).pack), (Op.retw, 0)].all (fun x =>
      decide (Ready x.1 here x.2 1 (handler 1)) && swTa ((found x.1 here x.2 1 (handler 1)).level 1).sw &&
      !swTa ((found x.1 here x.2 1 (handler 1)).level 0).sw && fld ((found x.1 here x.2 1 (handler 1)).level 1).trapCause 0 8 == 6 &&
      decide (Ready x.1 here x.2 0 (handler 0)) && swTa ((found x.1 here x.2 0 (handler 0)).level 0).sw) = true := by decide +kernel
-- R81: WINDOW_GUARD enters the next more urgent level at its vector + 64 * 0x20; the level in its window handler is frozen

theorem test_window_guard : (match exec (.retw here) (handler 1) with
    | .next t => (((t.core 0).level 0).pc.toNat == ((lone.core 0).level 0).vector.toNat + 0x800 && ((t.core 0).level 1).run == .frozen)
    | _ => false) = true := by decide +kernel

theorem witness_MachineCheck : (Ready Op.svc here (OpsU8.mk 7).pack 0 (handler 0) ∧ Ready Op.bkpt here (OpsU8.mk 7).pack 0 (handler 0)) ∧
    swTa ((found Op.svc here (OpsU8.mk 7).pack 0 (handler 0)).level 0).sw = true ∧
    swTa ((found Op.bkpt here (OpsU8.mk 7).pack 0 (handler 0)).level 0).sw = true := by decide +kernel

theorem witness_PreciseTraps : ∃ t lines, (lone.boundary 0).1.fetched 0 1 (rawRead [0xFF]) [] = (t, lines, .ok) ∧
    rawTrap [0xFF] (swS (((lone.boundary 0).1.core 0).level 1).sw) = some (.illegal 0) ∧
    swTa (((t.modCore 0 (settledSw 1)).core 0).level 1).sw = false ∧ (t.modCore 0 (settledSw 1)).comesFirst 0 1 = none :=
  ⟨_, _, by rfl, by decide +kernel, by decide +kernel, by decide +kernel⟩

theorem witness_fetchRefused : let s := machine .split (fun v => { v with pc := 0xFFFFFFFFFFFFFF00 })
    ∃ t lines va d, (s.boundary 0).1.fetched 0 1 1 [] = (t, lines, .refused va d) ∧
      swTa (((t.modCore 0 (settledSw 1)).core 0).level 1).sw = false ∧ (t.modCore 0 (settledSw 1)).comesFirst 0 1 = none :=
  ⟨_, _, _, _, by rfl, by decide +kernel, by decide +kernel⟩

/-- Pairs with an invalid sign, an invalid digit, and a valid one. -/
def undecimal : State := holding [(2, 0x12C), (4, 0x9), (6, 0x1A0C)]
theorem witness_DecimalTraps : let x := OpsRRR.pack ⟨8, 2, 4, 0, 0⟩
    FirstInvalid (pairOf (envOf Op.dval here (OpsRR.pack ⟨8, 4, 0⟩) 1 undecimal) (found Op.dval here (OpsRR.pack ⟨8, 4, 0⟩) 1 undecimal) 4).toNat 0 ∧
    validDec (envOf Op.dadd here x 1 undecimal) (found Op.dadd here x 1 undecimal) 2 ∧
    FirstInvalid (pairOf (envOf Op.dadd here x 1 undecimal) (found Op.dadd here x 1 undecimal) 4).toNat 0 ∧
    FirstInvalid (pairOf (envOf Op.dadd here x 1 undecimal) (found Op.dadd here x 1 undecimal) 6).toNat 2 :=
  ⟨⟨by decide, by rw [if_pos rfl]; decide +kernel⟩, by unfold validDec; decide +kernel, ⟨by decide, by rw [if_pos rfl]; decide +kernel⟩, by decide,
    by rw [if_neg (by decide)]; exact ⟨by decide +kernel, by decide +kernel, fun k _ _ => by obtain rfl : k = 1 := by omega
                                                                                             decide +kernel⟩⟩

def decimalPends : State := nextOf (exec (.longOpComplete 0 1 0) (nextOf (exec (.dadd here ⟨8, 2, 4, 0, 0⟩) undecimal)))
theorem witness_pendingTaken : decimalPends.canIssue 0 = true ∧ (decimalPends.boundary 0).2 = true ∧ (bound here decimalPends).canIssue 0 = true ∧
    ((bound here decimalPends).core 0).current = some 1 ∧ ((bound here decimalPends).comesFirst 0 1).map TrapInfo.code = some 10 := by
  decide +kernel

theorem witness_blockElements : let x := (OpsM.mk 0 5 0 0x38).pack
    (baseOf (envOf Op.ldm here x 1 aimed) (found Op.ldm here x 1 aimed) 5).toNat % 8 = 0 ∧
    (∃ v bs, (issued Op.ldm here x 1 aimed).load (envOf Op.ldm here x 1 aimed) .ld (BitVec.ofNat 64 somewhere + BitVec.ofNat 64 (8 * 0)).toNat 8
      = .bytes v bs) ∧
    (∃ v, (issued Op.stm here x 1 aimed).store (envOf Op.stm here x 1 aimed) (decide (0 < 0)) (BitVec.ofNat 64 somewhere + BitVec.ofNat 64 (8 * 0)).toNat
      (wordBytes (register (envOf Op.stm here x 1 aimed) ((issued Op.stm here x 1 aimed).core 0) 3)) = .done v) ∧
    (let s := holding [(5, 4)]
     (baseOf (envOf Op.ldm here x 1 s) (found Op.ldm here x 1 s) 5).toNat % 8 ≠ 0 ∧ Ready Op.ldm here x 1 s ∧ Ready Op.stm here x 1 s ∧
       (baseOf (envOf Op.stm here x 1 s) (found Op.stm here x 1 s) 5).toNat % 8 ≠ 0 ∧ swTa ((found Op.ldm here x 1 s).level 1).sw = false) :=
  ⟨by decide +kernel, ⟨_, _, by rfl⟩, ⟨_, by rfl⟩, by decide +kernel⟩
-- R88: the registers of an STM, 3 to 5, go to base, base + 8 and base + 16

theorem test_stm : (match exec (.stm here ⟨0, 6, 0, 0x38⟩ none) (holding [(3, 7), (4, 8), (5, 9), (6, somewhere)]) with
    | .next t => (t.core 0).sb.map (fun e => (e.addr, e.bytes.take 1))
    | _ => []) = [(somewhere, [7]), (somewhere + 8, [8]), (somewhere + 16, [9])] := by decide +kernel

/-- A line of the ROM. -/
def romLine : Nat := 0xFFFFFFFFFFF80
theorem witness_casRom : inRom romLine = true ∧ inRom somewhere = false := by decide +kernel

theorem witness_RoundingIsExact : (∃ x y, valueOf (fmtOf 1) 0x3FF0000000000000 = some x ∧ valueOf (fmtOf 1) 0x8000000000000001 = some y) :=
  ⟨_, _, by rfl, by rfl⟩

/-! States of the whole device -/

/-- The device that runs: the split core at work, and the domains on of its slices, an engine, a sequencer pair, a port, groups and the tables. -/
def lit : State := ([98, 105, 110, 118, 122, 126, 127] ++ (List.range 16).map (80 + ·)).foldl (fun s d => s.setDom d domOn) lone

/-- The same with a checked pair at work. -/
def litPair : State := { lit with pairs := paired.pairs, cores := paired.cores }

/-- A register field set. -/
def tuned (fs : List (FieldRef × Nat × Nat × Nat)) (s : State) : State := fs.foldl (fun s x => s.fset x.1 x.2.1 x.2.2.1 x.2.2.2) s

/-! Hypotheses: registers, commits, events and faults -/

/-- A held value of a grouped register, and two commits of it that wait. -/
def staging : State := { lit with io := { lit.io with dirty := [(0x71, 5), (0x30, 9)] } }
def waiting : State := nextOf (exec (.commitWrite boss 0x71 5) staging)

theorem witness_RegisterAccess : Hears lit boss .PCS_RNG_BASE 0 0 ∧ plainReg .PCS_RNG_BASE = true ∧ Hears lit boss .CORE_IMAGE 0 9 ∧
    ((9 : Nat) % 16 ≠ 0xA ∧ (9 : Nat) % 16 ≠ 0xB ∧ (9 : Nat) % 16 ≠ 0xF) ∧ ∃ r : RegName, fieldBits r (fun f => f.access == .rc) ≠ 0 ∧ Hears lit boss r 0 0 :=
  ⟨by decide +kernel, by decide +kernel, by decide +kernel, by decide, .FLT_COUNT, by decide +kernel⟩

theorem witness_CommitsAndSafePoints : Hears staging boss .INST_COMMIT 0 0 ∧ staging.io.dirty.contains (0x71, 5) = true ∧
    Hears staging boss .XCH_COMMIT 0 0 ∧ staging.io.dirty.contains (0x30, 9) = true ∧ staging.io.dirty.contains (0x30, 10) = false ∧
    lit.atSafePoint 0x71 = true ∧ lit.visited 5 = false ∧ (stagedAt 0x71 5).isSome = true ∧
    waiting.io.captured.length = 1 ∧ waiting.atSafePoint 0x71 = true ∧ ∀ d ∈ waiting.io.captured, d.blk = 0x71 ∧ d.group = 5 := by
  decide +kernel

/-- Values that would give instance 5 the one entry that instance 6 has; and a grouped value of an instance that is not visited. -/
theorem witness_safePoints : let s := tuned [(F.INST_CTL_PRESENT, 0, 6, 1), (F.INST_XRANGE_COUNT, 0, 6, 1)] staging
    let t := nextOf (exec (.commitWrite boss 0x71 6) (tuned [(F.INST_XRANGE_COUNT, 0, 5, 1)] s))
    s.groupBad 0x71 6 [1 <<< 16, 0] = true ∧ (waiting.groupBad 0x71 5 [0, 0] = false) ∧ t.down = false ∧
    lit.atSafePoint 0x70 = true ∧ (lit.pair 0).checks = false ∧ (litPair.pair 0).checks = true ∧
    (stagedAt 0x70 79).isSome = true ∧ stagedAt 0x70 80 = none := by decide +kernel

/-- Accesses turned away: of a reserved block, of one without power, of an offset with no register, of a block in reset, of a device outside
the image, of an in-force view; and a register of each class that a write meets. -/
theorem witness_AccessesTurnedAway : boss.kind.reachesIo = true ∧ lit.down = false ∧ 8 * 2 ^ 20 / 2 ^ 27 = lit.devnum ∧ blockKnown 8 = false ∧
    blockKnown 0x53 = true ∧ lit.powered 0x53 0x10 = false ∧ blockKnown 0x52 = true ∧ lit.powered 0x52 0x7FFF8 = true ∧ lit.inReset 0x52 = false ∧
    findReg 0x52 0x7FFF8 = none ∧ lit.powered 0x28 0 = true ∧ (lit.beginReset 0x28 true).powered 0x28 0 = true ∧ (lit.beginReset 0x28 true).inReset 0x28 = true ∧
    boss.dev = lit.devnum ∧ lit.isMember 5 = false ∧ Hears lit boss .TRS_Q_CTL 0 5 ∧
    (regsOfBlock (blockOfReg .TRS_Q_CTL 0)).any (fun x => (regFields x).any waitsForForce) = true ∧ lit.regAddr .TRS_Q_CTL 0 5 + 0x80000 < 2 ^ 32 := by
  decide +kernel

theorem witness_classes : ownRule.contains .XCH_CTL = false ∧ (regFields .XCH_CTL).any (fun f => f.cls == .boot) = true ∧ Hears lit boss .XCH_CTL 0 0 ∧
    (regFields .XCH_CTL).any (fun f => f.cls == .boot && fld (2 : Word) f.lo f.width != fld (lit.acting .XCH_CTL 0 0) f.lo f.width) = true ∧
    (regFields .XCH_CTL).any (fun f => f.cls == .boot && fld (lit.acting .XCH_CTL 0 0) f.lo f.width != fld (lit.acting .XCH_CTL 0 0) f.lo f.width) = false ∧
    ownRule.contains .TRS_Q_BASE = false ∧ (regFields .TRS_Q_BASE).any waitsForForce = true ∧ Hears lit boss .TRS_Q_BASE 0 5 := by decide +kernel
-- R20: a held value reads back at the register's own offset, and is not in force

theorem test_held : (let t := nextOf (exec (.registerWrite boss (lit.regAddr .TRS_Q_BASE 0 5) ⟨0x5000, []⟩) lit)
    (t.readWord .TRS_Q_BASE 0 5 == 0x5000 && t.viewWord .TRS_Q_BASE 0 5 == 0)) = true := by decide +kernel

/-- A group whose values, of its two registers, have been written and committed. -/
def committed (blk g : Nat) (s : State) : State :=
  nextOf (exec (.commitWrite boss blk g) { s with io := { s.io with dirty := [(blk, g)] } })

/-- The one commit that waits is of the group; `bad`: its block refuses it. -/
def waitsOne (blk g : Nat) (bad : Bool) (s : State) : Bool :=
  s.atSafePoint blk && !s.down && (match s.io.captured with
    | [c] => c.blk == blk && c.group == g && s.groupBad blk g c.words == bad
    | _ => false)

/-- A commit of each block that its block accepts, and one that it refuses. -/
theorem witness_blockCommits :
    (let held (r : RegName) (k v : Nat) (s : State) : State :=
       { s with io := { s.io with held := mapSet s.io.held (regKey r 0 k) (BitVec.ofNat 64 v) } }
     waitsOne 0x02 1 false (committed 0x02 1 (held .PWR_WAKE_BUDGET 0 128 (held .PWR_WAKE_REFILL 0 64 lit))) &&
     waitsOne 0x02 1 true (committed 0x02 1 (held .PWR_WAKE_BUDGET 0 129 lit)) &&
     waitsOne 0x10 1 false (committed 0x10 1 (held .PCS_RES_WAYS 0 8 lit)) && waitsOne 0x10 1 true (committed 0x10 1 (held .PCS_RES_WAYS 0 9 lit)) &&
     waitsOne 0x28 6 false (committed 0x28 6 (held .TRS_Q_CTL 5 16 lit)) && waitsOne 0x28 1025 true (committed 0x28 1025 (held .TRS_SVC_CTL 0 17 lit)) &&
     lit.trsIdle 5 && lit.rng.isNone && lit.mem.conv.isNone &&
     waitsOne 0x30 1 false (committed 0x30 1 lit) && waitsOne 0x30 11 false (committed 0x30 11 (held .XCH_RQ_CTL 9 4 lit)) &&
     waitsOne 0x30 11 true (committed 0x30 11 (held .XCH_RQ_CTL 9 3 lit)) && waitsOne 0x30 8193 false (committed 0x30 8193 (held .XCH_CQ_CTL 4095 16 lit)) &&
     waitsOne 0x30 4098 true (committed 0x30 4098 (held .XCH_CQ_CTL 0 17 lit)) &&
     lit.cqReserved 4095 == 0 && (lit.cqIssued 4095).isEmpty && lit.cqHead 4095 == lit.cqTail 4095) = true ∧
    lit.atSafePoint 0x04 = true ∧ Hears lit boss .PWR_COMMIT 0 0 ∧ Hears lit boss .PCS_COMMIT 0 0 ∧ Hears lit boss .TRS_COMMIT 0 0 ∧
    (lit.pair 0).st = .split ∧ (∀ lc ∈ lit.coresAt 0, (lit.core lc).issuedAt = none ∧ (lit.core lc).waitIo = none) := by decide +kernel

theorem witness_blockResetEnd : (lit.beginReset 0x28 true).inReset 0x28 = true ∧ (lit.beginReset 0x28 true).down = false := by decide +kernel
theorem witness_Events : (lit.core 0).held 3 = false ∧ ((lit.core 0).level 3).run = .inactive ∧ ((lit.core 0).level 1).run = .active ∧
    ((lit.core 0).deliver 0 ⟨0x405, 1, 77⟩).current ≠ (lit.core 0).current ∧
    ((Core.reset.modLevel 2 (fun v => { v with run := .waiting })).level 2).run = .waiting := by decide +kernel

/-- Doorbell source 0x405 mapped to core 0. -/
def mapped (s : State) : State := tuned [(F.CUE_MAP_ENABLE, 0, 0x405, 1), (F.CUE_MAP_CORE, 0, 0x405, 0)] s
def cued (s : State) : State := nextOf (exec (.cueRaise boss 0x0000004D00000405) (mapped s))
theorem witness_CueEvents : Hears (mapped lit) boss .CUE_RAISE 0 0 ∧ mapGet? (mapped lit).cue.srcs 0x405 = none ∧
    (mapped lit).queuedAt 0x405 = none ∧ (mapped lit).coreAbsent ((mapped lit).srcCore 0x405) = false ∧
    mapGet? (cued lit).cue.srcs 0x405 = some ⟨1, 0x4D, false⟩ ∧ (cued lit).posOf ((cued lit).srcCore 0x405) = some 0 ∧
    ((cued lit).pair 0).checks = false ∧ ((cued lit).pair 0).runs 0 = true ∧ ((cued litPair).pair 0).checks = true ∧
    ((cued litPair).pair 0).runs 0 = true := by decide +kernel

/-- CUE_RAISE of the first and last source it may raise, and of those beside them; events at a core, of a disabled source, of a pair that is off,
that is stopping, and during a switch of the floating-point file. -/
theorem witness_eventForms : inRange 0x400 0x500 (fld (0x400 : Word) 0 12) = true ∧ inRange 0x400 0x500 (fld (0x8FF : Word) 0 12) = true ∧
    inRange 0x400 0x500 (fld (0x3FF : Word) 0 12) = false ∧ inRange 0x400 0x500 (fld (0x900 : Word) 0 12) = false ∧
    (let s := (mapped lit).modCore 0 (fun c => c.deliver 1 ⟨0x405, 1, 77⟩)
     mapGet? s.cue.srcs 0x405 = none ∧ s.queuedAt 0x405 = some 0) ∧
    (tuned [(F.CUE_MAP_ENABLE, 0, 0x405, 0)] (cued lit)).fbit F.CUE_MAP_ENABLE 0 0x405 = false ∧ (cued lit).pwr.baseOn = true ∧
    (((cued lit).modPair 0 (fun p => { p with st := .off })).pair 0).st = .off ∧ (cued lit).domState 0 ≠ domStopping ∧
    ((cued lit).setDom 0 domStopping).domState 0 = domStopping ∧
    (((cued lit).modCore 0 (fun c => c.fpMark true true)).core 0).fpBusy = true ∧ (cued lit).flt.fatal = false := by decide +kernel

def quiet : State := tuned [(F.FLT_CTL_BOOT_HOLD, 0, 0, 1), (F.FLT_CTL_FWD_MIN, 0, 0, 5)] lit
theorem witness_FaultMessageLogged : quiet.down = false ∧ quiet.shadowed 0x10 = false ∧
    wellSent 0x10 0 0x202 1 1 somewhere = true ∧ (quiet.pendOf (quiet.fault 0x10 0 0x202 1 1 somewhere)).testBit 1 = false ∧ quiet.fbit F.FLT_CTL_BOOT_HOLD 0 0 = true ∧
    5 ≤ quiet.fget F.FLT_CTL_FWD_MIN 0 0 ∧ quiet.fbit F.FBS_STATUS_CALLER_NEEDED 0 0 = false ∧ quiet.flt.next < 1024 ∧
    quiet.flt.fatal = false := by decide +kernel
-- R427: a record takes the next sequence number

theorem test_fault_record : (nextOf (exec (.faultMessage 0x10 0 0x202 1 1 somewhere) quiet)).flt.next = quiet.flt.next + 1 := by decide +kernel
theorem witness_CollectorCommands : Hears quiet boss .FLT_RESET 0 0 ∧ blockKnown 0x22 = true ∧ quiet.inReset 0x22 = false ∧
    quiet.powered 0x22 0 = true ∧ Hears quiet boss .FLT_PEND 0 0x20 ∧ Hears quiet boss .FLT_CORE_PEND 0 3 ∧ Hears quiet boss .FLT_CTL 0 0 ∧
    quiet.flt.withheld = [] ∧ (quiet.fset F.FBS_STATUS_CALLER_NEEDED 0 0 1).fbit F.FBS_STATUS_CALLER_NEEDED 0 0 = true ∧
    ((nextOf (exec (.blockResetEnd 0x28) (lit.beginReset 0x28 true))).flt.shadows.find? (fun x => x.blk == 0x28 && x.ended)).isSome = true := by
  decide +kernel

/-- A record of a condition in a shadow that ends; a controller that has not written yet, and one that has. -/
theorem witness_collectorForms : blockKnown 8 = false ∧ blockKnown 0x10 = true ∧ quiet.powered 0x10 0 = true ∧
    quiet.shadowed 0x22 = false ∧ (quiet.fset F.FBS_STATUS_CALLER_NEEDED 0 0 1).fbs.answered = false ∧
    ({ quiet with fbs := { quiet.fbs with answered := true } } : State).fbs.answered = true ∧ Hears quiet boss .FLT_PEND 0 0x70 ∧
    ((nextOf (exec (.blockResetEnd 0x28) (lit.beginReset 0x28 true))).flt.conseq.isEmpty = true) := by decide +kernel

/-! Hypotheses: lines, memory and cores -/

/-- All of the fixed region goes through the pool cache; a line of it holds a store. -/
def pooled : State := tuned [(F.PCS_RES_WAYS_WAYS, 0, 0, 0)] lit
def dirty : State := pooled.storeBytes (.core 0) somewhere (List.replicate 8 0x5A)
def ranged (next len : Nat) : State := { pooled with rng := some { op := 1, base := somewhere, len, next, src := none, stop := 0 } }
theorem witness_RangeCommands : Hears pooled boss .PCS_RNG_CMD 0 0 ∧ pooled.fbit F.PCS_RNG_STATUS_BUSY 0 0 = false ∧
    (ranged 3 3).rng.isSome = true ∧ (ranged 2 3).rng.isSome = true := by decide +kernel

/-- A range command of no lines; its next line here, elsewhere, and nowhere. -/
theorem witness_rangeForms : pooled.fget F.PCS_RNG_LEN_LINES 0 0 = 0 ∧ (tuned [(F.PCS_RNG_LEN_LINES, 0, 0, 1)] pooled).fget F.PCS_RNG_LEN_LINES 0 0 ≠ 0 ∧
    (pooled.lineOp .flush somewhere).2 = .acted false ∧ (pooled.lineOp .flush (2 ^ 50)).2 = .noHome := by decide +kernel

theorem witness_LineActions : Plain dirty somewhere ∧ (dirty.poolLine somewhere).any (fun p => p.home.isSome) = true := by decide +kernel
theorem witness_Conversion : ({ pooled with mem := { pooled.mem with conv := some (somewhere, 8) } } : State).mem.conv = some (somewhere, 8) ∧
    pooled.down = false := by decide +kernel

def scrubbed : State := tuned [(F.MC_SCRUB_HOURS, pooled.channelOf somewhere, 0, 24), (F.MC_STATUS_TRAINED, pooled.channelOf somewhere, 0, 1)] pooled
theorem witness_convReady : (pooled.convReady (pooled.convLines (pooled.fget F.PCS_RES_BASE_BASE 0 0 * block16)
    (pooled.fget F.PCS_RES_WAYS_WAYS 0 0) somewhere 0)).2 = true := by decide +kernel

/-- The channels mirrored, all of them in service: controller 1 scrubs its side of the pair. -/
def mirroring : State := tuned ((List.range 16).flatMap (fun k => [(F.MC_CFG_ENABLE, k, 0, 1), (F.MC_CFG_MIRROR, k, 0, 1),
  (F.MC_STATUS_TRAINED, k, 0, 1), (F.MC_SCRUB_HOURS, k, 0, 24)])) pooled

theorem witness_mirroredScrub : mirroring.mirrored = true ∧ mirroring.channelOf (lineOf somewhere) = mirrorOf (mirroring.channelOf (lineOf somewhere) + 1) ∧
    mirroring.channelOf (lineOf somewhere) + 1 < 16 ∧ mirroring.homeOf (lineOf somewhere) = .dev mirroring.devnum ∧
    mirroring.resident (lineOf somewhere) = false := by decide +kernel

theorem witness_Scrub : scrubbed.channelOf (lineOf somewhere) < 16 ∧
    scrubbed.fget F.MC_SCRUB_HOURS (scrubbed.channelOf (lineOf somewhere)) 0 ≠ 0 ∧
    scrubbed.fbit F.MC_STATUS_TRAINED (scrubbed.channelOf (lineOf somewhere)) 0 = true ∧ scrubbed.homeOf (lineOf somewhere) = .dev scrubbed.devnum ∧
    scrubbed.resident (lineOf somewhere) = false ∧ scrubbed.poolLine (lineOf somewhere) = none ∧
    mapGet? scrubbed.mem.evict (lineOf somewhere) = none := by decide +kernel

/-- A long operation, one with an exception, and a store and eight instructions that have issued. -/
def longer : State := nextOf (exec (.mulh here ⟨3, 1, 2, 0, 0⟩) lit)
def thrown : State := nextOf (exec (.longOpComplete 0 1 0) (nextOf (exec (.dsfix here ⟨2, 0, 0, 0, 0⟩) lit)))
def stored : State := nextOf (exec (.groupCommit 0) (nextOf (exec (.std here (.ri ⟨6, 5, 0⟩))
  (pooled.modCore 0 (fun c => c.modLevel 1 (fun v => v.writeR 5 (BitVec.ofNat 64 somewhere)))))))

def grouped : State := (List.range 8).foldl (fun s _ => nextOf (exec (.nop here) s)) lit
theorem witness_CoreSteps :
    (lit.canIssue 0 = true ∧ (lit.core 0).current = some 1 ∧ (lit.core 0).fpOwner ≠ 1 ∧ bitOf (lit.core 0).arch.lvlCtl 12 = false ∧
      (lit.core 0).fpBusy = false ∧ (lit.core 0).deliverable 1 = none ∧
      (match lit.fpSwitch (mkEnv 0 1 (lit.core 0) Op.nop [] { Met.none with save := false } [] 0) 1 with
        | .ok _ => true
        | _ => false) = true) ∧
    (((lit.modCore 0 (fun c => c.setOwner 3)).core 0).fpOwner < 8 ∧ ((lit.modCore 0 (fun c => c.setOwner 3)).core 0).arch.fpSaved = false) ∧
    (longer.coreRuns 0 = true ∧ (((longer.core 0).level 1).ops[0]?).any (fun o => !o.done) = true) ∧
    (thrown.canIssue 0 = true ∧ (thrown.comesFirst 0 1).isSome = true) ∧
    ((stored.core 0).sb.length = 1 ∧ (stored.core 0).sb.all (fun e => decide (e.idx < (stored.core 0).base)) = true ∧
      (stored.readyWrite (.core 0) false (linesOf somewhere 8)).2 = true) ∧
    ((longer.core 0).groups = [] ∧ lit.canCommit 0 = true ∧ (lit.core 0).acts = []) ∧
    ((grouped.core 0).groups.any (fun g => grouped.groupReady 0 g) = true) := by decide +kernel

/-! Hypotheses: pairs and the fallback sequencer -/

/-- A checked pair that has taken an agreement point, whose token is to be compared, and one with an agreement point due. -/
def agreedOn (s : State) : State := nextOf (exec (.agreementPoint 0) (s.modCore 0 (fun c => { c with due := true })))
def running : State := agreedOn litPair
def agreeing : State := running.modCore 0 (fun c => { c with due := true, inbox := [.event 3 ⟨0x405, 1, 5⟩ false] })
theorem witness_ComparatorSteps : (running.pair 0).checks = true ∧ (running.pair 0).fifo.map (fun t => t.body.kind) = [9] ∧ FirstFailure running 0 ∧
    (agreeing.core (agreeing.pair 0).logicalCore).due = true ∧ (agreeing.core (agreeing.pair 0).logicalCore).inbox ≠ [] ∧ agreeing.flt.fatal = false ∧
    (agreeing.pair 0).atSplit = false ∧ agreeing.agreeRoom 0 = true ∧ (agreeing.core 0).logDue = false := by unfold FirstFailure; decide +kernel

def splitting : State := nextOf (exec (.pairSplit boss 0) (tuned [(F.CORE_SPLIT_LEVEL_LEVEL, 0, 0, 2)] litPair))
def handing : State := nextOf (exec (.tokenCompare 0 .equal .fine) (agreedOn splitting))
def split : State := (nextOf (exec (.splitHandover 0) handing)).modCore 1 (fun c => c.modLevel 2 (fun v => { v with run := .inactive }))
def joining : State := nextOf (exec (.pairJoin boss 0) split)
theorem witness_PairCommands :
    ((litPair.pair 0).logical = some 0 ∧ Hears litPair boss .CORE_PAIR_CTL 0 0 ∧ (litPair.pair 0).busy = false ∧
      (litPair.pair 0).st = .checked ∧ (litPair.pair 0).need = none ∧ (litPair.freeSpare 0).isSome = true ∧
      (sparesOf 0).contains 33 = true ∧ litPair.spareFree 33 = true) ∧
    ((handing.pair 0).splitReq = some (2, 0) ∧ (handing.pair 0).atSplit = true ∧ handing.canCommit 0 = true ∧ handing.coreRuns 0 = true) ∧
    ((split.pair 0).st = .split ∧ (split.pair 0).busy = false ∧
      (List.range 8).all (fun l => ((split.core 1).level l).run != .active && ((split.core 1).level l).run != .frozen) = true) ∧
    ((joining.pair 0).joinReq = true ∧ joining.canCommit 0 = true ∧ joining.coreRuns 0 = true ∧ (joining.absorb 1).2 = true) ∧
    (((litPair.modPair 0 (fun p => { p with st := .stopped })).pair 0).busy = false) := by decide +kernel

def needy : State := (litPair.setDom 76 domOn).modPair 38 (fun p => { p with st := .cuttingIn, need := some 1 })
def kicked : State := nextOf (exec (.fbsKick boss) (tuned [(F.FBS_WDOG_PERIOD, 0, 0, 10)] litPair))
theorem witness_FallbackSequencer : needy.serviceNeeds = some 38 ∧ needy.fget F.FBS_STATUS_STATE 0 0 ≠ 3 ∧ (needy.pair 38).ckptBad = false ∧
    (needy.freeSpare 38).isSome = true ∧ (needy.modPair 39 (fun p => { p with st := .failed })).freeSpare 38 = none ∧
    Hears litPair boss .FBS_KICK 0 0 ∧ kicked.fbs.timing = true ∧
    Hears (kicked.callerNeeded 2 38) boss .FBS_STATUS 0 0 ∧ (kicked.callerNeeded 2 38).fbit F.FBS_STATUS_CALLER_NEEDED 0 0 = true ∧
    (kicked.callerNeeded 2 38).callerCause = false := by decide +kernel

/-! Hypotheses: transform engines -/

def put (a : Nat) (bs : List Byte) (s : State) : State := s.storeBytes .dev a bs
def le (n v : Nat) : List Byte := natToBytes n v

/-- Bytes with pieces of them replaced. -/
def patch (d : List Byte) (ps : List (Nat × List Byte)) : List Byte :=
  ps.foldl (fun d p => d.take p.1 ++ p.2 ++ d.drop (p.1 + p.2.length)) d

/-- Queue 5 of instance 5, and the service queue, with one entry each: a descriptor. -/
def queued (d : List (Nat × List Byte)) : State :=
  put (somewhere + 0x1000) (le 8 (somewhere + 0x10000)) (put (somewhere + 0x10000) (patch (List.replicate 512 0) d)
    (tuned [(F.TRS_Q_BASE_BASE, 0, 5, (somewhere + 0x1000) / 4096), (F.TRS_Q_CTL_SIZE_LOG2, 0, 5, 4), (F.TRS_Q_CTL_ENABLE, 0, 5, 1),
      (F.TRS_DOORBELL_TAIL, 0, 5, 1), (F.INST_CTL_PRESENT, 0, 5, 1), (F.INST_KEYS_COUNT, 0, 5, 4), (F.INST_CTL_ENGINE_WEIGHT, 0, 5, 1)] lit))

def served5 (d : List (Nat × List Byte)) : State :=
  put (somewhere + 0x1000) (le 8 (somewhere + 0x10000)) (put (somewhere + 0x10000) (patch (List.replicate 512 0) d)
    (tuned [(F.TRS_SVC_BASE_BASE, 0, 0, (somewhere + 0x1000) / 4096), (F.TRS_SVC_CTL_SIZE_LOG2, 0, 0, 4), (F.TRS_SVC_CTL_ENABLE, 0, 0, 1),
      (⟨.TRS_SVC_DOORBELL, 0, 16⟩, 0, 0, 1)] lit))

/-- 1,000 bytes passed through, compressed, and a key loaded and erased. -/
def copy (comp flags : Nat) : List (Nat × List Byte) :=
  [(0, [1, BitVec.ofNat 8 comp]), (4, [BitVec.ofNat 8 flags]), (16, le 8 (somewhere + 0x20000)), (24, le 8 1000),
   (32, le 8 (somewhere + 0x30000)), (40, le 8 4096)]

def keyed : State := put (somewhere + 0x20000) (patch (List.replicate 80 0) [(0, [1]), (16, List.replicate 32 7)])
  (queued [(0, [2]), (8, [1]), (16, le 8 (somewhere + 0x20000)), (24, le 8 80)])

/-- What `TakesEntry` asks, as a computation; its answer is the job and the state. -/
def taking (s : State) (e q : Nat) : Option (Job × State) :=
  let s0 := s.takeStaged .TRE_CTL e 0
  let s1 := s0.tidyQueues
  match s1.nextWork with
  | .queue q' desc k =>
    let r := s1.readyRead (.eng (if q = svcQueue then 0 else q)) (linesOf desc 512)
    let j := r.1.queueJob q desc (r.1.bytesAt desc 512)
    let w := r.1.readyWrite j.by_ true j.ownLines
    if q' = q ∧ r.2 = .ok ∧ r.1.mustWait ((j.startSpans q).flatMap (fun p => linesOf p.1 p.2)) = false ∧ w.2 = true ∧
        s1.engineFree e = true ∧ (mapGet? s.trs.jobs e).isNone ∧ s0.pwr.t0 = none ∧ s0.inReset 0x28 = false ∧ s0.flt.fatal = false then
      some (j, w.1.takeEntry e q k (r.1.bytesAt desc 512))
    else none
  | _ => none

theorem witness_EngineJobs :
    (taking (queued (copy 0 0)) 2 5).any (fun x => x.1.op == 1 && !badTransform x.1.d) = true ∧
    (taking keyed 2 5).any (fun x => x.1.op == 2 && !badKeyOp x.1.d true && x.1.srcLen == 80 && (x.2.keySlot x.1).isSome &&
      !x.2.jobStale x.1 &&
      (match x.2.readSpans (engBlk 2) (x.1.inst.getD 0) [(dn x.1.d 16 8, 80)] with
        | .bytes _ r => (keyRecord r).1 == 0
        | _ => false)) = true ∧
    (taking (queued [(0, [3]), (8, [1])]) 2 5).any (fun x => x.1.op == 3 && !badKeyOp x.1.d false && (x.2.keySlot x.1).isSome) = true ∧
    [0x10, 0x11].all (fun o => (taking (served5 [(0, [o]), (16, le 8 (somewhere + 0x20000)), (24, le 8 32), (32, le 8 (somewhere + 0x21000)),
        (40, le 8 97), (48, le 8 (somewhere + 0x22000)), (56, le 8 96)]) 2 svcQueue).any (fun x => !badVerify x.1.d (x.1.op == 0x10))) = true := by
  decide +kernel

/-- A job that has started: passing through, compressing with a context. -/
def passing : State := nextOf (exec (.transform 2) (queued (copy 0 0)))
def compressing : State := nextOf (exec (.transform 2) (queued (copy 1 4)))
theorem witness_EngineBlocks :
    (Hears (queued []) boss .TRS_DOORBELL 0 5 ∧
      (3 + 65536 - (queued []).fget F.TRS_Q_HEAD_HEAD 0 5) % 65536 ≤ 2 ^ (queued []).fget F.TRS_Q_CTL_SIZE_LOG2 0 5) ∧
    ((mapGet? passing.trs.jobs 2).any (fun j => j.op == 1 && j.comp == 0 && j.rest.isEmpty && !j.encrypts &&
      decide (j.prog.inDone < j.srcLen))) = true ∧
    ((mapGet? compressing.trs.jobs 2).any (fun j => j.op == 1 && j.comp == 1 && j.rest.isEmpty && decide (j.prog.inDone < j.srcLen))) = true ∧
    passing.fbit F.TRE_STATUS_IN_SERVICE 2 0 = true ∧ passing.domPowered 98 = true := by decide +kernel

theorem witness_imprecise : thrown.canIssue 0 = true ∧ (thrown.boundary 0).2 = true ∧ (thrown.boundary 0).1.canIssue 0 = true ∧
    ((thrown.boundary 0).1.core 0).current = some 1 ∧ ((thrown.boundary 0).1.comesFirst 0 1).isSome = true := by decide +kernel
theorem witness_drainsAndGroups : stored.flt.fatal = false ∧ (stored.core 0).sb.all (fun e => e.kept) = true ∧
      (((linesOf somewhere 8).foldl State.mcAccess stored).readyWrite (.core 0) false (linesOf somewhere 8)).2 = true ∧
    grouped.coreRuns 0 = true ∧ grouped.posOf 0 = some 0 ∧ (grouped.pair 0).need ≠ some causeSoftware ∧
    (grouped.core 0).groups.head?.any (fun g => grouped.groupReady 0 g && (grouped.core 0).acts.all (fun a => decide (g.last ≤ a.1))) = true := by
  decide +kernel

/-- A checked pair with an event to agree on, at work and idle. -/
theorem witness_agreement : (agreeing.core 0).agreedSet.any Input.isAnswer = false ∧ (agreeing.core 0).keepsEvents = false ∧
    (let c := (agreeing.modCore 0 (fun c => { c with due := false, stalls := true })).core 0
     c.due = false ∧ c.agreedSet ≠ [] ∧ c.stalls = true) ∧ (running.pair 0).fifo.length = 1 := by decide +kernel

/-- A job whose block waits to be written; a job that decompresses a raw block of zeros. -/
def segmented (comp : Nat) : State :=
  { passing with trs := { passing.trs with jobs := passing.trs.jobs.map (fun x =>
      (x.1, { x.2 with rest := [0], d := patch x.2.d [(1, [BitVec.ofNat 8 comp])] })) } }
def rawBlock : List Byte := [0xC7, 1, 1, 1] ++ le 4 496 ++ le 4 (crc32c (List.replicate 496 0)) ++ le 4 0 ++ List.replicate 496 0
def expanding : State := nextOf (exec (.transform 2) (put (somewhere + 0x20000) rawBlock (queued (copy 2 0 ++ [(24, le 8 512)]))))

theorem witness_segments : [0, 1, 2].all (fun comp => (mapGet? (segmented comp).trs.jobs 2).any (fun j => j.op == 1 && j.comp == comp && !j.rest.isEmpty))
    = true := by decide +kernel

theorem witness_passed : (mapGet? passing.trs.jobs 2).any (fun j =>
    decide (min (if j.flag 6 then (j.blockSize + 4095) / 4096 * 4096 else j.blockSize) (j.srcLen - j.prog.inDone) ≤ j.dstLen - j.prog.outHere) &&
    (match passing.jobInput 2 j (min (if j.flag 6 then (j.blockSize + 4095) / 4096 * 4096 else j.blockSize) (j.srcLen - j.prog.inDone)) with
      | .ok _ _ _ _ => true
      | _ => false)) = true := by decide +kernel

/-- The block that compresses 1,000 bytes fits, whatever the engine makes of them. -/
theorem witness_compressed : (mapGet? compressing.trs.jobs 2).any (fun j => j.target == 0 && decide (1024 ≤ j.dstLen - j.prog.outHere) &&
      decide (min j.blockSize (j.srcLen - j.prog.inDone) ≤ 1000) &&
      (match compressing.jobInput 2 j (min j.blockSize (j.srcLen - j.prog.inDone)) with
        | .ok _ raw _ _ => raw.length == 1000
        | _ => false)) = true ∧
    ∀ (raw body : List Byte) (hist last flushed : Bool), raw.length = 1000 → (blockBytes raw body 0 0 hist last flushed).length ≤ 1024 :=
  ⟨by decide +kernel, fun _ _ _ _ _ h => Laws.blockBytes_room (n := 2) (by rw [h]; decide)⟩

set_option maxRecDepth 100000 in

theorem witness_expanded : (mapGet? expanding.trs.jobs 2).any (fun j => j.op == 1 && j.comp == 2 && !j.prog.ended && j.rest.isEmpty &&
    decide (16 ≤ j.srcLen - j.prog.inDone) &&
    (match expanding.jobInput 2 j 16 with
      | .ok t _ hd _ => hdrClass hd == 1 && (match t.jobInput 2 j 512 with
        | .ok _ _ blk _ => (match decodeBlock blk 512 j.prog.nextSeq [] with
          | .ok out => out.length == 496 && decide (496 ≤ j.dstLen - j.prog.outHere)
          | _ => false)
        | _ => false)
      | _ => false)) = true := by decide +kernel

/-! Hypotheses: exchanges -/

/-- A request of exchange 7: one block, for target 0. -/
def req (op : Nat) : List Byte :=
  patch (List.replicate 128 0) ([(0, [BitVec.ofNat 8 op]), (8, le 4 7), (12, le 2 5), (16, [0xFF]), (20, le 2 3), (24, le 8 0x1122)] ++
    (if op = 3 then [] else if op = 0x10 then [(17, [6]), (44, le 4 1), (48, le 8 (somewhere + 0x5000))]
    else if op = 5 then [(44, le 4 1), (48, le 8 (somewhere + 0x5000))]
    else if op = 4 then [(32, le 8 100), (40, le 4 1)]
    else [(32, le 8 100), (40, le 4 1), (44, le 4 1), (48, le 8 (somewhere + 0x5000))]))

/-- The device with sequencer pair 2, request ring 9 of instance 5, completion ring 3 and target 0 with one path. -/
def xch (op : Nat) : State :=
  put (somewhere + 0x1000) (le 8 (somewhere + 0x4000)) (put (somewhere + 0x4000) (req op)
    (put (somewhere + 0x3000) (patch (List.replicate 32 0) [(0, [1, 1, 0, 1]), (4, le 4 1), (8, [9]), (12, le 4 8)])
      (put (somewhere + 0x5000) (le 8 (somewhere + 0x6000) ++ le 4 512)
        (tuned [(F.XCH_CTL_ENABLE, 0, 0, 1), (F.XCH_TGT_BASE_BASE, 0, 0, (somewhere + 0x3000) / 4096), (F.XCH_TGT_CTL_COUNT, 0, 0, 1),
          (F.XCH_RQ_CTL_SIZE_LOG2, 0, 9, 4), (F.XCH_RQ_CTL_INSTANCE, 0, 9, 5), (F.XCH_RQ_CTL_CQ, 0, 9, 3), (F.XCH_RQ_CTL_PAIR, 0, 9, 2),
          (F.XCH_RQ_CTL_ENABLE, 0, 9, 1), (F.XCH_RQ_BASE_BASE, 0, 9, (somewhere + 0x1000) / 4096), (F.XCH_CQ_CTL_SIZE_LOG2, 0, 3, 4),
          (F.XCH_CQ_CTL_ENABLE, 0, 3, 1), (F.XCH_CQ_CTL_INSTANCE, 0, 3, 5), (F.XCH_CQ_BASE_BASE, 0, 3, (somewhere + 0x2000) / 4096),
          (F.SEQ_CTL_ENABLE, 2, 0, 1), (F.INST_CTL_PRESENT, 0, 5, 1), (F.INST_CTL_SEQ_WEIGHT, 0, 5, 1), (F.INST_XRANGE_COUNT, 0, 5, 1),
          (F.XCH_RQ_DOORBELL_TAIL, 0, 9, 1)] lit))))

/-- What `ServesNext` asks of pair 2 and ring 9, as a computation. -/
def serves (s : State) (op : Nat) : Bool :=
  let s0 := (s.listedOf .XCH_RQ_DOORBELL).foldl (fun s r => s.rqSafe r) s
  let s1 := (s0.ringsOf 2).foldl (fun s r => (State.rqHeadOf 2 r 65536 s).1) s0
  s.xchTakes && s.seqRuns 2 &&
  (match (s1.seqSched 2).next s1.seqWeight (s1.instAwaits 2) (s1.seqWork 2 []) with
    | some (n, c) => nextRing (mapGet? c.ring n) ((s1.ringsOf 2).filter (fun r => s1.rqInst r == n && s1.canTake 2 r [])) == some 9
    | none => false) &&
  (match s1.takeable 2 9 [] with
    | (u, .accept _ b _ _ _) => rqOp b == op && (u.entry (rqExch b)).state == stIdle
    | _ => false)

theorem witness_RequestsAccepted : [opRead, opWrite, opFlush, opZeroes, opDsm, opMgmt].all (fun op => serves (xch op) op) = true := by
  decide +kernel

/-- The steps of a READ: taken, started on a path, its data moved, its command complete, its record visible. -/
def taken : State := nextOf (exec (.read 2 [] .fine) (xch 1))
def started : State := nextOf (exec (.pathChoice 7 [5] .fine) taken)
def inward : WindowOp :=
  { rdma := false, group := 0, port := 1, addr := BitVec.ofNat 64 (2 ^ 63 + (started.entry 7).attempt * 2 ^ 48 + 7 * 2 ^ 28), write := true
    data := List.replicate 512 0x77, len := 0, chk := .fine, fecFixed := 0, fecBad := 0 }

def complete : State := nextOf (exec (.targetCompletion 0 0 5 0 ⟨[], .fine, 0, 0⟩) started)
def reported : State := nextOf (exec (.completionRecordVisible ⟨7, .fine⟩) complete)
theorem witness_pathChoice : Hears (xch 1) boss .XCH_RQ_DOORBELL 0 9 ∧ taken.ownerRuns 7 = true ∧ (taken.entry 7).state = stPosted ∧
    (taken.exch 7).poison = false ∧ taken.pwr.t0 = none ∧ taken.flt.fatal = false ∧ (taken.entry 7).abort = false ∧
    (taken.pathsReady (taken.entry 7).inst (rqTarget (taken.exch 7).record)).2 = true ∧
    (taken.choosePath 7).any (fun p => taken.cidsFree 7 { taken.exch 7 with desc := taken.pathDesc (rqTarget (taken.exch 7).record) p.1 }) = true := by
  decide +kernel

theorem witness_windowTransfer : let x := windowExch inward
    started.windowCurrent inward = true ∧ windowMoves (started.exch x).record true = true ∧ inward.data.length ≤ windowLen (started.exch x) ∧
    (started.writeSpans 5 (spans (started.windowMap (started.exch x)) 0 512) inward.data).2 = true := by decide +kernel

theorem witness_completion : (started.xch.attempts.find? (fun a => a.target == 0 && a.path == 0 && a.open_.contains 5)).any
      (fun a => decide (a.open_ = [5]) && started.completionCurrent a && (started.exch a.exch).tstat.isNone && a.exch == 7) = true ∧
    complete.ownerRuns 7 = true ∧ (complete.entry 7).state = stStatus ∧ (complete.entry 7).result ≠ xInDoubt ∧
    (complete.slotReady (complete.entry 7).cq (complete.entry 7).seq).2 = true ∧ Hears reported boss .XCH_CQ_HEAD 0 3 ∧
    reported.headOk 3 1 = true := by decide +kernel
-- R340: the record of a READ that has ended is consumed, and its entry is idle

theorem test_consumed : ((nextOf (exec (.xchCqHead boss 3 ⟨1, []⟩) reported)).entry 7).state = stIdle := by decide +kernel
theorem witness_transformDone : let s : State := { started with trs := { started.trs with results := [(7, (stDone, 512))] } }
    s.ownerRuns 7 = true ∧ mapGet? s.trs.results 7 = some (stDone, 512) ∧ stStarted ≤ (s.entry 7).state ∧ (s.entry 7).state < stStatus ∧
    rqOp (s.exch 7).record ≠ opWrite := by decide +kernel

theorem witness_interruptWrite : (tuned [(F.PCIE_MSI_ADDR, 3, 0, 0xABCDE)] lit).fget F.PCIE_MSI_ADDR 3 0 ≠ 0 ∧ bytesToNat [59, 0, 0, 0] % 64 < 60 := by
  decide +kernel

/-- The same after its path has failed, and with its pair disabled and another in service. -/
def failed : State := nextOf (exec (.pathFailed 0 0 ⟨.timeout, []⟩) started)
def leaderless : State := tuned [(F.SEQ_CTL_ENABLE, 2, 0, 0), (F.SEQ_CTL_ENABLE, 3, 0, 1)] started
theorem witness_PathsAndFailover : (started.pathDesc 0 0).state = 1 ∧ (started.current 7).any (fun a => !a.failed) = true ∧
    (failed.xch.attempts.find? (fun a => a.exch == 7 && a.number == (started.entry 7).attempt)).any (fun a => a.failed) = true ∧
    leaderless.seqRuns 2 = false ∧ leaderless.seqRuns 3 = true ∧ leaderless.liveEntries = [7] ∧ (leaderless.entry 7).owner = 2 ∧
    (lit.fbit (copyField 0) 0 0 = true ∧ lit.fbit (copyField 1) 0 0 = true ∧ lit.fbit F.XCH_STATUS_SINGLE 0 0 = false) ∧
    0 < lit.portsOf 4 ∧ lit.powered 0x64 0 = true ∧ lit.fbit ⟨.PCIE_STATUS, 0, 1⟩ 0 0 = false ∧
    0 < lit.portsOf 0 ∧ lit.powered 0x60 0 = true ∧ lit.fbit ⟨.ETH_STATUS, 0, 1⟩ 0 0 = false ∧ lit.flt.stopped.contains 0x64 = false := by
  decide +kernel

/-- The same in a power failure that has begun. -/
def draining (kind : Nat) : State :=
  tuned [(F.XCH_CTL_SAVE_KIND, 0, 0, kind), (⟨.XCH_SAVE_ADDR, 12, 40⟩, 0, 0, (somewhere + 0x10000) / 4096), (F.XCH_SAVE_LIMIT_LIMIT, 0, 0, 10)]
    { started with pwr := { started.pwr with t0 := some 0 } }

theorem witness_SaveAndReplay : (draining 1).pwr.t0 ≠ none ∧ (draining 1).fbit F.XCH_STATUS_IMAGE 0 0 = false ∧ (draining 1).pwr.safe = false ∧
    (draining 1).saveReached = true ∧ (draining 0).liveEntries = [7] ∧
    (let s := tuned [(F.XCH_STATUS_IMAGE, 0, 0, 1)] lit
     Hears s boss .XCH_REPLAY 0 0 ∧ s.fbit F.XCH_STATUS_IMAGE 0 0 = true ∧
       ({ s with xch := { s.xch with replayAt := some 0 } } : State).replayRecords.length ≤ 0) := by decide +kernel

theorem witness_completionBy : (started.attemptBy 0 0 5).any (fun a =>
      let t := ((started.fecCompletion 0 0 5 0 0).mgmtData a 5 []).1
      decide (a.open_ = [5]) && ((started.fecCompletion 0 0 5 0 0).mgmtData a 5 []).2 && t.completionCurrent a && (t.exch a.exch).tstat.isNone &&
        !(t.entry a.exch).abort && !(t.exch a.exch).poison && (started.fecCompletion 0 0 5 0 0).ownerRuns a.exch) = true := by decide +kernel

/-- A WRITE that has started, and a target no path of which is active. -/
def starting : State := nextOf (exec (.pathChoice 7 [5] .fine) (nextOf (exec (.write 2 [] .fine) (xch 2))))
def pathless : State := put (somewhere + 0x3000) [0, 1, 0, 1] taken
theorem witness_writeExchange :
    (let o : WindowOp := { inward with addr := BitVec.ofNat 64 (2 ^ 63 + (starting.entry 7).attempt * 2 ^ 48 + 7 * 2 ^ 28), write := false, data := [], len := 512 }
     (starting.fecSeen o).windowCurrent o = true ∧ windowExch o = 7 ∧ windowMoves (starting.exch 7).record false = true ∧ 512 ≤ windowLen (starting.exch 7) ∧
       (match starting.readSpans 0x33 5 (spans (starting.windowMap (starting.exch 7)) 0 512) with
         | .bytes _ _ => true
         | _ => false) = true) ∧
    (let s : State := { starting with trs := { starting.trs with results := [(7, (stDone, 512))] }, xch := { starting.xch with attempts := [] } }
     s.ownerRuns 7 = true ∧ rqOp (s.exch 7).record = opWrite ∧ stStarted ≤ (s.entry 7).state ∧ (s.entry 7).state < stStatus ∧
       s.cidsFree 7 (s.exch 7) = true ∧ (s.pathsReady (s.entry 7).inst (rqTarget (s.exch 7).record)).2 = true) ∧
    (pathless.choosePath 7).isNone = true ∧ (pathless.pathsReady 5 0).2 = true ∧ (started.fecSeen inward).windowCurrent inward = true := by
  decide +kernel

/-- The target table at a line that device 1 homes: asked for, not here. -/
def tableFar : State := tuned [(F.XCH_TGT_BASE_BASE, 0, 0, (0xFF00000000000 + 2 ^ 27) / 4096), (F.XCH_TGT_CTL_COUNT, 0, 0, 1)]
  (tuned [(F.PCS_RES_WAYS_WAYS, 0, 0, 0), (F.DEV_IMG_MEMBERS_MEMBERS, 0, 0, 7)] lit)

theorem witness_pathForms : (started.pathsReady 0 0).2 = true ∧ ((started.pathsReady 0 0).1.failDesc 0 0).state = 1 ∧
    ((pathless.pathsReady 0 0).1.failDesc 0 0).state = 0 ∧ (tableFar.pathsReady 0 0).2 = false ∧
    ({ started with xch := { started.xch with fences := [(0, 0)] } } : State).xch.fences.contains (0, 0) = true ∧
    leaderless.fget F.XCH_RQ_BASE_BASE 0 9 ≠ 0 ∧ leaderless.fget F.XCH_RQ_CTL_PAIR 0 9 = 2 ∧ leaderless.fget F.XCH_RQ_BASE_BASE 0 8 = 0 ∧
    (lit.fset F.XCH_STATUS_REBUILDING 0 0 1).fbit F.XCH_STATUS_REBUILDING 0 0 = true ∧
    lit.fbit ⟨.PCIE_PERST, 0, 1⟩ 0 0 = true ∧ (lit.fset ⟨.PCIE_PERST, 0, 1⟩ 0 0 0).fbit ⟨.PCIE_PERST, 0, 1⟩ 0 0 = false ∧
    (lit.fset ⟨.PCIE_STATUS, 3, 1⟩ 0 0 1).fbit ⟨.PCIE_STATUS, 3, 1⟩ 0 0 = true ∧ lit.powered 0x60 0 = true ∧
    (lit.fset ⟨.ETH_STATUS, 7, 1⟩ 0 0 1).fbit ⟨.ETH_STATUS, 7, 1⟩ 0 0 = true := by decide +kernel

/-! Hypotheses: instances -/

/-- A parameter block, with one ring of each kind, and the instance that it makes. -/
def asked : State :=
  put (somewhere + 0x8200) (le 8 (somewhere + 0xC000) ++ [4]) (put (somewhere + 0x8100) (le 8 (somewhere + 0xB000) ++ [4, 0xFF])
    (put (somewhere + 0x8000) (patch (List.replicate 128 0) [(0, [1, 1, 2, 1]), (4, le 2 1), (6, le 2 1), (8, le 2 1), (10, [1, 1]), (12, le 4 256),
        (20, le 4 1), (28, le 4 1), (32, le 8 (somewhere + 0xA000)), (40, [4]), (48, le 8 (somewhere + 0x8100)), (56, le 8 (somewhere + 0x8200))])
      (tuned [(F.INST_CMD_ADDR_ADDR, 0, 0, (somewhere + 0x8000) / 128), (F.INST_CTL_PRESENT, 0, 5, 1)] lit)))

theorem witness_InstanceCommands : Hears asked boss .INST_CMD 0 0 ∧ asked.fbit F.INST_CMD_STATUS_BUSY 0 0 = false ∧
    asked.fbit F.FBS_STATUS_CALLER_NEEDED 0 0 = false ∧ asked.fbit F.INST_CTL_PRESENT 0 5 = true ∧ asked.fbit F.INST_CTL_PRESENT 0 6 = false ∧
    (match (instAccepted asked 1 6).fwRead (somewhere + 0x8000) 128 with
      | (u, some b, true) => !badParams b && (u.fwRead (dn b 48 8) (16 * dn b 4 2)).2.2 && (u.fwRead (dn b 56 8) (16 * dn b 6 2)).2.2 &&
          (({ u with inst := { u.inst with grants := mapErase u.inst.grants 6 } } : State).makeGrant b).1 == 0
      | _ => false) = true ∧
    Hears asked boss .INST_OP 0 5 ∧ mapGet? asked.inst.resets 5 = none ∧
    (let s := nextOf (exec (.instReset boss ⟨5, []⟩) asked)
     mapGet? s.inst.resets 5 = some false ∧ s.instAcked 5 = true ∧ s.inst.removes.contains 5 = false) := by decide +kernel

/-! Hypotheses: the image, its directory and its links -/

/-- A member of an image of devices 0 to 2; port 2 joins it to port 5 of device 1, and is up. -/
def imaged : State := tuned [(F.PCS_RES_WAYS_WAYS, 0, 0, 0), (F.DEV_IMG_MEMBERS_MEMBERS, 0, 0, 7), (F.SHB_CFG_ENABLE, 2, 0, 1),
  (F.SHB_CFG_PEER, 2, 0, 1), (F.SHB_CFG_PEER_PORT, 2, 0, 5), (F.SHB_STATUS_STATE, 2, 0, 2), (F.SHB_STATUS_WIDTH, 2, 0, 3),
  (F.SHB_STATUS_LANES_GOOD, 2, 0, 255)] lit

def role (r caller : Nat) : State := tuned [(F.DEV_IMG_STATE_ROLE, 0, 0, r), (F.DEV_IMG_STATE_ACTING_CALLER, 0, 0, caller)] imaged

/-- A message of device 1, about a line. -/
def about (kind a : Nat) : Msg := { letter with kind, addr := a, tag := a / 128 % 65536 }
def entered (e : DirSt) : State := imaged.setDir somewhere (some e)
theorem witness_DirectoryRequests : Homed imaged 2 (about 1 somewhere) ∧ mapGet? imaged.dir.entries somewhere = none ∧
    Homed (entered (.modified 2)) 2 (about 1 somewhere) ∧ (2 ≠ imaged.devnum ∧ 2 ≠ (about 1 somewhere).src) ∧
    (entered (.shared 2)).farHolders (about 3 somewhere) 2 = [] ∧ (entered (.shared 6)).farHolders (about 3 somewhere) 6 ≠ [] := by
  decide +kernel

/-- The line's request in progress, standby, another home, a conversion, an entry that gives way. -/
def meets (m : Msg) (acks : List Nat) (bcast : Bool) : State :=
  { imaged with dir := { imaged.dir with busy := mapSet imaged.dir.busy (lineOf m.addr) ⟨m, acks, bcast⟩ } }

theorem witness_DirectoryWaits : let s := meets { about 1 somewhere with src := 2 } [2] false
    (Arrives s 2 (about 1 somewhere) ∧ HomedHere s (about 1 somewhere) ∧ (mapGet? s.dir.busy somewhere).isSome = true ∧ s.evicting somewhere = false ∧
      (served s (about 1 somewhere)).devnum ≠ 1) ∧
    (imaged.fset F.PWR_STATUS_STATE 0 0 3).standby = true ∧ imaged.standby = false ∧ imaged.homeOf (somewhere + 2 ^ 27) ≠ .dev imaged.devnum ∧
    ((entered (.modified 2)).dirEvict somewhere).evicting somewhere = true ∧
    ({ imaged with dir := { imaged.dir with unwritten := [somewhere / 2 ^ 30] } } : State).sliceUp somewhere = false ∧
    (tuned [(F.PCS_RES_STATUS_CONVERTING, 0, 0, 1)] { imaged with mem := { imaged.mem with conv := some (0xFF00000000000, 8) } }).sliceUp somewhere = false ∧
    (let t := (metErrors ((imaged.setDir (somewhere + 128) (some (.modified 2)))) (about 1 somewhere) [] .fine).dirEvict (somewhere + 128)
     (mapGet? t.dir.busy (somewhere + 128)).isSome = true) ∧
    (mapGet? (imaged.dirEvict (somewhere + 128)).dir.busy (somewhere + 128)).isSome = false := by decide +kernel

def snooping : State := nextOf (exec (.readShared 2 { about 1 somewhere with src := 2 } [] .fine none) (entered (.modified 1)))
theorem witness_DirectoryAnswers : HomedHere (entered (.modified 1)) (about 5 somewhere) ∧ Arrives (entered (.modified 1)) 2 (about 5 somewhere) ∧
    mapGet? (entered (.modified 1)).dir.entries somewhere = some (.modified 1) ∧ Arrives snooping 2 (about 0x24 somewhere) ∧
    (mapGet? snooping.dir.busy somewhere).any (fun r => r.acks.contains 1 && !r.bcast && r.msg.kind == 1) = true := by decide +kernel

/-- Answers to a snoop: of one that nothing waits for, of a broadcast, for a reader, for a new owner, for one who has lost its copy. -/
theorem witness_snoopAnswers : (mapGet? imaged.dir.busy somewhere).all (fun r => !r.acks.contains 1) = true ∧
    (mapGet? (meets (about 1 somewhere) [1, 2] true).dir.busy somewhere).any (fun r => r.bcast && r.acks.contains 1) = true ∧
    [1, 2, 3, 4].all (fun kind => (mapGet? (meets { about kind somewhere with src := 2 } [1] false).dir.busy somewhere).any (fun r =>
      r.acks.contains 1 && !r.bcast && r.msg.kind == BitVec.ofNat 8 kind && lineOf r.msg.addr == somewhere)) = true ∧
    imaged.lost.contains 2 = false ∧ (2 ≠ imaged.devnum) := by decide +kernel

/-- A line that device 1 homes: asked for, written back, here. -/
def far : Nat := 0xFF00000000000 + 2 ^ 27 + 0x2000
def fetching : State := { imaged with mem := { imaged.mem with asked := mapSet imaged.mem.asked far 4 } }
def farPool (home : Option (List Byte × Bool)) : State :=
  { imaged with mem := { imaged.mem with pool := mapSet imaged.mem.pool far ⟨home, home.isSome, [], 0, 0⟩ } }

theorem witness_RequesterAndHolder : Arrives fetching 2 (about 0x10 far) ∧ mapGet? fetching.mem.asked far = some 4 ∧
    fetching.homeOf far = .dev 1 ∧ (about 0x10 far).tag ≠ Nat.xor (far / 128 % 2 ^ 16) 0x8000 ∧ mapGet 0 fetching.dir.retries far ≠ 15 ∧
    (({ imaged with mem := { imaged.mem with wb := [far] } } : State).mem.wb.contains far = true) ∧
    imaged.poolLine far = none ∧ mapGet? imaged.mem.evict far = none ∧ ((farPool none).poolLine far).isSome = true ∧
    ((farPool (some (List.replicate 128 0, false))).poolLine far).isSome = true := by decide +kernel

/-- A write-back refused while its line has stayed, is asked for, or is owned again; snoops of a line with a private copy, modified and not. -/
theorem witness_holderForms : let wtag := Nat.xor (far / 128 % 2 ^ 16) 0x8000
    let back (s : State) : State := { s with mem := { s.mem with wb := [far] } }
    Arrives imaged 2 { about 0x13 far with tag := wtag } ∧ imaged.mem.wb.contains far = false ∧ (back imaged).mem.wb.contains far = true ∧
    (back imaged).homeOf far = .dev 1 ∧ mapGet? (back imaged).mem.asked far = none ∧ ((back imaged).poolLine far).any (fun p => p.owned) = false ∧
    (mapGet? (back fetching).mem.asked far).isSome = true ∧ ((back (farPool (some ([], false)))).poolLine far).any (fun p => p.owned) = true ∧
    ((back (farPool none)).poolLine far).any (fun p => !p.owned) = true ∧
    ((farPool none).takeBack far).poolLine far ≠ none ∧ (((farPool none).takeBack far).invalAsk far none).2 = true ∧
    (let s := { farPool (some (List.replicate 128 0, false)) with pairs := litPair.pairs, cores := litPair.cores }
     let t : State := { s with mem := { s.mem with pool := mapSet s.mem.pool far ⟨some (List.replicate 128 0, false), true, [0], 0, 0⟩ } }
     ((t.takeBack far).invalAsk far none).2 = false) := by decide +kernel

set_option maxRecDepth 100000 in

theorem witness_spoiledFlit : let bs : List Byte := List.replicate 256 1
    bs.length = 256 ∧ dn bs 248 8 ≠ crc64 (bs.take 248) := by decide +kernel

theorem witness_LinkEvents : Arrives imaged 2 (about 0x30 0x7F00000) ∧ (kindOf 0).reachesIo = true ∧ imaged.down = false ∧
    imaged.fget F.SHB_STATUS_STATE 2 0 = 2 ∧ (imaged.port 2).nak = false ∧
    ((imaged.fget F.SHB_STATUS_LANES_GOOD 2 0).testBit 7 = true ∧
      widthOf (imaged.fget F.SHB_STATUS_LANES_GOOD 2 0 - 2 ^ 7) ≠ 0 ∧
      widthOf (imaged.fget F.SHB_STATUS_LANES_GOOD 2 0 - 2 ^ 7) < imaged.fget F.SHB_STATUS_WIDTH 2 0) ∧
    (imaged.port 2).widening = false ∧ (imaged.port 2).wait = [] ∧ imaged.fbit F.SHB_CFG_ENABLE 2 0 = true ∧ imaged.powered 0x52 0 = true ∧
    Hears imaged boss .SHB_CTL 2 0 ∧ widthOf ((imaged.fset F.SHB_STATUS_STATE 2 0 1).lanesKept 2 255) ≠ 0 := by decide +kernel

theorem witness_ioAnswers :
    (∃ x : IoWait, ((imaged.modCore 3 (fun c => { c with waitIo := some x })).core 3).waitIo = some x ∧ x.addr / 2 ^ 27 = (about 0x32 0).src) ∧
    (({ imaged with bmp := { imaged.bmp with status := 1, addr := 2 ^ 27 } } : State).bmp.status = 1) :=
  ⟨⟨{ lvl := 1, bank := 1, rd := 4, len := 8, addr := 2 ^ 27, cas := none }, by rfl, by rfl⟩, by rfl⟩

def svc (sub epoch mask : Nat) (rest : List Byte) : Msg := { letter with kind := 0x34, data := le 4 sub ++ le 4 epoch ++ le 4 mask ++ rest }
def named (r : Nat) : State := tuned [(F.DEV_IMG_CFG_STANDBY, 0, 0, 1), (F.DEV_IMG_CFG_STANDBY_EN, 0, 0, 1)] (role r 1)
theorem witness_ImageMessages : (role 3 0).role = 3 ∧ (role 3 0).down = false ∧
    sub (msgAs 0x34 (svcAs 1 (svc 1 0 0 (List.replicate 4 0 ++ List.replicate 48 7)))).data 16 48 =
      ({ (role 3 0) with img := { (role 3 0).img with digest := List.replicate 48 7 } } : State).img.digest ∧
    sub (msgAs 0x34 (svcAs 1 (svc 1 0 0 []))).data 16 48 ≠ List.replicate 48 7 ∧
    (role 0 0).role = 0 ∧ maskBit (msgMask (msgAs 0x34 (svcAs 2 (svc 2 1 7 [])))) imaged.devnum = true ∧
    ((role 1 1).caller = 1 ∧ msgEpoch (msgAs 0x34 (svcAs 4 (svc 4 0 7 []))) = (role 1 1).epoch) ∧
    ((named 2).isMember 1 = true ∧ (named 2).standbyName = some 1 ∧
      msgEpoch (msgAs 0x34 (svcAs 5 (svc 5 1 7 []))) = ((named 2).epoch + 1) % 2 ^ 32) ∧
    (tuned [(F.TOD_STATUS_PORT, 0, 0, 15)] (role 1 1)).fget F.TOD_STATUS_PORT 0 0 = 15 ∧
    ({ letter with src := 2 } : Msg).src ≠ (role 1 1).caller ∧
    (List.range 10).find? (fun j => (role 1 1).fbit F.SHB_CFG_ENABLE j 0 && (role 1 1).peerOf j == 1
      && (role 1 1).fget F.SHB_CFG_PEER_PORT j 0 == dn (msgAs 0x34 (svcAs 8 (svc 8 0 5 []))).data 8 1 % 16) = some 2 ∧
    ((role 1 1).addRecord (faultOf 0) (faultOf 0).cls false true).2 = false := by decide +kernel

/-- The other forms of the service messages, at the bounds of what each compares. -/
theorem witness_messageForms : let at_ : Nat → Msg → Msg := fun sub m => msgAs 0x34 (svcAs sub m)
    imaged.fbit F.SHB_CFG_ENABLE 2 0 = true ∧ letter.dst = imaged.devnum ∧ letter.src ≠ imaged.devnum ∧
    maskBit (msgMask (at_ 2 (svc 2 1 6 []))) imaged.devnum = false ∧ (role 1 1).role = 1 ∧ (role 2 1).role = 2 ∧
    ((role 1 1).caller = letter.src ∧ msgEpoch (at_ 2 (svc 2 0 7 [])) = (role 1 1).epoch ∧ msgEpoch (at_ 2 (svc 2 1 7 [])) ≠ (role 1 1).epoch) ∧
    ({ (role 0 0) with img := { (role 0 0).img with joining := some 1 } } : State).img.joining.isSome = true ∧ (role 0 0).img.joining = none ∧
    (({ (role 0 0) with img := { (role 0 0).img with listening := true } } : State).img.listening = true ∧ (role 0 0).img.listening = false) ∧
    (role 3 0).epoch < msgEpoch (at_ 4 (svc 4 1 7 [])) ∧ ¬ (role 3 0).epoch < msgEpoch (at_ 4 (svc 4 0 7 [])) ∧
    (role 1 1).isMember 3 = false ∧ (role 1 1).isMember 1 = true ∧
    ((role 3 0).standbyName ≠ some 1 ∧ (named 3).standbyName = some 1 ∧ msgEpoch (at_ 5 (svc 5 2 7 [])) ≠ ((named 3).epoch + 1) % 2 ^ 32) ∧
    (let s := tuned [(F.TOD_STATUS_PORT, 0, 0, 1)] (role 1 1)
     ¬ (1 = 15 ∨ 1 = 2 ∨ dn (at_ 6 letter).data 16 1 < s.tod.hops ∨ (dn (at_ 6 letter).data 16 1 = s.tod.hops ∧ 2 < 1) ∨ s.tod.heard + 10000 < s.now)) ∧
    (let s := (role 1 1).modPort 2 (fun p => { p with handing := true, widening := true })
     (s.port 2).widening = true ∧ (s.port 2).handing = true) ∧ ((role 1 1).port 2).handing = false := by decide +kernel

theorem witness_ImageEvents : (role 0 0).fget F.CFG_START_STATUS_PHASE 0 0 ≠ 10 ∧ (role 0 0).img.heard = none ∧
    (role 0 0).fget F.DEV_IMG_CFG_CALLER 0 0 = (role 0 0).devnum ∧ (role 3 0).isMember 2 = true ∧ (2 ≠ (role 3 0).devnum) ∧
    (role 2 1).fbit F.TOD_STATUS_HOLDOVER 0 0 = false ∧ Hears (role 3 0) boss .TOD_SET 0 0 ∧
    (tuned [(F.TOD_CFG_PPS_EN, 0, 0, 1)] (role 3 0)).fbit F.TOD_CFG_PPS_EN 0 0 = true := by decide +kernel

theorem witness_TimerExpiry : let s := tuned [(F.TMR_CMP_TIME, 0, 255, 100), (F.TMR_CTL_ARM, 0, 255, 1), (F.TMR_CTL_PERIODIC, 0, 255, 1)] lit
    s.fbit F.TMR_CTL_ARM 0 255 = true ∧ s.fget F.TMR_CMP_TIME 0 255 ≤ (s.setTime 100).time ∧ (s.setTime 99).time < s.fget F.TMR_CMP_TIME 0 255 ∧
    s.fbit F.TMR_CTL_PERIODIC 0 255 = true ∧ lit.fbit F.TMR_CTL_ARM 0 255 = false := by decide +kernel

/-! Hypotheses: power, start and trust -/

theorem witness_SupplyEvents : lit.down = false ∧ lit.pwr.vin = true ∧ lit.pwr.baseOn = true ∧ lit.pwr.trip = false ∧
    lit.fbit F.PWR_STATUS_BROWNOUT 0 0 = false ∧ lit.fget F.PWR_STATUS_STATE 0 0 ≠ 4 ∧ lit.powerFail.failing = true ∧
    lit.powerFail.pwr.resetN = false ∧ (nextOf (exec .safeStateEntry lit.powerFail)).pwr.safe = true ∧
    lit.fbit F.PWR_STATUS_THERMAL 0 0 = false ∧ (lit.setTherm (some 200)).pwr.thermLimit = some 200 ∧ (State.vinRemoved lit).pwr.vin = false ∧
    lit.failing = false ∧ ({ lit with pwr := { lit.pwr with resetN := true } } : State).failing = false := by decide +kernel

def base : State := { State.reset with pwr := { State.reset.pwr with baseOn := true, ok := true, vin := true } }
theorem witness_PowerCommands : (Hears lit boss .PWR_DOM_CTL 0 103 ∧ 124 ≤ lit.fget F.PWR_DOM_CTL_RAIL 0 103 ∧
      lit.fget F.PWR_DOM_CTL_RAIL 0 103 ≤ lit.fget F.PWR_RAIL_MAX_LEVEL 0 0 ∧ lit.pwr.t0 = none ∧ lit.domState 103 = domOff ∧
      lit.pwr.queue = [] ∧ lit.domState 98 = domOn) ∧
    (domCost 80 * 128000 ≤ lit.pwr.credits ∧ (lit.setDom 80 domQueued).domState 80 ≠ domStopping) ∧
    ((lit.setDom 107 domStopping).stopWorkDone 107 = true ∧ lit.fget F.PWR_DOM_STATUS_CAUSE 0 80 ≠ 2) ∧
    (Hears base boss .PWR_STATE_REQ 0 0 ∧ base.pwr.safe = false ∧
      (base.fset F.PWR_STATUS_STATE 0 0 1).stateRefused false = none ∧ (base.fset F.PWR_STATUS_STATE 0 0 2).stateRefused true = none) := by
  decide +kernel

/-- Requests of a state while one changes, in the first and the last state that each is taken from, and refused. -/
theorem witness_stateRequests : (base.fset F.PWR_STATUS_TRANSITION 0 0 1).fbit F.PWR_STATUS_TRANSITION 0 0 = true ∧
    base.fbit F.PWR_STATUS_TRANSITION 0 0 = false ∧ (base.fset F.PWR_STATUS_STATE 0 0 2).fget F.PWR_STATUS_STATE 0 0 = 2 ∧
    (base.fset F.PWR_STATUS_STATE 0 0 3).fget F.PWR_STATUS_STATE 0 0 = 3 ∧ base.stateRefused false = none ∧ base.fget F.PWR_STATUS_STATE 0 0 ≤ 1 ∧
    base.stateRefused true = none ∧ lit.stateRefused false = some refPairsOn ∧ lit.stateRefused true = some refPairsOn ∧
    ({ base with pwr := { base.pwr with t0 := some 0 } } : State).stateRefused true = some refBusy := by decide +kernel

theorem witness_directoryAsleep : ({ imaged with pwr := { imaged.pwr with safe := true } } : State).pwr.safe = true ∧ imaged.pwr.safe = false ∧
    HomedHere imaged (about 1 somewhere) ∧ imaged.dirFull somewhere = false ∧
    ((entered (.modified 2)).dirEvict somewhere).homeOf somewhere = .dev imaged.devnum ∧
    HomedHere ((entered (.modified 2)).dirEvict somewhere) (about 5 somewhere) := by decide +kernel

/-- An IN of another device's I/O that a split core awaits: core 0, whose position runs, or core 3, whose position does not. -/
def awaiting (lc : Nat) : State := imaged.modCore lc (fun c =>
  { c with split := true, waitIo := some { lvl := 1, bank := 1, rd := 4, len := 8, addr := 2 ^ 27, cas := none } })
theorem witness_portForms : ((awaiting 3).core 3).waitIn.isSome = true ∧ (awaiting 3).splitRuns 3 = false ∧ (awaiting 0).splitRuns 0 = true ∧
    (let s := imaged.fset F.SHB_STATUS_STATE 2 0 3
     (s.fget F.SHB_STATUS_STATE 2 0 = 3 ∧ ((s.modPort 2 (fun p => { p with exiting := true })).port 2).exiting = true)) ∧
    (let s := imaged.fset F.SHB_STATUS_STATE 2 0 0
     s.fget F.SHB_STATUS_STATE 2 0 = 0 ∧ s.peerOf 2 = 1 ∧ s.fget F.SHB_CFG_PEER_PORT 2 0 = 5 ∧ s.devnum / 8 = s.boardnum ∧
       widthOf (s.lanesKept 2 3) ≠ 0 ∧ ({ s with boardnum := 1 } : State).devnum / 8 ≠ 1) ∧
    (imaged.fset F.SHB_STATUS_STATE 2 0 4).fget F.SHB_STATUS_STATE 2 0 = 4 ∧
    ((imaged.modPort 2 (fun p => { p with widening := true })).port 2).widening = true ∧
    (imaged.fset F.SHB_CTL_TRICKLE 2 0 1).fbit F.SHB_CTL_TRICKLE 2 0 = true ∧ (imaged.fset F.PWR_STATUS_STATE 0 0 2).restful = true := by
  decide +kernel

/-- Wakes that wait, of causes before and after a command's. -/
def promenade : State := { lit with pwr := { lit.pwr with queue := [⟨5, 1⟩, ⟨102, 2⟩, ⟨103, 3⟩, ⟨4, 5⟩] } }
theorem witness_domainOn : Hears promenade boss .PWR_DOM_CTL 0 79 ∧ Hears promenade boss .PWR_DOM_CTL 0 127 ∧ Hears promenade boss .PWR_DOM_CTL 0 103 ∧
    promenade.pwr.t0 = none ∧ promenade.domState (domKey 79) = domOff ∧ promenade.pwr.queue.find? (fun r => r.dom == domKey 79) = none ∧
    (promenade.pair 39).failed0 = false ∧ (promenade.pair 39).failed1 = false ∧
    promenade.pwr.queue.find? (fun r => r.dom == 103) = some ⟨103, 3⟩ ∧ promenade.pwr.queue.find? (fun r => r.dom == 102) = some ⟨102, 2⟩ ∧
    promenade.domState 127 = domOn ∧ promenade.pwr.queue.Pairwise (fun a b => a.cause ≤ b.cause) := by decide +kernel

theorem witness_domainOff : lit.domState 103 = domOff ∧ lit.domState 98 = domOn ∧ Hears lit boss .PWR_DOM_CTL 0 0 ∧ (lit.pair 0).st = .split ∧
    (lit.modCore 0 (fun c => c.modLevel 1 (fun v => { v with run := .waiting }))).pairQuiet 0 = true ∧ lit.pairQuiet 0 = false ∧
    lit.domState 107 = domOff ∧ lit.offWorkDone 105 = false ∧ lit.domState 122 = domOn ∧ lit.pwr.backing.contains 0 = false ∧
    lit.domState 118 = domOn ∧ lit.domState 76 = domOff ∧ lit.domState 126 = domOn := by decide +kernel

theorem witness_wakes : (let s : State := { lit with pwr := { lit.pwr with queue := [⟨2, 1⟩, ⟨127, 5⟩] } }
     s.domState 2 ≠ domStopping ∧ domCost 2 * 128000 ≤ s.pwr.credits ∧ s.pwr.t0 = none) ∧
    (lit.setDom 80 domWaking).domState 80 = domWaking ∧ (lit.setDom 127 domWaking).domState 127 = domWaking ∧
    (lit.setDom 80 domStopping).domState 80 = domStopping ∧ (lit.setDom 80 domStopping).stopWorkDone 80 = true ∧
    (lit.fset F.PWR_STATUS_CAP_ACTIVE 0 0 1).fbit F.PWR_STATUS_CAP_ACTIVE 0 0 = true := by decide +kernel

theorem witness_slotChecks : lit.slotFlaw 0 = 1 := by decide +kernel

theorem witness_StartCommands : let s : State := { State.reset with pwr := { State.reset.pwr with vin := true }, boot := { State.reset.boot with due := true } }
    s.down = false ∧ s.tapHolds = false ∧ ((s.startBase (begins 0 0 0)).startPair (begins 0 0 0)).2 = true ∧ Hears base boss .CFG_CTL 0 0 ∧
    base.inst.cmd = none ∧ (base.fset F.MC_STATUS_TRAINED 15 0 1).fbit F.MC_STATUS_TRAINED 15 0 = true ∧
    7 ≤ (base.fset F.CFG_START_STATUS_PHASE 0 0 9).fget F.CFG_START_STATUS_PHASE 0 0 ∧
    (List.range 16).all (fun k => !base.fbit F.MC_CFG_SPEED k 0 || !base.fbit F.MC_CFG_DPC k 0) = true ∧ base.dir.waiting = [] := by
  decide +kernel

def attested : State := nextOf (execAttestGo boss none (tuned [(F.SEC_ATT_ADDR_ADDR, 0, 0, somewhere / 4096)] lit))
theorem witness_TrustCommands : Hears lit boss .CFG_NVM_CMD 0 0 ∧ lit.fbit F.CFG_NVM_STATUS_BUSY 0 0 = false ∧
    (let s := tuned [(F.CFG_NVM_ADDR_OFFSET, 0, 0, 0x400000), (F.CFG_NVM_LEN_LEN, 0, 0, 0x10000)] lit
     s.fget F.CFG_NVM_ADDR_OFFSET 0 0 + s.fget F.CFG_NVM_LEN_LEN 0 0 ≤ flashSize ∧ s.nvmProtected 2 0x400000 0x10000 = false ∧
       s.nvmProtected 3 0x400000 0x10000 = false) ∧
    Hears lit boss .SEC_SVN_ADVANCE 0 0 ∧ Hears lit boss .SEC_REKEY 0 0 ∧ (lit.fset F.SEC_STATUS_REKEY_OK 0 0 1).fbit F.SEC_STATUS_REKEY_OK 0 0 = true ∧
    lit.boot.epoch < 15 ∧ Hears lit boss .SEC_ATT_CMD 0 0 ∧ lit.fbit F.SEC_STATUS_EXHAUSTED 0 0 = false ∧
    lit.fget F.SEC_ATT_STATUS_INDEX 0 0 < hssLimit ∧
    attested.boot.attest.any (fun a => a.fresh && a.src.isNone && decide (a.index + 1 ≠ hssLimit) &&
      (attested.readyRead .dev (linesOf (a.area + 24) 48)).2 == .ok && (attested.readyWrite .dev false (linesOf a.area 4096)).2) = true := by
  decide +kernel

theorem witness_ManagementPort : lit.bmp.status ≠ 1 ∧ ([1, 0, 0, 0xF0, 7] : List Byte).length = 5 ∧ lit.bmp.dyn = none ∧
    ({ lit with bmp := { lit.bmp with status := 0 } } : State).bmp.status ≠ 2 := by decide +kernel
-- R524: the device's identification code

theorem test_idcode : (nextOf (exec .idcode lit)).outbox = lit.outbox ++ [.tdo 0x174209A7] := by decide +kernel

end Sys2Proof.Tests
end

section
/-! Bits of a word under the replacement of a field. -/

namespace Sys2Proof.LevelProofs

open Sys2Proof Sys2Proof.Machine

/-- A bit of a word after a field has been replaced: of the new value within the field, as it was outside. -/
theorem bitOf_setFld (w : Word) (lo n v k : Nat) (h : lo + n ≤ 64) :
    bitOf (setFld w lo n v) k = if lo ≤ k ∧ k < lo + n then v.testBit (k - lo) else bitOf w k := by
  have hb (x : Word) : bitOf x k = x.getLsbD k := rfl
  rw [hb, hb, setFld, BitVec.getLsbD_or, BitVec.getLsbD_and, BitVec.getLsbD_not, BitVec.getLsbD_ofNat, BitVec.getLsbD_ofNat,
    Nat.testBit_mul_two_pow, Nat.testBit_mul_two_pow, Nat.testBit_two_pow_sub_one, Nat.testBit_mod_two_pow]
  by_cases hlo : lo ≤ k
  · by_cases hn : k < lo + n
    · have h1 : k - lo < n := by omega
      have h2 : k < 64 := by omega
      simp [hlo, hn, h1, h2]
    · have h1 : ¬ k - lo < n := by omega
      by_cases hk : k < 64
      · simp [hn, h1, hk]
      · simp [hn, h1, hk, BitVec.getLsbD_of_ge w k (by omega)]
  · by_cases hk : k < 64
    · simp [hlo, hk]
    · simp [hlo, hk, BitVec.getLsbD_of_ge w k (by omega)]

/-- The bits of a field. -/
theorem testBit_fld (w : Word) (lo n i : Nat) : (fld w lo n).testBit i = (decide (i < n) && bitOf w (i + lo)) := by
  rw [fld, Nat.testBit_mod_two_pow, Nat.testBit_div_two_pow, bitOf]

/-- A field reads as it was where another, apart from it, is replaced. -/
theorem fld_setFld_apart (w : Word) {lo n v lo' n' : Nat} (h : lo + n ≤ 64) (ha : lo + n ≤ lo' ∨ lo' + n' ≤ lo) :
    fld (setFld w lo n v) lo' n' = fld w lo' n' := by
  apply Nat.eq_of_testBit_eq
  intro i
  rw [testBit_fld, testBit_fld, bitOf_setFld w lo n v _ h]
  by_cases hi : i < n'
  · rw [if_neg (by omega)]
  · simp [hi]

@[simp] theorem swTa_swSetFlags (w : Word) (f : Nat) : swTa (swSetFlags w f) = swTa w := by
  rw [swTa, swSetFlags, bitOf_setFld _ _ _ _ _ (by decide), if_neg (by decide), swTa]

@[simp] theorem swTa_swSetDss (w : Word) (b : Bool) : swTa (swSetDss w b) = swTa w := by
  rw [swTa, swSetDss, bitOf_setFld _ _ _ _ _ (by decide), if_neg (by decide), swTa]

@[simp] theorem swWp_swSetWp (w : Word) (p : Nat) : swWp (swSetWp w p) = p % 16 := fld_setFld w 16 4 p (by decide)

/-- R58: an event entry is in supervisor state, with TA and the flags clear. -/
theorem swEvent_fields (w : Word) : swS (swEvent w) = true ∧ swTa (swEvent w) = false ∧ fld (swEvent w) 0 4 = 0 := by
  refine ⟨?_, ?_, ?_⟩
  · simp [swS, swEvent, bitOf_setFld]
  · simp only [swTa, swEvent, bitOf_setFld, Nat.reduceAdd, Nat.reduceLeDiff, Nat.reduceLT, Nat.reduceSub, and_self, and_true, and_false,
      if_true, if_false]
    decide
  · rw [swEvent, fld_setFld_apart _ (by decide) (by decide), fld_setFld_apart _ (by decide) (by decide),
      fld_setFld _ _ _ _ (by decide)]
    decide

end Sys2Proof.LevelProofs
end

section
/-! One rule per operation on a core: what is read of its levels after it, and what it leaves. -/

namespace Sys2Proof.LevelProofs

open Sys2Proof Sys2Proof.Machine Sys2Proof.Slice0

@[simp] theorem level_setLevel_same (c : Core) (l : Nat) (v : Level) : (c.setLevel l v).level l = v :=
  mapGet_mapSet_same _ _ _ _

theorem level_setLevel_ne (c : Core) {l j : Nat} (v : Level) (h : j ≠ l) : (c.setLevel l v).level j = c.level j :=
  mapGet_mapSet_ne _ _ _ h

@[simp] theorem level_modLevel_same (c : Core) (l : Nat) (f : Level → Level) : (c.modLevel l f).level l = f (c.level l) :=
  level_setLevel_same c l _

theorem level_modLevel_ne (c : Core) {l j : Nat} (f : Level → Level) (h : j ≠ l) : (c.modLevel l f).level j = c.level j :=
  level_setLevel_ne c _ h

/-- A property of two levels that holds of each level and of the one that is changed holds at every level. -/
theorem level_modLevel_of {P : Level → Level → Prop} (c : Core) (l : Nat) (f : Level → Level) (hrefl : ∀ v, P v v)
    (hf : P (c.level l) (f (c.level l))) (j : Nat) : P (c.level j) ((c.modLevel l f).level j) := by
  by_cases h : j = l
  · rw [h, level_modLevel_same]; exact hf
  · rw [level_modLevel_ne c f h]; exact hrefl _

@[simp] theorem queue_setQueue_same (c : Core) (l : Nat) (q : List Event) : (c.setQueue l q).queue l = q :=
  mapGet_mapSet_same _ _ _ _

theorem queue_setQueue_ne (c : Core) {l j : Nat} (q : List Event) (h : j ≠ l) : (c.setQueue l q).queue j = c.queue j :=
  mapGet_mapSet_ne _ _ _ h

/-- The current level is one of the eight, and active. -/
theorem current_some {c : Core} {l : Nat} (h : c.current = some l) : l < 8 ∧ (c.level l).run = .active := by
  have hp := List.find?_some h
  have hm := List.mem_of_find?_eq_some h
  refine ⟨?_, by simpa using hp⟩
  simp only [levelNumbers, List.mem_cons, List.not_mem_nil, or_false] at hm
  omega

/-- What the completion of long operations keeps of a level: its state and TA. -/
def SameMode (v u : Level) : Prop := u.run = v.run ∧ swTa u.sw = swTa v.sw

/-- What the completion of long operations keeps of a core: everything but the registers, flags and operations of its levels, the
floating-point file and the FCW. -/
structure Settled (c d : Core) : Prop where
  rest : d = { c with arch := d.arch }
  lvlCtl : d.arch.lvlCtl = c.arch.lvlCtl
  fpSaved : d.arch.fpSaved = c.arch.fpSaved
  mode : ∀ j, SameMode (c.level j) (d.level j)

namespace Settled

theorem refl (c : Core) : Settled c c := ⟨rfl, rfl, rfl, fun _ => ⟨rfl, rfl⟩⟩

theorem trans {c d e : Core} (h : Settled c d) (k : Settled d e) : Settled c e where
  rest := by rw [k.rest, h.rest]
  lvlCtl := k.lvlCtl.trans h.lvlCtl
  fpSaved := k.fpSaved.trans h.fpSaved
  mode j := ⟨(k.mode j).1.trans (h.mode j).1, (k.mode j).2.trans (h.mode j).2⟩

theorem modLevel (c : Core) (l : Nat) (f : Level → Level) (hf : SameMode (c.level l) (f (c.level l))) :
    Settled c (c.modLevel l f) :=
  ⟨rfl, rfl, rfl, level_modLevel_of c l f (fun _ => ⟨rfl, rfl⟩) hf⟩

theorem foldl {α : Type} (f : Core → α → Core) (hf : ∀ c x, Settled c (f c x)) (xs : List α) (c : Core) :
    Settled c (xs.foldl f c) := by
  induction xs generalizing c with
  | nil => exact refl c
  | cons x xs ih => exact (hf c x).trans (ih (f c x))

theorem writeDst (c : Core) (d : Dst) (x : Word) : Settled c (c.writeDst d x) := by
  cases d with
  | g b n => exact modLevel c b (fun v => { v with g := mapSet v.g n x }) ⟨rfl, rfl⟩
  | w b n => exact modLevel c b (fun v => { v with w := mapSet v.w n x }) ⟨rfl, rfl⟩
  | f n => exact ⟨rfl, rfl, rfl, fun _ => ⟨rfl, rfl⟩⟩

/-- The FCW flags of a long operation are set. -/
theorem setFcw (c : Core) (w : Word) : Settled c { c with arch := { c.arch with fcw := w } } :=
  ⟨rfl, rfl, rfl, fun _ => ⟨rfl, rfl⟩⟩

theorem setFlags (c : Core) (l f : Nat) : Settled c (c.modLevel l (fun v => { v with sw := swSetFlags v.sw f })) :=
  modLevel c l _ ⟨rfl, swTa_swSetFlags _ f⟩

theorem setDss (c : Core) (l : Nat) (b : Bool) : Settled c (c.modLevel l (fun v => { v with sw := swSetDss v.sw b })) :=
  modLevel c l _ ⟨rfl, swTa_swSetDss _ b⟩

theorem applyOp (c : Core) (l : Nat) (op : LongOp) : Settled c (c.applyOp l op) := by
  have hw := foldl (fun c (w : Dst × Word) => c.writeDst w.1 w.2) (fun c w => writeDst c w.1 w.2) op.writes c
  unfold Core.applyOp
  generalize op.writes.foldl (fun c (w : Dst × Word) => c.writeDst w.1 w.2) c = d at hw
  cases op.flags with
  | none =>
    cases op.dss with
    | none => exact hw.trans (setFcw d _)
    | some b => exact (hw.trans (setDss d l b)).trans (setFcw (d.modLevel l _) _)
  | some f =>
    have hf := hw.trans (setFlags d l f)
    cases op.dss with
    | none => exact hf.trans (setFcw (d.modLevel l _) _)
    | some b => exact (hf.trans (setDss (d.modLevel l _) l b)).trans (setFcw ((d.modLevel l _).modLevel l _) _)

theorem completeWhere (c : Core) (l : Nat) (p : LongOp → Bool) : Settled c (c.completeWhere l p) := by
  have hfold := foldl (fun d op => if !op.done && p op then d.applyOp l op else d) (fun d op => by
    split
    · exact applyOp d l op
    · exact refl d) (c.level l).ops c
  exact hfold.trans (modLevel _ l (fun v => { v with
    ops := (c.level l).ops.filterMap (fun op => if !op.done && p op then op.settle else some op) }) ⟨rfl, rfl⟩)

theorem completeAll (c : Core) (p : LongOp → Bool) : Settled c (c.completeAll p) :=
  foldl _ (fun d l => completeWhere d l p) levelNumbers c

theorem scoreboard (c : Core) (op : OpInfo) (lvl bank x : Nat) : Settled c (c.scoreboard op lvl bank x) :=
  (completeAll c _).trans (completeWhere _ lvl _)

variable {c d : Core}

theorem priv (h : Settled c d) : d.priv = c.priv := by rw [h.rest]
theorem due (h : Settled c d) : d.due = c.due := by rw [h.rest]
theorem stopped (h : Settled c d) : d.stopped = c.stopped := by rw [h.rest]
theorem split (h : Settled c d) : d.split = c.split := by rw [h.rest]
theorem issuedAt (h : Settled c d) : d.issuedAt = c.issuedAt := by rw [h.rest]
theorem fpBusy (h : Settled c d) : d.fpBusy = c.fpBusy := by rw [Core.fpBusy, h.lvlCtl, Core.fpBusy]
theorem fpOwner (h : Settled c d) : d.fpOwner = c.fpOwner := by rw [Core.fpOwner, h.lvlCtl, Core.fpOwner]
theorem run (h : Settled c d) (j : Nat) : (d.level j).run = (c.level j).run := (h.mode j).1
theorem ta (h : Settled c d) (j : Nat) : swTa (d.level j).sw = swTa (c.level j).sw := (h.mode j).2

end Settled

/-- The statements' word for it: the level's SW as program order gives it. -/
theorem settledSw_eq (l : Nat) (c : Core) : settledSw l c = c.settleSw l := rfl

theorem settled_settledSw (l : Nat) (c : Core) : Settled c (settledSw l c) := Settled.completeWhere c l _

theorem settled_serialized (l : Nat) (c : Core) : Settled c (serialized l c) := Settled.completeWhere c l _

end Sys2Proof.LevelProofs
end

section
/-! Cores within the state. -/

namespace Sys2Proof.LevelProofs

open Sys2Proof Sys2Proof.Machine Sys2Proof.Slice0

@[simp] theorem setCore_setCore (s : State) (lc : Nat) (c d : Core) : (s.setCore lc c).setCore lc d = s.setCore lc d := by
  simp only [State.setCore, mapSet_mapSet]

@[simp] theorem modCore_setCore (s : State) (lc : Nat) (c : Core) (f : Core → Core) :
    (s.setCore lc c).modCore lc f = s.setCore lc (f c) := by
  rw [State.modCore, setCore_setCore, State.core_setCore]

theorem modCore_modCore (s : State) (lc : Nat) (f g : Core → Core) :
    (s.modCore lc f).modCore lc g = s.modCore lc (fun c => g (f c)) := modCore_setCore s lc _ g

theorem setCore_core_modCore (s : State) (lc : Nat) (f : Core → Core) :
    (s.modCore lc f).setCore lc ((s.modCore lc f).core lc) = s.modCore lc f := by
  rw [State.core_modCore]
  exact setCore_setCore s lc _ _

/-- R29: where a core stands does not turn on what of it changes, but for SPLIT. -/
theorem posOf_setCore (s : State) (lc k : Nat) (c : Core) (h : c.split = (s.core lc).split) :
    (s.setCore lc c).posOf k = s.posOf k := by
  have hsplit (n : Nat) : (s.setCore lc c).isSplit n = s.isSplit n := by
    by_cases hn : 2 * n = lc
    · rw [State.isSplit, State.isSplit, hn, State.core_setCore, h]
    · rw [State.isSplit, State.isSplit, State.core_setCore_ne s c hn]
  have hcarries (q : Nat) : (s.setCore lc c).carries q k = s.carries q k := by
    rw [State.carries, State.carries, show (s.setCore lc c).pair q = s.pair q from rfl]
    split
    · rw [hsplit]
    · rfl
  rw [State.posOf, State.posOf, funext hcarries]

/-- A core that an operation has not stopped is put back as it is. -/
theorem putCore_eq_setCore (s : State) (lc : Nat) (c : Core) (h : c.stopped = (s.core lc).stopped) :
    s.putCore lc c = s.setCore lc c := by
  rw [State.putCore, h, Bool.and_not_self]
  rfl

/-- R75: a core that an operation has stopped. -/
theorem putCore_stops (s : State) (lc : Nat) (c : Core) (h : c.stopped = true) (h' : (s.core lc).stopped = false) :
    s.putCore lc c = (s.setCore lc { c with stopped := false }).machineCheck lc := by
  rw [State.putCore, h, h']
  rfl

end Sys2Proof.LevelProofs
end

section
/-! What an instruction that issues does: one rule for all of them (`Ready`), and one for each way in which its effect ends. -/

namespace Sys2Proof.LevelProofs

open Sys2Proof Sys2Proof.Machine Sys2Proof.Slice0

/-- An instruction that the decoder accepts is fetched whole (R102). -/
theorem bytesRead_of_decodes {op : OpInfo} {pfx : List Pfx} {x : Nat} {sup : Bool} (h : decodeCheck op pfx x sup = none) :
    op.bytesRead pfx = op.length pfx := by
  have hp : prefixCheck op pfx = none := by
    cases hp : prefixCheck op pfx with
    | none => rfl
    | some t => rw [decodeCheck, hp] at h; cases h
  have hs : pfxScan pfx 0 [] = none := by
    cases hs : pfxScan pfx 0 [] with
    | none => rfl
    | some off => rw [prefixCheck, hs] at hp; cases hp
  rw [OpInfo.bytesRead, hs, hp]

/-- R84, R85: no switch comes before an instruction whose level holds the floating-point file, or that does not need it. -/
theorem fpReady_of_owner {s : State} {op : OpInfo} {e : Env} (h : op.fp = true → (s.core e.lc).fpOwner = e.lvl) :
    s.fpReady op e = .ok s := by
  rw [State.fpReady]
  cases hf : op.fp with
  | false => rfl
  | true => simp [h hf]

variable {op : OpInfo} {i : Ins} {x l : Nat} {s : State}

@[simp] theorem envOf_lc : (envOf op i x l s).lc = i.core := rfl

@[simp] theorem envOf_lvl : (envOf op i x l s).lvl = l := rfl

@[simp] theorem envOf_x : (envOf op i x l s).x = x := rfl

theorem boundary_eq (h : (s.boundary i.core).2 = true) : s.boundary i.core = (bound i s, true) := by
  rw [← h, bound]

theorem fetched_eq (h : (gotten op i l s).2.2 = .ok) :
    (bound i s).fetched i.core l (op.length i.pfx) i.met.fetch = ((gotten op i l s).1, (gotten op i l s).2.1, .ok) := by
  rw [← h, gotten]

/-- The instruction's core, as it issues. -/
theorem core_issued : (issued op i x l s).core i.core = found op i x l s := rfl

theorem issued_eq : issued op i x l s = (issued op i x l s).setCore i.core (found op i x l s) :=
  (setCore_core_modCore _ _ _).symm

/-- What has been fetched and decodes starts. -/
theorem issue_fetched (body : Env → State → Res) {t : State} {lines : List Nat} (hfirst : s.comesFirst i.core l = none)
    (hfetch : s.fetched i.core l (op.bytesRead i.pfx) i.met.fetch = (t, lines, .ok))
    (hdecode : decodeCheck op i.pfx x (mkEnv i.core l (t.core i.core) op i.pfx i.met lines x).sup = none) :
    s.issue l op i x body = t.start op (mkEnv i.core l (t.core i.core) op i.pfx i.met lines x) body := by
  rw [State.issue, hfirst]
  dsimp only
  rw [hfetch]
  dsimp only
  rw [hdecode]

/-- What starts runs its body, where neither a switch nor an exception comes first. -/
theorem start_of_owner (body : Env → State → Res) {e : Env} (howner : op.fp = true → (s.core e.lc).fpOwner = e.lvl)
    (hnone : (s.modCore e.lc (fun c => c.scoreboard op e.lvl e.bank e.x)).comesFirst e.lc e.lvl = none) :
    s.start op e body = State.finish op e (body e (s.modCore e.lc (fun c => c.scoreboard op e.lvl e.bank e.x))) := by
  rw [State.start, fpReady_of_owner howner]
  dsimp only
  rw [hnone]

/-- An instruction that is ready issues, and runs its body. -/
theorem issue_of_ready (body : Env → State → Res) (h : Ready op i x l s) :
    (bound i s).issue l op i x body =
      State.finish op (envOf op i x l s) (body (envOf op i x l s) (issued op i x l s)) := by
  obtain ⟨-, -, -, -, hfirst, hfetch, hdecode, howner, hnone⟩ := h
  have hread := fetched_eq hfetch
  rw [← bytesRead_of_decodes hdecode] at hread
  exact (issue_fetched body hfirst hread hdecode).trans (start_of_owner body howner hnone)

/-- An instruction that is ready runs its body, and what it leaves is finished and acknowledged. -/
theorem runInsn_of_ready (body : Env → State → Res) (h : Ready op i x l s) :
    s.runInsn op i x body = acked i s (State.finish op (envOf op i x l s) (body (envOf op i x l s) (issued op i x l s))) := by
  have hissue := issue_of_ready body h
  obtain ⟨hcan, hgoes, hstill, hlevel, -⟩ := h
  simp only [State.runInsn, if_pos hcan, boundary_eq hgoes, hstill, hlevel, hissue, acked]

theorem finish_done (e : Env) (t : State) :
    State.finish op e (.done t) = t.modCore e.lc (fun c => c.retire op e false (past e)) := rfl

theorem finish_ended (e : Env) (t : State) : State.finish op e (.ended t) = t.modCore e.lc Core.freed := rfl

theorem finish_trap (e : Env) (t : State) (p : TrapInfo) : State.finish op e (.trap t p) = t.takeTrap e.lc e.lvl p := rfl

/-- An instruction that completes, leaving a state. -/
theorem acked_done (t : State) : acked i s (State.finish op (envOf op i x l s) (.done t)) = afterIn op i x l s t := by
  rw [finish_done, afterIn, envOf_lc]

/-- One that completes with an effect on its own core alone. -/
theorem acked_done_setCore (f : Env → Core → Core) :
    acked i s (State.finish op (envOf op i x l s) (.done ((issued op i x l s).setCore i.core
      (f (envOf op i x l s) (found op i x l s))))) = after op i x l s f past := by
  rw [finish_done, after, envOf_lc, modCore_setCore]

/-- An effect by which the instruction sets PC and status itself (R201, R252). -/
theorem acked_endsFlow (f : Core → Core) (c : Core) :
    acked i s (State.finish op (envOf op i x l s) (((issued op i x l s).setCore i.core c).endsFlow (envOf op i x l s) f)) =
      afterFlow op i x l s f c := by
  rw [State.endsFlow, finish_ended, envOf_lc, modCore_setCore, modCore_setCore, afterFlow]
  rfl

theorem settled_found : Settled ((gotten op i l s).1.core i.core) (found op i x l s) := by
  rw [found, issued, State.core_modCore]
  exact Settled.scoreboard _ op l _ x

/-- R91: nothing is delivered before a core that has nothing to deliver (`firstOf`). -/
theorem comesFirst_of_firstOf {t : State} {lc : Nat} (h : firstOf l (t.core lc) = none) : t.comesFirst lc l = none := by
  rw [State.comesFirst]
  rw [firstOf] at h
  split
  · rfl
  · next hb =>
    rw [Bool.or_eq_true, not_or] at hb
    rwa [if_neg hb.1] at h

theorem unlessPending_of_comesFirst {t : State} {e : Env} (go : State → Res) (h : t.comesFirst e.lc e.lvl = none) :
    t.unlessPending e go = go t := by
  rw [State.unlessPending, h]

/-- R63, R91, R153: an instruction that waits for the long operations of its level goes on where they leave no exception. -/
theorem barrier_of_firstOf {t : State} {e : Env} (go : State → Res) (h : firstOf e.lvl (serialized e.lvl (t.core e.lc)) = none) :
    t.barrier e go = go (t.modCore e.lc (serialized e.lvl)) := by
  rw [State.barrier]
  exact unlessPending_of_comesFirst go (comesFirst_of_firstOf (by rw [State.core_modCore]; exact h))

/-- R214: an instruction that waits for all before it to be visible goes on where nothing comes first. -/
theorem drained_of_drains {t : State} (body : Env → State → Res) (h : Drains op i x l s t) :
    drained body (envOf op i x l s) (issued op i x l s) = body (envOf op i x l s) t := by
  obtain ⟨hq, hn⟩ := h
  rw [drained]
  show (match (issued op i x l s).quiesce i.core with
    | (s1, true) => s1.unlessPending (envOf op i x l s) (body (envOf op i x l s))
    | (s1, false) => .hold s1) = _
  rw [hq]
  exact unlessPending_of_comesFirst _ hn

end Sys2Proof.LevelProofs
end

section
/-! R51, R55, R276, R29: the values at reset. -/

namespace Sys2Proof.LevelProofs

open Sys2Proof Sys2Proof.Machine Sys2Proof.Slice0

/-- A level at reset is inactive, in supervisor state, with WP = 1 and WG = 0. -/
theorem level_reset_fields (l : Nat) (h : l < 8) : (Level.reset l).run = .inactive ∧ swS (Level.reset l).sw = true ∧
    swWp (Level.reset l).sw = 1 ∧ swWg (Level.reset l).sw = 0 := by
  have hall : ∀ k < 8, swS (Level.reset k).sw = true ∧ swWp (Level.reset k).sw = 1 ∧ swWg (Level.reset k).sw = 0 := by decide
  exact ⟨rfl, hall l h⟩

theorem core_reset (lc : Nat) : State.reset.core lc = Core.reset := rfl

theorem pair_reset (q : Nat) : State.reset.pair q = PairPos.reset q := rfl

/-- Settles O28: every core and position stands at its reset value. -/
theorem resetValues : Obligations.ResetValues := by
  unfold Obligations.ResetValues
  refine ⟨rfl, fun lc l hl => ?_, fun lc => ?_, fun q => rfl, fun q hq => ?_, fun q h32 h38 => ?_, rfl⟩
  · rw [core_reset]
    exact level_reset_fields l hl
  · rw [core_reset]
    decide
  · rw [pair_reset]
    exact if_pos hq
  · rw [pair_reset]
    exact if_neg (by omega)

end Sys2Proof.LevelProofs
end

section
/-! R77, R88: the windowed registers and the register file of a bank. -/

namespace Sys2Proof.LevelProofs

open Sys2Proof Sys2Proof.Machine Sys2Proof.Slice0

variable (v : Level) (n m : Nat) (x : Word)

theorem readR_zero : v.readR 0 = 0 := rfl

theorem writeR_zero : v.writeR 0 x = v := rfl

/-- G1 to G7. -/
theorem readR_global {n : Nat} (h0 : n ≠ 0) (h8 : n < 8) : v.readR n = mapGet 0 v.g n := by
  rw [Level.readR, if_neg h0, if_pos h8]

theorem writeR_global {n : Nat} (h0 : n ≠ 0) (h8 : n < 8) : v.writeR n x = { v with g := mapSet v.g n x } := by
  rw [Level.writeR, if_neg h0, if_pos h8]

/-- W0 to W15 of the current window. -/
theorem readR_window (k : Nat) : v.readR (8 + k) = mapGet 0 v.w (winIndex (swWp v.sw) k) := by
  rw [Level.readR, if_neg (by omega), if_neg (by omega), Nat.add_sub_cancel_left]

theorem writeR_window (k : Nat) : v.writeR (8 + k) x = { v with w := mapSet v.w (winIndex (swWp v.sw) k) x } := by
  rw [Level.writeR, if_neg (by omega), if_neg (by omega), Nat.add_sub_cancel_left]

/-- The 16 registers of a window are different ones. -/
theorem winIndex_eq_iff (p : Nat) {j k : Nat} (hj : j < 16) (hk : k < 16) : winIndex p j = winIndex p k ↔ j = k := by
  unfold winIndex
  omega

/-- R77: W10 to W15 of a window are W0 to W5 of the next. -/
theorem winIndex_next (p k : Nat) : winIndex p (10 + k) = winIndex ((p + 1) % 10) k := by
  unfold winIndex
  omega

/-- A register reads what was last written to it, and a write changes no other register of the window. -/
theorem readR_writeR (hn : n < 24) (hm : m < 24) :
    (v.writeR n x).readR m = if m = 0 then 0 else if m = n then x else v.readR m := by
  by_cases hm0 : m = 0
  · subst hm0; rfl
  rw [if_neg hm0]
  by_cases hn0 : n = 0
  · subst hn0; rw [writeR_zero, if_neg hm0]
  obtain hn8 | ⟨j, rfl⟩ : n < 8 ∨ ∃ j, n = 8 + j := by
    by_cases h : n < 8
    · exact .inl h
    · exact .inr ⟨n - 8, by omega⟩
  · obtain hm8 | ⟨k, rfl⟩ : m < 8 ∨ ∃ k, m = 8 + k := by
      by_cases h : m < 8
      · exact .inl h
      · exact .inr ⟨m - 8, by omega⟩
    · rw [writeR_global v x hn0 hn8, readR_global _ hm0 hm8, readR_global _ hm0 hm8, mapGet_mapSet]
    · rw [writeR_global v x hn0 hn8, readR_window, readR_window, if_neg (by omega)]
  · obtain hm8 | ⟨k, rfl⟩ : m < 8 ∨ ∃ k, m = 8 + k := by
      by_cases h : m < 8
      · exact .inl h
      · exact .inr ⟨m - 8, by omega⟩
    · rw [writeR_window, readR_global _ hm0 hm8, readR_global _ hm0 hm8, if_neg (by omega)]
    · rw [writeR_window, readR_window, readR_window, mapGet_mapSet]
      simp only [winIndex_eq_iff (swWp v.sw) (show k < 16 by omega) (show j < 16 by omega), Nat.add_left_cancel_iff]

/-- Settles O29: the windows by the index of their registers, the register file by its kinds of register. -/
theorem registers : Obligations.Registers := by
  have hwp (v : Level) {p : Nat} (hp : p < 10) : swWp (swSetWp v.sw p) = p := by rw [swWp_swSetWp]; omega
  refine ⟨fun v p hp => ⟨fun i hi => ?_, fun k hk => ?_, fun k x hk => ?_⟩,
    fun v n m x hn hm => ⟨readR_writeR v n m x hn hm, rfl⟩⟩
  · rw [readR_window, hwp v hp, winIndex, Nat.mul_comm]
  · rw [readR_window, readR_window, hwp v hp, hwp v (by omega), winIndex_next]
  · rw [readR_window, writeR_window, hwp v hp, hwp v (by omega), winIndex_next, mapGet_mapSet_same]

end Sys2Proof.LevelProofs
end

section
/-! R61 to R63, R71, R91: level control and barriers. -/

namespace Sys2Proof.LevelProofs

open Sys2Proof Sys2Proof.Machine Sys2Proof.Slice0

variable {i : Ins} {l x : Nat} {s : State} {op : OpInfo}

/-- The instruction's core waits for the long operations of its level, none of which leaves an exception. -/
theorem barrier_issued (go : State → Res) (h : firstOf l (serialized l (found op i x l s)) = none) :
    (issued op i x l s).barrier (envOf op i x l s) go =
      go ((issued op i x l s).setCore i.core (serialized l (found op i x l s))) :=
  barrier_of_firstOf go h

theorem retl_ends (h : Ready Op.retl i 0 l s) (hta : swTa ((found Op.retl i 0 l s).level l).sw = false)
    (hfirst : firstOf l (serialized l (found Op.retl i 0 l s)) = none) :
    exec (.retl i) s = .next (afterFlow Op.retl i 0 l s (fun c => c.endLevel l) (serialized l (found Op.retl i 0 l s))) := by
  show Host.Outcome.next (s.runInsn Op.retl i 0 _) = _
  rw [runInsn_of_ready _ h, State.sw, envOf_lc, envOf_lvl, core_issued, hta,
    if_neg (by decide), State.endLevel, barrier_issued _ hfirst, acked_endsFlow, envOf_lvl]

theorem wait_stops (h : Ready Op.wait i 0 l s) (hta : swTa ((found Op.wait i 0 l s).level l).sw = false)
    (hfirst : firstOf l (serialized l (found Op.wait i 0 l s)) = none) :
    exec (.wait i) s = .next (afterFlow Op.wait i 0 l s
      (fun c => (c.modLevel l (fun v => { v with sw := swSetMpc v.sw 0 })).beginWait l (envOf Op.wait i 0 l s).len)
      (serialized l (found Op.wait i 0 l s))) := by
  show Host.Outcome.next (s.runInsn Op.wait i 0 _) = _
  rw [runInsn_of_ready _ h, State.sw, envOf_lc, envOf_lvl, core_issued, hta,
    if_neg (by decide), barrier_issued _ hfirst, acked_endsFlow]

/-- RETT of a trap that came to a running level. -/
theorem rett_restores (h : Ready Op.rett i 0 l s) (hta : swTa ((found Op.rett i 0 l s).level l).sw = true)
    (hidle : bitOf ((found Op.rett i 0 l s).level l).trapCause 9 = false) :
    exec (.rett i) s = .next (afterFlow Op.rett i 0 l s (fun c => (settledSw l c).modLevel l (fun v => { v with
      pc := v.trapPc, sw := mergeWord v.sw v.trapSw 0x1FFF1FFF, dssBy := v.trapBy })) (found Op.rett i 0 l s)) := by
  show Host.Outcome.next (s.runInsn Op.rett i 0 _) = _
  rw [runInsn_of_ready _ h, envOf_lc, envOf_lvl, core_issued]
  dsimp only
  rw [hta, hidle, if_neg (by decide), if_neg (by decide), issued_eq, acked_endsFlow]
  rfl

/-- RETT of a trap that came to an idle level. -/
theorem rett_ends (h : Ready Op.rett i 0 l s) (hta : swTa ((found Op.rett i 0 l s).level l).sw = true)
    (hidle : bitOf ((found Op.rett i 0 l s).level l).trapCause 9 = true) :
    let d := serialized l ((found Op.rett i 0 l s).modLevel l (fun v => { v with sw := swSetTa v.sw false }))
    firstOf l d = none → exec (.rett i) s = .next (afterFlow Op.rett i 0 l s (fun c => c.endLevel l) d) := by
  intro d hfirst
  show Host.Outcome.next (s.runInsn Op.rett i 0 _) = _
  rw [runInsn_of_ready _ h, envOf_lc, envOf_lvl, core_issued]
  dsimp only
  rw [hta, hidle, if_neg (by decide), if_pos rfl, State.endLevel, State.setSw, envOf_lc, envOf_lvl, State.modCore, core_issued,
    barrier_of_firstOf _ (by rw [envOf_lc, envOf_lvl, State.core_setCore]; exact hfirst), envOf_lc, envOf_lvl, modCore_setCore,
    acked_endsFlow]

theorem xbar_goes (h : Ready Op.xbar i 0 l s) (hfirst : firstOf l (serialized l (found Op.xbar i 0 l s)) = none) :
    exec (.xbar i) s = .next (after Op.xbar i 0 l s (fun _ c => serialized l c) past) := by
  show Host.Outcome.next (s.runInsn Op.xbar i 0 _) = _
  rw [runInsn_of_ready _ h, barrier_issued _ hfirst, acked_done_setCore (fun _ c => serialized l c)]

theorem fbar_goes (h : Ready Op.fbar i 0 l s) :
    let c := (found Op.fbar i 0 l s).completeWhere l (fun o => o.isFp)
    ((c.level l).ops.all (fun o => !(o.isFp && o.exc.isSome)) = true ∨ swTa (c.level l).sw = true) →
      exec (.fbar i) s = .next (after Op.fbar i 0 l s (fun _ c => c.completeWhere l (fun o => o.isFp)) past) := by
  intro c hc
  have hnone : ((c.level l).ops.any (fun o => o.isFp && o.exc.isSome) && !swTa (c.level l).sw) = false := by
    rcases hc with hall | hta
    · rw [List.any_eq_not_all_not, hall]; rfl
    · rw [hta, Bool.not_true, Bool.and_false]
  show Host.Outcome.next (s.runInsn Op.fbar i 0 _) = _
  rw [runInsn_of_ready _ h]
  dsimp only
  rw [State.sw, envOf_lc, envOf_lvl, State.modCore, core_issued, State.core_setCore, hnone, if_neg (by decide),
    acked_done_setCore (fun _ c => c.completeWhere l (fun o => o.isFp))]

/-- Settles O10: each instruction's own rule, above. -/
theorem levelControl : Obligations.LevelControl := by
  intro s i l
  exact ⟨fun h => retl_ends h, fun h => wait_stops h, fun h hta => ⟨rett_restores h hta, rett_ends h hta⟩, fun h => xbar_goes h,
    fun h => fbar_goes h⟩

end Sys2Proof.LevelProofs
end

section
/-! R105: the fields of the operand block of layouts RR and M, as the instruction finds them. -/

namespace Sys2Proof.LevelProofs

open Sys2Proof Sys2Proof.Machine Sys2Proof.Slice0

theorem nfld_pack_rr (o : OpsRR) :
    nfld o.pack 0 5 = o.rd.toNat ∧ nfld o.pack 5 5 = o.ra.toNat ∧ nfld o.pack 10 6 = o.imm6.toNat := by
  have h1 := o.rd.isLt
  have h2 := o.ra.isLt
  have h3 := o.imm6.isLt
  unfold nfld OpsRR.pack
  omega

theorem nfld_pack_m (o : OpsM) : nfld o.pack 5 5 = o.ra.toNat ∧ nfld o.pack 16 32 = o.mask.toNat := by
  have h1 := o.rsv0.isLt
  have h2 := o.ra.isLt
  have h3 := o.rsv1.isLt
  have h4 := o.mask.isLt
  unfold nfld OpsM.pack
  omega

variable {op : OpInfo} {i : Ins} {l : Nat} {s : State}

@[simp] theorem rd_envOf_rr (o : OpsRR) : (envOf op i o.pack l s).rd = o.rd.toNat := (nfld_pack_rr o).1
@[simp] theorem ra_envOf_rr (o : OpsRR) : (envOf op i o.pack l s).ra = o.ra.toNat := (nfld_pack_rr o).2.1
@[simp] theorem imm6_envOf_rr (o : OpsRR) : (envOf op i o.pack l s).imm6 = o.imm6.toNat := (nfld_pack_rr o).2.2
@[simp] theorem ra_envOf_m (o : OpsM) : (envOf op i o.pack l s).ra = o.ra.toNat := (nfld_pack_m o).1
theorem mask_envOf_m (o : OpsM) : nfld (envOf op i o.pack l s).x 16 32 = o.mask.toNat := (nfld_pack_m o).2

/-- A register of the named bank, read and written by the model's words and by the statements'. -/
theorem reg_eq_register (t : State) (e : Env) (n : Nat) : t.reg e n = register e (t.core e.lc) n := rfl

theorem setReg_eq (t : State) (e : Env) (n : Nat) (w : Word) : t.setReg e n w = t.modCore e.lc (putReg e n w) := rfl

end Sys2Proof.LevelProofs
end

section
/-! R53 to R55, R114, R115, R122, R158: reads of system registers, translation registers, TLBI. -/

namespace Sys2Proof.LevelProofs

open Sys2Proof Sys2Proof.Machine Sys2Proof.Slice0

variable {i : Ins} {l : Nat} {s : State} {o : OpsRR}

/-- R53: what MFS reads, by the numbers of the registers. -/
theorem readSys_eq_sysValue (t : State) (e : Env) (n : Nat) : t.readSys e.lc e.bank n = sysValue t e (t.core e.lc) n := by
  by_cases h10 : n = 0x10
  · subst h10; rfl
  by_cases h11 : n = 0x11
  · subst h11; rfl
  rw [sysValue, if_neg h10, if_neg h11, State.readSys]
  · exact h10
  · exact h11

theorem mfs_reads (h : Ready Op.mfs i o.pack l s) :
    let e := envOf Op.mfs i o.pack l s
    let c := found Op.mfs i o.pack l s
    let d := if o.imm6 = 0 then settledSw e.bank c else c
    let u := if o.imm6 = 0 then (issued Op.mfs i o.pack l s).setCore i.core d else issued Op.mfs i o.pack l s
    exec (.mfs i o) s = .next (after Op.mfs i o.pack l s (fun e _ =>
      putReg e o.rd.toNat (sysValue u e d o.imm6.toNat) d) past) := by
  intro e c d u
  have hu : u = (issued Op.mfs i o.pack l s).setCore i.core d := by
    by_cases h0 : o.imm6 = 0
    · exact if_pos h0
    · rw [show u = issued Op.mfs i o.pack l s from if_neg h0, show d = c from if_neg h0]
      exact issued_eq
  have hflags : (if e.imm6 = 0 then (issued Op.mfs i o.pack l s).settleFlags e else issued Op.mfs i o.pack l s) = u := by
    by_cases h0 : o.imm6 = 0
    · rw [hu, imm6_envOf_rr, h0, if_pos (show BitVec.toNat (0 : BitVec 6) = 0 from rfl), show d = settledSw e.bank c from if_pos h0]
      rfl
    · rw [imm6_envOf_rr, if_neg (by simpa [BitVec.toNat_eq] using h0)]
      exact (if_neg h0).symm
  show Host.Outcome.next (s.runInsn Op.mfs i o.pack _) = _
  rw [runInsn_of_ready _ h]
  dsimp only
  rw [hflags, readSys_eq_sysValue, setReg_eq, rd_envOf_rr, imm6_envOf_rr, envOf_lc]
  conv_lhs => rw [hu, modCore_setCore, State.core_setCore, ← hu]
  rw [acked_done_setCore (fun e _ => putReg e o.rd.toNat (sysValue u e d o.imm6.toNat) d)]

theorem mft_reads (h : Ready Op.mft i o.pack l s) :
    exec (.mft i o) s = .next (after Op.mft i o.pack l s (fun e c =>
      putReg e o.rd.toNat ((c.level e.bank).trnWord o.imm6.toNat) c) past) := by
  show Host.Outcome.next (s.runInsn Op.mft i o.pack _) = _
  rw [runInsn_of_ready _ h, setReg_eq, rd_envOf_rr, imm6_envOf_rr, envOf_lc, State.modCore, core_issued,
    acked_done_setCore (fun e c => putReg e o.rd.toNat ((c.level e.bank).trnWord o.imm6.toNat) c)]

theorem mtt_writes {t : State} (h : Ready Op.mtt i o.pack l s) (hd : Drains Op.mtt i o.pack l s t) :
    let e := envOf Op.mtt i o.pack l s
    exec (.mtt i o) s = .next (afterIn Op.mtt i o.pack l s (t.modCore i.core (fun c => c.modLevel e.bank (fun v =>
      v.writeTrn o.imm6.toNat (register e (t.core i.core) o.rd.toNat))))) := by
  intro e
  show Host.Outcome.next (s.runInsn Op.mtt i o.pack _) = _
  rw [runInsn_of_ready _ h, drained_of_drains _ hd, acked_done, imm6_envOf_rr, rd_envOf_rr, envOf_lc]
  rfl

/-- R122: the entries that TLBI keeps. -/
theorem tlbKeep_eq (scope : Nat) (data : Bool) (asid va : Nat) (n : TlbEntry) : tlbKeep scope data asid va n =
    match scope with
    | 0 => !(n.data == data && decide (n.vbase ≤ va) && decide (va < n.vbase + n.size) && (n.gl || n.asid == asid))
    | 1 => !(n.data == data && !n.gl && n.asid == asid)
    | _ => false := by
  match scope with
  | 0 => simp only [tlbKeep, inRange, Bool.and_assoc]
  | 1 => rfl
  | _ + 2 => rfl

/-- R122: what TLBI leaves of a core, where the entries of its data and instruction TLBs that stay are given. -/
def tlbLeft (keep : TlbEntry → Bool) (c : Core) : Core :=
  { c with priv := { c.priv with ring := [], loop := none, tec := [], tlb := c.priv.tlb.filter keep } }

theorem tlbi_drops {t : State} (h : Ready Op.tlbi i o.pack l s) (hd : Drains Op.tlbi i o.pack l s t) :
    let e := envOf Op.tlbi i o.pack l s
    exec (.tlbi i o) s = .next (afterIn Op.tlbi i o.pack l s (t.modCore i.core (tlbLeft (tlbKeep (o.imm6.toNat % 4)
      (o.imm6.getLsbD 2) ((register e (t.core i.core) o.rd.toNat).toNat % 2 ^ 16)
      (register e (t.core i.core) o.ra.toNat).toNat)))) := by
  intro e
  have hasid : fld (register e (t.core i.core) o.rd.toNat) 0 16 = (register e (t.core i.core) o.rd.toNat).toNat % 2 ^ 16 := by
    rw [fld, pow_zero, Nat.div_one]
  show Host.Outcome.next (s.runInsn Op.tlbi i o.pack _) = _
  rw [runInsn_of_ready _ h, drained_of_drains _ hd, ← hasid]
  dsimp only
  rw [acked_done, imm6_envOf_rr, rd_envOf_rr, ra_envOf_rr, envOf_lc]
  rfl

/-- Settles O12: each instruction's own rule, above. -/
theorem systemReadsAndTlb : Obligations.SystemReadsAndTlb := by
  refine ⟨fun s i l o => ⟨mfs_reads, mft_reads, fun h t hd => ?_⟩, fun s i l o t h hd => ?_⟩
  · exact mtt_writes h hd
  · exact (tlbi_drops h hd).trans (congrArg
      (fun keep => (.next (afterIn Op.tlbi i o.pack l s (t.modCore i.core (tlbLeft keep))) : Out)) (funext (tlbKeep_eq _ _ _ _)))

end Sys2Proof.LevelProofs
end

section
/-! R52, R54, R76, R86, R153, R158: writes of system registers. -/

namespace Sys2Proof.LevelProofs

open Sys2Proof Sys2Proof.Machine Sys2Proof.Slice0

variable {i : Ins} {l : Nat} {s : State} {rd : BitVec 5} {n : Nat}

/-- MTS acts once the level's long operations have completed, none of which leaves an exception; `t` is the state then. -/
theorem mts_acts (hn : n < 64) (h : Ready Op.mts i (mtsOps rd n).pack l s)
    (hfirst : firstOf l (serialized l (found Op.mts i (mtsOps rd n).pack l s)) = none) :
    let e := envOf Op.mts i (mtsOps rd n).pack l s
    let d := serialized l (found Op.mts i (mtsOps rd n).pack l s)
    s.runInsn Op.mts i (mtsOps rd n).pack (bodyMts i.pfx) = acked i s (State.finish Op.mts e
      (((issued Op.mts i (mtsOps rd n).pack l s).setCore i.core d).writeSys e i.pfx n (register e d rd.toNat))) := by
  intro e d
  have himm : (mtsOps rd n).imm6.toNat = n := by
    rw [mtsOps, BitVec.toNat_ofNat, Nat.mod_eq_of_lt hn]
  rw [runInsn_of_ready _ h, bodyMts, barrier_issued _ hfirst, imm6_envOf_rr, himm, rd_envOf_rr, reg_eq_register, envOf_lc,
    State.core_setCore]
  rfl

/-- R52: a write of SW that is not refused: `f` gives the value that it leaves. -/
theorem writeSys_status (t : State) (e : Env) (pfx : List Pfx) {w : Word} (f : Word → Word)
    (h : swWrite ((settledSw e.bank (t.core e.lc)).level e.bank).sw w e.sup =
      some (f ((settledSw e.bank (t.core e.lc)).level e.bank).sw)) :
    t.writeSys e pfx 0 w = .done (t.setCore e.lc ((settledSw e.bank (t.core e.lc)).modLevel e.bank
      (fun v => { v with sw := f v.sw, dssBy := .any }))) := by
  have hcore : (t.settleFlags e).core e.lc = settledSw e.bank (t.core e.lc) := State.core_modCore _ _ _
  have hmod (g : Core → Core) : (t.settleFlags e).modCore e.lc g = t.setCore e.lc (g (settledSw e.bank (t.core e.lc))) :=
    modCore_modCore t e.lc _ g
  simp only [State.writeSys, hcore, h, hmod]
  rfl

/-- R54: a write of one of the registers 1 to 8. -/
theorem writeSys_level {t : State} {e : Env} {pfx : List Pfx} {w : Word} (h1 : 1 ≤ n) (h8 : n ≤ 8) :
    t.writeSys e pfx n w = .done (t.modCore e.lc (fun c => c.modLevel e.bank (fun v => v.writeSys n w))) := by
  rw [State.writeSys]
  · omega
  · omega
  · omega

theorem writeSys_lvlState {t : State} {e : Env} {pfx : List Pfx} {w : Word} :
    t.writeSys e pfx 9 w = .done (t.modCore e.lc (fun c => c.writeLvlState e.bank e.lvl w)) := rfl

/-- R76: RESUME and DISMISS of a frozen level that is not the current one. -/
theorem writeLvlState_frozen {c : Core} {b cur : Nat} {w : Word} (hfrozen : (c.level b).run = .frozen) (hcur : b ≠ cur) :
    c.writeLvlState b cur w =
      if bitOf w 32 then c.modLevel b (fun v => { v with run := .active })
      else if bitOf w 33 then (c.modLevel b (fun v => { v with run := .inactive, sw := swSetTa v.sw false })).unhold b
      else c := by
  rw [Core.writeLvlState, hfrozen, if_neg]
  simp [hcur]

theorem writeSys_lvlCtl {t : State} {e : Env} {pfx : List Pfx} {w : Word} : t.writeSys e pfx 0x10 w = t.writeLvlCtl e pfx w := rfl

/-- R86: a write of LVL_CTL that names the owner there is. -/
theorem writeLvlCtl_keeps {t : State} {e : Env} {pfx : List Pfx} {w : Word} (h8 : fld w 8 4 ≤ 8)
    (hown : fld w 8 4 = (t.core e.lc).fpOwner) :
    t.writeLvlCtl e pfx w = .done (t.modCore e.lc (fun c => c.writeHold w)) := by
  rw [State.writeLvlCtl, if_neg (by omega)]
  exact if_pos hown

/-- R86: a write of LVL_CTL that names another owner. -/
theorem writeLvlCtl_switches {t u : State} {e : Env} {pfx : List Pfx} {w : Word} (h8 : fld w 8 4 ≤ 8)
    (hown : fld w 8 4 ≠ (t.core e.lc).fpOwner) (hswitch : t.fpSwitch e (fld w 8 4) = .ok u) :
    t.writeLvlCtl e pfx w = .done (u.modCore e.lc (fun c => c.writeHold w)) := by
  rw [State.writeLvlCtl, if_neg (by omega)]
  dsimp only
  rw [if_neg hown, hswitch]

section

variable (h : Ready Op.mts i (mtsOps rd n).pack l s)
  (hfirst : firstOf l (serialized l (found Op.mts i (mtsOps rd n).pack l s)) = none)

include h hfirst

/-- R52: MTS to the current level's SW, where the value is not refused. -/
theorem mts_status {mask : Word} (hn : n = 0) (hbank : (envOf Op.mts i (mtsOps rd n).pack l s).bank = l) :
    let e := envOf Op.mts i (mtsOps rd n).pack l s
    let d := serialized l (found Op.mts i (mtsOps rd n).pack l s)
    let w := register e d rd.toNat
    swWrite ((settledSw l d).level l).sw w e.sup = some (mergeWord ((settledSw l d).level l).sw w mask) →
    exec (.mts i (mtsOps rd n)) s = .next (after Op.mts i (mtsOps rd n).pack l s (fun _ _ => (settledSw l d).modLevel l
      (fun v => { v with sw := mergeWord v.sw w mask, dssBy := .any })) past) := by
  intro e d w hw
  rw [← hbank] at hw
  have hact := writeSys_status ((issued Op.mts i (mtsOps rd n).pack l s).setCore i.core d) e i.pfx
    (fun v => mergeWord v w mask) (by rw [envOf_lc, State.core_setCore]; exact hw)
  rw [envOf_lc, State.core_setCore, setCore_setCore, hbank] at hact
  subst hn
  show Host.Outcome.next (s.runInsn Op.mts i (mtsOps rd 0).pack _) = _
  rw [mts_acts (by decide) h hfirst, hact, acked_done_setCore (fun _ _ => _)]

/-- R54: MTS to one of the registers 1 to 8. -/
theorem mts_level (h1 : 1 ≤ n) (h8 : n ≤ 8) :
    let e := envOf Op.mts i (mtsOps rd n).pack l s
    let d := serialized l (found Op.mts i (mtsOps rd n).pack l s)
    exec (.mts i (mtsOps rd n)) s = .next (after Op.mts i (mtsOps rd n).pack l s
      (fun _ _ => d.modLevel e.bank (fun v => v.writeSys n (register e d rd.toNat))) past) := by
  intro e d
  show Host.Outcome.next (s.runInsn Op.mts i (mtsOps rd n).pack _) = _
  rw [mts_acts (by omega) h hfirst, writeSys_level h1 h8, envOf_lc, modCore_setCore, acked_done_setCore (fun _ _ => _)]

/-- R76: MTS to LVL_STATE of a frozen level that is not the current one. -/
theorem mts_lvlState (hn : n = 9) :
    let e := envOf Op.mts i (mtsOps rd n).pack l s
    let d := serialized l (found Op.mts i (mtsOps rd n).pack l s)
    let w := register e d rd.toNat
    (d.level e.bank).run = .frozen → e.bank ≠ l →
    s.runInsn Op.mts i (mtsOps rd 9).pack (bodyMts i.pfx) = after Op.mts i (mtsOps rd n).pack l s (fun _ _ =>
      if bitOf w 32 then d.modLevel e.bank (fun v => { v with run := .active })
      else if bitOf w 33 then (d.modLevel e.bank (fun v => { v with run := .inactive, sw := swSetTa v.sw false })).unhold e.bank
      else d) past := by
  intro e d w hfrozen hcur
  subst hn
  rw [mts_acts (by decide) h hfirst, writeSys_lvlState, envOf_lc, envOf_lvl, modCore_setCore, writeLvlState_frozen hfrozen hcur,
    acked_done_setCore (fun _ _ => _)]

/-- R86: MTS to LVL_CTL. -/
theorem mts_lvlCtl (hn : n = 0x10) :
    let e := envOf Op.mts i (mtsOps rd n).pack l s
    let d := serialized l (found Op.mts i (mtsOps rd n).pack l s)
    s.runInsn Op.mts i (mtsOps rd 0x10).pack (bodyMts i.pfx) = acked i s (State.finish Op.mts e
      (((issued Op.mts i (mtsOps rd n).pack l s).setCore i.core d).writeLvlCtl e i.pfx (register e d rd.toNat))) := by
  intro e d
  subst hn
  rw [mts_acts (by decide) h hfirst, writeSys_lvlCtl]

end

/-- An effect on its own core, as the state that it leaves and as the state after it. -/
theorem after_const {op : OpInfo} {x : Nat} (c : Core) :
    after op i x l s (fun _ _ => c) past = afterIn op i x l s ((issued op i x l s).setCore i.core c) := by
  rw [after, afterIn, modCore_setCore]

/-- Settles O11: what MTS does at each register, above, finished as any instruction that completes. -/
theorem systemRegisterWrites : Obligations.SystemRegisterWrites := by
  intro s i l rd n o e d w with_ h hfirst
  refine ⟨fun hn hbank hsup => ?_, fun hn hbank hsup hwp hwg hne => ?_, fun h1 h8 => mts_level h hfirst h1 h8,
    fun hn hfrozen hcur => ?_, fun hn h8 => ?_⟩
  · exact mts_status h hfirst hn hbank (by rw [hsup]; rfl)
  · refine mts_status h hfirst hn hbank ?_
    have hgood : ¬ (9 < swWp w ∨ 9 < swWg w ∨ swWp w = swWg w) := by omega
    rw [hsup, swWrite, if_neg (by decide)]
    exact if_neg hgood
  · have hact := mts_lvlState h hfirst hn hfrozen hcur
    refine ⟨fun h32 => ?_, fun h32 h33 => ?_⟩
    · rw [if_pos h32] at hact
      exact congrArg Host.Outcome.next hact
    · rw [if_neg (by rw [h32]; decide), if_pos h33, after_const] at hact
      exact congrArg Host.Outcome.next hact
  · have hact : s.runInsn Op.mts i (mtsOps rd 0x10).pack (bodyMts i.pfx) =
        acked i s (State.finish Op.mts e ((with_ id).writeLvlCtl e i.pfx w)) := mts_lvlCtl h hfirst hn
    have hcore : (with_ id).core e.lc = d := State.core_setCore _ _ _
    refine ⟨fun hown => ?_, fun t hown hswitch => ?_⟩
    · rw [writeLvlCtl_keeps h8 (hown.trans (congrArg Core.fpOwner hcore.symm)), acked_done, envOf_lc, modCore_setCore] at hact
      exact congrArg Host.Outcome.next hact
    · rw [writeLvlCtl_switches h8 (fun hc => hown (hc.trans (congrArg Core.fpOwner hcore))) hswitch, acked_done, envOf_lc] at hact
      exact congrArg Host.Outcome.next hact

end Sys2Proof.LevelProofs
end

section
/-! What the way of a fetch leaves of every core: its architected state; and, while nothing of class C3 is reported, whether it is
stopped.  The blocks that have stopped stay so, and the base logic keeps its power. -/

namespace Sys2Proof.LevelProofs

open Sys2Proof Sys2Proof.Machine Sys2Proof.Slice0

/-- The cores keep their architected state, the base logic its power, and stopped blocks stay stopped; `calm`: no core stops. -/
structure Frame (calm : Bool) (s t : State) : Prop where
  arch : ∀ k, (t.core k).arch = (s.core k).arch
  halted : ∀ b ∈ s.flt.stopped, b ∈ t.flt.stopped
  runs : calm = true → ∀ k, (t.core k).stopped = (s.core k).stopped
  base : t.pwr.baseOn = s.pwr.baseOn

namespace Frame

variable {calm : Bool} {s t u : State} {α β : Type}

theorem refl : Frame calm s s := ⟨fun _ => rfl, fun _ h => h, fun _ _ => rfl, rfl⟩

theorem trans (h : Frame calm s t) (k : Frame calm t u) : Frame calm s u where
  arch j := (k.arch j).trans (h.arch j)
  halted b hb := k.halted b (h.halted b hb)
  runs hc j := (k.runs hc j).trans (h.runs hc j)
  base := k.base.trans h.base

/-- What touches neither a core nor the list of stopped blocks. -/
theorem of_eq (hc : t.cores = s.cores) (hf : t.flt.stopped = s.flt.stopped) (hb : t.pwr.baseOn = s.pwr.baseOn) :
    Frame calm s t where
  arch k := by rw [State.core, hc, State.core]
  halted b h := hf ▸ h
  runs _ k := by rw [State.core, hc, State.core]
  base := hb

theorem modCore (lc : Nat) (f : Core → Core) (ha : ∀ c, (f c).arch = c.arch := by intro c; rfl)
    (hs : ∀ c, (f c).stopped = c.stopped := by intro c; rfl) : Frame calm s (s.modCore lc f) where
  arch k := by
    by_cases h : k = lc
    · rw [h, State.core_modCore, ha]
    · rw [State.modCore, State.core_setCore_ne s _ h]
  halted _ hb := hb
  runs _ k := by
    by_cases h : k = lc
    · rw [h, State.core_modCore, hs]
    · rw [State.modCore, State.core_setCore_ne s _ h]
  base := rfl

theorem ite {c : Prop} [Decidable c] (h : Frame calm s t) (k : Frame calm s u) : Frame calm s (if c then t else u) := by
  split
  · exact h
  · exact k

theorem foldl {f : State → α → State} (hf : ∀ s x, Frame calm s (f s x)) (xs : List α) : Frame calm s (xs.foldl f s) := by
  induction xs generalizing s with
  | nil => exact refl
  | cons x xs ih => exact (hf s x).trans ih

theorem foldl_fst {f : State × β → α → State × β} (hf : ∀ a x, Frame calm a.1 (f a x).1) (xs : List α) (b : β) :
    Frame calm s (xs.foldl f (s, b)).1 := by
  suffices h : ∀ a : State × β, Frame calm a.1 (xs.foldl f a).1 from h (s, b)
  induction xs with
  | nil => exact fun _ => refl
  | cons x xs ih => exact fun a => (hf a x).trans (ih (f a x))

/-! Registers, pairs, ports and messages -/

theorem fset (f : FieldRef) (u k v : Nat) : Frame calm s (s.fset f u k v) := of_eq rfl rfl rfl
theorem fcount (f : FieldRef) (u k d : Nat) : Frame calm s (s.fcount f u k d) := of_eq rfl rfl rfl
theorem modPair (q : Nat) (f : PairPos → PairPos) : Frame calm s (s.modPair q f) := of_eq rfl rfl rfl

theorem tryFlit (k : Nat) (x : Nat × Msg) : Frame calm s (s.tryFlit k x) := by
  unfold State.tryFlit
  exact ite (of_eq rfl rfl rfl) (of_eq rfl rfl rfl)

theorem send (m : Msg) : Frame calm s (s.send m) := by
  unfold State.send State.sendFrom
  refine ite refl (ite refl ?_)
  split
  · exact tryFlit _ _
  · exact of_eq rfl rfl rfl

theorem sendIbi : Frame calm s s.sendIbi := ite (of_eq rfl rfl rfl) refl

theorem pushToken (lc : Nat) (t : TokenBody) : Frame calm s (s.pushToken lc t) := by
  unfold State.pushToken
  split
  · exact refl
  · exact ite (modPair _ _) refl

/-! Events and faults -/

theorem mergeAt_keeps (c : Core) (src word : Nat) :
    (c.mergeAt src word).arch = c.arch ∧ (c.mergeAt src word).stopped = c.stopped := by
  unfold Core.mergeAt
  generalize levelNumbers = ls
  dsimp only
  induction ls generalizing c with
  | nil => exact ⟨rfl, rfl⟩
  | cons l ls ih =>
    rw [List.foldl_cons]
    split
    · exact ih c
    · exact ih (c.setQueue l _)

theorem raiseOne (src word : Nat) : Frame calm s (s.raiseOne src word).1 := by
  unfold State.raiseOne
  split
  · exact of_eq rfl rfl rfl
  · split
    · exact modCore _ _ (fun c => (mergeAt_keeps c src word).1) (fun c => (mergeAt_keeps c src word).2)
    · exact of_eq rfl rfl rfl

theorem absentPass : Frame calm s s.absentPass.1 := by
  refine foldl_fst (fun a src => ?_) s.cue.order []
  dsimp only
  split
  · exact refl
  · exact of_eq rfl rfl rfl

theorem returnQueues (lc : Nat) : Frame calm s (s.returnQueues lc) := by
  unfold State.returnQueues
  extract_lets evs s1
  have h1 : Frame calm s s1 := modCore lc _
  have h2 (s : State) (e : Event) : Frame calm s { s with cue := s.cue.putBack e } := of_eq rfl rfl rfl
  exact h1.trans (foldl h2 evs)

theorem alertEdge (h : Frame calm s t) : Frame calm s (State.alertEdge s t) := by
  have hb : Frame calm t { t with bmp := { t.bmp with owed := true } } := of_eq rfl rfl rfl
  unfold State.alertEdge
  exact ite (h.trans (hb.trans sendIbi)) h

theorem core_stopAll (m : NMap Core) (k : Nat) : (mapGet Core.reset (stopAll m) k).arch = (mapGet Core.reset m k).arch := by
  induction m with
  | nil => rfl
  | cons p m ih =>
    show (if p.1 = k then { p.2 with stopped := true } else mapGet Core.reset (stopAll m) k : Core).arch =
      (if p.1 = k then p.2 else mapGet Core.reset m k).arch
    split
    · rfl
    · exact ih

/-- R441: the state of the device stops every core, which keeps what it holds. -/
theorem deviceFatal (m : FaultMsg) : Frame false s (s.deviceFatal m) := by
  have hfatal : Frame false s { s with flt := { s.flt with fatal := true } } := of_eq rfl rfl rfl
  unfold State.deviceFatal
  extract_lets _ s1 s2 save s3
  have h1 : Frame false s s1 := alertEdge hfatal
  have h2 : Frame false s1 s2 := foldl (fun _ _ => send _) _
  have h3 : Frame false s s3 := (h1.trans h2).trans (foldl (fun _ _ => returnQueues _) _)
  exact ⟨fun k => (core_stopAll s3.cores k).trans (h3.arch k), h3.halted, fun hc => (nomatch hc), (h1.trans h2).base⟩

theorem notice (src seq : Nat) : Frame calm s (s.notice src seq).1 := by
  unfold State.notice
  split
  · exact of_eq rfl rfl rfl
  · exact refl

theorem addRecord (m : FaultMsg) (base : Nat) (esc fwd : Bool) : Frame calm s (s.addRecord m base esc fwd).1 := by
  unfold State.addRecord
  dsimp only
  split
  · exact of_eq rfl rfl rfl
  · exact of_eq rfl rfl rfl

theorem setPend (m : FaultMsg) (v : Nat) : Frame calm s (s.setPend m v) := ite (of_eq rfl rfl rfl) (of_eq rfl rfl rfl)

theorem rememberFault (m : FaultMsg) : Frame calm s (s.rememberFault m) := ite (of_eq rfl rfl rfl) refl

/-- R434, R441: a fault of class C2 or below does not become one of the device's state, for it rises by one class at most. -/
theorem collect (m : FaultMsg) (hm : calm = true → m.cls ≤ 2) : Frame calm s (s.collect m).1 := by
  unfold State.collect
  extract_lets s0 conseq pend esc cls m1 s1 seq fwd
  have h0 : Frame calm s s0 := fcount _ _ _ _
  have h1 : Frame calm s s1 := h0.trans (ite (rememberFault m) (setPend m _))
  split
  · exact h0
  generalize hr : s1.addRecord m1 m.cls esc false = r
  have h2 : Frame calm s r.1 := h1.trans (hr ▸ addRecord _ _ _ _)
  obtain ⟨s2, lost⟩ := r
  dsimp only
  generalize hn : (if conseq = true then if s2.fbit F.FLT_CTL_CONSEQ_NOTICE 0 0 = true then s2.notice 3848 seq else (s2, [])
    else s2.notice (3840 + cls) seq) = n
  have h3 : Frame calm s n.1 := by
    refine h2.trans ?_
    rw [← hn]
    split
    · split
      · exact notice _ _
      · exact refl
    · exact notice _ _
  obtain ⟨s3, ev1⟩ := n
  dsimp only
  generalize hl : (if lost = true then s3.notice 3849 seq else (s3, [])) = k
  have h4 : Frame calm s k.1 := by
    refine h3.trans ?_
    rw [← hl]
    split
    · exact notice _ _
    · exact refl
  obtain ⟨s4, ev2⟩ := k
  dsimp only
  refine h4.trans ?_
  split
  · next h4 =>
    cases calm with
    | false => exact deviceFatal _
    | true =>
      have hle := hm rfl
      have hcls : cls ≤ m.cls + 1 := by
        show (if esc then m.cls + 1 else m.cls) ≤ m.cls + 1
        split <;> omega
      omega
  · exact ite (foldl (fun _ _ => send _) _) refl

/-- The faults that remain to be reported, of class C2 or below where nothing may stop. -/
theorem report (n : Nat) (rs : List Report) (hrs : ∀ m, Report.fault m ∈ rs → calm = true → m.cls ≤ 2) :
    Frame calm s (State.report n rs s) := by
  induction n generalizing rs s with
  | zero => unfold State.report; exact refl
  | succ n ih =>
    match rs with
    | [] => exact refl
    | .fault m :: rs =>
      unfold State.report
      have hc : Frame calm s (s.collect m).1 := collect m (hrs m (List.mem_cons_self ..))
      generalize s.collect m = r at hc
      obtain ⟨s1, evs⟩ := r
      have hrest : ∀ x, Report.fault x ∈ rs ++ evs.map (fun e => Report.event e.1 e.2) → calm = true → x.cls ≤ 2 := by
        intro x hx
        rw [List.mem_append] at hx
        rcases hx with hx | hx
        · exact hrs x (List.mem_cons_of_mem _ hx)
        · simp at hx
      dsimp only
      split
      · have ha : Frame calm s1 s1.absentPass.1 := absentPass
        generalize s1.absentPass = a at ha
        obtain ⟨s2, gone⟩ := a
        refine (hc.trans ha).trans (ih _ fun x hx hcalm => ?_)
        rw [List.mem_append] at hx
        rcases hx with hx | hx
        · exact hrest x hx hcalm
        · obtain ⟨src, -, hsrc⟩ := List.mem_map.mp hx
          cases hsrc
          exact Nat.le_succ 1
      · exact hc.trans (ih _ hrest)
    | .event src word :: rs =>
      unfold State.report
      have hr : Frame calm s (s.raiseOne src word).1 := raiseOne src word
      generalize s.raiseOne src word = r at hr
      obtain ⟨s1, ab⟩ := r
      refine hr.trans (ih _ fun x hx hcalm => ?_)
      rw [List.mem_append] at hx
      rcases hx with hx | hx
      · exact hrs x (List.mem_cons_of_mem _ hx) hcalm
      · split at hx
        · rw [List.mem_singleton] at hx
          cases hx
          exact Nat.le_succ 1
        · cases hx

theorem logFault (m : FaultMsg) (hm : calm = true → m.cls ≤ 2) : Frame calm s (s.logFault m) :=
  report _ _ (fun x hx => by cases List.mem_singleton.mp hx; exact hm)

theorem raise (src word : Nat) : Frame calm s (s.raise src word) :=
  report _ _ (fun x hx => by cases List.mem_singleton.mp hx)

theorem draw : Frame calm s s.draw := of_eq rfl rfl rfl

theorem raiseBlock (src : Nat) : Frame calm s (s.raiseBlock src) := draw.trans (raise _ _)

end Frame

end Sys2Proof.LevelProofs
end

section
/-! The same of the way of a line: requests, copies in the cores, the pool cache, rest. -/

namespace Sys2Proof.LevelProofs

open Sys2Proof Sys2Proof.Machine Sys2Proof.Slice0

namespace Frame

variable {calm : Bool} {s t u : State} {α β : Type}

theorem fst_eq {x : State × α} {a : α} (h : Frame calm s x.1) (e : x = (t, a)) : Frame calm s t := by subst e; exact h

/-! Requests for lines -/

theorem produce (lc : Nat) (a : Await) : Frame calm s (s.produce lc a) := by
  have hawait (b : Await) : Frame calm s (s.modCore lc (fun c => { c with awaited := c.awaited ++ [b] })) :=
    modCore lc _
  unfold State.produce
  exact ite refl (ite (hawait _) (ite refl ((hawait _).trans (pushToken _ _))))

theorem demand (lc line : Nat) (instr : Bool) : Frame calm s (s.demand lc line instr).1 := by
  unfold State.demand
  split
  · exact refl
  · dsimp only
    exact (produce lc _).trans (modCore lc _)

theorem demands (lc : Nat) (instr : Bool) (lines : List Nat) : Frame calm s (s.demands lc instr lines).1 := by
  refine foldl_fst (fun a line => ?_) lines true
  split
  · exact refl
  · exact demand lc line instr

theorem askLine (by_ : By) (line kind dst : Nat) : Frame calm s (s.askLine by_ line kind dst) := by
  unfold State.askLine
  refine ite refl ?_
  extract_lets _ s1 m
  have h1 : Frame calm s s1 := of_eq rfl rfl rfl
  exact h1.trans (ite (of_eq rfl rfl rfl) (send _))

theorem askRead (by_ : By) (line kind dst : Nat) : Frame calm s (s.askRead by_ line kind dst) := by
  unfold State.askRead
  split
  · exact ite (modCore _ _) (askLine _ _ _ _)
  · exact askLine _ _ _ _

theorem wantGranule (line : Nat) : Frame calm s (s.wantGranule line) := ite (of_eq rfl rfl rfl) refl

/-! Copies in the cores -/

theorem setPresence (line : Nat) (qs : List Nat) : Frame calm s (s.setPresence line qs) := by
  unfold State.setPresence
  split
  · exact of_eq rfl rfl rfl
  · exact of_eq rfl rfl rfl
  · exact refl

theorem dropAt (line q : Nat) : Frame calm s (s.dropAt line q) :=
  foldl (fun _ _ => modCore _ _) _

theorem offerInval (line q : Nat) : Frame calm s (s.offerInval line q) :=
  foldl (fun _ _ => ite refl (modCore _ _)) _

theorem invalidate (line : Nat) (except_ : Option Nat) : Frame calm s (s.invalidate line except_) := by
  unfold State.invalidate State.invalAsk
  extract_lets out later s1
  have h1 : Frame calm s s1 := foldl (fun s q => (dropAt line q).trans (setPresence line _)) _
  exact h1.trans (foldl (fun s q => offerInval line q) _)

/-! The pool cache -/

theorem setPoison (line : Nat) (b : Bool) : Frame calm s (s.setPoison line b) := of_eq rfl rfl rfl

theorem erasePool (line : Nat) : Frame calm s (s.erasePool line) := ite (of_eq rfl rfl rfl) (of_eq rfl rfl rfl)

theorem leavePool (line : Nat) : Frame calm s (s.leavePool line) := ite (of_eq rfl rfl rfl) (erasePool line)

theorem mendMem (line : Nat) : Frame calm s (s.mendMem line) := ite (of_eq rfl rfl rfl) refl

theorem evictLine (line : Nat) : Frame calm s (s.evictLine line) := by
  unfold State.evictLine
  extract_lets s1
  have h1 : Frame calm s s1 := invalidate line none
  split
  · exact h1
  · refine h1.trans (ite (leavePool line) ?_)
    extract_lets s2
    have h2 : Frame calm s1 s2 := ite (mendMem line) refl
    exact h2.trans (of_eq rfl rfl rfl)

theorem makeWay (line : Nat) : Frame calm s (s.makeWay line) := by
  have hfree : Frame calm s { s with free := s.free + 1 } := of_eq rfl rfl rfl
  unfold State.makeWay
  refine ite refl ?_
  split
  · exact hfree.trans (evictLine _)
  · exact refl

theorem putLine (line : Nat) (home : Option (List Byte × Bool)) (owned : Bool) : Frame calm s (s.putLine line home owned) := by
  have hmem (t : State) (m : Mem) : Frame calm t { t with mem := m } := of_eq rfl rfl rfl
  unfold State.putLine
  extract_lets s1
  have h1 : Frame calm s s1 := ite refl (makeWay line)
  exact h1.trans (hmem s1 _)

theorem install (line : Nat) : Frame calm s (s.install line) := by
  have hevict : Frame calm s { s with mem := { s.mem with evict := mapErase s.mem.evict line } } := of_eq rfl rfl rfl
  unfold State.install
  split
  · exact of_eq rfl rfl rfl
  · split
    · refine ite (putLine _ _ _) (ite ?_ ?_)
      · exact ((hevict.trans (erasePool line)).trans (putLine _ _ _)).trans (setPresence _ _)
      · exact (hevict.trans (putLine _ _ _)).trans (setPresence _ _)
    · exact putLine _ _ _

theorem takeBack (line : Nat) : Frame calm s (s.takeBack line) := by
  unfold State.takeBack
  split
  · exact refl
  · exact ite (install line) refl

theorem notePresence (line q : Nat) : Frame calm s (s.notePresence line q) := by
  unfold State.notePresence
  extract_lets s1
  have h1 : Frame calm s s1 := install line
  split
  · exact h1.trans (of_eq rfl rfl rfl)
  · exact h1

theorem readyRead (by_ : By) (lines : List Nat) : Frame calm s (s.readyRead by_ lines).1 := by
  induction lines generalizing s with
  | nil => exact refl
  | cons line ls ih =>
    have hclear : Frame calm s (s.clearAsked line) := of_eq rfl rfl rfl
    unfold State.readyRead
    split
    · exact wantGranule line
    · split
      · exact ih
      · split
        · exact takeBack line
        · exact (takeBack line).trans ih
      · exact hclear.trans (logFault _ (fun _ => Nat.le_succ 1))
      · exact logFault _ (fun _ => Nat.le_refl 2)
      · exact askRead _ _ _ _

/-! Rest -/

theorem setPwrState (v : Nat) : Frame calm s (s.setPwrState v) :=
  ite refl ((fset _ _ _ _).trans (ite (raiseBlock _) refl))

theorem wakePorts : Frame calm s s.wakePorts := by
  have hport (s : State) (k : Nat) : Frame calm s (s.modPort k (fun p => { p with exiting := true })) := of_eq rfl rfl rfl
  exact foldl (fun s k => ite (hport s k) refl) _

theorem setDom (d v : Nat) : Frame calm s (s.setDom d v) := foldl (fun _ _ => fset _ _ _ _) _

theorem setDomCause (d c : Nat) : Frame calm s (s.setDomCause d c) := foldl (fun _ _ => fset _ _ _ _) _

theorem wake (dom cause : Nat) : Frame calm s (s.wake dom cause) := by
  have hqueue (q : List WakeReq) : Frame calm s (s.setQueue q) := of_eq rfl rfl rfl
  unfold State.wake
  refine ite refl ?_
  split
  · exact ite ((hqueue _).trans (setDomCause _ _)) refl
  · have h1 := (hqueue (wakeInsert ⟨domKey dom, cause⟩ s.pwr.queue)).trans (setDomCause (domKey dom) cause)
    exact ite h1 (h1.trans (setDom _ _))

theorem endRest : Frame calm s s.endRest :=
  ite ((wakePorts.trans (setPwrState 1)).trans (foldl (fun _ _ => wake _ _) _)) refl

theorem mcAccess (line : Nat) : Frame calm s (s.mcAccess line) := ite endRest refl

/-! Errors of a read -/

theorem privParity (lc : Nat) (k : PrivKind) (line : Nat) : Frame calm s (s.privParity lc k line) := by
  unfold State.privParity
  extract_lets s1 s2
  have h1 : Frame calm s s1 := fcount _ _ _ _
  split
  · exact h1
  · refine h1.trans (ite (modPair _ _) ?_)
    have h2 : Frame calm s1 s2 := modCore _ _
    exact h2.trans (logFault _ (fun _ => Nat.zero_le 2))

theorem pcsErrAddr (line : Nat) : Frame calm s (s.pcsErrAddr line) := of_eq rfl rfl rfl

theorem spoil (line : Nat) : Frame calm s (s.spoil line) := by
  unfold State.spoil
  split
  · exact of_eq rfl rfl rfl
  · exact refl

theorem pcsUe (line : Nat) : Frame calm s (s.pcsUe line) := by
  unfold State.pcsUe State.pcsPoison
  extract_lets k modified s1 s2
  have h1 : Frame calm s s1 := ((setPoison line true).trans (fcount _ _ _ _)).trans (pcsErrAddr line)
  have h2 : Frame calm s s2 := (((evictLine line).trans (spoil line)).trans (fcount _ _ _ _)).trans (pcsErrAddr line)
  exact ite (h1.trans (logFault _ (fun _ => Nat.le_refl 2))) (h2.trans (logFault _ (fun _ => Nat.le_succ 1)))

/-- R221: a slice stops, and reports it as a fault of class C3. -/
theorem sliceStop (line : Nat) : Frame false s (s.sliceStop line) ∧ 0x10 + sliceOf line ∈ (s.sliceStop line).flt.stopped := by
  unfold State.sliceStop
  extract_lets b _ s1
  have hmem : b ∈ s1.flt.stopped := by
    show b ∈ if s.flt.stopped.contains b then s.flt.stopped else b :: s.flt.stopped
    split
    · next h => exact List.contains_iff_mem.mp h
    · exact List.mem_cons_self ..
  have h1 : Frame false s s1 := by
    refine ⟨fun _ => rfl, fun x hx => ?_, fun _ _ => rfl, rfl⟩
    show x ∈ if s.flt.stopped.contains b then s.flt.stopped else b :: s.flt.stopped
    split
    · exact hx
    · exact List.mem_cons_of_mem _ hx
  have h2 : Frame false s1 (s1.logFault (s1.fault b 0 0x205 3 0 0)) := logFault _ (fun hc => nomatch hc)
  exact ⟨h1.trans h2, h2.halted _ hmem⟩

/-- Of the errors of a read only the loss of both copies of the tags can stop cores. -/
theorem errSeen (lc : Option Nat) (line : Nat) (e : ErrSeen) (he : calm = true → e ≠ .pcsTagFatal) :
    Frame calm s (s.errSeen lc line e) := by
  have hlow (k kind cls a b : Nat) (hcls : cls ≤ 2) (t : State) (ht : Frame calm s t) :
      Frame calm s (t.logFault (t.fault k 0 kind cls a b)) := ht.trans (logFault _ (fun _ => hcls))
  have hline : Frame calm s (s.lineErr line e) := by
    unfold State.lineErr
    cases e with
    | priv _ => exact refl
    | pcsData => exact hlow _ _ _ _ _ (by decide) _ (fcount _ _ _ _)
    | pcsTag => exact hlow _ _ _ _ _ (by decide) _ (fcount _ _ _ _)
    | pcsTagCopy => exact hlow _ _ _ _ _ (by decide) _ (fcount _ _ _ _)
    | pcsTagFatal =>
      cases calm with
      | false => exact (sliceStop line).1
      | true => exact absurd rfl (he rfl)
    | pcsUe => exact pcsUe line
    | mcCe => exact hlow _ _ _ _ _ (by decide) _ (fcount _ _ _ _)
    | mcMarked => exact hlow _ _ _ _ _ (by decide) _ (fset _ _ _ _)
    | mcUe =>
      exact hlow _ _ _ _ _ (Nat.le_refl 2) _
        ((((setPoison line true).trans (fcount _ _ _ _)).trans (fset _ _ _ _)).trans (fset _ _ _ _))
    | mcMirror => exact hlow _ _ _ _ _ (by decide) _ refl
  unfold State.errSeen
  split
  · exact refl
  · exact refl
  · exact privParity _ _ _
  · exact hline

end Frame

end Sys2Proof.LevelProofs
end

section
/-! Translation, the prefetcher, and the fetch itself. -/

namespace Sys2Proof.LevelProofs

open Sys2Proof Sys2Proof.Machine Sys2Proof.Slice0

namespace Frame

variable {calm : Bool} {s t : State}

/-! Translation -/

theorem transErrs (lc l : Nat) (a : Acc) (va : Nat) (es : List ErrSeen) : Frame calm s (s.transErrs lc l a va es) := by
  unfold State.transErrs
  extract_lets v root
  refine ite refl ?_
  split
  · exact ite (privParity _ _ _) refl
  · split
    · exact ite (privParity _ _ _) refl
    · exact refl

theorem readEntry (lc a : Nat) : Frame calm s (s.readEntry lc a).1 := by
  unfold State.readEntry
  have hd : Frame calm s (s.demand lc (lineOf a) false).1 := demand lc (lineOf a) false
  generalize s.demand lc (lineOf a) false = d at hd
  obtain ⟨s1, ok⟩ := d
  cases ok with
  | false => exact hd
  | true =>
    have hr : Frame calm s1 (s1.readyRead (.core lc) [lineOf a]).1 := readyRead (.core lc) [lineOf a]
    dsimp only
    generalize s1.readyRead (.core lc) [lineOf a] = r at hr
    obtain ⟨s2, st⟩ := r
    cases st <;> exact hd.trans hr

theorem tableEntry (lc a : Nat) : Frame calm s (s.tableEntry lc a).1 := by
  unfold State.tableEntry
  split
  · exact readEntry lc a
  · split
    · exact refl
    · split
      · exact draw
      · exact (draw.trans (modCore lc _)).trans (readEntry lc a)

theorem walk (lc va : Nat) (shifts : List Nat) (base : Nat) : Frame calm s (State.walk lc va shifts base s).1 := by
  induction shifts generalizing s base with
  | nil => exact refl
  | cons sh rest ih =>
    unfold State.walk
    extract_lets a
    have ht : Frame calm s (s.tableEntry lc a).1 := tableEntry lc a
    generalize s.tableEntry lc a = r at ht
    obtain ⟨s1, e⟩ := r
    cases e with
    | poison _ => exact ht
    | wait => exact ht
    | entry e =>
      dsimp only
      split
      · exact ht
      · split
        · split <;> exact ht
        · split
          · exact ht
          · exact (ht.trans (modCore lc _)).trans (ih _)

theorem translate (lc l : Nat) (a : Acc) (va : Nat) (sup : Bool) : Frame calm s (s.translate lc l a va sup).1 := by
  unfold State.translate
  extract_lets v root asid walked
  have hwalked (u : State) : Frame calm u (walked u).1 := by
    show Frame calm u (match State.walk lc va walkShifts (fld root 12 40 * 2 ^ 12) u with
      | (s1, .none) => (s1, Tr.refused 0)
      | (s1, .poison line) => (s1, .poison line)
      | (s1, .wait) => (s1, .wait)
      | (s1, .leaf e sh) => _).1
    have hw : Frame calm u (State.walk lc va walkShifts (fld root 12 40 * 2 ^ 12) u).1 := walk lc va walkShifts _
    generalize State.walk lc va walkShifts (fld root 12 40 * 2 ^ 12) u = r at hw
    obtain ⟨s1, w⟩ := r
    cases w with
    | none => exact hw
    | poison _ => exact hw
    | wait => exact hw
    | leaf e sh =>
      dsimp only
      exact hw.trans (modCore lc _)
  split
  · split <;> exact refl
  · split
    · exact refl
    · split
      · exact hwalked s
      · extract_lets kept
        split
        · exact refl
        · split
          · exact draw
          · exact draw.trans (hwalked _)

/-! The prefetcher -/

theorem fillSide (lc line : Nat) (instr : Bool) : Frame calm s (s.fillSide lc line instr) := by
  unfold State.fillSide
  extract_lets fill
  have hf : Frame calm s fill := (modCore lc _).trans (notePresence _ _)
  split
  · exact ite refl hf
  · exact hf
  · exact refl

theorem prefetchLine (lc line : Nat) (instr : Bool) : Frame calm s (s.prefetchLine lc line instr) := by
  unfold State.prefetchLine
  extract_lets c
  refine ite refl (ite (ite (produce _ _) refl) (ite (modCore lc _) ?_))
  split
  · exact (modCore lc _).trans (askLine _ _ _ _)
  · exact fillSide _ _ _

theorem streamAhead (lc : Nat) (st : Stream) : Frame calm s (s.streamAhead lc st) :=
  foldl (fun _ _ => ite (prefetchLine _ _ _) refl) _

theorem prefetcher (lc line : Nat) (instr : Bool) : Frame calm s (s.prefetcher lc line instr) := by
  unfold State.prefetcher
  refine ite refl ?_
  extract_lets p seen s1
  split
  · exact (modCore lc _).trans (streamAhead _ _)
  · have h1 : Frame calm s s1 := modCore lc _
    split
    · exact h1.trans (ite ((modCore lc _).trans (streamAhead _ _)) refl)
    · exact h1

theorem touchInstr (lc line : Nat) : Frame calm s (s.touchInstr lc line) := by
  unfold State.touchInstr
  extract_lets p pick s1
  have h1 : Frame calm s s1 := ite refl (notePresence _ _)
  exact ite refl ((h1.trans (modCore lc _)).trans (prefetcher _ _ _))

/-! The fetch -/

theorem fetchLines (lc l len : Nat) (es : List ErrSeen) : Frame calm s (s.fetchLines lc l len es).1 := by
  unfold State.fetchLines
  extract_lets v va
  have ht : Frame calm s ((s.transErrs lc l .fetch va es).translate lc l .fetch va (swS v.sw)).1 :=
    (transErrs lc l .fetch va es).trans (translate lc l .fetch va (swS v.sw))
  generalize (s.transErrs lc l .fetch va es).translate lc l .fetch va (swS v.sw) = r at ht
  obtain ⟨s1, tr⟩ := r
  cases tr with
  | ok pa left =>
    dsimp only
    split
    · exact ht
    · have ht2 := ht.trans (translate lc l .fetch ((va + left) % 2 ^ 64) (swS v.sw))
      generalize s1.translate lc l .fetch ((va + left) % 2 ^ 64) (swS v.sw) = r at ht2
      obtain ⟨s2, tr⟩ := r
      cases tr <;> exact ht2
  | refused _ => exact ht
  | poison _ => exact ht
  | wait => exact ht

theorem errsSeen (lc : Option Nat) (line : Nat) (es : List ErrSeen) (hes : calm = true → ErrSeen.pcsTagFatal ∉ es) :
    Frame calm s (s.errsSeen lc line es) := by
  unfold State.errsSeen
  induction es generalizing s with
  | nil => exact refl
  | cons e es ih =>
    refine trans (errSeen lc line e fun hc he => hes hc (he ▸ List.mem_cons_self ..)) (ih fun hc hm => hes hc ?_)
    exact List.mem_cons_of_mem _ hm

/-- R221: a read that meets the loss of both copies of a slice's tags finds the slice stopped. -/
theorem errsSeen_stops (lc : Nat) (line : Nat) {es : List ErrSeen} (h : ErrSeen.pcsTagFatal ∈ es) :
    0x10 + sliceOf line ∈ (s.errsSeen (some lc) line es).flt.stopped := by
  obtain ⟨before, later, rfl⟩ := List.append_of_mem h
  unfold State.errsSeen
  rw [List.foldl_append, List.foldl_cons]
  generalize before.foldl (fun s x => s.errSeen (some lc) line x) s = u
  have hlater : Frame false (u.sliceStop line) (later.foldl (fun s x => s.errSeen (some lc) line x) (u.sliceStop line)) :=
    errsSeen (some lc) line later (fun hc => nomatch hc)
  exact hlater.halted _ (sliceStop line).2

/-- A read whose first line lies in a stopped slice waits (R221). -/
theorem readyRead_waits {by_ : By} {line : Nat} {lines : List Nat} (h : 0x10 + sliceOf line ∈ s.flt.stopped) :
    (s.readyRead by_ (line :: lines)).2 = .wait := by
  have hdown : s.sliceUp line = false := by
    rw [State.sliceUp, List.contains_iff_mem.mpr h]
    rfl
  rw [State.readyRead, hdown]
  rfl

/-- The errors of a read are met at its first line. -/
theorem headErrs (lc : Nat) (lines : List Nat) (es : List ErrSeen) :
    (∀ line rest, lines = line :: rest → ErrSeen.pcsTagFatal ∉ es) →
    Frame true s (match lines with
      | line :: _ => s.errsSeen (some lc) line es
      | [] => s) := by
  intro h
  cases lines with
  | nil => exact refl
  | cons line rest => exact errsSeen (some lc) line es fun _ => h line rest rfl

/-- What a fetch that waits for nothing leaves: no core stops by it, for a line of a slice that has stopped does not come. -/
theorem fetchRead (lc : Nat) (lines : List Nat) (es : List ErrSeen) (h : (s.fetchRead lc lines es).2 = .ok) :
    Frame true s (s.fetchRead lc lines es).1 := by
  revert h
  unfold State.fetchRead
  extract_lets s1
  have hfill (u : State) : Frame true u (lines.foldl (fun s line => s.touchInstr lc line) u) := foldl (fun _ _ => touchInstr _ _) lines
  have hd (calm : Bool) : Frame calm s1 (s1.demands lc true lines).1 := demands lc true lines
  generalize s1.demands lc true lines = d at hd
  obtain ⟨s2, ok⟩ := d
  cases ok with
  | false => exact fun h => nomatch h
  | true =>
    dsimp only
    have ha (calm : Bool) : Frame calm s2 (lines.foldl State.mcAccess s2) := foldl (fun _ _ => mcAccess _) lines
    generalize lines.foldl State.mcAccess s2 = s3 at ha
    have hr : Frame true s3 (s3.readyRead (.core lc) lines).1 := readyRead (.core lc) lines
    have hwait (line : Nat) (rest : List Nat) (hl : lines = line :: rest) (hm : ErrSeen.pcsTagFatal ∈ es) :
        (s3.readyRead (.core lc) lines).2 = .wait := by
      have hstop : 0x10 + sliceOf line ∈ s1.flt.stopped := by
        subst hl
        exact errsSeen_stops lc line hm
      exact hl ▸ readyRead_waits ((ha false).halted _ ((hd false).halted _ hstop))
    generalize s3.readyRead (.core lc) lines = r at hr hwait
    obtain ⟨s4, st⟩ := r
    cases st with
    | poison _ => exact fun h => nomatch h
    | wait => exact fun h => nomatch h
    | ok =>
      have h1 : Frame true s s1 := headErrs lc lines es fun line rest hl hm => nomatch hwait line rest hl hm
      exact fun _ => (((h1.trans (hd true)).trans (ha true)).trans hr).trans (hfill s4)

theorem fetched (lc l len : Nat) (es : List ErrSeen) (h : (s.fetched lc l len es).2.2 = .ok) :
    Frame true s (s.fetched lc l len es).1 := by
  unfold State.fetched at h ⊢
  split
  · exact refl
  · next hp =>
    rw [hp] at h
    dsimp only at h
    have hl : Frame true s (s.fetchLines lc l len es).1 := fetchLines lc l len es
    generalize s.fetchLines lc l len es = r at hl h
    obtain ⟨s1, lines, st⟩ := r
    cases st with
    | ok => exact hl.trans (fetchRead lc lines es h)
    | wait => cases h
    | refused _ _ => cases h
    | poison _ => cases h

end Frame

variable {op : OpInfo} {i : Ins} {x l : Nat} {s : State}

/-- The instruction's core keeps its levels' states and TA from the boundary until it issues, and does not stop. -/
theorem found_frame (h : Ready op i x l s) :
    (∀ j, SameMode (((bound i s).core i.core).level j) ((found op i x l s).level j)) ∧
      (found op i x l s).stopped = ((bound i s).core i.core).stopped := by
  obtain ⟨-, -, -, -, -, hfetch, -⟩ := h
  have hf : Frame true (bound i s) (gotten op i l s).1 := Frame.fetched i.core l (op.length i.pfx) i.met.fetch hfetch
  have hs : Settled ((gotten op i l s).1.core i.core) (found op i x l s) := settled_found
  refine ⟨fun j => ?_, hs.stopped.trans (hf.runs rfl i.core)⟩
  have hlevel : ((gotten op i l s).1.core i.core).level j = ((bound i s).core i.core).level j := by
    rw [Core.level, hf.arch, Core.level]
  exact hlevel ▸ hs.mode j

/-- The level at which an instruction issues is active. -/
theorem found_active (h : Ready op i x l s) : ((found op i x l s).level l).run = .active := by
  have hmode := (found_frame h).1 l
  obtain ⟨-, -, -, hlevel, -⟩ := h
  exact hmode.1.trans (current_some hlevel).2

/-- A core that can execute has not stopped. -/
theorem not_stopped_of_canIssue {lc : Nat} (h : s.canIssue lc = true) : (s.core lc).stopped = false := by
  rw [State.canIssue] at h
  split at h
  · cases h
  · simp only [Bool.and_eq_true, Bool.not_eq_true'] at h
    obtain ⟨⟨⟨⟨⟨⟨-, hstopped⟩, -⟩, -⟩, -⟩, -⟩, -⟩ := h
    exact hstopped

/-- The core of an instruction that issues has not stopped. -/
theorem found_runs (h : Ready op i x l s) : (found op i x l s).stopped = false := by
  have hf := (found_frame h).2
  obtain ⟨-, -, hcan, -⟩ := h
  exact hf.trans (not_stopped_of_canIssue hcan)

end Sys2Proof.LevelProofs
end

section
/-! R70, R73 to R75: traps, by the state of TA of their level and of the next. -/

namespace Sys2Proof.LevelProofs

open Sys2Proof Sys2Proof.Machine Sys2Proof.Slice0

/-- A level is changed alike by two functions that agree on it. -/
theorem modLevel_congr (c : Core) (l : Nat) {f g : Level → Level} (h : f (c.level l) = g (c.level l)) :
    c.modLevel l f = c.modLevel l g := congrArg (c.setLevel l) h

/-- R54: TRAP_CAUSE of a trap that its own level takes, which was not idle. -/
theorem causeWord_own (t : TrapInfo) :
    causeWord t t.code false 0 0 = BitVec.ofNat 64 (t.code + (if t.imp then 2 ^ 8 else 0) + t.detail * 2 ^ 32) := by
  unfold causeWord
  cases t.imp <;> rfl

/-- R70: a trap at a level whose TA is clear is taken there. -/
theorem trapWith_taken {c : Core} {l : Nat} (t : TrapInfo) (ret : Word) (tsw live : Word → Word)
    (hta : swTa (c.level l).sw = false) :
    c.trapWith l t ret tsw live =
      (settledSw l c).modLevel l (fun v => v.trap t t.code 0 0 ret (tsw v.sw) (live v.sw)) := by
  rw [← (settled_settledSw l c).ta l] at hta
  exact if_neg (by rw [settledSw_eq] at hta; rw [hta]; decide)

/-- The core after it, as the statements write it. -/
theorem trapped_eq {c : Core} {l : Nat} (t : TrapInfo) (ret : Word) (tsw live : Word → Word)
    (hta : swTa (c.level l).sw = false) (hrun : (c.level l).run = .active) :
    trapped l t ret tsw live c = afterEntry c (c.trapWith l t ret tsw live) := by
  have hactive : ((settledSw l c).level l).run = .active := ((settled_settledSw l c).run l).trans hrun
  have hcause : causeWord t t.code (((settledSw l c).level l).run == .inactive) 0 0 =
      BitVec.ofNat 64 (t.code + (if t.imp then 2 ^ 8 else 0) + t.detail * 2 ^ 32) := by
    rw [hactive]
    exact causeWord_own t
  have hfreed (d : Core) : afterEntry c d = { d.freed with priv := c.priv.emptyLoop, due := true } := rfl
  rw [trapWith_taken t ret tsw live hta, hfreed, trapped, ← hcause]
  rfl

/-- No core is stopped by a trap that is taken. -/
theorem trapped_stopped {c : Core} {l : Nat} (t : TrapInfo) (ret : Word) (tsw live : Word → Word) :
    (trapped l t ret tsw live c).stopped = c.stopped := (settled_settledSw l c).stopped

/-- R70: a precise trap of a core whose current level has TA clear. -/
theorem takeTrap_taken {s : State} {lc l : Nat} (t : TrapInfo) (hta : swTa ((s.core lc).level l).sw = false)
    (hrun : ((s.core lc).level l).run = .active) :
    s.takeTrap lc l t = s.setCore lc (trapped l t t.iaddr id id (s.core lc)) := by
  rw [trapped_eq t t.iaddr id id hta hrun]
  refine putCore_eq_setCore s lc (afterEntry (s.core lc) ((s.core lc).trapWith l t t.iaddr id id)) ?_
  rw [← trapped_eq t t.iaddr id id hta hrun, trapped_stopped]

/-- R73, R74: a trap that its level cannot take enters the next more urgent one, where its TA is clear. -/
theorem escalate_enters {c : Core} {m code : Nat} (t : TrapInfo) (hta : swTa (c.level m).sw = false) :
    (settledSw (m + 1) c).escalate (m + 1) code t = nested m code t c := by
  have hclear : swTa ((settledSw m ((settledSw (m + 1) c).modLevel (m + 1) (fun v => { v with run := .frozen }))).level m).sw =
      false := by
    rw [(settled_settledSw m _).ta m, level_modLevel_ne _ _ (Nat.ne_of_lt (Nat.lt_succ_self m)), (settled_settledSw (m + 1) c).ta m,
      hta]
  unfold Core.escalate
  exact if_neg (by rw [settledSw_eq] at hclear; rw [hclear]; decide)

theorem trapWith_stopped {c : Core} {l : Nat} {t : TrapInfo} {ret : Word} {tsw live : Word → Word}
    (hta : swTa (c.level l).sw = false) : (c.trapWith l t ret tsw live).stopped = c.stopped := by
  rw [trapWith_taken t ret tsw live hta]
  exact (settled_settledSw l c).stopped

/-- R73, R128: a trap at a level whose TA is set. -/
theorem trapWith_nested {c : Core} {l : Nat} (t : TrapInfo) (ret : Word) (tsw live : Word → Word)
    (hta : swTa (c.level l).sw = true) : c.trapWith l t ret tsw live = (settledSw l c).escalate l 0x21 t := by
  rw [← (settled_settledSw l c).ta l] at hta
  exact if_pos hta

/-- R75: one that level 0 cannot take stops the core. -/
theorem escalate_stops (c : Core) (code : Nat) (t : TrapInfo) :
    (settledSw 0 c).escalate 0 code t = { frozenAtZero c with stopped := true } := rfl

theorem settled_nested_level {c : Core} {m code : Nat} {t : TrapInfo} :
    ((nested m code t c).level (m + 1)).run = .frozen := by
  rw [nested, level_modLevel_ne _ _ (Nat.succ_ne_self m), (settled_settledSw m _).run, level_modLevel_same]

theorem nested_stopped {c : Core} {m code : Nat} {t : TrapInfo} : (nested m code t c).stopped = c.stopped :=
  (settled_settledSw m _).stopped.trans (settled_settledSw (m + 1) c).stopped

theorem frozenAtZero_stopped (c : Core) : (frozenAtZero c).stopped = c.stopped := (settled_settledSw 0 c).stopped

theorem frozenAtZero_split (c : Core) : (frozenAtZero c).split = c.split := (settled_settledSw 0 c).split

/-- R75, R87: a core that stops as it is put back. -/
theorem putCore_machineStops (s : State) (lc : Nat) (c : Core) (h : c.stopped = false) (hruns : (s.core lc).stopped = false)
    (hsplit : c.split = (s.core lc).split) : s.putCore lc { c with stopped := true } = machineStops s lc c := by
  have hback : ({ ({ c with stopped := true } : Core) with stopped := false } : Core) = c := by
    rw [← h]
  rw [putCore_stops s lc _ rfl hruns, hback, State.machineCheck, machineStops, posOf_setCore s lc lc c hsplit]

/-- R73, R75: a precise trap of a core whose current level is level 0 in a trap. -/
theorem takeTrap_stops {s : State} {lc : Nat} (t : TrapInfo) (hruns : (s.core lc).stopped = false)
    (hta : swTa ((s.core lc).level 0).sw = true) :
    s.takeTrap lc 0 t = machineStops s lc (afterEntry (s.core lc) (frozenAtZero (s.core lc))) := by
  have hstopped : (frozenAtZero (s.core lc)).stopped = false := (frozenAtZero_stopped _).trans hruns
  rw [State.takeTrap, Core.trapPrecise]
  dsimp only
  rw [trapWith_nested t t.iaddr id id hta, escalate_stops]
  exact putCore_machineStops s lc (afterEntry (s.core lc) (frozenAtZero (s.core lc))) hstopped hruns (frozenAtZero_split _)

variable {op : OpInfo} {e : Env} {s : State} {f : Core → Core}

/-- R79 to R81: a trap of a window instruction that does not stop the core. -/
theorem windowTrap_enters (h : (f (s.core e.lc)).stopped = (s.core e.lc).stopped) :
    State.finish op e (s.windowTrap e f) = s.setCore e.lc (afterEntry (s.core e.lc) (f (s.core e.lc))) := by
  rw [State.windowTrap]
  dsimp only
  rw [finish_ended, putCore_eq_setCore s e.lc { f (s.core e.lc) with priv := (s.core e.lc).priv.emptyLoop, due := true } h, modCore_setCore]
  rfl

/-- R75: one that does. -/
theorem windowTrap_stops (hruns : (s.core e.lc).stopped = false)
    (hf : f (s.core e.lc) = { frozenAtZero (s.core e.lc) with stopped := true }) :
    State.finish op e (s.windowTrap e f) = (machineStops s e.lc
      { frozenAtZero (s.core e.lc) with priv := (s.core e.lc).priv.emptyLoop, due := true }).modCore e.lc Core.freed := by
  have hstopped : (frozenAtZero (s.core e.lc)).stopped = false := (frozenAtZero_stopped _).trans hruns
  rw [State.windowTrap]
  dsimp only
  rw [finish_ended, hf]
  exact congrArg (fun t => t.modCore e.lc Core.freed) (putCore_machineStops s e.lc
    { frozenAtZero (s.core e.lc) with priv := (s.core e.lc).priv.emptyLoop, due := true } hstopped hruns (frozenAtZero_split _))

/-- The trap of R81. -/
theorem trapGuarded_eq (c : Core) (l : Nat) (ia : Word) : c.trapGuarded l ia =
    (settledSw l c).escalate l 0x20 { code := 0x20, imp := false, addr := 0, iaddr := ia, detail := 0 } := rfl

end Sys2Proof.LevelProofs
end

section
/-! R70, R73 to R75, R79 to R81: the traps of instructions. -/

namespace Sys2Proof.LevelProofs

open Sys2Proof Sys2Proof.Machine Sys2Proof.Slice0

variable {op : OpInfo} {i : Ins} {x l : Nat} {s : State}

/-- A precise trap of an instruction whose level has TA clear. -/
theorem acked_trap (h : Ready op i x l s) (hta : swTa ((found op i x l s).level l).sw = false) (code detail : Nat) (addr : Word) :
    acked i s (State.finish op (envOf op i x l s) (.trap (issued op i x l s) ((envOf op i x l s).trap code detail addr))) =
      afterTrap op i x l s (trapOf (envOf op i x l s) code detail addr) id id := by
  rw [finish_trap, envOf_lc, envOf_lvl, takeTrap_taken _ hta (found_active h)]
  rfl

/-- R73, R75: one of an instruction whose level is level 0 in a trap. -/
theorem acked_trap_stops (h : Ready op i x 0 s) (hta : swTa ((found op i x 0 s).level 0).sw = true) (t : TrapInfo) :
    acked i s (State.finish op (envOf op i x 0 s) (.trap (issued op i x 0 s) t)) =
      acked i s (machineStops (issued op i x 0 s) i.core (afterEntry (found op i x 0 s) (frozenAtZero (found op i x 0 s)))) := by
  rw [finish_trap, envOf_lc, envOf_lvl, takeTrap_stops t (found_runs h) hta, core_issued]

/-- R79, R80: a trap of a window instruction, TA being clear. -/
theorem acked_windowTrap (h : Ready op i x l s) (hta : swTa ((found op i x l s).level l).sw = false) (t : TrapInfo)
    (tsw live : Word → Word) (f : Core → Core)
    (hf : f (found op i x l s) = (found op i x l s).trapWith l t (envOf op i x l s).ia tsw live) :
    acked i s (State.finish op (envOf op i x l s) ((issued op i x l s).windowTrap (envOf op i x l s) f)) =
      afterTrap op i x l s t tsw live := by
  rw [windowTrap_enters (by rw [envOf_lc, core_issued, hf, trapWith_stopped hta]), envOf_lc, core_issued, hf, afterTrap,
    trapped_eq _ _ _ _ hta (found_active h)]

/-- R81: WINDOW_GUARD enters the next more urgent level. -/
theorem acked_guard_enters {m : Nat} (hta : swTa ((found op i x (m + 1) s).level m).sw = false) :
    acked i s (State.finish op (envOf op i x (m + 1) s) ((issued op i x (m + 1) s).windowTrap (envOf op i x (m + 1) s)
      (fun c => c.trapGuarded (m + 1) (envOf op i x (m + 1) s).ia))) =
      acked i s ((issued op i x (m + 1) s).setCore i.core (afterEntry (found op i x (m + 1) s)
        (nested m 0x20 { code := 0x20, imp := false, addr := 0, iaddr := (envOf op i x (m + 1) s).ia, detail := 0 }
          (found op i x (m + 1) s)))) := by
  have hguard := escalate_enters (code := 0x20)
    { code := 0x20, imp := false, addr := 0, iaddr := (envOf op i x (m + 1) s).ia, detail := 0 } hta
  rw [windowTrap_enters (by rw [envOf_lc, core_issued, trapGuarded_eq, hguard, nested_stopped]), envOf_lc, core_issued,
    trapGuarded_eq, hguard]

/-- R81, R75: at level 0 it stops the core. -/
theorem acked_guard_stops (h : Ready op i x 0 s) :
    acked i s (State.finish op (envOf op i x 0 s) ((issued op i x 0 s).windowTrap (envOf op i x 0 s)
      (fun c => c.trapGuarded 0 (envOf op i x 0 s).ia))) =
      acked i s ((machineStops (issued op i x 0 s) i.core
        { frozenAtZero (found op i x 0 s) with priv := (found op i x 0 s).priv.emptyLoop, due := true }).modCore i.core
          Core.freed) := by
  rw [windowTrap_stops (by rw [envOf_lc, core_issued, found_runs h]) (by rw [envOf_lc, core_issued, trapGuarded_eq, escalate_stops]),
    envOf_lc, core_issued]

end Sys2Proof.LevelProofs
end

section
/-! A trap in a trap, and the traps of the window instructions. -/

namespace Sys2Proof.LevelProofs

open Sys2Proof Sys2Proof.Machine Sys2Proof.Slice0

variable {op : OpInfo} {i : Ins} {x l : Nat} {s : State}

/-- R73: the levels after a trap in a trap. -/
theorem nested_level_same (m code : Nat) (t : TrapInfo) (c : Core) :
    let u := settledSw m ((settledSw (m + 1) c).modLevel (m + 1) (fun v => { v with run := .frozen }))
    (nested m code t c).level m = { u.level m with
      trapPc := (u.level m).pc
      trapSw := (u.level m).sw
      trapCause := causeWord t code ((u.level m).run == .inactive) (m + 1) (if code = 0x21 then t.code else 0)
      trapAddr := t.addr
      trapIaddr := t.iaddr
      trapBy := (u.level m).dssBy
      sw := swTrap (u.level m).sw
      dssBy := .none
      pc := (u.level m).vector + BitVec.ofNat 64 (0x40 * code)
      run := .active } := by
  intro u
  exact level_modLevel_same _ _ _

/-- An instruction whose whole effect is a trap, at level 0 in a trap. -/
theorem runInsn_trap_stops (h : Ready op i x 0 s) (hta : swTa ((found op i x 0 s).level 0).sw = true) (t : Env → TrapInfo) :
    s.runInsn op i x (fun e s => .trap s (t e)) =
      acked i s (machineStops (issued op i x 0 s) i.core (afterEntry (found op i x 0 s) (frozenAtZero (found op i x 0 s)))) := by
  rw [runInsn_of_ready _ h, acked_trap_stops h hta]

/-- Settles O9: the levels after a trap in a trap, and the two instructions whose whole effect is a trap, at level 0. -/
theorem nestedTrap : Obligations.NestedTrap := by
  refine ⟨fun c m t tpc tsw live htrap hclear => ?_, fun s i o =>
    ⟨fun h hta => congrArg Host.Outcome.next (runInsn_trap_stops h hta _),
      fun h hta => congrArg Host.Outcome.next (runInsn_trap_stops h hta _)⟩⟩
  rw [trapWith_nested t tpc tsw live htrap, escalate_enters t hclear]
  exact ⟨settled_nested_level, nested_level_same m 0x21 t c, fun j hj => level_modLevel_ne _ _ hj⟩

/-! R79 to R81 -/

theorem inWindowHandler_eq_false {v : Level} (h : swTa v.sw = false) : v.inWindowHandler = false := by
  rw [Level.inWindowHandler, h, Bool.false_and]

theorem inWindowHandler_eq_true {v : Level} (h : swTa v.sw = true) (hc : fld v.trapCause 0 8 = 6 ∨ fld v.trapCause 0 8 = 7) :
    v.inWindowHandler = true := by
  rw [Level.inWindowHandler, h, Bool.true_and, Bool.or_eq_true, beq_iff_eq, beq_iff_eq]
  exact hc

/-- R79: a window call at the guard window. -/
theorem callWindow_overflows {t : State} {e : Env} {target : Word} (hta : swTa ((t.core e.lc).level e.lvl).sw = false)
    (hp : (swWp ((t.core e.lc).level e.lvl).sw + 1) % 10 = swWg ((t.core e.lc).level e.lvl).sw) :
    t.callWindow e target = t.windowTrap e (fun c => c.windowOverflow e.lvl (e.trap 0x06 0 0)) := by
  unfold State.callWindow
  exact (if_neg (by rw [inWindowHandler_eq_false hta]; decide)).trans (if_pos hp)

/-- R81: one in a window handler. -/
theorem callWindow_guards {t : State} {e : Env} {target : Word} (hta : ((t.core e.lc).level e.lvl).inWindowHandler = true) :
    t.callWindow e target = t.windowTrap e (fun c => c.trapGuarded e.lvl e.ia) := by
  unfold State.callWindow
  exact if_pos hta

/-- The instruction takes the trap of R79. -/
theorem runInsn_overflows (h : Ready op i x l s) (target : Env → State → Word)
    (hta : swTa ((found op i x l s).level l).sw = false)
    (hp : (swWp ((found op i x l s).level l).sw + 1) % 10 = swWg ((found op i x l s).level l).sw) :
    s.runInsn op i x (fun e s => s.callWindow e (target e s)) =
      afterTrap op i x l s (trapOf (envOf op i x l s) 0x06 0 0)
        (fun v => swSetWg v ((swWg ((found op i x l s).level l).sw + 1) % 10))
        (fun v => swSetWp v ((swWg ((found op i x l s).level l).sw + 1) % 10)) := by
  rw [runInsn_of_ready _ h, callWindow_overflows (by rw [envOf_lc, envOf_lvl, core_issued, hta])
    (by rw [envOf_lc, envOf_lvl, core_issued, hp])]
  exact acked_windowTrap h hta _ _ _ _ rfl

/-- R80: RETW at the guard window takes the trap. -/
theorem retw_underflows (h : Ready Op.retw i 0 l s) (hta : swTa ((found Op.retw i 0 l s).level l).sw = false)
    (hp : (swWp ((found Op.retw i 0 l s).level l).sw + 9) % 10 = swWg ((found Op.retw i 0 l s).level l).sw) :
    exec (.retw i) s = .next (afterTrap Op.retw i 0 l s (trapOf (envOf Op.retw i 0 l s) 0x07 0 0)
      (fun v => swSetWg v ((swWg ((found Op.retw i 0 l s).level l).sw + 9) % 10))
      (fun v => swSetWp v (swWg ((found Op.retw i 0 l s).level l).sw))) := by
  refine congrArg Host.Outcome.next ?_
  rw [runInsn_of_ready _ h]
  dsimp only
  rw [envOf_lc, envOf_lvl, core_issued, if_neg (by rw [inWindowHandler_eq_false hta]; decide), if_pos hp]
  exact acked_windowTrap h hta _ _ _ _ rfl

/-- R81, R73, R75: a window instruction of a window handler, by the state of the next more urgent level. -/
theorem runInsn_guards (h : Ready op i x l s) {body : Env → State → Res}
    (hbody : body (envOf op i x l s) (issued op i x l s) =
      (issued op i x l s).windowTrap (envOf op i x l s) (fun c => c.trapGuarded l (envOf op i x l s).ia)) :
    let c := found op i x l s
    (∀ m, l = m + 1 → swTa (c.level m).sw = false →
      (Host.Outcome.next (s.runInsn op i x body) : Out) = .next (acked i s ((issued op i x l s).setCore i.core (afterEntry c
        (nested m 0x20 { code := 0x20, imp := false, addr := 0, iaddr := (envOf op i x l s).ia, detail := 0 } c))))) ∧
    (l = 0 → (Host.Outcome.next (s.runInsn op i x body) : Out) = .next (acked i s ((machineStops (issued op i x l s) i.core
      { frozenAtZero c with priv := c.priv.emptyLoop, due := true }).modCore i.core
      (fun d => { d with issuedAt := none, stalls := false, given := [] })))) := by
  intro c
  rw [runInsn_of_ready _ h, hbody]
  refine ⟨fun m hm hta => congrArg Host.Outcome.next ?_, fun hl => congrArg Host.Outcome.next ?_⟩
  · subst hm
    exact acked_guard_enters hta
  · subst hl
    exact acked_guard_stops h

/-- Settles O7: the traps of R79 and R80 where TA is clear, and the one guard of R81 for all three instructions. -/
theorem windowTraps : Obligations.WindowTraps := by
  intro s i l
  refine ⟨fun o h hta hp => congrArg Host.Outcome.next (runInsn_overflows h (fun e _ => e.target 0) hta hp),
    fun o h hta hp => congrArg Host.Outcome.next (runInsn_overflows h (fun e s => s.baseReg e e.rd) hta hp),
    retw_underflows, ?_⟩
  intro oj or_ y hy h c hta hc
  have hhandler := inWindowHandler_eq_true hta hc
  obtain rfl | rfl | rfl : y = (.callw i oj, Op.callw, oj.pack) ∨ y = (.callwr i or_, Op.callwr, or_.pack) ∨
      y = (.retw i, Op.retw, 0) := by
    simpa only [List.mem_cons, List.not_mem_nil, or_false] using hy
  · exact runInsn_guards h (callWindow_guards (by rw [envOf_lc, envOf_lvl, core_issued]; exact hhandler))
  · exact runInsn_guards h (callWindow_guards (by rw [envOf_lc, envOf_lvl, core_issued]; exact hhandler))
  · exact runInsn_guards h (if_pos (by rw [envOf_lc, envOf_lvl, core_issued]; exact hhandler))

end Sys2Proof.LevelProofs
end

section
/-! R88, R89, R147: LDM and STM. -/

namespace Sys2Proof.LevelProofs

open Sys2Proof Sys2Proof.Machine Sys2Proof.Slice0

/-- R147: the selected registers, ascending. -/
theorem maskRegs_eq (m : BitVec 32) : maskRegs m.toNat = (List.range 24).filter (fun n => m.getLsbD n) := rfl

theorem toNat_ne_zero {w : Nat} {m : BitVec w} (h : m ≠ 0) : m.toNat ≠ 0 := fun h0 => h (BitVec.eq_of_toNat_eq h0)

/-- An LDM that no event stops. -/
theorem bodyLdm_none (e : Env) (t : State) : bodyLdm none e t = t.blockBase e (fun base =>
    let regs := maskRegs (nfld e.x 16 32)
    blockEnd e 0 true (State.ldm regs e.ra base e (regs.drop (swMpc (t.sw e))) (swMpc (t.sw e)) none t)) := by
  unfold bodyLdm
  simp only [Option.getD_none, Nat.le_refl, decide_true, if_true]

/-- An STM that no event stops. -/
theorem bodyStm_none (e : Env) (t : State) : bodyStm none e t = t.blockBase e (fun base =>
    blockEnd e 0 true (State.stm base e ((maskRegs (nfld e.x 16 32)).drop (swMpc (t.sw e))) (swMpc (t.sw e)) t)) := by
  unfold bodyStm
  simp only [Option.getD_none, Nat.le_refl, if_true]

/-- One register of LDM. -/
theorem ldm_cons {regs ns : List Nat} {ra n k : Nat} {base : Word} {e : Env} {held : Option Word} {u v : State} {bs : List Byte}
    (h : u.load e .ld (base + BitVec.ofNat 64 (8 * k)).toNat 8 = .bytes v bs) :
    State.ldm regs ra base e (n :: ns) k held u =
      if n = ra then State.ldm regs ra base e.clean ns (k + 1) (some (BitVec.ofNat 64 (bytesToNat bs))) v
      else State.ldm regs ra base e.clean ns (k + 1) held (v.modCore e.lc (putReg e n (BitVec.ofNat 64 (bytesToNat bs)))) := by
  rw [State.ldm, h]
  rfl

/-- One register of STM. -/
theorem stm_cons {ns : List Nat} {n k : Nat} {base : Word} {e : Env} {u v : State}
    (h : u.store e (decide (0 < k)) (base + BitVec.ofNat 64 (8 * k)).toNat (wordBytes (register e (u.core e.lc) n)) = .done v) :
    State.stm base e (n :: ns) k u = State.stm base e.clean ns (k + 1) v := by
  rw [State.stm, reg_eq_register, h]

variable {op : OpInfo} {i : Ins} {l : Nat} {s : State} {o : OpsM}

/-- R104, R106: the base register. -/
theorem baseReg_issued : (issued op i o.pack l s).baseReg (envOf op i o.pack l s) (envOf op i o.pack l s).ra =
    baseOf (envOf op i o.pack l s) (found op i o.pack l s) o.ra := by
  rw [ra_envOf_m, State.baseReg, baseOf, reg_eq_register, envOf_lc, core_issued]
  exact if_congr (BitVec.toNat_inj (y := 24)) rfl rfl

section

variable {body : Env → State → Res} {go : Env → State → Word → Res} (hbody : ∀ e t, body e t = t.blockBase e (go e t))
  (h : Ready op i o.pack l s)

include hbody h

/-- R147: nothing is selected. -/
theorem runInsn_block_empty (hmask : o.mask = 0) :
    s.runInsn op i o.pack body =
      after op i o.pack l s (fun _ c => c.modLevel l (fun v => { v with sw := swSetMpc v.sw 0 })) past := by
  have hmpc : (issued op i o.pack l s).setMpc (envOf op i o.pack l s) 0 = (issued op i o.pack l s).setCore i.core
      ((found op i o.pack l s).modLevel l (fun v => { v with sw := swSetMpc v.sw 0 })) := by
    rw [State.setMpc, State.setSw, State.modCore, envOf_lc, envOf_lvl, core_issued]
  rw [runInsn_of_ready _ h, hbody, State.blockBase, mask_envOf_m, if_pos (by rw [hmask]; rfl), hmpc]
  exact acked_done_setCore (fun _ c => c.modLevel l (fun v => { v with sw := swSetMpc v.sw 0 }))

variable (hmask : o.mask ≠ 0)

include hmask

/-- R147: the base is not a multiple of 8. -/
theorem runInsn_block_misaligned
    (hbase : (baseOf (envOf op i o.pack l s) (found op i o.pack l s) o.ra).toNat % 8 ≠ 0)
    (hta : swTa ((found op i o.pack l s).level l).sw = false) :
    s.runInsn op i o.pack body = afterTrap op i o.pack l s (trapOf (envOf op i o.pack l s) 0x05 0
      (baseOf (envOf op i o.pack l s) (found op i o.pack l s) o.ra)) id id := by
  rw [runInsn_of_ready _ h, hbody, State.blockBase, baseReg_issued, mask_envOf_m, if_neg (toNat_ne_zero hmask), if_pos hbase,
    acked_trap h hta]

/-- R88: the transfer runs to its end. -/
theorem runInsn_block_done {t : State}
    (hbase : (baseOf (envOf op i o.pack l s) (found op i o.pack l s) o.ra).toNat % 8 = 0)
    (hgo : go (envOf op i o.pack l s) (issued op i o.pack l s) (baseOf (envOf op i o.pack l s) (found op i o.pack l s) o.ra) =
      blockEnd (envOf op i o.pack l s) 0 true (.done t)) :
    s.runInsn op i o.pack body = afterIn op i o.pack l s (t.setMpc (envOf op i o.pack l s) 0) := by
  rw [runInsn_of_ready _ h, hbody, State.blockBase, baseReg_issued, mask_envOf_m, if_neg (toNat_ne_zero hmask),
    if_neg (not_not_intro hbase), hgo]
  exact acked_done _

end

/-- Settles O15: LDM and STM by their base and mask, and each register of their transfers. -/
theorem blockTransfers : Obligations.BlockTransfers := by
  intro s t i l o
  refine ⟨fun h hm => congrArg Host.Outcome.next (runInsn_block_empty bodyLdm_none h hm),
    fun h hm => congrArg Host.Outcome.next (runInsn_block_empty bodyStm_none h hm), ?_, ?_, ?_,
    fun e base regs ns ra n k held u v bs => ⟨ldm_cons, rfl, fun w => rfl, stm_cons, rfl⟩⟩
  · intro x hx h hm base hbase hta
    obtain rfl | rfl : x = (.ldm i o none, Op.ldm) ∨ x = (.stm i o none, Op.stm) := by
      simpa only [List.mem_cons, List.not_mem_nil, or_false] using hx
    · exact congrArg Host.Outcome.next (runInsn_block_misaligned bodyLdm_none h hm hbase hta)
    · exact congrArg Host.Outcome.next (runInsn_block_misaligned bodyStm_none h hm hbase hta)
  · intro h hm e c regs k hbase hldm
    refine congrArg Host.Outcome.next (runInsn_block_done bodyLdm_none h hm hbase ?_)
    dsimp only
    rw [mask_envOf_m, maskRegs_eq, ra_envOf_m, State.sw, envOf_lc, envOf_lvl, core_issued, hldm]
  · intro h hm e c k hbase hstm
    refine congrArg Host.Outcome.next (runInsn_block_done bodyStm_none h hm hbase ?_)
    rw [mask_envOf_m, maskRegs_eq, State.sw, envOf_lc, envOf_lvl, core_issued, hstm]

end Sys2Proof.LevelProofs
end

section
/-! R58, R60: an event at a level. -/

namespace Sys2Proof.LevelProofs

open Sys2Proof Sys2Proof.Machine Sys2Proof.Slice0

theorem changed_arch (c d : Core) : (c.changed d).arch = c.arch := by
  unfold Core.changed
  split <;> rfl

theorem changed_queue (c d : Core) (j : Nat) : (c.changed d).queue j = c.queue j := by
  unfold Core.changed
  split <;> rfl

/-- The levels are a part of what is architected. -/
theorem deliver_level (c : Core) (l : Nat) (e : Event) (j : Nat) : (c.deliver l e).level j = (c.arrive l e).level j :=
  congrArg (fun a : Arch => a.level j) (changed_arch _ _)

/-- R60: a level that is held, active or frozen queues the event. -/
theorem arrive_queues {c : Core} {l : Nat} (e : Event)
    (h : c.held l = true ∨ (c.level l).run = .active ∨ (c.level l).run = .frozen) :
    c.arrive l e = c.setQueue l (c.queue l ++ [e]) := by
  unfold Core.arrive
  by_cases hheld : c.held l = true
  · exact if_pos hheld
  · rw [if_neg hheld]
    obtain hrun | hrun := h.resolve_left hheld <;> rw [hrun]

/-- R58: an inactive level is entered. -/
theorem arrive_enters {c : Core} {l : Nat} (e : Event) (hheld : c.held l = false) (hrun : (c.level l).run = .inactive) :
    c.arrive l e = (c.modLevel l (fun v => v.enterEvent e)).consume l e false := by
  rw [Core.arrive, hheld, hrun]
  rfl

/-- R58: a waiting level goes on. -/
theorem arrive_wakes {c : Core} {l : Nat} (e : Event) (hheld : c.held l = false) (hrun : (c.level l).run = .waiting) :
    c.arrive l e = (c.modLevel l (fun v => v.wake e)).consume l e false := by
  rw [Core.arrive, hheld, hrun]
  rfl

/-- R201: a level that becomes current finds the loop buffer empty. -/
theorem deliver_loop {c : Core} {l : Nat} {e : Event} (h : (c.deliver l e).current ≠ c.current) :
    (c.deliver l e).priv.loop = none ∧ (c.deliver l e).priv.ring = [] := by
  have hcurrent : (c.deliver l e).current = (c.arrive l e).current :=
    congrArg (fun a : Arch => levelNumbers.find? (fun j => (a.level j).run == .active)) (changed_arch _ _)
  rw [hcurrent] at h
  rw [Core.deliver, Core.changed, if_neg h]
  exact ⟨rfl, rfl⟩

theorem eventAtLevel : EventAtLevel := by
  intro c l e
  refine ⟨fun h => ?_, fun hheld hrun => ?_, fun hheld hrun => ?_, deliver_loop⟩
  · rw [Core.deliver, arrive_queues e h, changed_queue, changed_arch, queue_setQueue_same]
    exact ⟨rfl, fun j hj => (changed_queue _ _ j).trans (queue_setQueue_ne _ _ hj), rfl⟩
  · have hlevel (j : Nat) : (c.deliver l e).level j = (c.modLevel l (fun v => v.enterEvent e)).level j := by
      rw [deliver_level, arrive_enters e hheld hrun]
      rfl
    obtain ⟨hs, hta, hflags⟩ := swEvent_fields (c.level l).sw
    rw [hlevel, level_modLevel_same]
    exact ⟨by simp [Level.enterEvent, Level.entry], rfl, rfl, hs, hta, hflags,
      fun j hj => (hlevel j).trans (level_modLevel_ne _ _ hj)⟩
  · rw [deliver_level, arrive_wakes e hheld hrun]
    exact level_modLevel_same c l (fun v => v.wake e)

end Sys2Proof.LevelProofs
end

section
/-! R64, R67, R68: CUE_RAISE. -/

namespace Sys2Proof.LevelProofs

open Sys2Proof Sys2Proof.Machine Sys2Proof.Slice0

variable {s : State} {who : Master} {v : Word}

theorem regAt_cueRaise : regAt 0x04 0x8200 = some (.CUE_RAISE, 0) := by
  have hblock : regsOfBlock 0x04 = [.CUE_MAP, .CUE_PENDING, .CUE_RAISE] := rfl
  simp [regAt, hblock, regPlace]

theorem findReg_cueRaise : findReg 0x04 0x8200 = some (.CUE_RAISE, 0, 0) := by
  unfold findReg
  rw [if_neg (by omega), if_neg (by omega), regAt_cueRaise]
  rfl

theorem writeCueRaise_base (w : Word) (addr : Nat) : (s.writeCueRaise w addr).pwr.baseOn = s.pwr.baseOn := by
  have hframe : Frame false s (s.writeCueRaise w addr) :=
    Frame.ite (Frame.raise _ _) (Frame.logFault _ (fun hc => nomatch hc))
  exact hframe.base

/-- The address of CUE_RAISE names its device, block and offset. -/
theorem regAddr_cueRaise (hdev : s.devnum < 32) : s.regAddr .CUE_RAISE 0 0 % 2 ^ 32 = s.regAddr .CUE_RAISE 0 0 ∧
    s.regAddr .CUE_RAISE 0 0 / 2 ^ 27 = s.devnum ∧ s.regAddr .CUE_RAISE 0 0 / 2 ^ 20 % 128 = 0x04 ∧
    s.regAddr .CUE_RAISE 0 0 % 2 ^ 20 = 0x8200 := by
  have haddr : s.regAddr .CUE_RAISE 0 0 = s.devnum * 2 ^ 27 + 4 * 2 ^ 20 + 0x8200 := by
    simp [State.regAddr, regPlace]
  rw [haddr]
  omega

/-- The access reaches the register. -/
theorem ioAt_cueRaise (h : Hears s who .CUE_RAISE 0 0) (v : Word) :
    s.ioAt who (s.regAddr .CUE_RAISE 0 0) (some v) .none = s.writeCueRaise v (s.regAddr .CUE_RAISE 0 0) := by
  obtain ⟨-, -, hdev, -, -, hpower, hreset⟩ := h
  obtain ⟨-, -, hblk, hoff⟩ := regAddr_cueRaise hdev
  have hpower4 : s.powered 0x04 0x8200 = true := hpower
  have hreset4 : s.inReset 0x04 = false := hreset
  unfold State.ioAt
  rw [hblk, hoff]
  dsimp only
  rw [hpower4, hreset4, State.regAccess, show (decide (0x80000 ≤ 0x8200)) = false from rfl, Bool.false_and]
  dsimp only
  rw [if_neg (by decide), if_neg (by decide), if_neg (by decide), if_neg (by decide), findReg_cueRaise]
  rfl

/-- R64: CUE_RAISE does what its register does. -/
theorem cueRaise_writes (h : Hears s who .CUE_RAISE 0 0) (v : Word) :
    exec (.cueRaise who v) s = .next (s.writeCueRaise v (s.regAddr .CUE_RAISE 0 0)) := by
  have hio := ioAt_cueRaise h v
  obtain ⟨hreach, hdown, hdev, hunit, hcount, -, -⟩ := h
  obtain ⟨hmod, hdiv, -, -⟩ := regAddr_cueRaise hdev
  refine congrArg Host.Outcome.next ?_
  rw [hdown, if_neg (by decide)]
  show s.writeReg who .CUE_RAISE 0 0 v = _
  rw [State.writeReg.eq_def, if_pos ⟨hunit, hcount⟩, State.ioAccess]
  rw [hmod, hdiv, hreach, if_neg (by decide), if_pos (Or.inr rfl), State.ioHere]
  rw [hio, writeCueRaise_base, Bool.and_not_self]
  rfl

/-- R67: of a source that software may raise. -/
theorem cueRaise_raises (h : Hears s who .CUE_RAISE 0 0) (hsrc : inRange 0x400 0x500 (fld v 0 12) = true) :
    exec (.cueRaise who v) s = .next (s.raise (fld v 0 12) (fld v 32 32)) := by
  rw [cueRaise_writes h, State.writeCueRaise, hsrc]
  rfl

/-- R67: of another. -/
theorem cueRaise_refused (h : Hears s who .CUE_RAISE 0 0) (hsrc : inRange 0x400 0x500 (fld v 0 12) = false) :
    exec (.cueRaise who v) s = .next (s.logFault (s.fault 0x04 0 0x007 1 2 (s.regAddr .CUE_RAISE 0 0))) := by
  rw [cueRaise_writes h, State.writeCueRaise, hsrc]
  rfl

/-- An event that makes no source absent is raised, and nothing more. -/
theorem raise_eq {src word : Nat} {t : State} (h : s.raiseOne src word = (t, false)) : s.raise src word = t := by
  obtain ⟨n, hn⟩ : ∃ n, s.reportFuel = n + 2 := Nat.exists_eq_add_of_le' (by unfold State.reportFuel; omega)
  rw [State.raise, hn, State.report, h]
  rfl

/-- R68: an event of a source of which none is known, whose core is there, becomes pending at the end of the order. -/
theorem raise_pends {src word : Nat} (hsrc : mapGet? s.cue.srcs src = none) (hcore : s.queuedAt src = none)
    (hthere : s.coreAbsent (s.srcCore src) = false) :
    s.raise src word = { s with cue := { srcs := mapSet s.cue.srcs src ⟨1, word, false⟩, order := s.cue.order ++ [src] } } :=
  raise_eq (by simp only [State.raiseOne, hsrc, hcore, hthere])

/-- R68: one of a source that is pending at the cue unit merges into it. -/
theorem raise_merges {src word : Nat} {c : CueSrc} (hsrc : mapGet? s.cue.srcs src = some c) :
    s.raise src word = { s with cue := { s.cue with
      srcs := mapSet s.cue.srcs src { c with count := min 255 (c.count + 1), word := word } } } := by
  have hcount : satAdd 8 c.count 1 = min 255 (c.count + 1) := rfl
  exact raise_eq (by simp only [State.raiseOne, hsrc, hcount])

/-- R68: one of a source whose event waits at a core merges there. -/
theorem raise_merges_at {src word lc : Nat} (hsrc : mapGet? s.cue.srcs src = none) (hcore : s.queuedAt src = some lc) :
    s.raise src word = s.modCore lc (fun d => d.mergeAt src word) :=
  raise_eq (by simp only [State.raiseOne, hsrc, hcore])

end Sys2Proof.LevelProofs
end

section
/-! R58, R66, R461, R473: EVENT_DELIVERY. -/

namespace Sys2Proof.LevelProofs

open Sys2Proof Sys2Proof.Machine Sys2Proof.Slice0

variable {s : State} {src : Nat}

theorem eventDelivery_eq (hdown : s.down = false) : exec (.eventDelivery src) s = .next (s.deliverEvent src) := by
  refine congrArg Host.Outcome.next ?_
  rw [hdown]
  rfl

/-- R66, R68, R473: what keeps a pending event at the cue unit. -/
theorem deliverEvent_keeps (h : mapGet? s.cue.srcs src = none ∨ s.posOf (s.srcCore src) = none ∨
    s.fbit F.CUE_MAP_ENABLE 0 src = false ∨
    s.coreAbsent (s.srcCore src) = true ∨ s.pwr.baseOn = false ∨
    (∃ q, s.posOf (s.srcCore src) = some q ∧ s.domState (2 * q) = domStopping)) : s.deliverEvent src = s := by
  rw [State.deliverEvent]
  split
  · next c q hsrc hpos =>
    refine if_pos ?_
    obtain h | h | h | h | h | ⟨q', hq', h⟩ := h
    · rw [hsrc] at h; cases h
    · rw [hpos] at h; cases h
    · simp [h]
    · simp [h]
    · simp [h]
    · rw [hpos] at hq'
      cases hq'
      simp [h]
  · rfl

section

variable {q : Nat} {c : CueSrc} (hsrc : mapGet? s.cue.srcs src = some c) (hpos : s.posOf (s.srcCore src) = some q)
  (henable : s.fbit F.CUE_MAP_ENABLE 0 src = true) (hthere : s.coreAbsent (s.srcCore src) = false) (hbase : s.pwr.baseOn = true)
  (hdomain : s.domState (2 * q) ≠ domStopping)

include hsrc hpos henable hthere hbase hdomain

/-- R461: for a pair that is off. -/
theorem deliverEvent_wakes (hoff : (s.pair q).st = .off) : s.deliverEvent src = s.endRest.wake (2 * q) 1 := by
  rw [State.deliverEvent]
  rw [hsrc, hpos]
  dsimp only
  rw [if_neg (by simp [henable, hthere, hbase, hdomain]), hoff]
  rfl

/-- R58: to a core of a pair that runs. -/
theorem deliverEvent_goes (hon : (s.pair q).st ≠ .off) (hruns : (s.pair q).runs (s.srcCore src) = true) (hfatal : s.flt.fatal = false) :
    s.deliverEvent src = s.eventTo q (s.srcCore src) src ⟨src, c.count, c.word⟩ := by
  rw [State.deliverEvent]
  rw [hsrc, hpos]
  dsimp only
  rw [if_neg (by simp [henable, hthere, hbase, hdomain]), if_neg (by simp [hon]), hruns, hfatal]
  rfl

end

theorem cueEvents : CueEvents := by
  intro s
  refine ⟨fun who v h hv hsrc hcore hthere => ?_, fun who v c h hv hsrc => ?_,
    fun who v h hv => ⟨cueRaise_raises h hv, fun lc hsrc hcore => ?_⟩, fun who v h hv => cueRaise_refused h hv,
    fun src q c hdown hsrc hpos henable hthere hbase hdomain hoff => ?_, fun src h => ?_, ?_⟩
  · rw [cueRaise_raises h hv, raise_pends hsrc hcore hthere]
  · rw [cueRaise_raises h hv, raise_merges hsrc]
  · rw [cueRaise_raises h hv, raise_merges_at hsrc hcore]
  · rw [eventDelivery_eq hdown, deliverEvent_wakes hsrc hpos henable hthere hbase hdomain hoff]
  · refine congrArg Host.Outcome.next ?_
    dsimp only
    rw [deliverEvent_keeps h, ite_self]
  · intro src q c hdown hsrc hpos henable hthere hbase hdomain hon hruns hfatal taken
    rw [eventDelivery_eq hdown, deliverEvent_goes hsrc hpos henable hthere hbase hdomain hon hruns hfatal]
    refine ⟨fun hchecks => ?_, fun hchecks hbusy => ?_, fun hchecks hbusy => ?_⟩
    · rw [State.eventTo, hchecks]
      rfl
    · rw [State.eventTo, hchecks, hbusy]
      rfl
    · rw [State.eventTo, hchecks, hbusy]
      rfl

/-- Settles O35: events at a level, and at the cue unit. -/
theorem events : Obligations.Events := ⟨eventAtLevel, cueEvents⟩

end Sys2Proof.LevelProofs
end

section
/-! R84, R87: the switch of the floating-point file. -/

namespace Sys2Proof.LevelProofs

open Sys2Proof Sys2Proof.Machine Sys2Proof.Slice0

/-- R84: the owner, once a switch has ended. -/
theorem fpOwner_setOwner (c : Core) {n : Nat} (h : n < 16) (busy saved : Bool) : ((c.setOwner n).fpMark busy saved).fpOwner = n := by
  show fld (setFld (setFld c.arch.lvlCtl 8 4 n) 13 1 (b2n busy)) 8 4 = n
  rw [fld_setFld_apart _ (by decide) (by decide), fld_setFld _ _ _ _ (by decide)]
  exact Nat.mod_eq_of_lt h

/-- R84: a switch that goes through makes the level the owner. -/
theorem fpSwitch_owner {s t : State} {e : Env} {n : Nat} (hn : n < 8) (h : s.fpSwitch e n = .ok t) : (t.core e.lc).fpOwner = n := by
  have hends (u : State) (f : Core → Core) (hu : Switched.ok (u.modCore e.lc (fun c => ((f c).setOwner n).fpMark false false)) = .ok t) :
      (t.core e.lc).fpOwner = n := by
    cases hu
    rw [State.core_modCore]
    exact fpOwner_setOwner _ (by omega) _ _
  unfold State.fpSwitch at h
  extract_lets s0 ends at h
  split at h
  · cases h
  · next s1 _ =>
    rw [if_neg (by omega)] at h
    split at h
    · split at h
      · cases h
      · cases h
      · cases h
      · exact hends _ _ h
    · exact hends _ _ h

/-- R87: a save that has an internal error stops the core. -/
theorem fpSwitch_fails {s : State} {e : Env} {lc n : Nat} (hlc : e.lc = lc) (hmet : e.met.save = true)
    (howner : (s.core lc).fpOwner < 8) (hsaved : (s.core lc).arch.fpSaved = false) :
    s.fpSwitch e n =
      .stop (.ended ((s.modCore lc (fun c => (c.completeAll (fun p => p.isFp)).fpMark false false)).machineCheck lc)) := by
  subst hlc
  have hsettled : Settled (s.core e.lc) ((s.core e.lc).completeAll (fun p => p.isFp)) := Settled.completeAll _ _
  have hstep : (s.modCore e.lc (fun c => c.completeAll (fun p => p.isFp))).fpSaveStep e (s.core e.lc).fpOwner =
      .stop (.ended ((s.modCore e.lc (fun c => (c.completeAll (fun p => p.isFp)).fpMark false false)).machineCheck e.lc)) := by
    unfold State.fpSaveStep
    rw [State.core_modCore, hsettled.fpSaved, hsaved, hmet, modCore_modCore]
    dsimp only
    rw [if_neg (by simpa using howner)]
    rfl
  unfold State.fpSwitch
  dsimp only
  rw [State.core_modCore, hsettled.fpOwner, hstep]

section

variable {s : State} {lc l : Nat} (hcan : s.canIssue lc = true) (hcurrent : (s.core lc).current = some l)
  (howner : (s.core lc).fpOwner ≠ l) (hlazy : bitOf (s.core lc).arch.lvlCtl 12 = false) (hbusy : (s.core lc).fpBusy = false)
  (hexc : (s.core lc).deliverable l = none)

include hcan hcurrent howner hlazy hbusy hexc

/-- R84: FP_SWITCH of a core whose current level needs the file, where the switch goes through. -/
theorem fpSwitchNow_ok {f : Bool} {t : State}
    (hswitch : s.fpSwitch (mkEnv lc l (s.core lc) Op.nop [] { Met.none with save := f } [] 0) l = .ok t) : s.fpSwitchNow lc f = t := by
  rw [State.fpSwitchNow, hcan, hcurrent]
  dsimp only
  rw [if_neg (by simp [howner, hlazy, hbusy, hexc]), hswitch]

/-- R84, R87: the same where it stops. -/
theorem fpSwitchNow_stop {f : Bool} {r : Res}
    (hswitch : s.fpSwitch (mkEnv lc l (s.core lc) Op.nop [] { Met.none with save := f } [] 0) l = .stop r) :
    s.fpSwitchNow lc f = State.finish Op.nop (mkEnv lc l (s.core lc) Op.nop [] { Met.none with save := f } [] 0) r := by
  rw [State.fpSwitchNow, hcan, hcurrent]
  dsimp only
  rw [if_neg (by simp [howner, hlazy, hbusy, hexc]), hswitch]

end

end Sys2Proof.LevelProofs
end

section
/-! R90, R91: long operations and the imprecise exceptions that they leave. -/

namespace Sys2Proof.LevelProofs

open Sys2Proof Sys2Proof.Machine Sys2Proof.Slice0

/-- R90: one operation completes. -/
theorem completeAt_eq {c : Core} {l k : Nat} {op : LongOp} (hop : (c.level l).ops[k]? = some op) (hdone : op.done = false) :
    c.completeAt l k = (c.applyOp l op).modLevel l (fun v => { v with
      ops := v.ops.take k ++ (if op.exc.isSome then [{ op with done := true }] else []) ++ v.ops.drop (k + 1) }) := by
  have hlist : op.settle.toList = if op.exc.isSome then [{ op with done := true }] else [] := by
    rw [LongOp.settle]
    split <;> rfl
  rw [Core.completeAt, hop]
  dsimp only
  rw [hdone, hlist]
  rfl

/-- R91: only a level whose TA is clear has an exception that comes first. -/
theorem comesFirst_ta {s : State} {lc l : Nat} {x : TrapInfo} (h : s.comesFirst lc l = some x) :
    swTa ((s.core lc).level l).sw = false := by
  rw [State.comesFirst] at h
  split at h
  · cases h
  · rw [Core.deliverable] at h
    split at h
    · cases h
    · next hta => exact Bool.eq_false_of_not_eq_true hta

/-- R91: the core at which an imprecise exception is delivered. -/
theorem deliverAt_eq {s : State} {lc l : Nat} (x : TrapInfo) (pc : Word) (hta : swTa ((s.core lc).level l).sw = false)
    (hrun : ((s.core lc).level l).run = .active) :
    s.deliverAt lc l x pc = s.setCore lc (trapped l { x with imp := true } pc id id
      ((serialized l (s.core lc)).modLevel l (fun v => { v with ops := v.ops.drop 1 }))) := by
  have hsettled : Settled (s.core lc) ((serialized l (s.core lc)).modLevel l (fun v => { v with ops := v.ops.drop 1 })) :=
    (settled_serialized l _).trans (Settled.modLevel _ l _ ⟨rfl, rfl⟩)
  have hentry : trapped l { x with imp := true } pc id id
      ((serialized l (s.core lc)).modLevel l (fun v => { v with ops := v.ops.drop 1 })) =
      afterEntry (s.core lc) ((s.core lc).deliverExc l x pc) := by
    rw [trapped_eq _ _ _ _ ((hsettled.ta l).trans hta) ((hsettled.run l).trans hrun), afterEntry, hsettled.priv]
    rfl
  rw [hentry]
  refine putCore_eq_setCore s lc (afterEntry (s.core lc) ((s.core lc).deliverExc l x pc)) ?_
  rw [← hentry, trapped_stopped, hsettled.stopped]

/-- R91: at the boundary before the level's next instruction. -/
theorem imprecise_eq {s : State} {lc l : Nat} {x : TrapInfo} (hcan : s.canIssue lc = true) (hgoes : (s.boundary lc).2 = true)
    (hstill : (s.boundary lc).1.canIssue lc = true) (hcurrent : ((s.boundary lc).1.core lc).current = some l)
    (hfirst : (s.boundary lc).1.comesFirst lc l = some x) :
    s.imprecise lc = (s.boundary lc).1.deliverAt lc l x (((s.boundary lc).1.core lc).level l).pc := by
  have hboundary : s.boundary lc = ((s.boundary lc).1, true) := Prod.ext rfl hgoes
  rw [State.imprecise, State.atBoundary, if_pos hcan, hboundary]
  dsimp only
  rw [hstill, hcurrent]
  dsimp only
  rw [hfirst]

end Sys2Proof.LevelProofs
end

section
/-! R212, R211, R252: stores drain, and what has been retired commits. -/

namespace Sys2Proof.LevelProofs

open Sys2Proof Sys2Proof.Machine Sys2Proof.Slice0

variable {s : State} {lc : Nat}

/-- R212, R211: the oldest entry leaves the store buffer. -/
theorem storeDrain_eq {e : SbEntry} {es : List SbEntry} {t : State} (hfatal : s.flt.fatal = false) (hsb : (s.core lc).sb = e :: es)
    (hkept : e.kept = true) :
    let lines := linesOf e.addr e.bytes.length
    (lines.foldl State.mcAccess s).readyWrite (.core lc) false lines = (t, true) →
    let u := (t.modCore lc (fun c => { c with sb := es })).storeBytes (.core lc) e.addr e.bytes
    s.storeDrain lc = if e.nt && (e.cold || s.coldLine lines) then lines.foldl State.toLru u else u := by
  intro lines hready u
  rw [State.storeDrain, hfatal, if_neg (by decide), State.drainOne, hsb]
  dsimp only
  rw [hkept, if_neg (by decide), hready]
  rfl

/-- R262: no planned cut-in follows a commit of a pair that has none. -/
theorem afterCommit_eq {c : Core} (hsplit : c.split = (s.core lc).split)
    (hplan : ∀ q, s.posOf lc = some q → (s.pair q).need ≠ some causeSoftware) : (s.setCore lc c).afterCommit lc = s.setCore lc c := by
  rw [State.afterCommit, posOf_setCore s lc lc c hsplit]
  split
  · next q hq =>
    have hplanned : ((s.setCore lc c).pair q).planned = false := by
      have hneed : (((s.setCore lc c).pair q).need == some 8) = false := beq_false_of_ne (hplan q hq)
      rw [PairPos.planned, hneed, Bool.false_and]
    rw [State.plannedContain, hplanned, Bool.false_and, Bool.false_and]
    rfl
  · rfl

/-- R252: everything that the core has retired commits. -/
theorem commit_eq (hacts : (s.core lc).acts = []) (hplan : ∀ q, s.posOf lc = some q → (s.pair q).need ≠ some causeSoftware) :
    s.commit lc = s.setCore lc { (s.core lc).commitArch with acts := [] } := by
  rw [State.commit]
  dsimp only
  rw [hacts, List.foldl_nil]
  exact afterCommit_eq rfl hplan

/-- R252: what of the core a commit of a group writes and leaves. -/
theorem commitGroup_fields (c : Core) (g : Group) : (c.commitGroup g).ckpt = g.arch.settled ∧ (c.commitGroup g).base = g.last ∧
    (c.commitGroup g).split = c.split ∧ { c.commitGroup g with acts := c.acts } = c.commitGroup g := by
  unfold Core.commitGroup
  exact ⟨rfl, rfl, rfl, rfl⟩

/-- R252: a group commits whose acts stay. -/
theorem commitGroup_eq {g : Group} (hacts : ∀ a ∈ (s.core lc).acts, g.last ≤ a.1)
    (hplan : ∀ q, s.posOf lc = some q → (s.pair q).need ≠ some causeSoftware) :
    s.commitGroup lc g = s.setCore lc ((s.core lc).commitGroup g) := by
  have hkeep : (s.core lc).acts.filter (fun a => g.last ≤ a.1) = (s.core lc).acts :=
    List.filter_eq_self.mpr (fun a ha => decide_eq_true (hacts a ha))
  have hnone : (s.core lc).acts.filter (fun a => a.1 < g.last) = [] :=
    List.filter_eq_nil_iff.mpr (fun a ha => by simpa using hacts a ha)
  obtain ⟨-, -, hsplit, heta⟩ := commitGroup_fields (s.core lc) g
  rw [State.commitGroup]
  dsimp only
  rw [hkeep, hnone, List.foldl_nil, heta]
  exact afterCommit_eq hsplit hplan

end Sys2Proof.LevelProofs
end

section
/-! R84 to R91, R212, R252: the steps of a core as commands. -/

namespace Sys2Proof.LevelProofs

open Sys2Proof Sys2Proof.Machine Sys2Proof.Slice0

/-- Settles O40: each step's own rule, above. -/
theorem coreSteps : Obligations.CoreSteps := by
  intro s lc l hdown
  have hrun (f : State → State) : s.run f = .next (f s) := by
    rw [State.run, hdown]
    rfl
  refine ⟨fun hcan hcurrent howner hlazy hbusy hexc => ⟨fun t f hswitch => ?_, fun howned hsaved => ?_⟩,
    fun k op hruns hl hop hdone => ?_, fun x hcan hgoes hstill hcurrent hfirst => ?_, fun e es t hfatal hsb hkept hready => ?_,
    fun hruns hplan => ⟨fun hgroups hcommit hacts => ?_, fun g gs hgroups hready hacts => ?_⟩⟩
  · refine ⟨(hrun (fun s => s.fpSwitchNow lc f)).trans (congrArg Host.Outcome.next ?_),
      fpSwitch_owner (current_some hcurrent).1 hswitch⟩
    exact fpSwitchNow_ok hcan hcurrent howner hlazy hbusy hexc hswitch
  · refine (hrun (fun s => s.fpSwitchNow lc true)).trans (congrArg Host.Outcome.next ?_)
    have hstop := fpSwitchNow_stop hcan hcurrent howner hlazy hbusy hexc (fpSwitch_fails rfl rfl howned hsaved)
    exact hstop.trans (finish_ended _ _)
  · refine (hrun (fun s => s.longOpDone lc l k)).trans (congrArg Host.Outcome.next ?_)
    rw [State.longOpDone, if_pos ⟨hruns, hl⟩, State.modCore, completeAt_eq hop hdone]
  · refine (hrun (fun s => s.imprecise lc)).trans (congrArg Host.Outcome.next ?_)
    rw [imprecise_eq hcan hgoes hstill hcurrent hfirst, deliverAt_eq x _ (comesFirst_ta hfirst) (current_some hcurrent).2]
  · exact (hrun (fun s => s.storeDrain lc)).trans (congrArg Host.Outcome.next (storeDrain_eq hfatal hsb hkept hready))
  · refine ⟨(hrun (fun s => s.groupCommit lc)).trans (congrArg Host.Outcome.next ?_), rfl⟩
    dsimp only
    rw [State.groupCommit, if_pos hruns, hgroups]
    dsimp only
    rw [if_pos hcommit, commit_eq hacts hplan]
  · obtain ⟨hckpt, hbase, -, -⟩ := commitGroup_fields (s.core lc) g
    refine ⟨(hrun (fun s => s.groupCommit lc)).trans (congrArg Host.Outcome.next ?_), hckpt, hbase⟩
    rw [State.groupCommit, if_pos hruns, hgroups]
    dsimp only
    rw [if_pos hready, commitGroup_eq hacts hplan]

end Sys2Proof.LevelProofs
end

section
/-! R104 to R106: the operand fields of the layouts as an instruction finds them, and the values that they name. -/

namespace Sys2Proof.IntegerProofs

open Sys2Proof Sys2Proof.Machine Sys2Proof.Slice0 Sys2Proof.LevelProofs

theorem nfld_pack_rrr (o : OpsRRR) : nfld o.pack 0 5 = o.rd.toNat ∧ nfld o.pack 5 5 = o.ra.toNat ∧ nfld o.pack 10 5 = o.rb.toNat := by
  have h1 := o.rd.isLt
  have h2 := o.ra.isLt
  have h3 := o.rb.isLt
  unfold nfld OpsRRR.pack
  omega

theorem nfld_pack_ri (o : OpsRI) : nfld o.pack 0 5 = o.rd.toNat ∧ nfld o.pack 5 5 = o.ra.toNat ∧ o.pack / 2 ^ 10 = o.imm.toNat := by
  have h1 := o.rd.isLt
  have h2 := o.ra.isLt
  unfold nfld OpsRI.pack
  omega

theorem nfld_pack_ri32 (o : OpsRI32) :
    nfld o.pack 0 5 = o.rd.toNat ∧ nfld o.pack 5 5 = o.ra.toNat ∧ o.pack / 2 ^ 16 = o.imm.toNat := by
  have h1 := o.rd.isLt
  have h2 := o.ra.isLt
  have h3 := o.rsv.isLt
  unfold nfld OpsRI32.pack
  omega

theorem nfld_pack_rri32 (o : OpsRRI32) :
    nfld o.pack 0 5 = o.rd.toNat ∧ nfld o.pack 5 5 = o.ra.toNat ∧ nfld o.pack 10 5 = o.rb.toNat ∧
      nfld o.pack 15 2 = o.scale.toNat ∧ o.pack / 2 ^ 32 = o.imm.toNat := by
  have h1 := o.rd.isLt
  have h2 := o.ra.isLt
  have h3 := o.rb.isLt
  have h4 := o.scale.isLt
  have h5 := o.rsv.isLt
  unfold nfld OpsRRI32.pack
  omega

theorem nfld_pack_jc (o : OpsJC) : nfld o.pack 0 4 = o.cond.toNat ∧ o.pack / 2 ^ 16 = o.disp.toNat := by
  have h1 := o.cond.isLt
  have h2 := o.rsv.isLt
  unfold nfld OpsJC.pack
  omega

theorem nfld_pack_r (o : OpsR) : nfld o.pack 0 5 = o.ra.toNat := by
  have h := o.ra.isLt
  unfold nfld OpsR.pack
  omega

variable {op : OpInfo} {i : Ins} {x l : Nat} {s : State}

@[simp] theorem rd_envOf_rrr (o : OpsRRR) : (envOf op i o.pack l s).rd = o.rd.toNat := (nfld_pack_rrr o).1
@[simp] theorem ra_envOf_rrr (o : OpsRRR) : (envOf op i o.pack l s).ra = o.ra.toNat := (nfld_pack_rrr o).2.1
@[simp] theorem rb_envOf_rrr (o : OpsRRR) : (envOf op i o.pack l s).rb = o.rb.toNat := (nfld_pack_rrr o).2.2
@[simp] theorem rd_envOf_ri (o : OpsRI) : (envOf op i o.pack l s).rd = o.rd.toNat := (nfld_pack_ri o).1
@[simp] theorem ra_envOf_ri (o : OpsRI) : (envOf op i o.pack l s).ra = o.ra.toNat := (nfld_pack_ri o).2.1
@[simp] theorem rd_envOf_ri32 (o : OpsRI32) : (envOf op i o.pack l s).rd = o.rd.toNat := (nfld_pack_ri32 o).1
@[simp] theorem ra_envOf_ri32 (o : OpsRI32) : (envOf op i o.pack l s).ra = o.ra.toNat := (nfld_pack_ri32 o).2.1
@[simp] theorem rd_envOf_rri32 (o : OpsRRI32) : (envOf op i o.pack l s).rd = o.rd.toNat := (nfld_pack_rri32 o).1
@[simp] theorem ra_envOf_rri32 (o : OpsRRI32) : (envOf op i o.pack l s).ra = o.ra.toNat := (nfld_pack_rri32 o).2.1
@[simp] theorem rb_envOf_rri32 (o : OpsRRI32) : (envOf op i o.pack l s).rb = o.rb.toNat := (nfld_pack_rri32 o).2.2.1
/-- Layout R holds its base register where the other layouts hold rd. -/
@[simp] theorem rd_envOf_r (o : OpsR) : (envOf op i o.pack l s).rd = o.ra.toNat := nfld_pack_r o

/-- R105: what the model computes by sign extension of a field. -/
theorem signedOf_toNat {w : Nat} (a : BitVec w) : signedOf w a.toNat = a.toInt := by
  rw [signedOf, Nat.mod_eq_of_lt a.isLt, BitVec.toInt_eq_toNat_cond]
  have hw : a.toNat < 2 ^ (w - 1) ↔ 2 * a.toNat < 2 ^ w := by
    cases w with
    | zero => have h := a.isLt; rw [pow_zero] at h; omega
    | succ w => rw [Nat.add_sub_cancel, pow_succ]; omega
  exact if_congr hw rfl rfl

theorem signedOf_eq_toInt (w x : Nat) : signedOf w x = (BitVec.ofNat w x).toInt := by
  rw [← signedOf_toNat, BitVec.toNat_ofNat, signedOf, signedOf, Nat.mod_mod]

theorem sextWord_eq (n x : Nat) : sextWord n x = (BitVec.ofNat n x).signExtend 64 := by
  rw [sextWord, signedOf_eq_toInt, BitVec.signExtend]

/-- R105: the immediate or displacement of a wide layout. -/
theorem immAt_eq_displacement {lo : Nat} {d : BitVec 64} (h : x / 2 ^ lo = d.toNat) :
    (envOf op i x l s).immAt lo = displacement (envOf op i x l s) d := by
  rw [Env.immAt, displacement, envOf_x, h, sextWord_eq, BitVec.ofNat_toNat, BitVec.ofNat_toNat, BitVec.setWidth_eq]

theorem immRI_envOf (o : OpsRI) : (envOf op i o.pack l s).immRI = o.imm.signExtend 64 := by
  rw [Env.immRI, envOf_x, (nfld_pack_ri o).2.2, sextWord_eq, BitVec.ofNat_toNat, BitVec.setWidth_eq]

/-- R101, R105: the immediate of either form, at the instruction's width. -/
theorem immOperand_ri (o : OpsRI) : (envOf op i o.pack l s).immOperand false = (immediate (envOf op i o.pack l s) (.ri o)).toNat := by
  rw [Env.immOperand, if_neg (by decide), immRI_envOf, immediate, BitVec.toNat_setWidth]

theorem immOperand_ri32 (o : OpsRI32) :
    (envOf op i o.pack l s).immOperand true = (immediate (envOf op i o.pack l s) (.ri32 o)).toNat := by
  rw [Env.immOperand, if_pos rfl, immAt_eq_displacement (nfld_pack_ri32 o).2.2, immediate, BitVec.toNat_setWidth, displacement]

theorem target_envOf_j (o : OpsJ) :
    (envOf op i o.pack l s).target 0 = (envOf op i o.pack l s).ia + displacement (envOf op i o.pack l s) o.disp := by
  have h : o.pack / 2 ^ 0 = o.disp.toNat := by rw [pow_zero, Nat.div_one, OpsJ.pack]
  rw [Env.target, immAt_eq_displacement h]

theorem target_envOf_jc (o : OpsJC) :
    (envOf op i o.pack l s).target 16 = (envOf op i o.pack l s).ia + displacement (envOf op i o.pack l s) o.disp := by
  rw [Env.target, immAt_eq_displacement (nfld_pack_jc o).2]

/-- R104, R106: a base register. -/
theorem baseReg_eq_baseOf (t : State) (e : Env) (n : BitVec 5) : t.baseReg e n.toNat = baseOf e (t.core e.lc) n := by
  rw [State.baseReg, baseOf, reg_eq_register]
  exact if_congr (BitVec.toNat_inj (y := 24)) rfl rfl

/-- R106: the effective address of layout RI, of a base that is read in any state. -/
theorem eaRI_eq (t : State) (o : OpsRI) :
    t.eaRI (envOf op i o.pack l s) = baseOf (envOf op i o.pack l s) (t.core i.core) o.ra + o.imm.signExtend 64 := by
  rw [State.eaRI, ra_envOf_ri, baseReg_eq_baseOf, immRI_envOf, envOf_lc]

/-- R106: the effective address of layout RRI32. -/
theorem eaRRI_eq (t : State) (o : OpsRRI32) :
    t.eaRRI (envOf op i o.pack l s) = baseOf (envOf op i o.pack l s) (t.core i.core) o.ra +
      (register (envOf op i o.pack l s) (t.core i.core) o.rb.toNat <<< o.scale.toNat) +
      displacement (envOf op i o.pack l s) o.imm := by
  obtain ⟨-, -, -, hscale, himm⟩ := nfld_pack_rri32 o
  have hshift (w : Word) (n : Nat) : BitVec.ofNat 64 (w.toNat * 2 ^ n) = w <<< n := by
    apply BitVec.eq_of_toNat_eq
    rw [BitVec.toNat_ofNat, BitVec.toNat_shiftLeft, Nat.shiftLeft_eq]
  rw [State.eaRRI, ra_envOf_rri32, rb_envOf_rri32, baseReg_eq_baseOf, immAt_eq_displacement himm, envOf_x, hscale, reg_eq_register,
    hshift, envOf_lc]

/-- R101: a source operand, as a number and as bits. -/
theorem src_eq_operand (t : State) (e : Env) (n : BitVec 5) : t.src e n.toNat = (operand e (t.core e.lc) n).toNat :=
  (BitVec.toNat_setWidth _ _).symm

/-! What the decoder has checked -/

/-- R102: the operand checks of an instruction that the decoder accepts. -/
theorem checks_pass {sup : Bool} (h : decodeCheck op i.pfx x sup = none) : ∀ c ∈ op.checks, c.fails (pfxW32 i.pfx) x = none := by
  have hcs (cs : List Chk) (hf : checksFail (pfxW32 i.pfx) x cs = none) : ∀ c ∈ cs, c.fails (pfxW32 i.pfx) x = none := by
    induction cs with
    | nil => exact fun _ hc => nomatch hc
    | cons c cs ih =>
      cases hfirst : c.fails (pfxW32 i.pfx) x with
      | some a => rw [checksFail, hfirst] at hf; cases hrest : checksFail (pfxW32 i.pfx) x cs <;> rw [hrest] at hf <;> cases hf
      | none =>
        rw [checksFail, hfirst] at hf
        exact List.forall_mem_cons.mpr ⟨hfirst, ih hf⟩
  rw [decodeCheck] at h
  split at h
  · cases h
  · split at h
    · cases h
    · next hnone => exact hcs op.checks hnone

/-- R100: an opcode that refuses W32 runs at width 64. -/
theorem width_of_refuses (h : Ready op i x l s) (hop : op.w32 = false) : (envOf op i x l s).width = 64 := by
  obtain ⟨-, -, -, -, -, -, hdecode, -⟩ := h
  have hrefused (pfx : List Pfx) (off : Nat) (hr : pfxRefused op pfx off = none) : pfxW32 pfx = false := by
    induction pfx generalizing off with
    | nil => rfl
    | cons p ps ih =>
      rw [pfxRefused] at hr
      split at hr
      · next hacc =>
        have hne : (p == Pfx.w32) = false := by
          cases p with
          | w32 => rw [OpInfo.accepts, hop] at hacc; cases hacc
          | _ => rfl
        rw [pfxW32, hasPfx, List.any_cons, hne, Bool.false_or]
        exact ih _ hr
      · cases hr
  have hw : pfxW32 i.pfx = false := by
    rw [decodeCheck] at hdecode
    split at hdecode
    · cases hdecode
    · next hp =>
      rw [prefixCheck] at hp
      split at hp
      · cases hp
      · split at hp
        · cases hp
        · next hr => exact hrefused _ 0 hr
  rw [Env.width, show (envOf op i x l s).w32 = pfxW32 i.pfx from rfl, hw]
  rfl

/-- R101: the width is 32 or 64 bits. -/
theorem width_cases (e : Env) : e.width = 32 ∨ e.width = 64 := by
  rw [Env.width]
  split
  · exact .inl rfl
  · exact .inr rfl

end Sys2Proof.IntegerProofs
end

section
/-! How an instruction that issues ends, by the effect of its body. -/

namespace Sys2Proof.IntegerProofs

open Sys2Proof Sys2Proof.Machine Sys2Proof.Slice0 Sys2Proof.LevelProofs

variable {op : OpInfo} {i : Ins} {x l : Nat} {s : State} {body : Env → State → Res}

/-- It completes, its body having changed its own core. -/
theorem runInsn_completes (h : Ready op i x l s) (f : Env → Core → Core)
    (hbody : body (envOf op i x l s) (issued op i x l s) =
      .done ((issued op i x l s).setCore i.core (f (envOf op i x l s) (found op i x l s)))) :
    s.runInsn op i x body = after op i x l s f past := by
  rw [runInsn_of_ready _ h, hbody, acked_done_setCore f]

/-- It completes, its body having left a state. -/
theorem runInsn_leaves {t : State} (h : Ready op i x l s) (hbody : body (envOf op i x l s) (issued op i x l s) = .done t) :
    s.runInsn op i x body = afterIn op i x l s t := by
  rw [runInsn_of_ready _ h, hbody, acked_done]

/-- It goes elsewhere, its body having changed its own core. -/
theorem runInsn_jumps (h : Ready op i x l s) (f : Env → Core → Core) (next : Env → Word)
    (hbody : body (envOf op i x l s) (issued op i x l s) =
      .jump ((issued op i x l s).setCore i.core (f (envOf op i x l s) (found op i x l s))) (next (envOf op i x l s))) :
    s.runInsn op i x body = afterJump op i x l s f next := by
  rw [runInsn_of_ready _ h, hbody, afterJump]
  exact congrArg (acked i s) (modCore_setCore (issued op i x l s) i.core (f (envOf op i x l s) (found op i x l s))
    (fun c => c.retire op (envOf op i x l s) true (next (envOf op i x l s))))

/-- It has set PC and status itself. -/
theorem runInsn_ends {t : State} (h : Ready op i x l s) (hbody : body (envOf op i x l s) (issued op i x l s) = .ended t) :
    s.runInsn op i x body = acked i s (t.modCore i.core Core.freed) := by
  rw [runInsn_of_ready _ h, hbody, finish_ended, envOf_lc]

/-- R242: an instruction that is a group of its own closes it. -/
theorem runGroup_of_ready (h : Ready op i x l s) : s.runGroup op i x body = (s.runInsn op i x body).groupEnd i.core := by
  obtain ⟨hcan, -⟩ := h
  exact if_pos hcan

end Sys2Proof.IntegerProofs
end

section
/-! R131 to R133: the model's results as results on bits. -/

namespace Sys2Proof.IntegerProofs

open Sys2Proof Sys2Proof.Machine Sys2Proof.Slice0 Sys2Proof.LevelProofs

variable {w : Nat}

/-- A result on bits with its flags, as the model writes it. -/
def aluOf (x : BitVec w × Nat) : Alu := ⟨x.1.toNat, x.2⟩

theorem topBit_toNat (r : BitVec w) : topBit w r.toNat = r.msb := (BitVec.msb_eq_getLsbD_last r).symm

theorem toNat_beq_zero (r : BitVec w) : (r.toNat == 0) = decide (r = 0) := by
  rw [beq_eq_decide]
  exact decide_eq_decide.mpr (BitVec.toNat_inj (y := 0))

theorem mul_b2n (b : Bool) (n : Nat) : n * b2n b = if b then n else 0 := by
  cases b <;> simp [b2n]

/-- R51: Z and N are those of the result. -/
theorem mkFlags_toNat (c v : Bool) (r : BitVec w) : mkFlags c v (r.toNat == 0) (topBit w r.toNat) = nzvc c v r := by
  rw [topBit_toNat, toNat_beq_zero, mkFlags, nzvc, mul_b2n, mul_b2n, mul_b2n, b2n]
  simp only [decide_eq_true_eq]

theorem aluAdd_toNat (a b : BitVec w) (cin : Nat) : aluAdd w a.toNat b.toNat cin = aluOf (sumOf a b cin) := by
  have hr : (a.toNat + b.toNat + cin) % 2 ^ w = (a + b + BitVec.ofNat w cin).toNat := by
    rw [BitVec.toNat_add, BitVec.toNat_add, BitVec.toNat_ofNat, Nat.mod_add_mod, Nat.add_mod_mod]
  rw [aluAdd, hr, signedOf_toNat, signedOf_toNat, signedOf_toNat, mkFlags_toNat]
  rfl

theorem aluSub_toNat (a b : BitVec w) {bin : Nat} (hbin : bin < 2 ^ w) :
    aluSub w a.toNat b.toNat bin = aluOf (differenceOf a b bin) := by
  have hr : (a.toNat + 2 ^ w + 2 ^ w - b.toNat - bin) % 2 ^ w = (a - b - BitVec.ofNat w bin).toNat := by
    have hb := b.isLt
    rw [BitVec.toNat_sub, BitVec.toNat_sub, BitVec.toNat_ofNat, Nat.mod_eq_of_lt hbin, Nat.add_mod_mod,
      show a.toNat + 2 ^ w + 2 ^ w - b.toNat - bin = 2 ^ w - bin + (2 ^ w - b.toNat + a.toNat) by omega]
  rw [aluSub, hr, signedOf_toNat, signedOf_toNat, signedOf_toNat, mkFlags_toNat]
  rfl

theorem aluLogic_toNat (r : BitVec w) : aluLogic w r.toNat = aluOf (logicOf r) := by
  rw [aluLogic, Nat.mod_eq_of_lt r.isLt, mkFlags_toNat]
  rfl

theorem aluLogic_ofNat (n : Nat) : aluLogic w n = aluOf (logicOf (BitVec.ofNat w n)) := by
  rw [← aluLogic_toNat, BitVec.toNat_ofNat, aluLogic, aluLogic, Nat.mod_mod]

theorem aluLogic_andn (a b : BitVec w) : aluLogic w (Nat.land a.toNat (2 ^ w - 1 - b.toNat)) = aluOf (logicOf (a &&& ~~~ b)) := by
  rw [← aluLogic_toNat, BitVec.toNat_and, BitVec.toNat_not]
  rfl

theorem aluLogic_not (a : BitVec w) : aluLogic w (2 ^ w - 1 - a.toNat) = aluOf (logicOf (~~~ a)) := by
  rw [← aluLogic_toNat, BitVec.toNat_not]

theorem aluAbs_toNat (a : BitVec w) : aluAbs w a.toNat = aluOf (magnitudeOf a) := by
  have hr : (if topBit w a.toNat then (2 ^ w - a.toNat) % 2 ^ w else a.toNat) = (if a.msb then -a else a).toNat := by
    rw [topBit_toNat, ← BitVec.toNat_neg]
    exact (apply_ite BitVec.toNat _ _ _).symm
  rw [aluAbs, hr, mkFlags_toNat, beq_eq_decide]
  rfl

/-! Shifts and rotates -/

/-- R133: the shifts and the rotate by `n`, with their flags. -/
def shlOf (a : BitVec w) (n : Nat) : BitVec w × Nat := shiftOf n (a <<< n) (a.getLsbD (w - n))
def shrOf (a : BitVec w) (n : Nat) : BitVec w × Nat := shiftOf n (a >>> n) (a.getLsbD (n - 1))
def sarOf (a : BitVec w) (n : Nat) : BitVec w × Nat := shiftOf n (a.sshiftRight n) (a.getLsbD (n - 1))
def rorOf (a : BitVec w) (n : Nat) : BitVec w × Nat := shiftOf n (a.rotateRight n) (a.rotateRight n).msb

theorem shiftAlu_eq {n y : Nat} {r : BitVec w} (c : Bool) (h : y % 2 ^ w = r.toNat) : shiftAlu w n y c = aluOf (shiftOf n r c) := by
  have hn : (n != 0) = decide (n ≠ 0) := by rw [decide_not, ← beq_eq_decide]; rfl
  rw [shiftAlu, h, mkFlags_toNat, hn]
  rfl

theorem aluShl_toNat (a : BitVec w) (n : Nat) : aluShl w a.toNat n = aluOf (shlOf a n) :=
  shiftAlu_eq _ (by rw [BitVec.toNat_shiftLeft, Nat.shiftLeft_eq])

theorem aluShr_toNat (a : BitVec w) (n : Nat) : aluShr w a.toNat n = aluOf (shrOf a n) :=
  shiftAlu_eq _ (by rw [← Nat.shiftRight_eq_div_pow, ← BitVec.toNat_ushiftRight, Nat.mod_eq_of_lt (a >>> n).isLt])

theorem aluSar_toNat (a : BitVec w) (n : Nat) : aluSar w a.toNat n = aluOf (sarOf a n) := by
  refine shiftAlu_eq _ ?_
  have hr : ((signedOf w a.toNat / (2 ^ n : Int)) % (2 ^ w : Int)).toNat = (a.sshiftRight n).toNat := by
    rw [signedOf_toNat, BitVec.sshiftRight, BitVec.toNat_ofInt, Int.shiftRight_eq_div_pow]
    push_cast
    rfl
  rw [hr, Nat.mod_eq_of_lt (a.sshiftRight n).isLt]

/-- The halves that a rotate puts together do not overlap. -/
theorem toNat_rotateRight_eq (a : BitVec w) {n : Nat} (hn : n < w) :
    (a.toNat / 2 ^ n + a.toNat * 2 ^ (w - n)) % 2 ^ w = (a.rotateRight n).toNat := by
  have hw : 2 ^ w = 2 ^ n * 2 ^ (w - n) := by rw [← pow_add, Nat.add_sub_cancel' hn.le]
  have hlow : a.toNat / 2 ^ n < 2 ^ (w - n) := by
    rw [Nat.div_lt_iff_lt_mul (Nat.two_pow_pos n), Nat.mul_comm, ← hw]
    exact a.isLt
  have hhigh : a.toNat * 2 ^ (w - n) % 2 ^ w = 2 ^ (w - n) * (a.toNat % 2 ^ n) := by
    rw [hw, Nat.mul_mod_mul_right, Nat.mul_comm]
  have hfits : 2 ^ (w - n) * (a.toNat % 2 ^ n) + a.toNat / 2 ^ n < 2 ^ w := by
    have hm : a.toNat % 2 ^ n + 1 ≤ 2 ^ n := Nat.mod_lt _ (Nat.two_pow_pos n)
    calc 2 ^ (w - n) * (a.toNat % 2 ^ n) + a.toNat / 2 ^ n < 2 ^ (w - n) * (a.toNat % 2 ^ n) + 2 ^ (w - n) := by omega
      _ = 2 ^ (w - n) * (a.toNat % 2 ^ n + 1) := by ring
      _ ≤ 2 ^ (w - n) * 2 ^ n := Nat.mul_le_mul_left _ hm
      _ = 2 ^ w := by rw [hw, Nat.mul_comm]
  rw [BitVec.toNat_rotateRight, Nat.mod_eq_of_lt hn, Nat.shiftLeft_eq, hhigh, Nat.shiftRight_eq_div_pow, Nat.or_comm,
    ← Nat.two_pow_add_eq_or_of_lt hlow, ← Nat.add_mod_mod, hhigh, Nat.add_comm, Nat.mod_eq_of_lt hfits]

theorem aluRor_toNat (a : BitVec w) {n : Nat} (hn : n < w) : aluRor w a.toNat n = aluOf (rorOf a n) := by
  rw [aluRor, toNat_rotateRight_eq a hn, topBit_toNat]
  exact shiftAlu_eq _ (Nat.mod_eq_of_lt (a.rotateRight n).isLt)

/-! Counts of bits, and the order of bytes -/

theorem leadingZeros_spec (w x : Nat) : leadingZeros w x ≤ w ∧ (∀ k, w - leadingZeros w x ≤ k → k < w → x.testBit k = false) ∧
    (leadingZeros w x < w → x.testBit (w - 1 - leadingZeros w x) = true) := by
  induction w with
  | zero => exact ⟨Nat.le_refl 0, fun k _ hk => absurd hk (Nat.not_lt_zero k), fun h => absurd h (Nat.lt_irrefl 0)⟩
  | succ w ih =>
    obtain ⟨hle, hzero, hone⟩ := ih
    rw [leadingZeros]
    cases htop : x.testBit w with
    | true =>
      rw [if_pos rfl]
      exact ⟨Nat.zero_le _, fun k hlo hk => by omega, fun _ => htop⟩
    | false =>
      rw [if_neg (by decide)]
      refine ⟨by omega, fun k hlo hk => ?_, fun hlt => ?_⟩
      · by_cases hkw : k = w
        · rw [hkw, htop]
        · exact hzero k (by omega) (by omega)
      · rw [← hone (by omega)]
        congr 1
        omega

theorem isLeadingZeros_leadingZeros (a : BitVec w) : IsLeadingZeros a (leadingZeros w a.toNat) := leadingZeros_spec w a.toNat

theorem popCount_eq_countP (w x : Nat) : popCount w x = (List.range w).countP (fun k => x.testBit k) := by
  induction w with
  | zero => rfl
  | succ w ih =>
    rw [popCount, ih, List.range_succ, List.countP_append, List.countP_singleton, Nat.add_comm, b2n]

theorem popCount_toNat (a : BitVec w) : popCount w a.toNat = onesOf a := popCount_eq_countP w a.toNat

theorem natToBytes_eq_map (n x : Nat) : natToBytes n x = (List.range n).map (fun k => BitVec.ofNat 8 (x / 2 ^ (8 * k))) := by
  induction n generalizing x with
  | zero => rfl
  | succ n ih =>
    have hnext (k : Nat) : x / 256 / 2 ^ (8 * k) = x / 2 ^ (8 * (k + 1)) := by
      rw [Nat.div_div_eq_div_mul, show (256 : Nat) = 2 ^ 8 from rfl, ← pow_add, Nat.mul_add, Nat.add_comm]
    rw [natToBytes, ih, List.range_succ_eq_map, List.map_cons, List.map_map, Nat.mul_zero, pow_zero, Nat.div_one]
    exact congrArg _ (List.map_congr_left fun k _ => congrArg _ (hnext k))

theorem testBit_bytesToNat (bs : List Byte) (k : Nat) : (bytesToNat bs).testBit k = (bs.getD (k / 8) 0).getLsbD (k % 8) := by
  induction bs generalizing k with
  | nil => simp [bytesToNat]
  | cons b bs ih =>
    rw [bytesToNat, Nat.add_comm, show (256 : Nat) = 2 ^ 8 from rfl, Nat.testBit_two_pow_mul_add _ b.isLt]
    split
    · next hk => rw [Nat.div_eq_of_lt hk, Nat.mod_eq_of_lt hk]; rfl
    · next hk =>
      rw [ih, show k / 8 = (k - 8) / 8 + 1 by omega, List.getD_cons_succ, show k % 8 = (k - 8) % 8 by omega]

/-- R129: the bytes reversed, of a whole number of bytes. -/
theorem isByteReverse_byteSwap (m : Nat) (a : BitVec (8 * m)) : IsByteReverse a (BitVec.ofNat (8 * m) (byteSwap (8 * m) a.toNat)) := by
  intro k hk
  have hj : k / 8 < m := by omega
  have hget : ((natToBytes m a.toNat).reverse.getD (k / 8) 0) = BitVec.ofNat 8 (a.toNat / 2 ^ (8 * (m - 1 - k / 8))) := by
    have hlen : (natToBytes m a.toNat).length = m := Laws.natToBytes_length _ _
    rw [List.getD_eq_getElem?_getD, List.getElem?_reverse (by rw [hlen]; exact hj), hlen, natToBytes_eq_map, List.getElem?_map,
      List.getElem?_range (by omega)]
    rfl
  rw [BitVec.getLsbD_ofNat, decide_eq_true hk, Bool.true_and, byteSwap, testBit_bytesToNat, Nat.mul_div_cancel_left m (by decide),
    hget, BitVec.getLsbD_ofNat, Nat.testBit_div_two_pow, decide_eq_true (Nat.mod_lt k (by decide)), Bool.true_and, Nat.add_comm]
  rfl

end Sys2Proof.IntegerProofs
end

section
/-! R131, R132: additions, subtractions, logic and the one-operand instructions. -/

namespace Sys2Proof.IntegerProofs

open Sys2Proof Sys2Proof.Machine Sys2Proof.Slice0 Sys2Proof.LevelProofs

variable {op : OpInfo} {i : Ins} {x l : Nat} {s : State}

/-- A result and its flags are written to the instruction's core. -/
theorem putAlu_eq (t : State) (e : Env) {w : Nat} (r : BitVec w × Nat) {n : BitVec 5} (hrd : e.rd = n.toNat) :
    t.putAlu e (aluOf r) = t.modCore e.lc (putResult e n r) := by
  rw [State.putAlu, State.setNat, setReg_eq, hrd, aluOf, BitVec.ofNat_toNat]
  exact modCore_modCore t e.lc _ (putFlags e r.2)

theorem setFlags_eq (t : State) (e : Env) (f : Nat) : t.setFlags e f = t.modCore e.lc (putFlags e f) := rfl

/-- RRR with a destination. -/
theorem alu_completes {o : OpsRRR} {f : Nat → Nat → Nat → Word → Alu} {g : (e : Env) → Core → BitVec e.width × Nat}
    (h : Ready op i o.pack l s)
    (hf : ∀ e c, f e.width (operand e c o.ra).toNat (operand e c o.rb).toNat (c.level e.lvl).sw = aluOf (g e c)) :
    s.runInsn op i o.pack (bodyAlu f) = after op i o.pack l s (fun e c => putResult e o.rd (g e c) c) past := by
  refine runInsn_completes h _ (congrArg Res.done ?_)
  rw [ra_envOf_rrr, rb_envOf_rrr, src_eq_operand, src_eq_operand]
  exact (congrArg _ (hf _ _)).trans (putAlu_eq _ _ _ (rd_envOf_rrr o))

/-- RRR without one. -/
theorem test_completes {o : OpsRRR} {f : Nat → Nat → Nat → Alu} {g : (e : Env) → Core → BitVec e.width × Nat}
    (h : Ready op i o.pack l s)
    (hf : ∀ e c, f e.width (operand e c o.ra).toNat (operand e c o.rb).toNat = aluOf (g e c)) :
    s.runInsn op i o.pack (bodyTest f) = after op i o.pack l s (fun e c => putFlags e (g e c).2 c) past := by
  refine runInsn_completes h _ (congrArg Res.done ?_)
  rw [ra_envOf_rrr, rb_envOf_rrr, src_eq_operand, src_eq_operand, hf]
  rfl

/-- RR. -/
theorem unary_completes {o : OpsRR} {f : Nat → Nat → Alu} {g : (e : Env) → Core → BitVec e.width × Nat}
    (h : Ready op i o.pack l s)
    (hf : f (envOf op i o.pack l s).width (operand (envOf op i o.pack l s) (found op i o.pack l s) o.ra).toNat =
      aluOf (g (envOf op i o.pack l s) (found op i o.pack l s))) :
    s.runInsn op i o.pack (bodyUnary f) = after op i o.pack l s (fun e c => putResult e o.rd (g e c) c) past := by
  refine runInsn_completes h _ (congrArg Res.done ?_)
  rw [ra_envOf_rr, src_eq_operand]
  exact (congrArg _ hf).trans (putAlu_eq _ _ _ (rd_envOf_rr o))

/-- The immediate forms with a destination, of layout RI. -/
theorem immRI_completes {o : OpsRI} {f : Nat → Nat → Nat → Alu} {g : (e : Env) → Core → BitVec e.width × Nat}
    (h : Ready op i o.pack l s)
    (hf : ∀ e c, f e.width (operand e c o.ra).toNat (immediate e (.ri o)).toNat = aluOf (g e c)) :
    s.runInsn op i o.pack (bodyImm false f) = after op i o.pack l s (fun e c => putResult e o.rd (g e c) c) past := by
  refine runInsn_completes h _ (congrArg Res.done ?_)
  rw [ra_envOf_ri, src_eq_operand, immOperand_ri]
  exact (congrArg _ (hf _ _)).trans (putAlu_eq _ _ _ (rd_envOf_ri o))

/-- The same of layout RI32. -/
theorem immRI32_completes {o : OpsRI32} {f : Nat → Nat → Nat → Alu} {g : (e : Env) → Core → BitVec e.width × Nat}
    (h : Ready op i o.pack l s)
    (hf : ∀ e c, f e.width (operand e c o.ra).toNat (immediate e (.ri32 o)).toNat = aluOf (g e c)) :
    s.runInsn op i o.pack (bodyImm true f) = after op i o.pack l s (fun e c => putResult e o.rd (g e c) c) past := by
  refine runInsn_completes h _ (congrArg Res.done ?_)
  rw [ra_envOf_ri32, src_eq_operand, immOperand_ri32]
  exact (congrArg _ (hf _ _)).trans (putAlu_eq _ _ _ (rd_envOf_ri32 o))

/-- R132: a borrow fits the width. -/
theorem borrow_lt (e : Env) {n : Nat} (h : n ≤ 1) : n < 2 ^ e.width := by
  rcases width_cases e with hw | hw <;> rw [hw] <;> omega

/-- The immediate forms without a destination, of layout RI. -/
theorem testRI_completes {o : OpsRI} {f : Nat → Nat → Nat → Alu} {g : (e : Env) → Core → BitVec e.width × Nat}
    (h : Ready op i o.pack l s)
    (hf : ∀ e c, f e.width (operand e c o.ra).toNat (immediate e (.ri o)).toNat = aluOf (g e c)) :
    s.runInsn op i o.pack (bodyImmTest false f) = after op i o.pack l s (fun e c => putFlags e (g e c).2 c) past := by
  refine runInsn_completes h _ (congrArg Res.done ?_)
  rw [ra_envOf_ri, src_eq_operand, immOperand_ri, hf]
  rfl

/-- The same of layout RI32. -/
theorem testRI32_completes {o : OpsRI32} {f : Nat → Nat → Nat → Alu} {g : (e : Env) → Core → BitVec e.width × Nat}
    (h : Ready op i o.pack l s)
    (hf : ∀ e c, f e.width (operand e c o.ra).toNat (immediate e (.ri32 o)).toNat = aluOf (g e c)) :
    s.runInsn op i o.pack (bodyImmTest true f) = after op i o.pack l s (fun e c => putFlags e (g e c).2 c) past := by
  refine runInsn_completes h _ (congrArg Res.done ?_)
  rw [ra_envOf_ri32, src_eq_operand, immOperand_ri32, hf]
  rfl

/-- Settles O1: each layout's rule with the sum or difference on bits. -/
theorem addSubtractResults : Obligations.AddSubtractResults := by
  intro s i l
  refine ⟨fun o h => congrArg Host.Outcome.next (alu_completes h fun e c => aluAdd_toNat _ _ 0),
    fun o h => congrArg Host.Outcome.next (alu_completes h fun e c => aluAdd_toNat _ _ _),
    fun o h => congrArg Host.Outcome.next (alu_completes h fun e c => aluSub_toNat _ _ (borrow_lt e (Nat.zero_le 1))),
    fun o h => congrArg Host.Outcome.next (alu_completes h fun e c => aluSub_toNat _ _ (borrow_lt e (Nat.sub_le 1 _))),
    fun o h => congrArg Host.Outcome.next (unary_completes h ?_),
    fun o h => congrArg Host.Outcome.next (test_completes h fun e c => aluSub_toNat _ _ (borrow_lt e (Nat.zero_le 1))),
    fun o h => congrArg Host.Outcome.next (immRI_completes h fun e c => aluAdd_toNat _ _ 0),
    fun o h => congrArg Host.Outcome.next (immRI32_completes h fun e c => aluAdd_toNat _ _ 0),
    fun o h => congrArg Host.Outcome.next (testRI_completes h fun e c => aluSub_toNat _ _ (borrow_lt e (Nat.zero_le 1))),
    fun o h => congrArg Host.Outcome.next (testRI32_completes h fun e c => aluSub_toNat _ _ (borrow_lt e (Nat.zero_le 1)))⟩
  exact aluSub_toNat (0 : BitVec _) _ (borrow_lt _ (Nat.zero_le 1))

/-! Logic and one operand -/

theorem logicResults : LogicResults := by
  intro s i l
  exact ⟨fun o h => congrArg Host.Outcome.next (alu_completes h fun e c => aluLogic_toNat (_ &&& _)),
    fun o h => congrArg Host.Outcome.next (alu_completes h fun e c => aluLogic_toNat (_ ||| _)),
    fun o h => congrArg Host.Outcome.next (alu_completes h fun e c => aluLogic_toNat (_ ^^^ _)),
    fun o h => congrArg Host.Outcome.next (alu_completes h fun e c => aluLogic_andn _ _),
    fun o h => congrArg Host.Outcome.next (unary_completes h (aluLogic_not _)),
    fun o h => congrArg Host.Outcome.next (test_completes h fun e c => aluLogic_toNat (_ &&& _)),
    fun o h => congrArg Host.Outcome.next (immRI_completes h fun e c => aluLogic_toNat (_ &&& _)),
    fun o h => congrArg Host.Outcome.next (immRI32_completes h fun e c => aluLogic_toNat (_ &&& _)),
    fun o h => congrArg Host.Outcome.next (immRI_completes h fun e c => aluLogic_toNat (_ ||| _)),
    fun o h => congrArg Host.Outcome.next (immRI32_completes h fun e c => aluLogic_toNat (_ ||| _)),
    fun o h => congrArg Host.Outcome.next (immRI_completes h fun e c => aluLogic_toNat (_ ^^^ _)),
    fun o h => congrArg Host.Outcome.next (immRI32_completes h fun e c => aluLogic_toNat (_ ^^^ _))⟩

/-- R131: CLZ and BSWAP, whose statements give the result by what it is. -/
theorem unary_gives {o : OpsRR} {f : Nat → Nat → Nat} (h : Ready op i o.pack l s) :
    s.runInsn op i o.pack (bodyUnary (fun w a => aluLogic w (f w a))) = after op i o.pack l s (fun e c => putResult e o.rd
      (logicOf (BitVec.ofNat (envOf op i o.pack l s).width (f (envOf op i o.pack l s).width
        (operand (envOf op i o.pack l s) (found op i o.pack l s) o.ra).toNat))) c) past := by
  refine runInsn_completes h (fun e => putResult e o.rd _) (congrArg Res.done ?_)
  dsimp only
  rw [ra_envOf_rr, src_eq_operand, aluLogic_ofNat]
  exact putAlu_eq _ _ _ (rd_envOf_rr o)

/-- R129: the bytes of an operand of an instruction, reversed. -/
theorem isByteReverse_operand (e : Env) (a : BitVec e.width) : IsByteReverse a (BitVec.ofNat e.width (byteSwap e.width a.toNat)) := by
  generalize hw : e.width = w at a
  obtain rfl | rfl : w = 8 * 4 ∨ w = 8 * 8 := by rw [← hw]; exact width_cases e
  · exact isByteReverse_byteSwap 4 a
  · exact isByteReverse_byteSwap 8 a

/-- R131: SXT and ZXT extend a whole register, at width 64. -/
theorem extend_completes {o : OpsRR} (f : Nat → Nat → Nat) (g : Word → Word) (h : Ready op i o.pack l s) (hop : op.w32 = false)
    (hf : ∀ a : Word, f o.imm6.toNat a.toNat = (g a).toNat) :
    s.runInsn op i o.pack (fun e s => bodyUnary (fun w a => aluLogic w (f e.imm6 a)) e s) = after op i o.pack l s
      (fun e c => putResult e o.rd (logicOf (g (register e c o.ra.toNat))) c) past := by
  have hwidth := width_of_refuses h hop
  refine runInsn_completes h _ (congrArg Res.done ?_)
  dsimp only
  rw [ra_envOf_rr, imm6_envOf_rr, State.src, hwidth, Nat.mod_eq_of_lt (BitVec.isLt _), hf, aluLogic_toNat]
  exact putAlu_eq _ _ _ (rd_envOf_rr o)

theorem unaryResults : UnaryResults := by
  intro s i l o
  refine ⟨fun h => congrArg Host.Outcome.next (unary_completes h (aluAbs_toNat _)),
    fun h => ⟨_, isLeadingZeros_leadingZeros _, congrArg Host.Outcome.next (unary_gives h)⟩,
    fun h => congrArg Host.Outcome.next (unary_completes h ?_),
    fun h => ⟨_, isByteReverse_operand _ _, congrArg Host.Outcome.next (unary_gives h)⟩,
    fun h => congrArg Host.Outcome.next (extend_completes (fun k a => (sextWord (k + 1) a).toNat)
      (fun a => (a.setWidth (o.imm6.toNat + 1)).signExtend 64) h rfl fun a => ?_),
    fun h => congrArg Host.Outcome.next (extend_completes (fun k a => a % 2 ^ (k + 1))
      (fun a => (a.setWidth (o.imm6.toNat + 1)).setWidth 64) h rfl fun a => ?_)⟩
  · rw [popCount_toNat]
    exact aluLogic_ofNat _
  · rw [sextWord_eq, BitVec.ofNat_toNat]
  · have hle : o.imm6.toNat + 1 ≤ 64 := o.imm6.isLt
    rw [BitVec.toNat_setWidth_of_le hle, BitVec.toNat_setWidth]

/-- Settles O2: each layout's rule with the bitwise result, or that of the one-operand instruction. -/
theorem logicAndUnaryResults : Obligations.LogicAndUnaryResults := ⟨logicResults, unaryResults⟩

end Sys2Proof.IntegerProofs
end

section
/-! R133: shifts and rotates. -/

namespace Sys2Proof.IntegerProofs

open Sys2Proof Sys2Proof.Machine Sys2Proof.Slice0 Sys2Proof.LevelProofs

variable {op : OpInfo} {i : Ins} {l : Nat} {s : State} {f : Nat → Nat → Nat → Alu}
  {g : {w : Nat} → BitVec w → Nat → BitVec w × Nat}

/-- R129: a count taken modulo the width is below it. -/
theorem countOf_lt (e : Env) (c : Core) (n : BitVec 5) : countOf e c n < e.width := by
  refine Nat.mod_lt _ ?_
  rcases width_cases e with hw | hw <;> rw [hw] <;> decide

/-- R129: so is an immediate count, which the decoder has checked. -/
theorem imm6_lt_width {o : OpsRR} (h : Ready op i o.pack l s) (hop : Chk.shift 10 ∈ op.checks) :
    o.imm6.toNat < (envOf op i o.pack l s).width := by
  obtain ⟨-, -, -, -, -, -, hdecode, -⟩ := h
  have hcheck := checks_pass hdecode _ hop
  have h64 : o.imm6.toNat < 64 := o.imm6.isLt
  rw [Chk.fails, (nfld_pack_rr o).2.2] at hcheck
  rw [Env.width, show (envOf op i o.pack l s).w32 = pfxW32 i.pfx from rfl]
  cases hw : pfxW32 i.pfx with
  | false => exact h64
  | true =>
    have h32 : ¬ 32 ≤ o.imm6.toNat := by
      intro hge
      rw [if_pos ⟨hw, hge⟩] at hcheck
      cases hcheck
    exact Nat.lt_of_not_le h32

/-- A shift by a register. -/
theorem shift_completes {o : OpsRRR} (h : Ready op i o.pack l s)
    (hf : ∀ {w} (a : BitVec w) {n}, n < w → f w a.toNat n = aluOf (g a n)) :
    s.runInsn op i o.pack (bodyShift false f) = after op i o.pack l s
      (fun e c => putResult e o.rd (g (operand e c o.ra) (countOf e c o.rb)) c) past := by
  refine runInsn_completes h _ (congrArg Res.done ?_)
  rw [if_neg (by decide), ra_envOf_rrr, rb_envOf_rrr, src_eq_operand]
  exact (congrArg _ (hf _ (countOf_lt _ _ o.rb))).trans (putAlu_eq _ _ _ (rd_envOf_rrr o))

/-- A shift by an immediate. -/
theorem shiftImm_completes {o : OpsRR} (h : Ready op i o.pack l s) (hop : Chk.shift 10 ∈ op.checks)
    (hf : ∀ {w} (a : BitVec w) {n}, n < w → f w a.toNat n = aluOf (g a n)) :
    s.runInsn op i o.pack (bodyShift true f) = after op i o.pack l s
      (fun e c => putResult e o.rd (g (operand e c o.ra) o.imm6.toNat) c) past := by
  refine runInsn_completes h _ (congrArg Res.done ?_)
  rw [if_pos rfl, ra_envOf_rr, imm6_envOf_rr, src_eq_operand]
  exact (congrArg _ (hf _ (imm6_lt_width h hop))).trans (putAlu_eq _ _ _ (rd_envOf_rr o))

/-- Settles O3: the rule of each kind of count with the shifted operand on bits. -/
theorem shiftResults : Obligations.ShiftResults := by
  intro s i l
  have hcheck : Chk.shift 10 ∈ ([.ireg 0, .ireg 5, .shift 10] : List Chk) := by decide
  exact ⟨fun o => ⟨fun h => congrArg Host.Outcome.next (shift_completes (g := shlOf) h fun a n _ => aluShl_toNat a n),
      fun h => congrArg Host.Outcome.next (shift_completes (g := shrOf) h fun a n _ => aluShr_toNat a n),
      fun h => congrArg Host.Outcome.next (shift_completes (g := sarOf) h fun a n _ => aluSar_toNat a n),
      fun h => congrArg Host.Outcome.next (shift_completes (g := rorOf) h aluRor_toNat)⟩,
    fun o => ⟨fun h => congrArg Host.Outcome.next (shiftImm_completes (g := shlOf) h hcheck fun a n _ => aluShl_toNat a n),
      fun h => congrArg Host.Outcome.next (shiftImm_completes (g := shrOf) h hcheck fun a n _ => aluShr_toNat a n),
      fun h => congrArg Host.Outcome.next (shiftImm_completes (g := sarOf) h hcheck fun a n _ => aluSar_toNat a n),
      fun h => congrArg Host.Outcome.next (shiftImm_completes (g := rorOf) h hcheck aluRor_toNat)⟩⟩

end Sys2Proof.IntegerProofs
end

section
/-! R133 to R136: multiplication and division by steps. -/

namespace Sys2Proof.IntegerProofs

open Sys2Proof Sys2Proof.Machine Sys2Proof.Slice0 Sys2Proof.LevelProofs

variable {w : Nat}

/-- R133: the product with its flags. -/
def productOf (a b : BitVec w) : BitVec w × Nat :=
  (a * b, nzvc (decide (2 ^ w ≤ a.toNat * b.toNat)) (decide (a.toInt * b.toInt ≠ (a * b).toInt)) (a * b))

theorem aluMul_toNat (a b : BitVec w) : aluMul w a.toNat b.toNat = aluOf (productOf a b) := by
  rw [aluMul, ← BitVec.toNat_mul, signedOf_toNat, signedOf_toNat, signedOf_toNat, mkFlags_toNat]
  rfl

/-- The high half of a number of twice the width. -/
theorem toNat_high_ofInt (z : Int) :
    (z / (2 ^ w : Int) % (2 ^ w : Int)).toNat = ((BitVec.ofInt (2 * w) z >>> w).setWidth w).toNat := by
  have hm : (0 : Int) < 2 ^ w := by positivity
  have hdiv : z / 2 ^ w = z % (2 ^ w * 2 ^ w) / 2 ^ w + 2 ^ w * (z / (2 ^ w * 2 ^ w)) := by
    conv_lhs => rw [← Int.emod_add_mul_ediv z (2 ^ w * 2 ^ w), Int.mul_assoc]
    exact Int.add_mul_ediv_left _ _ hm.ne'
  have hnn : 0 ≤ z % (2 ^ w * 2 ^ w) := Int.emod_nonneg _ (mul_pos hm hm).ne'
  rw [BitVec.toNat_setWidth, BitVec.toNat_ushiftRight, BitVec.toNat_ofInt, Nat.shiftRight_eq_div_pow, Nat.two_mul, pow_add]
  apply Int.ofNat_inj.mp
  rw [Int.toNat_of_nonneg (Int.emod_nonneg _ hm.ne'), hdiv, Int.add_mul_emod_self_left]
  push_cast
  rw [Int.toNat_of_nonneg hnn]

theorem mulHighS_toNat (a b : BitVec w) :
    mulHighS w a.toNat b.toNat = (((a.signExtend (2 * w) * b.signExtend (2 * w)) >>> w).setWidth w).toNat := by
  rw [mulHighS, signedOf_toNat, signedOf_toNat, toNat_high_ofInt, BitVec.ofInt_mul]
  rfl

theorem mulHighU_toNat (a b : BitVec w) :
    mulHighU w a.toNat b.toNat = (((a.setWidth (2 * w) * b.setWidth (2 * w)) >>> w).setWidth w).toNat := by
  have hle : w ≤ 2 * w := by omega
  have hfits : a.toNat * b.toNat < 2 ^ (2 * w) := by
    rw [Nat.two_mul, pow_add]
    exact Nat.mul_lt_mul'' a.isLt b.isLt
  rw [BitVec.toNat_setWidth, BitVec.toNat_ushiftRight, BitVec.toNat_mul, BitVec.toNat_setWidth_of_le hle, BitVec.toNat_setWidth_of_le hle,
    Nat.mod_eq_of_lt hfits, Nat.shiftRight_eq_div_pow, mulHighU]

/-- R134: the sum or difference that decides a step: the shifted remainder with the divisor taken away, or put back. -/
def trialOf (p q d : Word) (neg : Bool) : BitVec 65 :=
  let x : BitVec 65 := ((BitVec.ofBool neg ++ p) <<< 1) + (BitVec.ofBool q.msb).setWidth 65
  if neg then x + d.setWidth 65 else x - d.setWidth 65

theorem toNat_trialOf (p q d : Word) (neg : Bool) : (trialOf p q d neg).toNat =
    ((if neg then 2 * ((p.toNat : Int) - (if neg then (2 ^ 64 : Int) else 0)) + (q.toNat / 2 ^ 63 : Nat) + d.toNat
      else 2 * ((p.toNat : Int) - (if neg then (2 ^ 64 : Int) else 0)) + (q.toNat / 2 ^ 63 : Nat) - d.toNat) % (2 ^ 65 : Int)).toNat := by
  have hp := p.isLt
  have hq := q.isLt
  have hd := d.isLt
  have hbit : ((BitVec.ofBool q.msb).setWidth 65).toNat = q.toNat / 2 ^ 63 := by
    rw [BitVec.msb_eq_decide]
    by_cases h : 2 ^ (64 - 1) ≤ q.toNat
    · rw [decide_eq_true h]
      show 1 = q.toNat / 2 ^ 63
      omega
    · rw [decide_eq_false h]
      show 0 = q.toNat / 2 ^ 63
      omega
  have happend : (BitVec.ofBool neg ++ p).toNat = 2 ^ 64 * neg.toNat + p.toNat := by
    have h := BitVec.toNat_append (BitVec.ofBool neg) p
    rw [BitVec.toNat_ofBool, Nat.shiftLeft_eq, Nat.mul_comm, ← Nat.two_pow_add_eq_or_of_lt hp] at h
    exact h
  have hshift : ((BitVec.ofBool neg ++ p) <<< 1).toNat = 2 * p.toNat := by
    rw [BitVec.toNat_shiftLeft, happend, Nat.shiftLeft_eq]
    cases neg
    · show (2 ^ 64 * 0 + p.toNat) * 2 ^ 1 % 2 ^ 65 = 2 * p.toNat
      omega
    · show (2 ^ 64 * 1 + p.toNat) * 2 ^ 1 % 2 ^ 65 = 2 * p.toNat
      omega
  unfold trialOf
  cases neg
  · simp only [Bool.false_eq_true, if_false, BitVec.toNat_sub, BitVec.toNat_add, hbit, hshift, BitVec.toNat_setWidth]
    omega
  · simp only [if_true, BitVec.toNat_add, hbit, hshift, BitVec.toNat_setWidth]
    omega

/-- R134: one step on bits. -/
theorem divStep_toNat (p q d : Word) (neg : Bool) : divStep p.toNat q.toNat d.toNat neg =
    ((stepOf p q d neg).1.toNat, (stepOf p q d neg).2.1.toNat, (stepOf p q d neg).2.2) := by
  have hmsb : (trialOf p q d neg).toNat.testBit 64 = (trialOf p q d neg).msb := topBit_toNat _
  have hstep : stepOf p q d neg = ((trialOf p q d neg).setWidth 64,
      (q <<< 1) + (BitVec.ofBool (!(trialOf p q d neg).msb)).setWidth 64, (trialOf p q d neg).msb) := rfl
  have hquot (b : Bool) : (2 * q.toNat + b2n b) % 2 ^ 64 = ((q <<< 1) + (BitVec.ofBool b).setWidth 64).toNat := by
    cases b <;> simp [b2n, Nat.shiftLeft_eq, Nat.mul_comm]
  rw [divStep, hstep]
  dsimp only
  rw [← toNat_trialOf, hmsb, hquot, BitVec.toNat_setWidth]

/-- R135: the correction on bits. -/
theorem divFix_toNat (sgn : Bool) (p q ra rb : Word) (neg : Bool) : divFix sgn p.toNat q.toNat ra.toNat rb.toNat neg =
    ((fixOf sgn p q ra rb neg).1.toNat, (fixOf sgn p q ra rb neg).2.1.toNat, (fixOf sgn p q ra rb neg).2.2) := by
  have hneg (b : Bool) (a : Word) : (if b then (2 ^ 64 - a.toNat) % 2 ^ 64 else a.toNat) = (if b then -a else a).toNat := by
    cases b
    · rfl
    · exact (BitVec.toNat_neg a).symm
  have hadd (a : Word) : (if neg then (p.toNat + a.toNat) % 2 ^ 64 else p.toNat) = (if neg then p + a else p).toNat := by
    cases neg
    · rfl
    · exact (BitVec.toNat_add p a).symm
  have hmin : (q.toNat == 2 ^ 63) = decide (q = BitVec.intMin 64) := by
    rw [beq_eq_decide]
    exact decide_eq_decide.mpr (BitVec.toNat_inj (y := BitVec.intMin 64))
  unfold divFix
  simp only [topBit_toNat ra, topBit_toNat rb, hneg, hadd, hmin, bne_comm (a := rb.msb)]
  rw [mkFlags_toNat]
  rfl

end Sys2Proof.IntegerProofs
end

section
/-! R90, R133 to R136: the instructions of multiplication and division. -/

namespace Sys2Proof.IntegerProofs

open Sys2Proof Sys2Proof.Machine Sys2Proof.Slice0 Sys2Proof.LevelProofs

variable {op : OpInfo} {i : Ins} {x l : Nat} {s : State}

/-- Two effects on a core that agree on the core there is. -/
theorem modCore_congr {t : State} {lc : Nat} {f g : Core → Core} (h : f (t.core lc) = g (t.core lc)) :
    t.modCore lc f = t.modCore lc g := congrArg (t.setCore lc) h

/-- R90: a long operation issues at the instruction's core. -/
theorem issueLong_eq (t : State) (e : Env) (ws : List (Dst × Word)) (fl : Option Nat) (dss : Option Bool) (exc : Option TrapInfo) :
    t.issueLong e (e.longOp ws fl dss exc) = t.modCore e.lc (fun c => c.issueOp e.lvl (longOf e c ws fl dss exc)) := rfl

/-- The write that it will make of a result on bits. -/
theorem wr_eq_writeOf (t : State) (e : Env) (n : Nat) {w : Nat} (v : BitVec w) :
    t.wr e n v.toNat = writeOf e (t.core e.lc) n (v.setWidth 64) := by
  rw [← BitVec.ofNat_toNat]
  rfl

theorem wr_eq_writeOf_word (t : State) (e : Env) (n : Nat) (v : Word) : t.wr e n v.toNat = writeOf e (t.core e.lc) n v := by
  rw [wr_eq_writeOf, BitVec.setWidth_eq]

/-- MULH and MULHU. -/
theorem mulHigh_issues {o : OpsRRR} {f : Nat → Nat → Nat → Nat} (g : {w : Nat} → BitVec w → BitVec w → BitVec w)
    (h : Ready op i o.pack l s) (hf : ∀ {w} (a b : BitVec w), f w a.toNat b.toNat = (g a b).toNat) :
    s.runInsn op i o.pack (bodyMulHigh f) = after op i o.pack l s (fun e c => c.issueOp l (longOf e c
      (writeOf e c o.rd.toNat ((g (operand e c o.ra) (operand e c o.rb)).setWidth 64)) none none none)) past := by
  refine runInsn_completes h _ (congrArg Res.done ?_)
  rw [ra_envOf_rrr, rb_envOf_rrr, rd_envOf_rrr, src_eq_operand, src_eq_operand, hf, wr_eq_writeOf, issueLong_eq]
  rfl

theorem multiplyResults : MultiplyResults := by
  intro s i l o
  exact ⟨fun h => congrArg Host.Outcome.next (alu_completes h fun e c => aluMul_toNat _ _),
    fun h => congrArg Host.Outcome.next (mulHigh_issues
      (fun {w} a b => ((a.signExtend (2 * w) * b.signExtend (2 * w)) >>> w).setWidth w) h mulHighS_toNat),
    fun h => congrArg Host.Outcome.next (mulHigh_issues
      (fun {w} a b => ((a.setWidth (2 * w) * b.setWidth (2 * w)) >>> w).setWidth w) h mulHighU_toNat)⟩

/-! Division -/

/-- The operation of a step or a correction: the pair is written, and what of the flags and DSS the instruction writes. -/
def pairOp (e : Env) (c : Core) (p q : Word) (fl : Option Nat) (dss : Option Bool) : LongOp :=
  longOf e c (writeOf e c e.rd p ++ writeOf e c (e.rd + 1) q) fl dss none

theorem issueLong_pair (t : State) (e : Env) (p q : Word) (fl : Option Nat) (dss : Option Bool) :
    t.issueLong e (e.longOp (t.wr e e.rd p.toNat ++ t.wr e (e.rd + 1) q.toNat) fl dss none) =
      t.modCore e.lc (fun c => c.issueOp e.lvl (pairOp e c p q fl dss)) := by
  rw [wr_eq_writeOf_word, wr_eq_writeOf_word, issueLong_eq]
  rfl

theorem stepPair_eq (t : State) (e : Env) (p q : Word) (dss : Bool) : t.stepPair e p.toNat q.toNat dss =
    t.modCore e.lc (fun c => c.issueOp e.lvl (pairOp e c p q none (some dss))) := issueLong_pair t e p q none (some dss)

theorem fixPair_eq (t : State) (e : Env) (p q : Word) (fl : Nat) : t.fixPair e p.toNat q.toNat fl =
    t.modCore e.lc (fun c => c.issueOp e.lvl (pairOp e c p q (some fl) (some false))) := issueLong_pair t e p q (some fl) (some false)

/-- R136: an operation issues, and the level's DSS belongs to a chain. -/
theorem issueOp_setChain (t : State) (e : Env) (op : Core → LongOp) (by_ : DssBy) :
    (t.modCore e.lc (fun c => c.issueOp e.lvl (op c))).setChain e by_ = t.modCore e.lc (fun c => divides e.lvl (op c) by_ c) :=
  modCore_modCore t e.lc _ _

/-- R136: the same where free values have been drawn. -/
theorem issueOp_drawn_setChain (t : State) (e : Env) (op : Core → LongOp) (n : Nat) (by_ : DssBy) :
    ((t.modCore e.lc (fun c => c.issueOp e.lvl (op c))).drawn n).setChain e by_ =
      drawnFrom t n e.lc (fun c => divides e.lvl (op c) by_ c) := by
  have hdrawn : (t.modCore e.lc (fun c => c.issueOp e.lvl (op c))).drawn n =
      (t.drawn n).modCore e.lc (fun c => c.issueOp e.lvl (op c)) := rfl
  rw [hdrawn]
  exact modCore_modCore (t.drawn n) e.lc _ _

/-- Whether a step begins a chain (R134). -/
def begins (e : Env) : Bool := decide (e.imm6 % 2 = 1)

/-- What a step of a core makes of the pair and DSS (R134). -/
def stepAt (e : Env) (c : Core) : Word × Word × Bool :=
  stepOf (if begins e then 0 else register e c e.rd) (register e c (e.rd + 1)) (register e c e.ra) (!begins e && swDss (c.level e.lvl).sw)

/-- R134, R136: a step that begins a chain or goes on with one. -/
theorem bodyDstep_steps (t : State) (e : Env)
    (hgo : (begins e || (t.chain e).steps e.bank e.rd (register e (t.core e.lc) e.ra).toNat) = true) :
    bodyDstep e t = .done (t.modCore e.lc (fun c => divides e.lvl
      (pairOp e c (stepAt e c).1 (stepAt e c).2.1 none (some (stepAt e c).2.2))
      (if begins e then .int e.bank e.rd (register e c e.ra).toNat 1 else (c.level e.lvl).dssBy.next) c)) := by
  have hrem : (if begins e then 0 else (t.reg e e.rd).toNat) = (if begins e then (0 : Word) else t.reg e e.rd).toNat :=
    (apply_ite BitVec.toNat (begins e = true) (0 : Word) (t.reg e e.rd)).symm
  have hstep : divStep (if begins e then 0 else (t.reg e e.rd).toNat) (t.reg e (e.rd + 1)).toNat
      (t.reg e e.ra).toNat (!begins e && swDss (t.sw e)) =
      ((stepAt e (t.core e.lc)).1.toNat, (stepAt e (t.core e.lc)).2.1.toNat, (stepAt e (t.core e.lc)).2.2) := by
    rw [hrem, divStep_toNat]
    rfl
  have hfirst : (e.imm6 % 2 == 1) = begins e := beq_eq_decide _ _
  rw [bodyDstep, hfirst]
  refine (if_pos hgo).trans ?_
  dsimp only
  rw [hstep]
  dsimp only
  rw [stepPair_eq, issueOp_setChain]
  exact congrArg Res.done (modCore_congr rfl)

/-- R136: a step of a chain of another form. -/
theorem bodyDstep_strays (t : State) (e : Env)
    (hgo : ¬ (begins e || (t.chain e).steps e.bank e.rd (register e (t.core e.lc) e.ra).toNat) = true) :
    bodyDstep e t = .done (drawnFrom t 3 e.lc (fun c => divides e.lvl
      (pairOp e c (Config.freeWord t.free) (Config.freeWord (t.free + 1)) none (some (bitOf (Config.freeWord (t.free + 2)) 0)))
      .none c)) := by
  have hfirst : (e.imm6 % 2 == 1) = begins e := beq_eq_decide _ _
  rw [bodyDstep, hfirst]
  refine (if_neg hgo).trans ?_
  rw [stepPair_eq, issueOp_drawn_setChain]

theorem divisionStep : DivisionStep := by
  intro s i l o h e c d odd by_ r
  have hrd : e.rd = o.rd.toNat := rd_envOf_rr o
  have hra : e.ra = o.ra.toNat := ra_envOf_rr o
  have hodd : begins e = odd := congrArg (fun n => decide (n % 2 = 1)) (imm6_envOf_rr o)
  have hr : stepAt e c = r := by rw [stepAt, hrd, hra, hodd]; rfl
  have hgoes : (begins e || ((issued Op.dstep i o.pack l s).chain e).steps e.bank e.rd
      (register e ((issued Op.dstep i o.pack l s).core e.lc) e.ra).toNat) = (odd || by_.steps e.bank o.rd.toNat d.toNat) := by
    rw [hodd, hra, hrd]
    rfl
  refine ⟨fun hgo => congrArg Host.Outcome.next ?_, fun hgo => congrArg Host.Outcome.next ?_⟩
  · refine runInsn_completes h _ ((bodyDstep_steps _ e (hgoes.trans hgo)).trans (congrArg Res.done ?_))
    rw [← hr, ← hrd, ← hodd]
    show (issued Op.dstep i o.pack l s).setCore i.core _ = (issued Op.dstep i o.pack l s).setCore i.core _
    rw [hra]
    rfl
  · refine runInsn_leaves h ((bodyDstep_strays _ e (by rw [hgoes, hgo]; decide)).trans (congrArg Res.done ?_))
    rw [← hrd]
    rfl

/-- What a correction of a core makes of the pair, and its flags (R135). -/
def fixAt (sgn : Bool) (e : Env) (c : Core) : Word × Word × Nat :=
  fixOf sgn (register e c e.rd) (register e c (e.rd + 1)) (register e c e.ra) (register e c e.rb) (swDss (c.level e.lvl).sw)

theorem fixDivisor_toNat (sgn : Bool) (a : Word) : fixDivisor sgn a.toNat = divisorOf sgn a := by
  rw [fixDivisor, divisorOf, sextWord_eq, BitVec.ofNat_toNat, BitVec.setWidth_eq, BitVec.signExtend_eq]

/-- R135: a divisor of zero. -/
theorem bodyDivFix_zero (sgn : Bool) (t : State) (e : Env) (hd : register e (t.core e.lc) e.ra = 0) :
    bodyDivFix sgn e t = .done (t.modCore e.lc (fun c => divides e.lvl
      (longOf e c [] none (some false) (some (excOf e 0x0C 0))) .none c)) := by
  have hzero : (t.reg e e.ra).toNat = 0 := congrArg BitVec.toNat hd
  rw [bodyDivFix]
  refine (if_pos hzero).trans ?_
  rw [issueLong_eq, issueOp_setChain]
  rfl

section

variable {sgn : Bool} {t : State} {e : Env} (hd : register e (t.core e.lc) e.ra ≠ 0)

include hd

/-- R135: the correction at the end of a chain. -/
theorem bodyDivFix_ends (hends : (t.chain e).ends e.bank e.rd (divisorOf sgn (register e (t.core e.lc) e.ra)) = true) :
    bodyDivFix sgn e t = .done (t.modCore e.lc (fun c => divides e.lvl
      (pairOp e c (fixAt sgn e c).1 (fixAt sgn e c).2.1 (some (fixAt sgn e c).2.2) (some false)) .none c)) := by
  have hfix : divFix sgn (t.reg e e.rd).toNat (t.reg e (e.rd + 1)).toNat (t.reg e e.ra).toNat (t.reg e e.rb).toNat (swDss (t.sw e)) =
      ((fixAt sgn e (t.core e.lc)).1.toNat, (fixAt sgn e (t.core e.lc)).2.1.toNat, (fixAt sgn e (t.core e.lc)).2.2) :=
    divFix_toNat _ _ _ _ _ _
  rw [bodyDivFix]
  refine (if_neg (toNat_ne_zero hd)).trans ?_
  rw [fixDivisor_toNat]
  refine (if_pos hends).trans ?_
  rw [hfix]
  dsimp only
  rw [fixPair_eq, issueOp_setChain]
  exact congrArg Res.done (modCore_congr rfl)

/-- R136: one at the end of a chain of another form. -/
theorem bodyDivFix_strays (hends : ¬ (t.chain e).ends e.bank e.rd (divisorOf sgn (register e (t.core e.lc) e.ra)) = true) :
    bodyDivFix sgn e t = .done (drawnFrom t 3 e.lc (fun c => divides e.lvl
      (pairOp e c (Config.freeWord t.free) (Config.freeWord (t.free + 1)) (some (fld (Config.freeWord (t.free + 2)) 0 4)) (some false))
      .none c)) := by
  rw [bodyDivFix]
  refine (if_neg (toNat_ne_zero hd)).trans ?_
  rw [fixDivisor_toNat]
  refine (if_neg hends).trans ?_
  rw [fixPair_eq, issueOp_drawn_setChain]

end

/-- R135, R136: DSFIX and DSFIXS. -/
theorem divFix_issues {op : OpInfo} {i : Ins} {l : Nat} {s : State} {o : OpsRRR} (sgn : Bool) (h : Ready op i o.pack l s) :
    let e := envOf op i o.pack l s
    let c := found op i o.pack l s
    let d := register e c o.ra.toNat
    let r := fixOf sgn (register e c o.rd.toNat) (register e c (o.rd.toNat + 1)) d (register e c o.rb.toNat) (swDss (c.level l).sw)
    let ends := (c.level l).dssBy.ends e.bank o.rd.toNat (divisorOf sgn d)
    let run : Out := .next (s.runInsn op i o.pack (bodyDivFix sgn))
    (d = 0 → run = .next (after op i o.pack l s (fun e c => divides l
      (longOf e c [] none (some false) (some (excOf e 0x0C 0))) .none c) past)) ∧
    (d ≠ 0 → ends = true → run = .next (after op i o.pack l s (fun e c => divides l
      (longOf e c (writeOf e c o.rd.toNat r.1 ++ writeOf e c (o.rd.toNat + 1) r.2.1) (some r.2.2) (some false) none) .none c) past)) ∧
    (d ≠ 0 → ends = false →
      let n := (issued op i o.pack l s).free
      run = .next (afterIn op i o.pack l s (drawnFrom (issued op i o.pack l s) 3 i.core (fun c => divides l
        (longOf e c (writeOf e c o.rd.toNat (Config.freeWord n) ++ writeOf e c (o.rd.toNat + 1) (Config.freeWord (n + 1)))
          (some (fld (Config.freeWord (n + 2)) 0 4)) (some false) none) .none c)))) := by
  intro e c d r ends run
  have hrd : e.rd = o.rd.toNat := rd_envOf_rrr o
  have hra : e.ra = o.ra.toNat := ra_envOf_rrr o
  have hrb : e.rb = o.rb.toNat := rb_envOf_rrr o
  have hd : register e ((issued op i o.pack l s).core e.lc) e.ra = d := by rw [hra]; rfl
  have hr : fixAt sgn e c = r := by rw [fixAt, hrd, hra, hrb]; rfl
  have hends : ((issued op i o.pack l s).chain e).ends e.bank e.rd
      (divisorOf sgn (register e ((issued op i o.pack l s).core e.lc) e.ra)) = ends := by
    rw [hd, hrd]
    rfl
  refine ⟨fun h0 => congrArg Host.Outcome.next ?_, fun h0 hend => congrArg Host.Outcome.next ?_,
    fun h0 hend => congrArg Host.Outcome.next ?_⟩
  · exact runInsn_completes h _ (bodyDivFix_zero sgn _ e (hd.trans h0))
  · refine runInsn_completes h _ ((bodyDivFix_ends (by rw [hd]; exact h0) (hends.trans hend)).trans (congrArg Res.done ?_))
    rw [← hr, ← hrd]
    rfl
  · refine runInsn_leaves h ((bodyDivFix_strays (by rw [hd]; exact h0) (by rw [hends, hend]; decide)).trans (congrArg Res.done ?_))
    rw [← hrd]
    rfl

theorem divisionEnd : DivisionEnd := by
  intro s i l o x hx h
  obtain rfl | rfl : x = (.dsfix i o, Op.dsfix, false) ∨ x = (.dsfixs i o, Op.dsfixs, true) := by
    simpa only [List.mem_cons, List.not_mem_nil, or_false] using hx
  · exact divFix_issues false h
  · exact divFix_issues true h

/-- Settles O4: the products, a step of a division and its end, each on bits; what is free at a chain of another form is so by log
entries 142 and 166. -/
theorem multiplyAndDivide : Obligations.MultiplyAndDivide := ⟨multiplyResults, divisionStep, divisionEnd⟩

end Sys2Proof.IntegerProofs
end

section
/-! R138 to R141: packed decimal numbers. -/

namespace Sys2Proof.IntegerProofs

open Sys2Proof Sys2Proof.Machine Sys2Proof.Slice0 Sys2Proof.LevelProofs

theorem decDigits_step_div (n m : Nat) : (m % 10 + 16 * decDigits n (m / 10)) / 16 = decDigits n (m / 10) := by
  omega

theorem decDigits_lt (n m : Nat) : decDigits n m < 16 ^ n := by
  induction n generalizing m with
  | zero => exact Nat.one_pos
  | succ n ih =>
    have hrest := ih (m / 10)
    rw [decDigits, pow_succ]
    omega

/-- R138: the digits of a number have its value. -/
theorem decMag_decDigits {n m : Nat} (h : m < 10 ^ n) : decMag n (decDigits n m) = m := by
  induction n generalizing m with
  | zero => rw [pow_zero] at h; rw [decMag]; omega
  | succ n ih =>
    have hrest : decMag n (decDigits n (m / 10)) = m / 10 := ih (by rw [pow_succ] at h; omega)
    rw [decDigits, decMag, decDigits_step_div, hrest]
    omega

theorem nibble_succ (x k : Nat) : nibble x (k + 1) = nibble (x / 16) k := by
  rw [nibble, nibble, pow_succ', Nat.div_div_eq_div_mul]

/-- R138: each is a digit. -/
theorem nibble_decDigits_lt (n m k : Nat) : nibble (decDigits n m) k < 10 := by
  induction n generalizing m k with
  | zero => rw [decDigits, nibble, Nat.zero_div]; decide
  | succ n ih =>
    cases k with
    | zero => rw [decDigits, nibble, pow_zero, Nat.div_one]; omega
    | succ k =>
      rw [nibble_succ, decDigits, decDigits_step_div]
      exact ih (m / 10) k

theorem decimalDigits : DecimalDigits :=
  fun m h => ⟨decMag_decDigits h, decDigits_lt 31 m, fun k _ => nibble_decDigits_lt 31 m k⟩

/-- R139: the first invalid nibble, as the model looks for it. -/
theorem decInvalid_of_firstInvalid {x n : Nat} (h : FirstInvalid x n) : decInvalid x = some n := by
  obtain ⟨hn, hfirst⟩ := h
  rw [decInvalid]
  by_cases h0 : n = 0
  · rw [if_pos h0] at hfirst
    rw [if_pos hfirst, h0]
  · rw [if_neg h0] at hfirst
    obtain ⟨hbad, hsign, hbefore⟩ := hfirst
    rw [if_neg (by omega), List.find?_range_eq_some]
    refine ⟨by simp [h0, hbad], List.mem_range.mpr hn, fun k hk => ?_⟩
    by_cases hk0 : k = 0
    · simp [hk0]
    · have hdigit := hbefore k (Nat.pos_of_ne_zero hk0) hk
      simp [hk0]
      omega

variable {op : OpInfo} {i : Ins} {x l : Nat} {s : State}

/-- R127: a register pair as a number and as bits. -/
theorem pairNat_eq (t : State) (e : Env) (n : Nat) : t.pairNat e n = (pairOf e (t.core e.lc) n).toNat := by
  have happend : (pairOf e (t.core e.lc) n).toNat =
      (register e (t.core e.lc) (n + 1)).toNat <<< 64 ||| (register e (t.core e.lc) n).toNat := BitVec.toNat_append _ _
  rw [happend, Nat.shiftLeft_eq, Nat.mul_comm, ← Nat.two_pow_add_eq_or_of_lt (BitVec.isLt _), Nat.add_comm, Nat.mul_comm]
  rfl

theorem wrPair_eq (t : State) (e : Env) (n v : Nat) : t.wrPair e n v = writesPair e (t.core e.lc) n (BitVec.ofNat 128 v) := by
  have hlow : BitVec.ofNat 64 (v % 2 ^ 64) = (BitVec.ofNat 128 v).setWidth 64 := by
    apply BitVec.eq_of_toNat_eq
    rw [BitVec.toNat_setWidth, BitVec.toNat_ofNat, BitVec.toNat_ofNat]
    omega
  have hhigh : BitVec.ofNat 64 (v / 2 ^ 64 % 2 ^ 64) = (BitVec.ofNat 128 v >>> 64).setWidth 64 := by
    apply BitVec.eq_of_toNat_eq
    rw [BitVec.toNat_setWidth, BitVec.toNat_ushiftRight, BitVec.toNat_ofNat, BitVec.toNat_ofNat, Nat.shiftRight_eq_div_pow]
    omega
  rw [writesPair, ← hlow, ← hhigh]
  rfl

/-- R141: the result that is written, its flags, and whether it overflowed. -/
theorem decResult_eq (v : Int) : decResult v =
    ((if v < 0 then 0xD else 0xC) + 16 * decDigits 31 (v.natAbs % 10 ^ 31),
      (if decide (10 ^ 31 ≤ v.natAbs) then 2 else 0) + (if v.natAbs % 10 ^ 31 = 0 then 4 else 0) + (if v < 0 then 8 else 0),
      decide (10 ^ 31 ≤ v.natAbs)) := by
  rw [decResult, mkFlags, mul_b2n, mul_b2n, mul_b2n]
  simp only [decide_eq_true_eq, beq_iff_eq]
  rw [show b2n false = 0 from rfl, Nat.zero_add]

section

variable {operands : Env → State → List Nat} {f : List Nat → Int} {trap : Bool} (h : Ready op i x l s)

include h

/-- R139 to R141: a decimal instruction on valid operands. -/
theorem decimal_issues {rd : BitVec 5} (hrd : (envOf op i x l s).rd = rd.toNat) {g : Env → Core → Int}
    (hvalid : ∀ y ∈ operands (envOf op i x l s) (issued op i x l s), decInvalid y = none)
    (hf : f (operands (envOf op i x l s) (issued op i x l s)) = g (envOf op i x l s) (found op i x l s)) :
    s.runInsn op i x (bodyDecimal operands f trap) =
      after op i x l s (fun e c => c.issueOp l (decimalOp e c rd (g e c) trap)) past := by
  have hnone : decFault (envOf op i x l s) (operands (envOf op i x l s) (issued op i x l s)) = none := by
    rw [decFault, List.findSome?_eq_none_iff.mpr hvalid]
    rfl
  refine runInsn_completes h _ ?_
  rw [bodyDecimal]
  dsimp only
  rw [hnone, hf, decResult_eq]
  dsimp only
  rw [wrPair_eq, hrd, issueLong_eq]
  rfl

/-- R139: one that finds an invalid nibble. -/
theorem decimal_faults {n : Nat} (hbad : (operands (envOf op i x l s) (issued op i x l s)).findSome? decInvalid = some n) :
    s.runInsn op i x (bodyDecimal operands f trap) =
      after op i x l s (fun e c => c.issueOp l (longOf e c [] none none (some (excOf e 0x0A n)))) past := by
  refine runInsn_completes h _ ?_
  rw [bodyDecimal]
  dsimp only
  rw [decFault, hbad]
  rfl

end

/-- The operands of the instructions of layout RRR. -/
theorem decTwo_eq (o : OpsRRR) : decTwo (envOf op i o.pack l s) (issued op i o.pack l s) =
    [(pairOf (envOf op i o.pack l s) (found op i o.pack l s) o.ra.toNat).toNat,
      (pairOf (envOf op i o.pack l s) (found op i o.pack l s) o.rb.toNat).toNat] := by
  rw [decTwo, ra_envOf_rrr, rb_envOf_rrr, pairNat_eq, pairNat_eq]
  rfl

/-- R140, R141: the sums and differences of two valid operands. -/
theorem decimalTwo_issues {o : OpsRRR} {f : List Nat → Int} {trap : Bool} {g : Int → Int → Int} (h : Ready op i o.pack l s)
    (hf : ∀ y z, f [y, z] = g (decValue y) (decValue z))
    (ha : validDec (envOf op i o.pack l s) (found op i o.pack l s) o.ra)
    (hb : validDec (envOf op i o.pack l s) (found op i o.pack l s) o.rb) :
    s.runInsn op i o.pack (bodyDecimal decTwo f trap) = after op i o.pack l s
      (fun e c => c.issueOp l (decimalOp e c o.rd (g (decimalAt e c o.ra) (decimalAt e c o.rb)) trap)) past := by
  refine decimal_issues h (rd_envOf_rrr o) ?_ ?_
  · rw [decTwo_eq]
    exact List.forall_mem_cons.mpr ⟨ha, List.forall_mem_singleton.mpr hb⟩
  · rw [decTwo_eq, hf]
    rfl

theorem dvalOperands_eq (o : OpsRR) : [(issued op i o.pack l s).pairNat (envOf op i o.pack l s) (envOf op i o.pack l s).ra] =
    [(pairOf (envOf op i o.pack l s) (found op i o.pack l s) o.ra.toNat).toNat] := by
  rw [ra_envOf_rr, pairNat_eq]
  rfl

theorem decimalResults : DecimalResults := by
  intro s i l
  refine ⟨fun o h ha => congrArg Host.Outcome.next (decimal_issues h (rd_envOf_rr o) ?_ ?_), fun o =>
    ⟨fun h ha hb => congrArg Host.Outcome.next (decimalTwo_issues (g := (· + ·)) h (fun _ _ => rfl) ha hb),
      fun h ha hb => congrArg Host.Outcome.next (decimalTwo_issues (g := (· - ·)) h (fun _ _ => rfl) ha hb),
      fun h ha hb => congrArg Host.Outcome.next (decimalTwo_issues (g := (· + ·)) h (fun _ _ => rfl) ha hb),
      fun h ha hb => congrArg Host.Outcome.next (decimalTwo_issues (g := (· - ·)) h (fun _ _ => rfl) ha hb)⟩⟩
  · rw [dvalOperands_eq]
    exact List.forall_mem_singleton.mpr ha
  · rw [dvalOperands_eq]
    rfl

/-! DECIMAL_DATA and its delivery -/

/-- R139: an operand of layout RRR with an invalid nibble. -/
theorem decimalTwo_faults {o : OpsRRR} {f : List Nat → Int} {trap : Bool} {n : Nat} (h : Ready op i o.pack l s)
    (hbad : FirstInvalid (pairOf (envOf op i o.pack l s) (found op i o.pack l s) o.ra.toNat).toNat n ∨
      (validDec (envOf op i o.pack l s) (found op i o.pack l s) o.ra ∧
        FirstInvalid (pairOf (envOf op i o.pack l s) (found op i o.pack l s) o.rb.toNat).toNat n)) :
    s.runInsn op i o.pack (bodyDecimal decTwo f trap) =
      after op i o.pack l s (fun e c => c.issueOp l (longOf e c [] none none (some (excOf e 0x0A n)))) past := by
  refine decimal_faults h ?_
  rw [decTwo_eq]
  obtain ha | ⟨ha, hb⟩ := hbad
  · rw [List.findSome?_cons, decInvalid_of_firstInvalid ha]
  · rw [List.findSome?_cons, show decInvalid _ = none from ha, List.findSome?_cons, decInvalid_of_firstInvalid hb]

/-- R91: an exception that is pending when its level goes on is taken before the level's next instruction. -/
theorem runInsn_delivers {body : Env → State → Res} {t : TrapInfo} (hcan : s.canIssue i.core = true)
    (hgoes : (s.boundary i.core).2 = true) (hstill : (bound i s).canIssue i.core = true)
    (hcurrent : ((bound i s).core i.core).current = some l) (hfirst : (bound i s).comesFirst i.core l = some t) :
    let c := (bound i s).core i.core
    s.runInsn op i x body = acked i s ((bound i s).setCore i.core (trapped l { t with imp := true } (c.level l).pc id id
      ((serialized l c).modLevel l (fun v => { v with ops := v.ops.drop 1 })))) := by
  intro c
  have hdeliver := deliverAt_eq t (c.level l).pc (comesFirst_ta hfirst) (current_some hcurrent).2
  simp only [State.runInsn, if_pos hcan, boundary_eq hgoes, hstill, hcurrent, State.issue, hfirst]
  exact congrArg (acked i s) hdeliver

theorem withPriv_eq {c : Core} {p : Priv} (h : c.priv = p) : { c with priv := p } = c := by
  subst h
  rfl

theorem decimalTraps : DecimalTraps := by
  refine ⟨fun s i l n => ⟨fun o h hbad => congrArg Host.Outcome.next (decimal_faults h ?_), fun o x hx h => ?_⟩,
    fun s i l t hcan hgoes hstill hcurrent hfirst => ?_⟩
  · rw [dvalOperands_eq, List.findSome?_cons, decInvalid_of_firstInvalid hbad]
  · intro e c hbad
    obtain rfl | rfl | rfl | rfl : x = (.dadd i o, Op.dadd) ∨ x = (.dsub i o, Op.dsub) ∨ x = (.daddt i o, Op.daddt) ∨
        x = (.dsubt i o, Op.dsubt) := by
      simpa only [List.mem_cons, List.not_mem_nil, or_false] using hx
    · exact congrArg Host.Outcome.next (decimalTwo_faults h hbad)
    · exact congrArg Host.Outcome.next (decimalTwo_faults h hbad)
    · exact congrArg Host.Outcome.next (decimalTwo_faults h hbad)
    · exact congrArg Host.Outcome.next (decimalTwo_faults h hbad)
  · intro c d
    have hpriv : (trapped l { t with imp := true } (c.level l).pc id id d).priv = c.priv.emptyLoop :=
      congrArg Priv.emptyLoop (settled_serialized l c).priv
    exact congrArg Host.Outcome.next ((runInsn_delivers hcan hgoes hstill hcurrent hfirst).trans
      (congrArg (fun d => acked i s ((bound i s).setCore i.core d)) (withPriv_eq hpriv).symm))

/-- Settles O5: each instruction on valid operands, the digits of a number, and the invalid nibble with its delivery. -/
theorem decimalInstructions : Obligations.DecimalInstructions := ⟨decimalResults, decimalDigits, decimalTraps⟩

end Sys2Proof.IntegerProofs
end

section
/-! R142, R156, R78: NOP, the branches, and the window calls outside window handlers. -/

namespace Sys2Proof.IntegerProofs

open Sys2Proof Sys2Proof.Machine Sys2Proof.Slice0 Sys2Proof.LevelProofs

variable {op : OpInfo} {i : Ins} {x l : Nat} {s : State} {body : Env → State → Res}

/-- An instruction that changes nothing but its PC. -/
theorem runInsn_moves_on (h : Ready op i x l s)
    (hbody : body (envOf op i x l s) (issued op i x l s) = .done (issued op i x l s)) :
    s.runInsn op i x body = after op i x l s (fun _ c => c) past :=
  runInsn_completes h (fun _ c => c) (hbody.trans (congrArg Res.done issued_eq))

/-- A branch that is taken. -/
theorem runInsn_branches (h : Ready op i x l s) (next : Env → Word)
    (hbody : body (envOf op i x l s) (issued op i x l s) = .jump (issued op i x l s) (next (envOf op i x l s))) :
    s.runInsn op i x body = afterJump op i x l s (fun _ c => c) next :=
  runInsn_jumps h (fun _ c => c) next (hbody.trans (congrArg (Res.jump · (next (envOf op i x l s))) issued_eq))

theorem branchResults : BranchResults := by
  refine fun s i l => ⟨fun h => congrArg Host.Outcome.next (runInsn_moves_on h rfl),
    fun o h => congrArg Host.Outcome.next (runInsn_branches h _ (congrArg (Res.jump _) (target_envOf_j o))),
    fun o h => congrArg Host.Outcome.next (runInsn_branches h (fun e => baseOf e (found Op.jmp i o.pack l s) o.ra) ?_), fun o h => ?_⟩
  · rw [rd_envOf_r, baseReg_eq_baseOf]
    rfl
  · intro w
    have hcond : nfld (envOf Op.bc i o.pack l s).x 0 4 = o.cond.toNat := (nfld_pack_jc o).1
    refine ⟨fun htaken => congrArg Host.Outcome.next (runInsn_branches h _ ?_),
      fun hnot => congrArg Host.Outcome.next (runInsn_moves_on h ?_)⟩
    · dsimp only
      rw [hcond, target_envOf_jc]
      exact if_pos htaken
    · dsimp only
      rw [hcond]
      exact if_neg (ne_true_of_eq_false hnot)

/-- R78: a window call outside window handlers, to a window that is not the guard window. -/
theorem callWindow_enters {target : Word} (hout : ((found op i x l s).level l).inWindowHandler = false)
    (hroom : (swWp ((found op i x l s).level l).sw + 1) % 10 ≠ swWg ((found op i x l s).level l).sw) :
    (issued op i x l s).callWindow (envOf op i x l s) target =
      .jump ((issued op i x l s).setCore i.core (enterWindow (envOf op i x l s) (found op i x l s))) target := by
  unfold State.callWindow
  refine (if_neg (ne_true_of_eq_false hout)).trans ((if_neg hroom).trans (congrArg (Res.jump · target) ?_))
  exact congrArg ((issued op i x l s).setCore i.core) (modLevel_congr (found op i x l s) l rfl)

/-- R78: RETW outside window handlers, where the window before is not the guard window. -/
theorem retw_leaves (h : Ready Op.retw i 0 l s) (hout : ((found Op.retw i 0 l s).level l).inWindowHandler = false)
    (hroom : (swWp ((found Op.retw i 0 l s).level l).sw + 9) % 10 ≠ swWg ((found Op.retw i 0 l s).level l).sw) :
    exec (.retw i) s = .next (afterJump Op.retw i 0 l s
      (fun e c => c.modLevel e.lvl (fun u => { u with sw := swSetWp u.sw ((swWp u.sw + 9) % 10) }))
      (fun _ => ((found Op.retw i 0 l s).level l).readR 13)) := by
  refine congrArg Host.Outcome.next (runInsn_jumps h _ _ ?_)
  refine (if_neg (ne_true_of_eq_false hout)).trans ((if_neg hroom).trans (congrArg (Res.jump · _) ?_))
  exact congrArg ((issued Op.retw i 0 l s).setCore i.core) (modLevel_congr (found Op.retw i 0 l s) l rfl)

theorem windowCalls : WindowCalls := by
  refine fun s i l => ⟨fun o h => ?_, fun o h => ?_, fun h => retw_leaves h⟩
  · intro v hout hroom
    refine congrArg Host.Outcome.next (runInsn_jumps h enterWindow (fun e => e.ia + displacement e o.disp) ?_)
    exact (callWindow_enters hout hroom).trans (congrArg (Res.jump _) (target_envOf_j o))
  · intro v hout hroom
    refine congrArg Host.Outcome.next (runInsn_jumps h enterWindow (fun e => baseOf e (found Op.callwr i o.pack l s) o.ra) ?_)
    refine (callWindow_enters hout hroom).trans (congrArg (Res.jump _) ?_)
    rw [rd_envOf_r, baseReg_eq_baseOf]
    rfl

/-- Settles O6: the branches by their target, the window calls by the window they move to. -/
theorem branchesAndWindows : Obligations.BranchesAndWindows := ⟨branchResults, windowCalls⟩

end Sys2Proof.IntegerProofs
end

section
/-! R128: what the completion of long operations keeps of each level. -/

namespace Sys2Proof.IntegerProofs

open Sys2Proof Sys2Proof.Machine Sys2Proof.Slice0 Sys2Proof.LevelProofs

/-- Of a level, what no long operation writes. -/
structure Lasting {α : Type} (f : Level → α) : Prop where
  g : ∀ v x, f { v with g := x } = f v
  w : ∀ v x, f { v with w := x } = f v
  flags : ∀ v k, f { v with sw := swSetFlags v.sw k } = f v
  dss : ∀ v b, f { v with sw := swSetDss v.sw b } = f v
  ops : ∀ v x, f { v with ops := x } = f v

theorem lasting_pc : Lasting Level.pc := ⟨fun _ _ => rfl, fun _ _ => rfl, fun _ _ => rfl, fun _ _ => rfl, fun _ _ => rfl⟩

theorem lasting_iroot : Lasting Level.iroot := ⟨fun _ _ => rfl, fun _ _ => rfl, fun _ _ => rfl, fun _ _ => rfl, fun _ _ => rfl⟩

theorem lasting_swS : Lasting (fun v => swS v.sw) := by
  refine ⟨fun _ _ => rfl, fun _ _ => rfl, fun v k => ?_, fun v b => ?_, fun _ _ => rfl⟩
  · rw [swS, swSetFlags, bitOf_setFld _ _ _ _ _ (by decide), if_neg (by decide), swS]
  · rw [swS, swSetDss, bitOf_setFld _ _ _ _ _ (by decide), if_neg (by decide), swS]

/-- Every level of two cores agrees on it. -/
def Lasts {α : Type} (f : Level → α) (c d : Core) : Prop := ∀ j, f (d.level j) = f (c.level j)

namespace Lasts

variable {α β : Type} {f : Level → α}

theorem modLevel (c : Core) (l : Nat) (k : Level → Level) (hk : f (k (c.level l)) = f (c.level l)) : Lasts f c (c.modLevel l k) :=
  level_modLevel_of (P := fun v u => f u = f v) c l k (fun _ => rfl) hk

theorem foldl (k : Core → β → Core) (hk : ∀ c x, Lasts f c (k c x)) (xs : List β) (c : Core) : Lasts f c (xs.foldl k c) := by
  induction xs generalizing c with
  | nil => exact fun _ => rfl
  | cons x xs ih => exact fun j => (ih (k c x) j).trans (hk c x j)

theorem writeDst (hf : Lasting f) (c : Core) (d : Dst) (x : Word) : Lasts f c (c.writeDst d x) := by
  cases d with
  | g b n => exact modLevel c b _ (hf.g _ _)
  | w b n => exact modLevel c b _ (hf.w _ _)
  | f n => exact fun _ => rfl

theorem applyOp (hf : Lasting f) (c : Core) (l : Nat) (op : LongOp) : Lasts f c (c.applyOp l op) := by
  have hw := foldl (fun c (w : Dst × Word) => c.writeDst w.1 w.2) (fun c w => writeDst hf c w.1 w.2) op.writes c
  unfold Core.applyOp
  generalize op.writes.foldl (fun c (w : Dst × Word) => c.writeDst w.1 w.2) c = d at hw
  have hdss (u : Core) (b : Bool) : Lasts f u (u.modLevel l (fun v => { v with sw := swSetDss v.sw b })) := modLevel u l _ (hf.dss _ _)
  cases op.flags with
  | none =>
    cases op.dss with
    | none => exact hw
    | some b => exact fun j => (hdss d b j).trans (hw j)
  | some k =>
    have hk : Lasts f d (d.modLevel l (fun v => { v with sw := swSetFlags v.sw k })) := modLevel d l _ (hf.flags _ _)
    cases op.dss with
    | none => exact fun j => (hk j).trans (hw j)
    | some b => exact fun j => (hdss (d.modLevel l _) b j).trans ((hk j).trans (hw j))

theorem settledSw (hf : Lasting f) (l : Nat) (c : Core) : Lasts f c (settledSw l c) := by
  have hfold (p : LongOp → Bool) := foldl (fun d op => if !op.done && p op then d.applyOp l op else d) (fun d op => by
    split
    · exact applyOp hf d l op
    · exact fun _ => rfl) (c.level l).ops c
  exact fun j => (modLevel _ l _ (hf.ops _ _) j).trans (hfold _ j)

end Lasts

end Sys2Proof.IntegerProofs
end

section
/-! R157, R102, R70: SVC and BKPT, and the traps of an instruction that does not issue. -/

namespace Sys2Proof.IntegerProofs

open Sys2Proof Sys2Proof.Machine Sys2Proof.Slice0 Sys2Proof.LevelProofs

variable {s t : State} {lc l : Nat}

/-- R70: an instruction that takes a precise trap in a level that is not in one. -/
theorem runInsn_traps {op : OpInfo} {i : Ins} {x code detail : Nat} {addr : Word} {body : Env → State → Res} (h : Ready op i x l s)
    (hta : swTa ((found op i x l s).level l).sw = false)
    (hbody : body (envOf op i x l s) (issued op i x l s) =
      .trap (issued op i x l s) ((envOf op i x l s).trap code detail addr)) :
    s.runInsn op i x body = afterTrap op i x l s (trapOf (envOf op i x l s) code detail addr) id id := by
  rw [runInsn_of_ready _ h, hbody]
  exact acked_trap h hta code detail addr

theorem imm8_pack (o : OpsU8) : o.pack % 256 = o.imm8.toNat := Nat.mod_eq_of_lt o.imm8.isLt

/-- A core that has to fetch the instruction at which it stands. -/
theorem atBoundary_of_fetches (h : Fetches lc l s) (f : Nat → Word → State → State) :
    s.atBoundary lc f = f l (((s.boundary lc).1.core lc).level l).pc (s.boundary lc).1 := by
  obtain ⟨hcan, hgoes, hstill, hcurrent, hfirst, hplays⟩ := h
  rw [State.atBoundary, if_pos hcan, show s.boundary lc = ((s.boundary lc).1, true) from Prod.ext rfl hgoes]
  dsimp only
  rw [hstill, hcurrent]
  dsimp only
  rw [hfirst]
  exact if_neg (ne_true_of_eq_false hplays)

theorem active_of_fetches (h : Fetches lc l s) : (((s.boundary lc).1.core lc).level l).run = .active := by
  obtain ⟨-, -, -, hcurrent, -⟩ := h
  exact (current_some hcurrent).2

/-- The loop buffer does not hold its instruction. -/
theorem played_of_fetches (h : Fetches lc l s) :
    ((s.boundary lc).1.core lc).priv.played (((s.boundary lc).1.core lc).level l).pc = none := by
  obtain ⟨-, -, -, -, -, hplays⟩ := h
  rw [Priv.plays] at hplays
  exact Option.not_isSome_iff_eq_none.mp (ne_true_of_eq_false hplays)

/-- R91: the trap of an instruction that has not issued is taken, where no exception comes before it. -/
theorem trapUnissued_taken {c : TrapInfo} (harch : (t.core lc).arch = (s.core lc).arch) (hrun : ((s.core lc).level l).run = .active)
    (hta : swTa (((t.modCore lc (settledSw l)).core lc).level l).sw = false)
    (hfirst : (t.modCore lc (settledSw l)).comesFirst lc l = none) :
    t.trapUnissued lc l id c = (t.modCore lc (settledSw l)).setCore lc
      (trapped l c c.iaddr id id ((t.modCore lc (settledSw l)).core lc)) := by
  have hactive : (((t.modCore lc (settledSw l)).core lc).level l).run = .active := by
    rw [State.core_modCore, (settled_settledSw l _).run, Core.level, harch]
    exact hrun
  rw [State.trapUnissued, show t.modCore lc (fun c => c.settleSw l) = t.modCore lc (settledSw l) from rfl]
  rw [hfirst]
  exact takeTrap_taken c hta hactive

/-- Lines that are read may be late or poisoned, but they have been translated. -/
theorem fetchRead_not_refused {va d : Nat} (u : State) (lines : List Nat) : (u.fetchRead lc lines []).2 ≠ .refused va d := by
  unfold State.fetchRead
  extract_lets s1
  split
  · nofun
  · split <;> nofun

/-- R102: a fetch that is refused leaves the registers of its core. -/
theorem fetched_refused_arch {n va d : Nat} {lines : List Nat} (h : s.fetched lc l n [] = (t, lines, .refused va d)) :
    (t.core lc).arch = (s.core lc).arch := by
  rw [State.fetched] at h
  split at h
  · cases h
  · have hframe : Frame true s (s.fetchLines lc l n []).1 := Frame.fetchLines lc l n []
    generalize s.fetchLines lc l n [] = r at h hframe
    obtain ⟨s1, ls, st⟩ := r
    cases st with
    | ok =>
      exact absurd (congrArg (fun r => r.2.2) h) (fetchRead_not_refused s1 ls)
    | refused va' d' =>
      cases h
      exact hframe.arch lc
    | wait => cases h
    | poison line => cases h

/-- R102: the trap of the decoder. -/
theorem illegalInstruction_traps {bytes : List (BitVec 8)} {d : DecodeTrap} {lines : List Nat} (h : Fetches lc l s)
    (hfetch : (s.boundary lc).1.fetched lc l (rawRead bytes) [] = (t, lines, .ok))
    (htrap : rawTrap bytes (swS (((s.boundary lc).1.core lc).level l).sw) = some d)
    (hta : swTa (((t.modCore lc (settledSw l)).core lc).level l).sw = false)
    (hfirst : (t.modCore lc (settledSw l)).comesFirst lc l = none) :
    exec (.illegalInstruction lc bytes) s = .next ((t.modCore lc (settledSw l)).setCore lc
      (trapped l (d.info (((t.modCore lc (settledSw l)).core lc).level l).pc)
        (((t.modCore lc (settledSw l)).core lc).level l).pc id id ((t.modCore lc (settledSw l)).core lc))) := by
  have harch : (t.core lc).arch = ((s.boundary lc).1.core lc).arch := by
    have hframe := Frame.fetched lc l (rawRead bytes) [] (congrArg (fun r => r.2.2) hfetch)
    rw [hfetch] at hframe
    exact hframe.arch lc
  have hpc : (((t.modCore lc (settledSw l)).core lc).level l).pc = (((s.boundary lc).1.core lc).level l).pc := by
    rw [State.core_modCore, Lasts.settledSw lasting_pc l _ l, Core.level, harch, Core.level]
  refine congrArg Host.Outcome.next ((atBoundary_of_fetches h _).trans ?_)
  rw [htrap]
  rw [hfetch, ← hpc]
  refine (trapUnissued_taken harch (active_of_fetches h) hta hfirst).trans ?_
  cases d <;> rfl

/-- R102, R119: the trap of a fetch that does not translate. -/
theorem fetchTranslation_traps {bytes : List (BitVec 8)} {va d : Nat} {lines : List Nat} (h : Fetches lc l s)
    (hshort : rawDecode 16 [] 0 bytes = .short)
    (hfetch : (s.boundary lc).1.fetched lc l (bytes.length + 1) [] = (t, lines, .refused va d))
    (hta : swTa (((t.modCore lc (settledSw l)).core lc).level l).sw = false)
    (hfirst : (t.modCore lc (settledSw l)).comesFirst lc l = none) :
    exec (.fetchTranslation ⟨lc, bytes⟩) s = .next ((t.modCore lc (settledSw l)).setCore lc
      (trapped l { code := 0x03, imp := false, addr := BitVec.ofNat 64 va
                   iaddr := (((t.modCore lc (settledSw l)).core lc).level l).pc, detail := d }
        (((t.modCore lc (settledSw l)).core lc).level l).pc id id ((t.modCore lc (settledSw l)).core lc))) := by
  have hpc : (((t.modCore lc (settledSw l)).core lc).level l).pc = ((t.core lc).level l).pc := by
    rw [State.core_modCore, Lasts.settledSw lasting_pc l _ l]
  refine congrArg Host.Outcome.next ((atBoundary_of_fetches h _).trans ?_)
  rw [hshort, if_neg (by decide), hfetch, hpc]
  exact trapUnissued_taken (fetched_refused_arch hfetch) (active_of_fetches h) hta hfirst

/-- No error is met where none is given. -/
theorem transErrs_nil (s : State) (lc l : Nat) (a : Acc) (va : Nat) : s.transErrs lc l a va [] = s := by
  unfold State.transErrs
  extract_lets v root
  split
  · rfl
  · split
    · rfl
    · split <;> rfl

/-- R116: with translation off an address is refused in user state or above 2^52. -/
theorem fetched_untranslated {n : Nat} (hplayed : (s.core lc).priv.played ((s.core lc).level l).pc = none)
    (hoff : bitOf ((s.core lc).level l).iroot 0 = false)
    (hbeyond : swS ((s.core lc).level l).sw = false ∨ 2 ^ 52 ≤ ((s.core lc).level l).pc.toNat) :
    s.fetched lc l n [] = (s, [], .refused ((s.core lc).level l).pc.toNat 0) := by
  have htrans : s.translate lc l .fetch ((s.core lc).level l).pc.toNat (swS ((s.core lc).level l).sw) = (s, .refused 0) := by
    rw [State.translate]
    refine (if_pos (congrArg Bool.not hoff)).trans
      (if_neg ?_)
    obtain hu | hu := hbeyond
    · rw [hu]
      exact Bool.false_ne_true
    · rw [decide_eq_false (Nat.not_lt.mpr hu), Bool.and_false]
      exact Bool.false_ne_true
  rw [State.fetched, hplayed]
  dsimp only
  rw [State.fetchLines, transErrs_nil]
  dsimp only
  rw [htrans]
  rfl

/-- Settles O8: the traps of SVC and BKPT, those of the decoder, and FETCH_TRANSLATION at a byte and at the first. -/
theorem preciseTraps : Obligations.PreciseTraps := by
  refine fun s l => ⟨fun i o h hta => congrArg Host.Outcome.next (runInsn_traps h hta ?_),
    fun i o h hta => congrArg Host.Outcome.next (runInsn_traps h hta ?_), fun lc bytes d t lines h hfetch htrap => ?_,
    fun lc bytes h hshort => ⟨fun t lines va d hfetch hta hfirst => fetchTranslation_traps h hshort hfetch hta hfirst, ?_⟩⟩
  · rw [envOf_x, imm8_pack]
  · rw [envOf_x, imm8_pack]
  · intro u v hta hfirst
    refine (illegalInstruction_traps h hfetch htrap hta hfirst).trans ?_
    cases d <;> rfl
  · intro w v hta hfirst hoff hbeyond
    have hcore : w.core lc = settledSw l ((s.boundary lc).1.core lc) := State.core_modCore _ _ _
    have hpc : v.pc = (((s.boundary lc).1.core lc).level l).pc := by
      rw [show v = (w.core lc).level l from rfl, hcore, Lasts.settledSw lasting_pc l _ l]
    have hiroot : v.iroot = (((s.boundary lc).1.core lc).level l).iroot := by
      rw [show v = (w.core lc).level l from rfl, hcore, Lasts.settledSw lasting_iroot l _ l]
    have hsup : swS v.sw = swS (((s.boundary lc).1.core lc).level l).sw := by
      rw [show v = (w.core lc).level l from rfl, hcore]
      exact Lasts.settledSw lasting_swS l _ l
    have hfetch := fetched_untranslated (n := bytes.length + 1) (played_of_fetches h) (hiroot ▸ hoff) (hpc ▸ hsup ▸ hbeyond)
    refine (fetchTranslation_traps h hshort hfetch hta hfirst).trans ?_
    rw [BitVec.ofNat_toNat, BitVec.setWidth_eq, ← hpc]

end Sys2Proof.IntegerProofs
end

section
/-! R156, R202, R214, R154, R151: the instructions that wait for everything earlier, and those on instruction space. -/

namespace Sys2Proof.IntegerProofs

open Sys2Proof Sys2Proof.Machine Sys2Proof.Slice0 Sys2Proof.LevelProofs

variable {op : OpInfo} {i : Ins} {x l : Nat} {s t : State} {body : Env → State → Res}

/-- Of an instruction that everything earlier must be visible to. -/
theorem drained_leaves {u : State} (h : Ready op i x l s) (hd : Drains op i x l s t) (hbody : body (envOf op i x l s) t = .done u) :
    s.runInsn op i x (drained body) = afterIn op i x l s u :=
  runInsn_leaves h ((drained_of_drains body hd).trans hbody)

theorem drained_ends {u : State} (h : Ready op i x l s) (hd : Drains op i x l s t) (hbody : body (envOf op i x l s) t = .ended u) :
    s.runInsn op i x (drained body) = acked i s (u.modCore i.core Core.freed) :=
  runInsn_ends h ((drained_of_drains body hd).trans hbody)

/-- R107: the I/O address of IN and OUT. -/
theorem ioAddr_eq (t : State) (o : OpsRI) : t.ioAddr (envOf op i o.pack l s) =
    (baseOf (envOf op i o.pack l s) (t.core i.core) o.ra + o.imm.signExtend 64).toNat % 2 ^ 32 := by
  rw [State.ioAddr, eaRI_eq]

theorem wordBytes_length (v : Word) : (wordBytes v).length = 8 := Laws.natToBytes_length 8 v.toNat

/-- R151: what IST stores: 4 bytes under W32, else 8. -/
theorem istBytes_length (v : Word) (w32 : Bool) : ((wordBytes v).take (if w32 then 4 else 8)).length = if w32 then 4 else 8 := by
  rw [List.length_take, wordBytes_length]
  cases w32 <;> rfl

theorem out_holds (o : OpsRI) (h : Ready Op.out i o.pack l s) (hd : Drains Op.out i o.pack l s t) :
    let e := envOf Op.out i o.pack l s
    let a := (baseOf e (t.core i.core) o.ra + o.imm.signExtend 64).toNat % 2 ^ 32
    let v := register e (t.core i.core) o.rd.toNat
    exec (.outp i o) s = .next (afterIn Op.out i o.pack l s
      ((t.modCore i.core (fun c => { c with acts := c.acts ++ [(c.count, .out a v i.met.chks)] })).pushToken i.core (.out a v))) := by
  intro e a v
  refine congrArg Host.Outcome.next (drained_leaves h hd ?_)
  rw [ioAddr_eq, rd_envOf_ri, reg_eq_register]
  rfl

theorem inp_waits (o : OpsRI) {u : State} (h : Ready Op.inp i o.pack l s) (hd : Drains Op.inp i o.pack l s t) :
    let e := envOf Op.inp i o.pack l s
    let a := (baseOf e (t.core i.core) o.ra + o.imm.signExtend 64).toNat % 2 ^ 32
    t.answered e = false → t.compared i.core [] (.inp a) = (u, true) →
    let v := u.modCore i.core (fun c => { c with
      waitIo := some { lvl := l, bank := e.bank, rd := o.rd.toNat, len := e.len, addr := a, cas := none }
      priv := c.priv.emptyLoop })
    exec (.inp i o) s = .next (acked i s ((v.ioAccess (v.coreMaster i.core) a none (.core i.core)).modCore i.core
      (fun c => { c with issuedAt := none, stalls := false, given := [] }))) := by
  intro e a hans hcompared v
  have hwaits : u.waitsAnswer e a none = v := by
    rw [State.waitsAnswer, rd_envOf_ri]
    rfl
  refine congrArg Host.Outcome.next (drained_ends h hd ?_)
  rw [ioAddr_eq, hans, if_neg Bool.false_ne_true, envOf_lc, hcompared]
  dsimp only
  rw [hwaits]

theorem ist_stores (o : OpsRI) {t1 t2 t3 : State} {ps : List (Nat × Nat)} (h : Ready Op.ist i o.pack l s)
    (hd : Drains Op.ist i o.pack l s t) :
    let e := envOf Op.ist i o.pack l s
    let n := if e.w32 then 4 else 8
    let bs := (wordBytes (register e (t.core i.core) o.rd.toNat)).take n
    let ts := (pieceBytes ps bs).map (fun p => TokenBody.store p.1 p.2)
    t.pieces e .ist (baseOf e (t.core i.core) o.ra + o.imm.signExtend 64).toNat n = .ok t1 ps →
    t1.compared i.core ts.dropLast (ts.getLastD (.store 0 [])) = (t2, true) →
    ((pieceLines ps).foldl State.mcAccess t2).readyWrite (.core i.core) false (pieceLines ps) = (t3, true) →
    let u := (pieceBytes ps bs).foldl (fun s p => s.storeBytes (.core i.core) p.1 p.2) t3
    exec (.ist i o) s = .next ((afterIn Op.ist i o.pack l s
      ((u.storeCheck e (pieceLines ps)).dropFetched i.core)).groupEnd i.core) := by
  intro e n bs ts hpieces hcompared hready u
  have hist : t1.istPieces e ps bs = .done ((u.storeCheck e (pieceLines ps)).dropFetched i.core) := by
    rw [State.istPieces, envOf_lc]
    dsimp only
    rw [hcompared]
    dsimp only
    rw [hready]
  have hbody : bodyIst e t = .done ((u.storeCheck e (pieceLines ps)).dropFetched i.core) := by
    rw [bodyIst, rd_envOf_ri, eaRI_eq, istBytes_length, reg_eq_register, envOf_lc, hpieces]
    exact hist
  exact congrArg Host.Outcome.next ((runGroup_of_ready h).trans (congrArg (State.groupEnd · i.core) (drained_leaves h hd hbody)))

theorem drainedInstructions : DrainedInstructions := by
  refine fun s t i l => ⟨fun h hd => congrArg Host.Outcome.next (drained_leaves h hd rfl),
    fun h hd => congrArg Host.Outcome.next (drained_leaves h hd rfl), fun o h hd => out_holds o h hd,
    fun o u h hd => inp_waits o h hd, fun o t1 t2 t3 ps h hd => ist_stores o h hd⟩

theorem instructionLoad : InstructionLoad := by
  intro s t i l o bs h e hload
  refine congrArg Host.Outcome.next (runInsn_leaves h ?_)
  rw [eaRI_eq, core_issued, show (envOf Op.ild i o.pack l s).w32 = e.w32 from rfl, hload]
  dsimp only
  rw [rd_envOf_ri]
  rfl

/-- Settles O17: the drained instructions and IST by what they find once everything earlier is visible; ILD by its load. -/
theorem drainedAndInstructionSpace : Obligations.DrainedAndInstructionSpace := ⟨drainedInstructions, instructionLoad⟩

end Sys2Proof.IntegerProofs
end

section
/-! R149, R150: the hints, and CINV and CFLUSH. -/

namespace Sys2Proof.IntegerProofs

open Sys2Proof Sys2Proof.Machine Sys2Proof.Slice0 Sys2Proof.LevelProofs

variable {op : OpInfo} {i : Ins} {x l : Nat} {s t u : State}

/-- R149: a hint whose enable is off. -/
theorem hint_off {a : Acc} (h : Ready op i x l s)
    (hoff : (issued op i x l s).fbit F.CORE_PREF_CTL_HINT_EN ((issued op i x l s).windowOf i.core) 0 = false) :
    s.runInsn op i x (bodyHint a) = after op i x l s (fun _ c => c) past :=
  runInsn_moves_on h (if_pos (by rw [envOf_lc, hoff]; rfl))

/-- R149: what a hint brings, by its access: the line at a physical address, for PREFW with ownership. -/
def hinted (a : Acc) (lc pa : Nat) (t : State) : State :=
  match a with
  | .prefw => t.prefetchOwned lc (lineOf pa)
  | _ => t.prefetchLine lc (lineOf pa) (!a.data)

/-- R149: a hint that is on, and translates. -/
theorem hint_brings {o : OpsR} {a : Acc} {pa left : Nat} (h : Ready op i o.pack l s)
    (hon : (issued op i o.pack l s).fbit F.CORE_PREF_CTL_HINT_EN ((issued op i o.pack l s).windowOf i.core) 0 = true)
    (hpage : (issued op i o.pack l s).onePage (envOf op i o.pack l s) a
      (baseOf (envOf op i o.pack l s) (found op i o.pack l s) o.ra).toNat = (t, .ok pa left)) :
    s.runInsn op i o.pack (bodyHint a) = afterIn op i o.pack l s (hinted a i.core pa t) := by
  refine runInsn_leaves h ((if_neg (by rw [envOf_lc, hon]; decide)).trans ?_)
  rw [rd_envOf_r, baseReg_eq_baseOf, envOf_lc, core_issued, hpage]
  rfl

theorem hints : Hints := by
  refine fun s i l o => ⟨fun c op hc h hoff => ?_, fun _ _ _ h hon hpage => congrArg Host.Outcome.next (hint_brings h hon hpage),
    fun _ _ _ h hon hpage => congrArg Host.Outcome.next (hint_brings h hon hpage),
    fun _ _ _ h hon hpage => congrArg Host.Outcome.next (hint_brings h hon hpage)⟩
  simp only [List.mem_cons, List.not_mem_nil, or_false, Prod.mk.injEq] at hc
  obtain ⟨rfl, rfl⟩ | ⟨rfl, rfl⟩ | ⟨rfl, rfl⟩ := hc
  · exact congrArg Host.Outcome.next (hint_off h hoff)
  · exact congrArg Host.Outcome.next (hint_off h hoff)
  · exact congrArg Host.Outcome.next (hint_off h hoff)

variable {o : OpsRRR} {lop : LineOp} {a : Acc}

/-- R150: a range of zero bytes. -/
theorem range_empty (h : Ready op i o.pack l s)
    (hlen : register (envOf op i o.pack l s) (found op i o.pack l s) o.rb.toNat = 0) :
    s.runInsn op i o.pack (bodyRange lop a) = after op i o.pack l s (fun e c => putReg e o.rd.toNat 0 c) past := by
  refine runInsn_completes h (fun e c => putReg e o.rd.toNat 0 c) ((if_pos ?_).trans ?_)
  · rw [rb_envOf_rrr, reg_eq_register, envOf_lc, core_issued, hlen]
    rfl
  · rw [rd_envOf_rrr]
    rfl

/-- R150: any other, of which no line waits in the store buffer. -/
theorem range_acts {pa left n : Nat} (h : Ready op i o.pack l s)
    (hlen : (register (envOf op i o.pack l s) (found op i o.pack l s) o.rb.toNat).toNat ≠ 0)
    (hpage : (issued op i o.pack l s).onePage (envOf op i o.pack l s) a
      (baseOf (envOf op i o.pack l s) (found op i o.pack l s) o.ra).toNat = (t, .ok pa left))
    (hsb : (t.core i.core).sb = []) (hfirst : t.comesFirst i.core l = none)
    (hlines : State.lineOps lop (linesOf pa (min (register (envOf op i o.pack l s) (found op i o.pack l s) o.rb.toNat).toNat left)) 0 t =
      (u, some n)) :
    s.runInsn op i o.pack (bodyRange lop a) = afterIn op i o.pack l s (u.modCore i.core (putReg (envOf op i o.pack l s) o.rd.toNat
      (BitVec.ofNat 64 (min (register (envOf op i o.pack l s) (found op i o.pack l s) o.rb.toNat).toNat left + n * 2 ^ 32)))) := by
  refine runInsn_leaves h ?_
  rw [bodyRange]
  dsimp only
  rw [rb_envOf_rrr, rd_envOf_rrr, ra_envOf_rrr, baseReg_eq_baseOf, reg_eq_register, envOf_lc, core_issued, if_neg hlen, hpage]
  dsimp only
  rw [hsb, List.any_nil, if_neg Bool.false_ne_true]
  dsimp only
  rw [if_neg (by decide), unlessPending_of_comesFirst (e := envOf op i o.pack l s) _ hfirst, hlines]
  rfl

theorem lineOperations : LineOperations :=
  fun _ _ _ _ => ⟨fun h hlen => congrArg Host.Outcome.next (range_empty h hlen),
    fun h hlen => congrArg Host.Outcome.next (range_empty h hlen),
    fun _ _ _ _ _ h hlen hpage hsb hfirst hlines => congrArg Host.Outcome.next (range_acts h hlen hpage hsb hfirst hlines),
    fun _ _ _ _ _ h hlen hpage hsb hfirst hlines => congrArg Host.Outcome.next (range_acts h hlen hpage hsb hfirst hlines)⟩

/-- Settles O18: the hints with their enable off and on, the line operations by the length of their range. -/
theorem hintsAndLines : Obligations.HintsAndLines := ⟨hints, lineOperations⟩

end Sys2Proof.IntegerProofs
end

section
/-! R148: the bytes of a CAS, its flags, and its answer. -/

namespace Sys2Proof.IntegerProofs

open Sys2Proof Sys2Proof.Machine Sys2Proof.Slice0 Sys2Proof.LevelProofs

theorem bytesToNat_lt (bs : List Byte) : bytesToNat bs < 256 ^ bs.length := by
  induction bs with
  | nil => exact Nat.one_pos
  | cons b bs ih =>
    have hb : b.toNat < 256 := b.isLt
    rw [bytesToNat, List.length_cons, pow_succ]
    omega

theorem coreBytes_length (t : State) (n a : Nat) : (t.coreBytes a n).length = n := by
  induction n generalizing a with
  | zero => rfl
  | succ n ih => rw [State.coreBytes, List.length_cons, ih]

/-- A CAS compares 4 or 8 bytes. -/
theorem coreBytes_toNat_lt (t : State) (a : Nat) (w32 : Bool) : bytesToNat (t.coreBytes a (if w32 then 4 else 8)) < 2 ^ 64 := by
  have hlt := bytesToNat_lt (t.coreBytes a (if w32 then 4 else 8))
  rw [coreBytes_length] at hlt
  refine Nat.lt_of_lt_of_le hlt ?_
  cases w32 <;> decide

/-- R148: Z is whether the value equals the low bytes of rd. -/
theorem casFlags_eq (rd : Word) {old : Nat} (n : Nat) (h : old < 2 ^ 64) :
    casFlags rd (BitVec.ofNat 64 old) n = if decide (old = rd.toNat % 2 ^ (8 * n)) then 4 else 0 := by
  rw [casFlags, BitVec.toNat_ofNat, Nat.mod_eq_of_lt h]
  simp only [beq_iff_eq, decide_eq_true_eq]

theorem ite_flag {α : Type} (b : Bool) (x y : α) : (if (if b then 4 else 0) = 4 then x else y) = if b then x else y := by
  cases b <;> rfl

/-- R148: what a CAS does at its line: the store where the comparison holds, the refusal of the ROM where it does not. -/
def casWrites (t : State) (e : Env) (pa n : Nat) (rd rb : BitVec 5) : State :=
  if decide (bytesToNat (t.coreBytes pa n) = (register e (t.core e.lc) rd.toNat).toNat % 2 ^ (8 * n)) then
    (t.storeCheck e [lineOf pa]).storeBytes (.core e.lc) pa ((wordBytes (register e (t.core e.lc) rb.toNat)).take n)
  else if inRom pa then t.romRefused (lineOf pa) else t

/-! The answer of a checked pair -/

/-- The closing of a group changes nothing of the levels. -/
theorem closeGroup_arch (c : Core) : c.closeGroup.arch = c.arch := by
  rw [Core.closeGroup]
  split <;> rfl

theorem closeGroup_waitIo (c : Core) : c.closeGroup.waitIo = c.waitIo := by
  rw [Core.closeGroup]
  split <;> rfl

theorem closeGroup_count (c : Core) : c.closeGroup.count = c.count := by
  rw [Core.closeGroup]
  split <;> rfl

theorem level_of_arch {c d : Core} (h : c.arch = d.arch) (j : Nat) : c.level j = d.level j := by
  rw [Core.level, h, Core.level]

/-- The level of a CAS as its answer leaves it: flags, rd, PC. -/
def answered (v : Level) (rd fl len : Nat) (x : Word) : Level :=
  let u := ({ v with sw := swSetFlags v.sw fl }).writeR rd x
  { u with pc := u.pc + BitVec.ofNat 64 len, sw := swSetMpc u.sw 0 }

/-- R242: the answer of a CAS on a register of its own level. -/
theorem ioAnswer_cas {c : Core} {w : IoWait} {n : Nat} (x : Word) (hw : c.waitIo = some w) (hcas : w.cas = some n)
    (hbank : w.bank = w.lvl) :
    (c.ioAnswer x).level w.lvl =
      answered (c.level w.lvl) w.rd (casFlags ((c.level w.lvl).readR w.rd) x n) w.len x ∧
    (c.ioAnswer x).waitIo = none ∧ (c.ioAnswer x).count = c.count + 1 := by
  rw [Core.ioAnswer, hw]
  dsimp only
  rw [hcas, hbank]
  refine ⟨?_, closeGroup_waitIo _, closeGroup_count _⟩
  refine (level_of_arch (d := ((c.modLevel w.lvl (fun v => { v with
      sw := swSetFlags v.sw (casFlags ((c.level w.lvl).readR w.rd) x n) })).modLevel w.lvl (fun v => v.writeR w.rd x)).modLevel w.lvl
    (fun v => { v with pc := v.pc + BitVec.ofNat 64 w.len, sw := swSetMpc v.sw 0 })) ?_ w.lvl).trans ?_
  · exact (closeGroup_arch _).trans rfl
  rw [level_modLevel_same, level_modLevel_same, level_modLevel_same]
  rfl

theorem writeR_keeps (v : Level) (n : Nat) (x : Word) : (v.writeR n x).sw = v.sw ∧ (v.writeR n x).pc = v.pc := by
  rw [Level.writeR]
  split
  · exact ⟨rfl, rfl⟩
  · split <;> exact ⟨rfl, rfl⟩

theorem swWp_swSetMpc (w : Word) (k : Nat) : swWp (swSetMpc w k) = swWp w := fld_setFld_apart w (by decide) (by decide)

/-- A register is read from the register file and the window position alone. -/
theorem readR_congr {v u : Level} (hg : u.g = v.g) (hw : u.w = v.w) (hp : swWp u.sw = swWp v.sw) (n : Nat) : u.readR n = v.readR n := by
  rw [Level.readR, Level.readR, hg, hw, hp]

theorem answered_fields (v : Level) {rd fl : Nat} (len : Nat) (x : Word) (hrd : rd < 24) (hfl : fl < 16) :
    (rd ≠ 0 → (answered v rd fl len x).readR rd = x) ∧ fld (answered v rd fl len x).sw 0 4 = fl ∧
      (answered v rd fl len x).pc = v.pc + BitVec.ofNat 64 len := by
  obtain ⟨hsw, hpc⟩ := writeR_keeps { v with sw := swSetFlags v.sw fl } rd x
  refine ⟨fun h0 => ?_, ?_, congrArg (· + BitVec.ofNat 64 len) hpc⟩
  · have hwp : swWp (answered v rd fl len x).sw = swWp (({ v with sw := swSetFlags v.sw fl }).writeR rd x).sw := swWp_swSetMpc _ 0
    refine (readR_congr (u := answered v rd fl len x) (v := ({ v with sw := swSetFlags v.sw fl }).writeR rd x) rfl rfl hwp rd).trans ?_
    rw [readR_writeR _ _ _ _ hrd hrd, if_neg h0, if_pos rfl]
  · have hmpc (w : Word) : fld (swSetMpc w 0) 0 4 = fld w 0 4 := fld_setFld_apart w (by decide) (by decide)
    have hflags : fld (swSetFlags v.sw fl) 0 4 = fl := (fld_setFld v.sw 0 4 fl (by decide)).trans (Nat.mod_eq_of_lt hfl)
    exact (hmpc _).trans ((congrArg (fld · 0 4) hsw).trans hflags)

end Sys2Proof.IntegerProofs
end

section
/-! R148, R242, R247, R490: CAS. -/

namespace Sys2Proof.IntegerProofs

open Sys2Proof Sys2Proof.Machine Sys2Proof.Slice0 Sys2Proof.LevelProofs

variable {i : Ins} {l pa n : Nat} {s t : State} {o : OpsRRR}

/-- The compare and the store, on either kind of core. -/
theorem casAt_eq (hn : n = if (envOf Op.cas i o.pack l s).w32 then 4 else 8) :
    t.casAt (envOf Op.cas i o.pack l s) pa n =
      (let e := envOf Op.cas i o.pack l s
      let old := bytesToNat (t.coreBytes pa n)
      let fl := if decide (old = (register e (t.core i.core) o.rd.toNat).toNat % 2 ^ (8 * n)) then 4 else 0
      let u := casWrites t e pa n o.rd o.rb
      if u.isChecked i.core then
        .ended ((u.waitsAnswer e pa (some n)).modCore i.core (fun c => { c with inbox := c.inbox ++ [.answer (BitVec.ofNat 64 old)] }))
      else .done ((u.setNat e o.rd.toNat old).setFlags e fl)) := by
  have hold : bytesToNat (t.coreBytes pa n) < 2 ^ 64 := hn ▸ coreBytes_toNat_lt t pa _
  rw [State.casAt]
  dsimp only
  rw [rd_envOf_rrr, rb_envOf_rrr, casFlags_eq _ n hold, reg_eq_register, reg_eq_register, envOf_lc, ite_flag]
  rfl

/-- R148: CAS at an aligned address, once all it waits for is there. -/
theorem bodyCas_eq {t0 t1 t2 t3 t4 t5 : State} {left : Nat} (hn : n = if (envOf Op.cas i o.pack l s).w32 then 4 else 8)
    (haligned : (baseOf (envOf Op.cas i o.pack l s) (found Op.cas i o.pack l s) o.ra).toNat % n = 0)
    (hd : Drains Op.cas i o.pack l s t0)
    (hpage : t0.onePage (envOf Op.cas i o.pack l s) .cas (baseOf (envOf Op.cas i o.pack l s) (found Op.cas i o.pack l s) o.ra).toNat =
      (t1, .ok pa left))
    (hans : t1.answered (envOf Op.cas i o.pack l s) = false)
    (hcompared : t1.compared i.core []
      (.cas pa n ((register (envOf Op.cas i o.pack l s) (t1.core i.core) o.rd.toNat).toNat % 2 ^ (8 * n))
        ((register (envOf Op.cas i o.pack l s) (t1.core i.core) o.rb.toNat).toNat % 2 ^ (8 * n))) = (t2, true))
    (hown : (t2.mcAccess (lineOf pa)).ownLines (.core i.core) [lineOf pa] = (t3, true))
    (hread : (t3.dataMet (envOf Op.cas i o.pack l s) [(pa, n)]).readyRead (.core i.core) [lineOf pa] = (t4, .ok))
    (hwrite : t4.readyWrite (.core i.core) false [lineOf pa] = (t5, true)) :
    bodyCas (envOf Op.cas i o.pack l s) (issued Op.cas i o.pack l s) = t5.casAt (envOf Op.cas i o.pack l s) pa n := by
  subst hn
  have hline : t1.casLine (envOf Op.cas i o.pack l s) pa (if (envOf Op.cas i o.pack l s).w32 then 4 else 8) =
      t5.casAt (envOf Op.cas i o.pack l s) pa (if (envOf Op.cas i o.pack l s).w32 then 4 else 8) := by
    rw [State.casLine]
    rw [rd_envOf_rrr, rb_envOf_rrr, reg_eq_register, reg_eq_register, envOf_lc, hcompared]
    dsimp only
    rw [hown]
    dsimp only
    rw [hread]
    dsimp only
    rw [hwrite]
  rw [bodyCas]
  rw [ra_envOf_rrr, baseReg_eq_baseOf, envOf_lc, core_issued, if_neg (not_not.mpr haligned), drained_of_drains _ hd, hpage]
  dsimp only
  rw [hans]
  exact (if_neg Bool.false_ne_true).trans hline

/-- The operand check of CAS: its rd is an integer register. -/
theorem rd_lt_of_cas (h : Ready Op.cas i o.pack l s) : o.rd.toNat < 24 := by
  obtain ⟨-, -, -, -, -, -, hdecode, -⟩ := h
  have hcheck := checks_pass hdecode (.ireg 0) (by decide)
  rw [Chk.fails, (nfld_pack_rrr o).1] at hcheck
  split at hcheck
  · omega
  · cases hcheck

/-- Settles O16: the body by its waits and its comparison; in a checked pair, then, the answer. -/
theorem compareAndSwap : Obligations.CompareAndSwap := by
  intro s t0 t1 t2 t3 t4 t5 i l pa left o h e n a low haligned hd hpage hans hcompared hown hread hwrite old same new u
  have hbody : bodyCas e (issued Op.cas i o.pack l s) = t5.casAt e pa n :=
    bodyCas_eq rfl haligned hd hpage hans hcompared hown hread hwrite
  have hgroup := runGroup_of_ready (body := bodyCas) h
  refine ⟨fun hfree => ?_, fun hchecked => ?_⟩
  · have hdone : t5.casAt e pa n = .done ((u.setNat e o.rd.toNat old).setFlags e (if same then 4 else 0)) :=
      (casAt_eq rfl).trans (if_neg (ne_true_of_eq_false hfree))
    exact congrArg Host.Outcome.next (hgroup.trans (congrArg (State.groupEnd · i.core) (runInsn_leaves h (hbody.trans hdone))))
  · intro w
    refine ⟨?_, fun c hwait hrd _ _ hbank => ?_⟩
    · have hended : t5.casAt e pa n = .ended ((u.waitsAnswer e pa (some n)).modCore i.core
          (fun c => { c with inbox := c.inbox ++ [.answer (BitVec.ofNat 64 old)] })) := (casAt_eq rfl).trans (if_pos hchecked)
      have hcore : ((u.waitsAnswer e pa (some n)).modCore i.core
          (fun c => { c with inbox := c.inbox ++ [.answer (BitVec.ofNat 64 old)] })).modCore i.core Core.freed =
          u.modCore i.core (fun c => { c with
            waitIo := some w, inbox := c.inbox ++ [.answer (BitVec.ofNat 64 old)], priv := c.priv.emptyLoop
            issuedAt := none, stalls := false, given := [] }) := by
        rw [State.waitsAnswer, envOf_lc, modCore_modCore, modCore_modCore, rd_envOf_rrr]
        exact modCore_congr rfl
      exact congrArg Host.Outcome.next (hgroup.trans (congrArg (State.groupEnd · i.core)
        ((runInsn_ends h (hbody.trans hended)).trans (congrArg (acked i s) hcore))))
    · have hflags : casFlags ((c.level l).readR o.rd.toNat) (BitVec.ofNat 64 old) n = if same then 4 else 0 := by
        rw [casFlags_eq _ _ (coreBytes_toNat_lt t5 pa e.w32), ← hbank, hrd]
      obtain ⟨hlevel, hidle, hcount⟩ := ioAnswer_cas (BitVec.ofNat 64 old) hwait rfl hbank
      obtain ⟨hreg, hsw, hpc⟩ := answered_fields (c.level l) (fl := if same then 4 else 0) e.len (BitVec.ofNat 64 old) (rd_lt_of_cas h)
        (by cases same <;> decide)
      rw [hflags] at hlevel
      rw [← hlevel] at hreg hsw hpc
      exact ⟨hreg, hsw, hidle, hcount, hpc⟩

end Sys2Proof.IntegerProofs
end

section
/-! R106, R145: loads and stores of either form. -/

namespace Sys2Proof.IntegerProofs

open Sys2Proof Sys2Proof.Machine Sys2Proof.Slice0 Sys2Proof.LevelProofs

variable {op ri rri : OpInfo} {i : Ins} {l n : Nat} {s t : State} {o : MemForm} {bs : List Byte}

theorem rd_envOf_mem : (envOf op i (blockOf o) l s).rd = (dataReg o).toNat := by
  cases o with
  | ri x => exact rd_envOf_ri x
  | rri x => exact rd_envOf_rri32 x

/-- R106: an instruction that works at the address of its form. -/
theorem runMem_leaves {body : Nat → Env → State → Res} (h : Ready (opOf ri rri o) i (blockOf o) l s)
    (hbody : body (addressOf (envOf (opOf ri rri o) i (blockOf o) l s) (found (opOf ri rri o) i (blockOf o) l s) o)
      (envOf (opOf ri rri o) i (blockOf o) l s) (issued (opOf ri rri o) i (blockOf o) l s) = .done t) :
    s.runMem ri rri i o body = afterIn (opOf ri rri o) i (blockOf o) l s t := by
  cases o with
  | ri x =>
    refine runInsn_leaves h ?_
    rw [eaRI_eq]
    exact hbody
  | rri x =>
    refine runInsn_leaves h ?_
    rw [eaRRI_eq]
    exact hbody

/-- R145: a load whose bytes can be read. -/
theorem runMem_loads {signed : Bool} (h : Loads (opOf ri rri o) i l o n s t bs) :
    s.runMem ri rri i o (bodyLoad n signed) = loaded (opOf ri rri o) i l o s t
      (if signed then sextWord (8 * n) (bytesToNat bs) else BitVec.ofNat 64 (bytesToNat bs)) := by
  obtain ⟨hready, hload⟩ := h
  refine runMem_leaves hready ?_
  rw [bodyLoad, hload, rd_envOf_mem]
  rfl

theorem runMem_loads_signed (h : Loads (opOf ri rri o) i l o n s t bs) :
    s.runMem ri rri i o (bodyLoad n true) = loaded (opOf ri rri o) i l o s t ((BitVec.ofNat (8 * n) (bytesToNat bs)).signExtend 64) := by
  rw [← sextWord_eq]
  exact runMem_loads h

theorem loadResults : LoadResults :=
  fun _ _ _ _ _ _ => ⟨fun h => congrArg Host.Outcome.next (runMem_loads (signed := false) h),
    fun h => congrArg Host.Outcome.next (runMem_loads_signed h),
    fun h => congrArg Host.Outcome.next (runMem_loads (signed := false) h),
    fun h => congrArg Host.Outcome.next (runMem_loads_signed h),
    fun h => congrArg Host.Outcome.next (runMem_loads (signed := false) h),
    fun h => congrArg Host.Outcome.next (runMem_loads_signed h),
    fun _ h => congrArg Host.Outcome.next (runMem_loads (signed := false) h)⟩

theorem take_wordBytes (v : Word) (h : n ≤ 8) : (wordBytes v).take n = (List.range n).map (fun k => (v >>> (8 * k)).setWidth 8) := by
  rw [wordBytes, natToBytes_eq_map, ← List.map_take, List.take_range, Nat.min_eq_left h]
  refine List.map_congr_left fun k _ => BitVec.eq_of_toNat_eq ?_
  rw [BitVec.toNat_ofNat, BitVec.toNat_setWidth, BitVec.toNat_ushiftRight, Nat.shiftRight_eq_div_pow]

/-- R145: a store that is accepted. -/
theorem runMem_stores (hn : n ≤ 8) (h : Stores (opOf ri rri o) i l o s t (lowBytes (opOf ri rri o) i l o s n)) :
    s.runMem ri rri i o (bodyStore n) = afterIn (opOf ri rri o) i (blockOf o) l s t := by
  obtain ⟨hready, hstore⟩ := h
  refine runMem_leaves hready ?_
  rw [bodyStore, rd_envOf_mem, take_wordBytes _ hn, reg_eq_register]
  exact hstore

theorem storeResults : StoreResults :=
  fun _ _ _ _ _ => ⟨fun h => congrArg Host.Outcome.next (runMem_stores (by decide) h),
    fun h => congrArg Host.Outcome.next (runMem_stores (by decide) h),
    fun h => congrArg Host.Outcome.next (runMem_stores (by decide) h),
    fun h => congrArg Host.Outcome.next (runMem_stores (by decide) h)⟩

end Sys2Proof.IntegerProofs
end

section
/-! R116, R212: an access that is not translated, and a store that joins the store buffer. -/

namespace Sys2Proof.IntegerProofs

open Sys2Proof Sys2Proof.Machine Sys2Proof.Slice0 Sys2Proof.LevelProofs

variable {s t : State} {e : Env} {va n : Nat} {bs : List Byte}

/-- R116: with translation off, a supervisor's data access is to the physical address. -/
theorem onePage_untranslated {a : Acc} (ha : a.data = true) (hsup : e.sup = true)
    (hoff : bitOf ((s.core e.lc).level e.lvl).droot 0 = false) (hva : va < 2 ^ 52) :
    s.onePage e a va = (s, .ok va (2 ^ 30 - va % 2 ^ 30)) := by
  have herrs : s.transErrs e.lc e.lvl a va e.met.data = s := by
    unfold State.transErrs
    extract_lets v root
    refine if_pos ?_
    rw [show root = v.droot from if_pos ha, hoff]
    rfl
  rw [State.onePage, herrs]
  unfold State.translate
  extract_lets v root asid walked
  refine (if_pos ?_).trans (if_pos ?_)
  · rw [show root = v.droot from if_pos ha, hoff]
    rfl
  · rw [hsup, decide_eq_true hva]
    rfl

theorem pieces_untranslated {a : Acc} (ha : a.data = true) (hsup : e.sup = true)
    (hoff : bitOf ((s.core e.lc).level e.lvl).droot 0 = false) (hva : va < 2 ^ 52) (hpage : va % 2 ^ 30 + n ≤ 2 ^ 30) :
    s.pieces e a va n = .ok s [(va, n)] := by
  rw [State.pieces, onePage_untranslated ha hsup hoff hva]
  exact if_pos (by omega)

/-- A token changes only what the pair positions hold. -/
theorem pushToken_keeps (s : State) (lc : Nat) (b : TokenBody) : (s.pushToken lc b).cores = s.cores ∧ (s.pushToken lc b).mem = s.mem ∧
    (s.pushToken lc b).io = s.io ∧ (s.pushToken lc b).flt = s.flt := by
  unfold State.pushToken
  split
  · exact ⟨rfl, rfl, rfl, rfl⟩
  · split <;> exact ⟨rfl, rfl, rfl, rfl⟩

/-- R212: a store of up to 8 bytes is one entry. -/
theorem splitPieces_one (h8 : n ≤ 8) : splitPieces 8 [(va, n)] = ([(va, n)], []) := by
  rw [splitPieces, if_neg (by decide), if_pos h8]
  rfl

theorem storeRoom_one {lc : Nat} (hfifo : s.fifoRoom lc 1 = true) (hroom : (s.core lc).sb.length ≤ 63) :
    s.storeRoom lc 1 = (s, true) := by
  rw [State.storeRoom, if_pos hfifo, State.sbRoom]
  exact if_pos (by omega)

/-- What the check leaves of its core. -/
theorem storeCheck_core {lines : List Nat} :
    ((s.storeCheck e lines).core e.lc).sb = (s.core e.lc).sb ∧ ((s.storeCheck e lines).core e.lc).arch = (s.core e.lc).arch := by
  rw [State.storeCheck, State.core_modCore]
  dsimp only
  split <;> exact ⟨rfl, rfl⟩

/-- The state in which a store has joined the store buffer. -/
def buffered (e : Env) (va : Nat) (bs : List Byte) (s : State) : State :=
  s.modCore e.lc (fun c => { c with sb := c.sb ++ [⟨va, bs, e.nt, c.count, false, false⟩] })

theorem bufferStore_one : s.bufferStore e [(va, bs.length)] bs = (buffered e va bs s).pushToken e.lc (.store va bs) := by
  unfold State.bufferStore
  rw [List.take_length]
  rfl

/-- R212: a store that has room and that nothing comes before is accepted. -/
theorem store_untranslated (h8 : bs.length ≤ 8) (hva : va < 2 ^ 52) (hpage : va % 2 ^ 30 + bs.length ≤ 2 ^ 30)
    (hsup : e.sup = true) (hoff : bitOf ((s.core e.lc).level e.lvl).droot 0 = false) (hroom : (s.core e.lc).sb.length ≤ 63)
    (hfifo : s.fifoRoom e.lc 1 = true) (hfirst : s.comesFirst e.lc e.lvl = none) :
    s.store e false va bs =
      .done (((buffered e va bs s).pushToken e.lc (.store va bs)).storeCheck e (pieceLines [(va, bs.length)])) := by
  rw [State.store, pieces_untranslated rfl hsup hoff hva hpage]
  dsimp only
  rw [splitPieces_one h8]
  dsimp only
  rw [show [(va, bs.length)].length + ([] : List (Nat × Nat)).length = 1 from rfl, storeRoom_one hfifo hroom]
  dsimp only
  rw [if_neg Bool.false_ne_true, unlessPending_of_comesFirst _ hfirst, List.take_of_length_le h8, bufferStore_one]
  rfl

theorem untranslatedStore : UntranslatedStore := by
  intro s e va bs _ h8 hva hpage hsup hoff hroom _ _ hfifo hfirst
  refine ⟨_, store_untranslated h8 hva hpage hsup hoff hroom hfifo hfirst, ?_⟩
  obtain ⟨hcores, hmem, hio, hflt⟩ := pushToken_keeps (buffered e va bs s) e.lc (.store va bs)
  obtain ⟨hsb, harch⟩ := storeCheck_core (s := (buffered e va bs s).pushToken e.lc (.store va bs)) (e := e)
    (lines := pieceLines [(va, bs.length)])
  have hcore (k : Nat) : ((buffered e va bs s).pushToken e.lc (.store va bs)).core k = (buffered e va bs s).core k :=
    congrArg (fun m => mapGet Core.reset m k) hcores
  rw [hcore, buffered, State.core_modCore] at hsb harch
  exact ⟨hsb, harch, hmem, hio, hflt, fun k hk =>
    (State.core_setCore_ne _ _ hk).trans ((hcore k).trans (State.core_setCore_ne s _ hk))⟩

/-- Settles O14: each store by the low bytes of its register; untranslated, by its entry in the store buffer. -/
theorem storeInstructions : Obligations.StoreInstructions := ⟨storeResults, untranslatedStore⟩

end Sys2Proof.IntegerProofs
end

section
/-! What the way of a load leaves alone: the bytes of memory, and the answers that each core's pair has agreed on. -/

namespace Sys2Proof.IntegerProofs

open Sys2Proof Sys2Proof.Machine Sys2Proof.Slice0 Sys2Proof.LevelProofs

/-- The bytes of memory stand, and each core has the lines that it was given. -/
structure Still (s t : State) : Prop where
  cells : t.mem.cells = s.mem.cells
  given : ∀ k, (t.core k).given = (s.core k).given

namespace Still

variable {s t u : State} {α β : Type}

theorem refl : Still s s := ⟨rfl, fun _ => rfl⟩

theorem trans (h : Still s t) (k : Still t u) : Still s u := ⟨k.cells.trans h.cells, fun j => (k.given j).trans (h.given j)⟩

/-- What touches neither a core nor a byte of memory. -/
theorem of_eq (hm : t.mem.cells = s.mem.cells) (hc : t.cores = s.cores) : Still s t :=
  ⟨hm, fun k => by rw [State.core, hc, State.core]⟩

theorem modCore (lc : Nat) (f : Core → Core) (hf : ∀ c, (f c).given = c.given := by intro c; rfl) : Still s (s.modCore lc f) := by
  refine ⟨rfl, fun k => ?_⟩
  by_cases h : k = lc
  · rw [h, State.core_modCore, hf]
  · rw [State.modCore, State.core_setCore_ne s _ h]

theorem ite {c : Prop} [Decidable c] (h : Still s t) (k : Still s u) : Still s (if c then t else u) := by
  split
  · exact h
  · exact k

theorem ite_fst {c : Prop} [Decidable c] {x y : State × α} (h : Still s x.1) (k : Still s y.1) : Still s (if c then x else y).1 := by
  split
  · exact h
  · exact k

theorem foldl {f : State → α → State} (hf : ∀ s x, Still s (f s x)) (xs : List α) : Still s (xs.foldl f s) := by
  induction xs generalizing s with
  | nil => exact refl
  | cons x xs ih => exact (hf s x).trans ih

theorem foldl_fst {f : State × β → α → State × β} (hf : ∀ a x, Still a.1 (f a x).1) (xs : List α) (a : State × β) :
    Still a.1 (xs.foldl f a).1 := by
  induction xs generalizing a with
  | nil => exact refl
  | cons x xs ih => exact (hf a x).trans (ih (f a x))

/-! Registers, tokens and messages -/

theorem fset (f : FieldRef) (u k v : Nat) : Still s (s.fset f u k v) := of_eq rfl rfl
theorem fcount (f : FieldRef) (u k d : Nat) : Still s (s.fcount f u k d) := of_eq rfl rfl

theorem tryFlit (k : Nat) (x : Nat × Msg) : Still s (s.tryFlit k x) := ite (of_eq rfl rfl) (of_eq rfl rfl)

theorem send (m : Msg) : Still s (s.send m) := by
  unfold State.send State.sendFrom
  refine ite refl (ite refl ?_)
  split
  · exact tryFlit _ _
  · exact of_eq rfl rfl

theorem pushToken (lc : Nat) (b : TokenBody) : Still s (s.pushToken lc b) := by
  obtain ⟨hcores, hmem, -⟩ := pushToken_keeps s lc b
  exact of_eq (congrArg Mem.cells hmem) hcores

/-! Faults and events -/

theorem addRecord (m : FaultMsg) (base : Nat) (esc fwd : Bool) : Still s (s.addRecord m base esc fwd).1 := by
  unfold State.addRecord
  exact ite_fst (of_eq rfl rfl) (of_eq rfl rfl)

theorem notice (src seq : Nat) : Still s (s.notice src seq).1 := ite_fst (of_eq rfl rfl) refl

theorem returnQueues (lc : Nat) : Still s (s.returnQueues lc) := by
  have hback (s : State) (e : Event) : Still s { s with cue := s.cue.putBack e } := of_eq rfl rfl
  exact (modCore lc _).trans (foldl hback _)

theorem stopAll_given (m : NMap Core) (k : Nat) : (mapGet Core.reset (stopAll m) k).given = (mapGet Core.reset m k).given := by
  induction m with
  | nil => rfl
  | cons p m ih =>
    show (if p.1 = k then { p.2 with stopped := true } else mapGet Core.reset (stopAll m) k : Core).given =
      (if p.1 = k then p.2 else mapGet Core.reset m k).given
    split
    · rfl
    · exact ih

theorem alertEdge (h : Still s t) : Still s (State.alertEdge s t) := by
  have hbmp : Still t { t with bmp := { t.bmp with owed := true } } := of_eq rfl rfl
  exact ite (h.trans (hbmp.trans (ite (of_eq rfl rfl) refl))) h

theorem deviceFatal (m : FaultMsg) : Still s (s.deviceFatal m) := by
  unfold State.deviceFatal
  extract_lets _ s1 s2 save s3
  have h1 : Still s s1 := alertEdge (of_eq rfl rfl)
  have h2 : Still s1 s2 := foldl (fun _ _ => send _) _
  have h3 : Still s s3 := (h1.trans h2).trans (foldl (fun _ _ => returnQueues _) _)
  exact ⟨h3.cells, fun k => (stopAll_given s3.cores k).trans (h3.given k)⟩

theorem collect (m : FaultMsg) : Still s (s.collect m).1 := by
  unfold State.collect
  extract_lets s0 conseq pend esc cls m1 s1 seq fwd
  have h0 : Still s s0 := fcount _ _ _ _
  have h1 : Still s s1 := h0.trans (ite (ite (of_eq rfl rfl) refl) (ite (of_eq rfl rfl) (of_eq rfl rfl)))
  refine ite_fst h0 ?_
  have h2 : Still s (s1.addRecord m1 m.cls esc false).1 := h1.trans (addRecord _ _ _ _)
  generalize s1.addRecord m1 m.cls esc false = r at h2 ⊢
  obtain ⟨s2, lost⟩ := r
  dsimp only at h2 ⊢
  have h3 : Still s (if conseq then if s2.fbit F.FLT_CTL_CONSEQ_NOTICE 0 0 then s2.notice 0xF08 seq else (s2, [])
      else s2.notice (0xF00 + cls) seq).1 := h2.trans (ite_fst (ite_fst (notice _ _) refl) (notice _ _))
  generalize (if conseq then if s2.fbit F.FLT_CTL_CONSEQ_NOTICE 0 0 then s2.notice 0xF08 seq else (s2, [])
      else s2.notice (0xF00 + cls) seq) = r at h3 ⊢
  obtain ⟨s3, ev1⟩ := r
  dsimp only at h3 ⊢
  have h4 : Still s (if lost then s3.notice 0xF09 seq else (s3, [])).1 := h3.trans (ite_fst (notice _ _) refl)
  generalize (if lost then s3.notice 0xF09 seq else (s3, [])) = r at h4 ⊢
  obtain ⟨s4, ev2⟩ := r
  exact h4.trans (ite (deviceFatal _) (ite (foldl (fun _ _ => send _) _) refl))

theorem mergeAt_given (c : Core) (src word : Nat) : (c.mergeAt src word).given = c.given := by
  unfold Core.mergeAt
  generalize levelNumbers = ls
  dsimp only
  induction ls generalizing c with
  | nil => rfl
  | cons l ls ih =>
    rw [List.foldl_cons]
    split
    · exact ih c
    · exact ih (c.setQueue l _)

theorem raiseOne (src word : Nat) : Still s (s.raiseOne src word).1 := by
  unfold State.raiseOne
  split
  · exact of_eq rfl rfl
  · split
    · exact modCore _ (fun c => c.mergeAt src word) (fun c => mergeAt_given c src word)
    · exact of_eq rfl rfl

theorem absentPass : Still s s.absentPass.1 := by
  refine foldl_fst (fun a src => ?_) s.cue.order (s, [])
  dsimp only
  split
  · exact refl
  · exact of_eq rfl rfl

theorem report (n : Nat) (rs : List Report) : Still s (State.report n rs s) := by
  induction n generalizing rs s with
  | zero => unfold State.report; exact refl
  | succ n ih =>
    match rs with
    | [] => exact refl
    | .fault m :: rs =>
      unfold State.report
      have hc : Still s (s.collect m).1 := collect m
      exact ite (hc.trans (absentPass.trans (ih _))) (hc.trans (ih _))
    | .event src word :: rs =>
      unfold State.report
      exact (raiseOne src word).trans (ih _)

theorem raiseBlock (src : Nat) : Still s (s.raiseBlock src) := by
  have hdraw : Still s s.draw := of_eq rfl rfl
  exact hdraw.trans (report _ _)

end Still

end Sys2Proof.IntegerProofs
end

section
/-! The same of a memory controller's rest, of requests for lines, and of the caches. -/

namespace Sys2Proof.IntegerProofs

open Sys2Proof Sys2Proof.Machine Sys2Proof.Slice0 Sys2Proof.LevelProofs

namespace Still

variable {s t u : State}

/-! Rest -/

theorem setPwrState (v : Nat) : Still s (s.setPwrState v) := ite refl ((fset _ _ _ _).trans (ite (raiseBlock _) refl))

theorem wakePorts : Still s s.wakePorts := by
  have hport (s : State) (k : Nat) : Still s (s.modPort k (fun p => { p with exiting := true })) := of_eq rfl rfl
  exact foldl (fun s k => ite (hport s k) refl) _

theorem setDom (d v : Nat) : Still s (s.setDom d v) := foldl (fun _ _ => fset _ _ _ _) _

theorem setDomCause (d c : Nat) : Still s (s.setDomCause d c) := foldl (fun _ _ => fset _ _ _ _) _

theorem wake (dom cause : Nat) : Still s (s.wake dom cause) := by
  have hqueue (q : List WakeReq) : Still s ((s.setQueue q).setDomCause (domKey dom) cause) :=
    Still.trans (of_eq rfl rfl : Still s (s.setQueue q)) (setDomCause _ _)
  unfold State.wake
  refine ite refl ?_
  split
  · exact ite (hqueue _) refl
  · exact ite (hqueue _) ((hqueue _).trans (setDom _ _))

theorem mcAccess (line : Nat) : Still s (s.mcAccess line) :=
  ite (ite ((wakePorts.trans (setPwrState 1)).trans (foldl (fun _ _ => wake _ _) _)) refl) refl

/-! Requests for lines -/

theorem produce (lc : Nat) (a : Await) : Still s (s.produce lc a) := by
  have hawait (b : Await) : Still s (s.modCore lc (fun c => { c with awaited := c.awaited ++ [b] })) := modCore lc _
  exact ite refl (ite (hawait _) (ite refl ((hawait _).trans (pushToken _ _))))

theorem demand (lc line : Nat) (instr : Bool) : Still s (s.demand lc line instr).1 := by
  unfold State.demand
  split
  · exact refl
  · dsimp only
    exact (produce lc _).trans (modCore lc _)

theorem demands (lc : Nat) (instr : Bool) (lines : List Nat) : Still s (s.demands lc instr lines).1 := by
  refine foldl_fst (fun a line => ?_) lines (s, true)
  split
  · exact refl
  · exact demand lc line instr

theorem askLine (by_ : By) (line kind dst : Nat) : Still s (s.askLine by_ line kind dst) := by
  unfold State.askLine
  refine ite refl ?_
  extract_lets _ s1 m
  have h1 : Still s s1 := of_eq rfl rfl
  exact h1.trans (ite (of_eq rfl rfl) (send _))

/-! The caches -/

theorem setPresence (line : Nat) (qs : List Nat) : Still s (s.setPresence line qs) := by
  unfold State.setPresence
  split <;> exact of_eq rfl rfl

theorem invalidate (line : Nat) (except_ : Option Nat) : Still s (s.invalidate line except_) := by
  have hdrop (s : State) (q : Nat) : Still s (s.dropAt line q) := foldl (fun _ _ => modCore _ _) _
  have hoffer (s : State) (q : Nat) : Still s (s.offerInval line q) := foldl (fun _ _ => ite refl (modCore _ _)) _
  exact (foldl (fun s q => (hdrop s q).trans (setPresence line _)) _).trans (foldl hoffer _)

theorem erasePool (line : Nat) : Still s (s.erasePool line) := ite (of_eq rfl rfl) (of_eq rfl rfl)

theorem evictLine (line : Nat) : Still s (s.evictLine line) := by
  unfold State.evictLine
  extract_lets s1
  have h1 : Still s s1 := invalidate line none
  split
  · exact h1
  · refine h1.trans (ite (ite (of_eq rfl rfl) (erasePool line)) ?_)
    extract_lets s2
    have h2 : Still s1 s2 := ite (ite (of_eq rfl rfl) refl) refl
    exact h2.trans (of_eq rfl rfl)

theorem makeWay (line : Nat) : Still s (s.makeWay line) := by
  have hfree : Still s { s with free := s.free + 1 } := of_eq rfl rfl
  unfold State.makeWay
  refine ite refl ?_
  split
  · exact hfree.trans (evictLine _)
  · exact refl

/-- The change that puts a line into the pool cache. -/
theorem pooled (line : Nat) (home : Option (List Byte × Bool)) (owned : Bool) : Still s { s with mem := { s.mem with
    clock := s.mem.clock + 1
    pool := mapSet s.mem.pool line ⟨home, owned, [], s.freeWay line, s.mem.clock + 1⟩ } } := of_eq rfl rfl

theorem putLine (line : Nat) (home : Option (List Byte × Bool)) (owned : Bool) : Still s (s.putLine line home owned) := by
  have hway : Still s (if s.resident line then s else s.makeWay line) := ite refl (makeWay line)
  exact hway.trans (pooled line home owned)

theorem install (line : Nat) : Still s (s.install line) := by
  have hevict : Still s { s with mem := { s.mem with evict := mapErase s.mem.evict line } } := of_eq rfl rfl
  unfold State.install
  split
  · exact of_eq rfl rfl
  · split
    · refine ite (putLine _ _ _) (ite ?_ ?_)
      · exact ((hevict.trans (erasePool line)).trans (putLine _ _ _)).trans (setPresence _ _)
      · exact (hevict.trans (putLine _ _ _)).trans (setPresence _ _)
    · exact putLine _ _ _

theorem notePresence (line q : Nat) : Still s (s.notePresence line q) := by
  unfold State.notePresence
  extract_lets s1
  have h1 : Still s s1 := install line
  split
  · exact h1.trans (of_eq rfl rfl)
  · exact h1

theorem takeBack (line : Nat) : Still s (s.takeBack line) := by
  unfold State.takeBack
  split
  · exact refl
  · exact ite (install line) refl

/-- A read that finds its lines. -/
theorem readyRead {by_ : By} {lines : List Nat} (h : s.readyRead by_ lines = (t, .ok)) : Still s t := by
  induction lines generalizing s with
  | nil => cases h; exact refl
  | cons line ls ih =>
    unfold State.readyRead at h
    split at h
    · cases h
    · split at h
      · exact ih h
      · split at h
        · cases h
        · exact (takeBack line).trans (ih h)
      · cases h
      · cases h
      · cases h

/-! The prefetcher, and a line that is touched -/

theorem fillSide (lc line : Nat) (instr : Bool) : Still s (s.fillSide lc line instr) := by
  unfold State.fillSide
  extract_lets fill
  have hf : Still s fill := (modCore lc _).trans (notePresence _ _)
  split
  · exact ite refl hf
  · exact hf
  · exact refl

theorem prefetchLine (lc line : Nat) (instr : Bool) : Still s (s.prefetchLine lc line instr) := by
  unfold State.prefetchLine
  extract_lets c
  refine ite refl (ite (ite (produce _ _) refl) (ite (modCore lc _) ?_))
  split
  · exact (modCore lc _).trans (askLine _ _ _ _)
  · exact fillSide _ _ _

theorem streamAhead (lc : Nat) (st : Stream) : Still s (s.streamAhead lc st) :=
  foldl (fun _ _ => ite (prefetchLine _ _ _) refl) _

theorem prefetcher (lc line : Nat) (instr : Bool) : Still s (s.prefetcher lc line instr) := by
  unfold State.prefetcher
  refine ite refl ?_
  extract_lets p seen s1
  split
  · exact (modCore lc _).trans (streamAhead _ _)
  · have h1 : Still s s1 := modCore lc _
    split
    · exact h1.trans (ite ((modCore lc _).trans (streamAhead _ _)) refl)
    · exact h1

theorem touchData (lc line : Nat) (nt : Bool) : Still s (s.touchData lc line nt) := by
  unfold State.touchData
  extract_lets p pick q s1
  have h1 : Still s s1 := ite refl (notePresence _ _)
  exact ite refl (ite ((ite refl (modCore lc _)).trans (prefetcher _ _ _)) ((h1.trans (modCore lc _)).trans (prefetcher _ _ _)))

end Still

end Sys2Proof.IntegerProofs
end

section
/-! R145, R116: a load that is not translated. -/

namespace Sys2Proof.IntegerProofs

open Sys2Proof Sys2Proof.Machine Sys2Proof.Slice0 Sys2Proof.LevelProofs

variable {s t : State} {e : Env} {va n : Nat} {bs : List Byte}

/-- The bytes that a data access reads are those of a state in which memory is as it was. -/
theorem readPieces_still {ps : List (Nat × Nat)} (h : s.readPieces e false ps = .bytes t bs) :
    ∃ u, Still s u ∧ Still u t ∧ bs = ps.flatMap (fun p => u.coreRead e.lc p.1 p.2) := by
  unfold State.readPieces at h
  have hd : Still s (s.demands e.lc false (pieceLines ps)).1 := Still.demands _ _ _
  generalize s.demands e.lc false (pieceLines ps) = d at h hd
  obtain ⟨s0, ok⟩ := d
  cases ok with
  | false => cases h
  | true =>
    have ha : Still s0 ((pieceLines ps).foldl State.mcAccess s0) := Still.foldl (fun _ _ => Still.mcAccess _) _
    dsimp only at h
    generalize hr : ((pieceLines ps).foldl State.mcAccess s0).readyRead (.core e.lc) (pieceLines ps) = r at h
    obtain ⟨u, st⟩ := r
    cases st with
    | poison line => cases h
    | wait => cases h
    | ok =>
      cases h
      exact ⟨u, (hd.trans ha).trans (Still.readyRead hr), Still.foldl (fun _ _ => Still.touchData _ _ _) _, rfl⟩

/-- No error is met where none is given. -/
theorem dataMet_nil (ps : List (Nat × Nat)) (h : e.met.data = []) : s.dataMet e ps = s := by
  rw [State.dataMet, h]
  split <;> rfl

/-- R246: what a core reads below the ROM, where no answer stands, is memory. -/
theorem coreRead_memory {lc : Nat} (hgiven : (s.core lc).given = []) (hlow : va + n ≤ romGranule) :
    s.coreRead lc va n = (List.range n).map (fun k => s.byteAt (va + k)) := by
  refine List.map_congr_left fun k hk => ?_
  have hrom : inRom (va + k) = false := by
    have hk' := List.mem_range.mp hk
    have hbelow : ¬ romBase ≤ va + k := by
      rw [romGranule] at hlow
      rw [romBase]
      omega
    rw [inRom, inRange, decide_eq_false hbelow, Bool.false_and]
  rw [State.coreByteFor, hgiven]
  exact if_neg (ne_true_of_eq_false hrom)

theorem byteAt_still (h : Still s t) (a : Nat) : t.byteAt a = s.byteAt a := congrArg (cellGet · a) h.cells

theorem untranslatedLoad : UntranslatedLoad := by
  intro s t e va n bs _ _ hlow hsup hoff hpage hmet hgiven hsb hload
  have hva : va < 2 ^ 52 := by
    rw [romGranule] at hlow
    omega
  rw [State.load, pieces_untranslated rfl hsup hoff hva hpage] at hload
  dsimp only at hload
  rw [dataMet_nil _ hmet, State.loadPieces, hsb] at hload
  obtain ⟨u, hu, ht, hbs⟩ := readPieces_still hload
  refine ⟨?_, byteAt_still (hu.trans ht)⟩
  rw [hbs, List.flatMap_singleton, coreRead_memory ((hu.given e.lc).trans hgiven) hlow]
  exact List.map_congr_left fun k _ => byteAt_still hu (va + k)

/-- Settles O13: each load by the bytes it is answered with; untranslated, by what its way leaves of memory. -/
theorem loadInstructions : Obligations.LoadInstructions := ⟨loadResults, untranslatedLoad⟩

end Sys2Proof.IntegerProofs
end

section
/-! Fields of one register beside each other, and a write of a register by its name (R4, R42, R44). -/

namespace Sys2Proof.LineProofs

open Sys2Proof Sys2Proof.Machine Sys2Proof.Slice0 Sys2Proof.LevelProofs

variable {s : State} {who : Master} {r : RegName} {u k : Nat} {v : Word}

/-- Setting a field leaves the others of its register. -/
theorem fget_fset_apart {f g : FieldRef} (x : Nat) (hreg : g.reg = f.reg) (h : f.lo + f.width ≤ 64)
    (hapart : f.lo + f.width ≤ g.lo ∨ g.lo + g.width ≤ f.lo) : (s.fset f u k x).fget g u k = s.fget g u k := by
  rw [State.fget, State.fset, hreg, State.acting_setActing, fld_setFld_apart _ h hapart, State.fget, hreg]

/-- A one-bit field reads as it was last set. -/
theorem fbit_fset {f : FieldRef} (x : Nat) (hwidth : f.width = 1) (h : f.lo + f.width ≤ 64) :
    (s.fset f u k x).fbit f u k = (x % 2 == 1) := by
  rw [State.fbit, State.fget_fset s f u k x h, hwidth, pow_one]

theorem fbit_fset_apart {f g : FieldRef} (x : Nat) (hreg : g.reg = f.reg) (h : f.lo + f.width ≤ 64)
    (hapart : f.lo + f.width ≤ g.lo ∨ g.lo + g.width ≤ f.lo) : (s.fset f u k x).fbit g u k = s.fbit g u k := by
  rw [State.fbit, fget_fset_apart x hreg h hapart, State.fbit]

/-- R42, R44: a register's address names its device, its block and its offset there. -/
theorem regAddr_names (hdev : s.devnum < 32) (hblock : blockOfReg r u < 128) (hoff : offsetOfReg r u k < 0x80000) :
    s.regAddr r u k % 2 ^ 32 = s.regAddr r u k ∧ s.regAddr r u k / 2 ^ 27 = s.devnum ∧
      s.regAddr r u k / 2 ^ 20 % 128 = blockOfReg r u ∧ s.regAddr r u k % 2 ^ 20 = offsetOfReg r u k := by
  have haddr : s.regAddr r u k = s.devnum * 2 ^ 27 + blockOfReg r u * 2 ^ 20 + offsetOfReg r u k := by
    unfold State.regAddr blockOfReg offsetOfReg
    dsimp only
    split <;> omega
  generalize blockOfReg r u = b at haddr hblock
  generalize offsetOfReg r u k = o at haddr hoff
  rw [haddr]
  omega

/-- A write that a block takes in, and that leaves the base logic its power, is what its register does with it. -/
theorem writeReg_eq (h : Hears s who r u k) (hblock : blockOfReg r u < 128) (hknown : blockKnown (blockOfReg r u) = true)
    (hoff : offsetOfReg r u k < 0x80000) (hfind : findReg (blockOfReg r u) (offsetOfReg r u k) = some (r, u, k))
    (hbase : (State.regWrite State.cfgApply s r u k v (blockOfReg r u) (s.regAddr r u k)).pwr.baseOn = s.pwr.baseOn) :
    s.writeReg who r u k v = State.regWrite State.cfgApply s r u k v (blockOfReg r u) (s.regAddr r u k) := by
  obtain ⟨hreach, -, hdev, hunit, hcount, hpower, hreset⟩ := h
  obtain ⟨hmod, hdiv, hblk, hofs⟩ := regAddr_names hdev hblock hoff
  have hio : s.ioAt who (s.regAddr r u k) (some v) .none =
      State.regWrite State.cfgApply s r u k v (blockOfReg r u) (s.regAddr r u k) := by
    rw [State.ioAt, hblk, hofs]
    dsimp only
    rw [hknown, hpower, hreset, State.regAccess, decide_eq_false (Nat.not_le.mpr hoff), Bool.false_and]
    dsimp only
    rw [if_neg (by decide), if_neg (by decide), if_neg (by decide), if_neg (by decide), hfind]
    rfl
  rw [State.writeReg.eq_def, if_pos ⟨hunit, hcount⟩, State.ioAccess, hmod, hdiv, hreach, if_neg (by decide), if_pos (Or.inr rfl),
    State.ioHere, hio, hbase, Bool.and_not_self]
  rfl

end Sys2Proof.LineProofs
end

section
/-! What the actions on lines leave of the cores, the blocks that have stopped and the base logic's power. -/

namespace Sys2Proof.LevelProofs

open Sys2Proof Sys2Proof.Machine Sys2Proof.Slice0

namespace Frame

variable {calm : Bool} {s t : State}

theorem invalAsk (line : Nat) (except_ : Option Nat) : Frame calm s (s.invalAsk line except_).1 := invalidate line except_

theorem setPool (line : Nat) (p : PoolLine) : Frame calm s (s.setPool line p) := of_eq rfl rfl rfl

theorem setMem (m : Mem) : Frame calm s { s with mem := m } := of_eq rfl rfl rfl

theorem issueWriteBack (line d : Nat) : Frame calm s (s.issueWriteBack line d) := ite refl ((setMem _).trans (send _))

theorem writeBack (line : Nat) : Frame calm s (s.writeBack line) := by
  unfold State.writeBack
  extract_lets u
  have hu : Frame calm s u := takeBack line
  split
  · exact ite (ite hu (hu.trans ((mendMem line).trans (setPool line _)))) (ite hu (hu.trans ((setMem _).trans (issueWriteBack line _))))
  · exact hu

theorem flushInval (line : Nat) : Frame calm s (s.flushInval line) :=
  ((writeBack line).trans (invalidate line none)).trans (leavePool line)

theorem discardLine (line : Nat) : Frame calm s (s.discardLine line) := by
  unfold State.discardLine
  extract_lets s1
  have h1 : Frame calm s s1 := (takeBack line).trans (invalidate line none)
  split
  · exact h1
  · split
    · exact h1.trans (erasePool line)
    · exact h1.trans (((setMem _).trans (setPoison line _)).trans (erasePool line))

theorem markModified (line : Nat) : Frame calm s (s.markModified line) := by
  unfold State.markModified
  extract_lets s1
  have h1 : Frame calm s s1 := install line
  refine ite refl ?_
  split
  · exact ite h1 (h1.trans (setMem _))
  · exact h1

theorem mergeMsg (by_ : By) (line : Nat) : Frame calm s (s.mergeMsg by_ line) := by
  have hlog : Frame calm s (s.logFault (s.poisonStore line)) := logFault _ (fun _ => Nat.le_succ 1)
  unfold State.mergeMsg
  cases by_ with
  | core lc => exact ite ((modCore lc _).trans (pushToken lc _)) hlog
  | eng _ => exact hlog
  | dev => exact hlog

theorem writeLine (by_ : By) (a : Nat) (bs : List Byte) : Frame calm s (s.writeLine by_ a bs) := by
  have h1 : Frame calm s ((s.markModified (lineOf a)).invalidate (lineOf a) (s.posBy by_)) := (markModified _).trans (invalidate _ _)
  unfold State.writeLine
  dsimp only
  generalize (s.markModified (lineOf a)).invalidate (lineOf a) (s.posBy by_) = s1 at h1 ⊢
  have h2 : Frame calm s { s1 with mem := { s1.mem with cells := cellsWrite s1.mem.cells a bs } } := h1.trans (setMem _)
  exact ite (ite (h2.trans (setPoison _ false)) (h2.trans (mergeMsg by_ _))) h2

theorem zeroLine (line : Nat) : Frame calm s (s.zeroLine line) := by
  unfold State.zeroLine
  extract_lets s1 zeros _ s2
  have h1 : Frame calm s s1 := takeBack line
  have h2 : Frame calm s s2 := h1.trans (writeLine _ _ _)
  exact ite (ite (h1.trans ((setMem _).trans (setPoison line false))) h2) (ite (h2.trans (evictLine line)) h2)

theorem lineAct (op : LineOp) (line : Nat) : Frame calm s (s.lineAct op line).1 := by
  unfold State.lineAct
  cases op with
  | flush => exact writeBack line
  | flushInval =>
    dsimp only
    split
    · exact writeBack line
    · exact flushInval line
  | inval => exact discardLine line
  | zero => exact zeroLine line

theorem lineOp (op : LineOp) (line : Nat) : Frame calm s (s.lineOp op line).1 := by
  unfold State.lineOp
  split
  · exact wantGranule line
  · split
    · exact logFault _ (fun _ => Nat.le_succ 1)
    · split
      · exact refl
      · split
        · exact refl
        · exact refl
        · exact refl
        · exact askLine _ _ _ _
        · split
          · exact lineAct op line
          · have hi : Frame calm s ((s.takeBack line).invalAsk line none).1 := (takeBack line).trans (invalAsk line none)
            generalize (s.takeBack line).invalAsk line none = x at hi
            obtain ⟨s1, gone⟩ := x
            cases gone with
            | true => exact hi.trans (lineAct op line)
            | false => exact hi

theorem lineAwake (op : LineOp) (line : Nat) : Frame calm s (s.lineAwake op line) := ite endRest refl

theorem setRng (j : Option RngJob) : Frame calm s { s with rng := j } := of_eq rfl rfl rfl

theorem rngTally (r : LineRes) : Frame calm s (s.rngTally r) := by
  unfold State.rngTally
  cases r with
  | acted p => exact ite ((fset _ _ _ _).trans (fset _ _ _ _)) (fset _ _ _ _)
  | skipped => exact fset _ _ _ _
  | noHome => exact refl
  | wait => exact refl

theorem rngLines (op : LineOp) (n : Nat) (j : RngJob) : Frame calm s (s.rngLines op n j) := by
  induction n generalizing s j with
  | zero => exact setRng _
  | succ n ih =>
    unfold State.rngLines
    have hop : Frame calm s ((s.lineAwake op (j.base + 128 * j.next)).lineOp op (j.base + 128 * j.next)).1 :=
      (lineAwake op _).trans (lineOp op _)
    generalize (s.lineAwake op (j.base + 128 * j.next)).lineOp op (j.base + 128 * j.next) = x at hop
    obtain ⟨t, res⟩ := x
    have hgo (res : LineRes) : Frame calm s ((t.rngTally res).rngLines op n { j with next := j.next + 1 }) :=
      (hop.trans (rngTally res)).trans (ih _)
    cases res with
    | acted p => exact hgo _
    | skipped => exact hgo _
    | noHome => exact hop.trans (setRng _)
    | wait => exact hop.trans (setRng _)

theorem rngGo : Frame calm s s.rngGo := by
  unfold State.rngGo
  split
  · exact refl
  · split
    · exact ite (rngLines _ _ _) refl
    · exact refl

end Frame

end Sys2Proof.LevelProofs
end

section
/-! R228, R229, R236: the commands of the range engine, and their end. -/

namespace Sys2Proof.LineProofs

open Sys2Proof Sys2Proof.Machine Sys2Proof.Slice0 Sys2Proof.LevelProofs

variable {s t : State} {who : Master} {source : Option Nat} {o : Nat} {j : RngJob} {op : LineOp}

/-- R236: the fields of a range command's word. -/
theorem cmdWord_fields (ho : o < 8) : fld (cmdWord o source) 0 3 = o ∧
    (if bitOf (cmdWord o source) 24 then some (fld (cmdWord o source) 12 12) else none) = source.map (fun n => n % 2 ^ 12) := by
  cases source with
  | none =>
    have hword : (cmdWord o none).toNat = o := by
      rw [cmdWord, BitVec.toNat_ofNat]
      omega
    have hevent : bitOf (cmdWord o none) 24 = false := by
      rw [bitOf, hword]
      exact Nat.testBit_lt_two_pow (by omega)
    rw [hevent, fld, hword]
    exact ⟨by omega, rfl⟩
  | some n =>
    have hword : (cmdWord o (some n)).toNat = o + n % 2 ^ 12 * 2 ^ 12 + 2 ^ 24 := by
      rw [cmdWord, BitVec.toNat_ofNat]
      omega
    have hevent : bitOf (cmdWord o (some n)) 24 = true := by
      rw [bitOf, hword, Nat.add_comm _ (2 ^ 24)]
      exact (Nat.testBit_two_pow_add_eq _ 24).trans (by rw [Nat.testBit_lt_two_pow (by omega)]; rfl)
    rw [hevent, fld, fld, hword]
    exact ⟨by omega, congrArg some (show (o + n % 2 ^ 12 * 2 ^ 12 + 2 ^ 24) / 2 ^ 12 % 2 ^ 12 = n % 2 ^ 12 by omega)⟩

theorem findReg_rngCmd : findReg 0x10 0x210 = some (.PCS_RNG_CMD, 0, 0) := by decide

/-- R229: what the write of a command word does where no command is in progress. -/
theorem rngCommand_eq (hbusy : s.fbit F.PCS_RNG_STATUS_BUSY 0 0 = false) (ho : o < 8) (hop : (rngOp o).isSome = true) :
    s.rngCommand (cmdWord o source) = some (if s.fget F.PCS_RNG_LEN_LINES 0 0 = 0 then s.fset F.PCS_RNG_STATUS_DONE 0 0 1
      else (rangeAccepted s o source).rngGo) := by
  obtain ⟨hcode, hsource⟩ := cmdWord_fields (source := source) ho
  have hok : (rngOp o).isNone = false := by rw [← Option.not_isSome, hop]; rfl
  rw [State.rngCommand, hcode, hsource, hbusy, hok, if_neg (by decide)]
  split
  · rfl
  · rfl

/-- R229: a command word written to PCS_RNG_CMD. -/
theorem rngWrite_eq (h : Hears s who .PCS_RNG_CMD 0 0) (hbusy : s.fbit F.PCS_RNG_STATUS_BUSY 0 0 = false) (ho : o < 8)
    (hop : (rngOp o).isSome = true) :
    s.run (fun s => s.writeReg who .PCS_RNG_CMD 0 0 (cmdWord o source)) =
      .next (if s.fget F.PCS_RNG_LEN_LINES 0 0 = 0 then s.fset F.PCS_RNG_STATUS_DONE 0 0 1
        else (rangeAccepted s o source).rngGo) := by
  have hwrite (blk addr : Nat) : State.regWrite State.cfgApply s .PCS_RNG_CMD 0 0 (cmdWord o source) blk addr =
      if s.fget F.PCS_RNG_LEN_LINES 0 0 = 0 then s.fset F.PCS_RNG_STATUS_DONE 0 0 1 else (rangeAccepted s o source).rngGo := by
    show s.orRefuse blk addr (s.rngCommand (cmdWord o source)) = _
    rw [rngCommand_eq hbusy ho hop]
    rfl
  have hframe : Frame false s (if s.fget F.PCS_RNG_LEN_LINES 0 0 = 0 then s.fset F.PCS_RNG_STATUS_DONE 0 0 1
      else (rangeAccepted s o source).rngGo) := by
    have haccepted : Frame false s (rangeAccepted s o source) :=
      (((((Frame.fset _ _ _ _).trans (Frame.fset _ _ _ _)).trans (Frame.fset _ _ _ _)).trans (Frame.fset _ _ _ _)).trans
        (Frame.fset _ _ _ _)).trans (Frame.setRng _)
    exact Frame.ite (Frame.fset _ _ _ _) (haccepted.trans Frame.rngGo)
  have hreg := writeReg_eq (v := cmdWord o source) h (by decide) (by decide) (by decide) findReg_rngCmd
    (by rw [hwrite]; exact hframe.base)
  rw [hwrite] at hreg
  rw [State.run, h.2.1, if_neg (by decide), hreg]

/-- R229: a command ends with its code. -/
theorem rngEnd_eq (h : s.rng = some j) : s.rngEnd j.stop = rangeEnded s j := by
  rw [State.rngEnd, h]
  rfl

/-- R229: a command that has no line to go on to. -/
theorem rngGo_stays (h : s.rng = some j) (hend : j.stop ≠ 0 ∨ j.len ≤ j.next) : s.rngGo = s := by
  have hs : { s with rng := some j } = s := by rw [← h]
  rw [State.rngGo, h]
  dsimp only
  split
  · split
    · next hstop =>
      rw [Nat.sub_eq_zero_of_le (hend.resolve_left (fun hne => hne hstop))]
      exact hs
    · rfl
  · rfl

theorem rngGo_eq (h : s.rng = some j) (hop : rngOp j.op = some op) (hstop : j.stop = 0) :
    s.rngGo = s.rngLines op (j.len - j.next) j := by
  rw [State.rngGo, h]
  dsimp only
  rw [hop]
  exact if_pos hstop

/-- R229: the command ends once it has passed its last line, or has stopped. -/
theorem rngDone_ends (hgo : s.rngGo = t) (hrng : t.rng = some j) (hend : j.stop ≠ 0 ∨ j.len ≤ j.next) :
    s.rngDone = rangeEnded t j := by
  rw [State.rngDone, hgo, hrng]
  dsimp only
  split
  · exact rngEnd_eq hrng
  · next hstop =>
    have hstop0 : j.stop = 0 := Decidable.not_not.mp hstop
    rw [if_pos (hend.resolve_left hstop), ← rngEnd_eq hrng, hstop0]

/-- R229: it stays while it has lines to go. -/
theorem rngDone_waits (hgo : s.rngGo = t) (hrng : t.rng = some j) (hstop : j.stop = 0) (hnext : j.next < j.len) :
    s.rngDone = t := by
  rw [State.rngDone, hgo, hrng]
  dsimp only
  rw [if_neg (fun h => h hstop), if_neg (Nat.not_le.mpr hnext)]

theorem rangeDone_eq (hdown : s.down = false) : exec .rangeDone s = .next s.rngDone := by
  refine congrArg Host.Outcome.next ?_
  rw [hdown]
  rfl

/-- A field set and then undone with the registers as they were. -/
theorem fset_undone (f : FieldRef) (u k x : Nat) (io : IoFile) (r : Option RngJob) :
    ({ s.fset f u k x with rng := r, io := io } : State) = { s with rng := r, io := io } := rfl

/-- The end of a command that raises no event: no command is left, BUSY is clear and DONE set, and the rest stands. -/
theorem rangeEnded_silent (h : j.src = none) : (rangeEnded s j).rng = none ∧
    (rangeEnded s j).fbit F.PCS_RNG_STATUS_BUSY 0 0 = false ∧ (rangeEnded s j).fbit F.PCS_RNG_STATUS_DONE 0 0 = true ∧
    { rangeEnded s j with rng := s.rng, io := s.io } = s := by
  have hbusy : ((({ s with rng := none } : State).fset F.PCS_RNG_STATUS_BUSY 0 0 0).fset F.PCS_RNG_STATUS_DONE 0 0 1).fbit
      F.PCS_RNG_STATUS_BUSY 0 0 = false := by
    rw [fbit_fset_apart 1 (by rfl) (by decide) (by decide), fbit_fset 0 (by rfl) (by decide)]
    rfl
  have hdone : ((({ s with rng := none } : State).fset F.PCS_RNG_STATUS_BUSY 0 0 0).fset F.PCS_RNG_STATUS_DONE 0 0 1).fbit
      F.PCS_RNG_STATUS_DONE 0 0 = true := by
    rw [fbit_fset 1 (by rfl) (by decide)]
    rfl
  rw [rangeEnded, h]
  dsimp only
  split
  · exact ⟨rfl, hbusy, hdone, by rw [fset_undone, fset_undone]⟩
  · refine ⟨rfl, ?_, ?_, by rw [fset_undone, fset_undone, fset_undone, fset_undone]⟩
    · rw [fbit_fset_apart _ (by rfl) (by decide) (by decide), fbit_fset_apart 1 (by rfl) (by decide) (by decide), hbusy]
    · rw [fbit_fset_apart _ (by rfl) (by decide) (by decide), fbit_fset_apart 1 (by rfl) (by decide) (by decide), hdone]

/-- R229: the next line is the last one. -/
theorem rngGo_last {p : Bool} (h : s.rng = some j) (hstop : j.stop = 0) (hlen : j.len = j.next + 1) (hop : rngOp j.op = some op)
    (hline : (s.lineAwake op (j.base + 128 * j.next)).lineOp op (j.base + 128 * j.next) = (t, .acted p)) :
    s.rngGo = { t.rngTally (.acted p) with rng := some { j with next := j.next + 1 } } := by
  have hsteps : j.len - j.next = 1 := by omega
  rw [rngGo_eq h hop hstop, hsteps, State.rngLines, hline]
  rfl

/-- R229: the next line does not let the command go on. -/
theorem rngGo_halts {r : LineRes} (h : s.rng = some j) (hstop : j.stop = 0) (hnext : j.next < j.len) (hop : rngOp j.op = some op)
    (hline : (s.lineAwake op (j.base + 128 * j.next)).lineOp op (j.base + 128 * j.next) = (t, r)) :
    (r = .wait → s.rngGo = { t with rng := some j }) ∧ (r = .noHome → s.rngGo = { t with rng := some { j with stop := 1 } }) := by
  obtain ⟨n, hn⟩ : ∃ n, j.len - j.next = n + 1 := ⟨j.len - j.next - 1, by omega⟩
  rw [rngGo_eq h hop hstop, hn, State.rngLines, hline]
  refine ⟨fun hwait => ?_, fun hnone => ?_⟩
  · rw [hwait]
  · rw [hnone]

theorem rangeCommands : RangeCommands := by
  intro s
  refine ⟨fun who source h hbusy hlen => ?_, fun who source h hbusy hlen c hc => ?_, fun j hdown hrng hend => ⟨?_, rangeEnded_silent⟩,
    fun j op t p hdown hrng hstop hlen hop hline => ?_,
    fun j op t hdown hrng hstop hnext hop => ⟨fun hline => ?_, fun hline => ?_⟩⟩
  · have hgo {o : Nat} (ho : o < 8) (hop : (rngOp o).isSome = true) :
        s.run (fun s => s.writeReg who .PCS_RNG_CMD 0 0 (cmdWord o source)) = .next (rangeAccepted s o source).rngGo := by
      rw [rngWrite_eq h hbusy ho hop, if_neg hlen]
    exact ⟨hgo (by decide) rfl, hgo (by decide) rfl, hgo (by decide) rfl, hgo (by decide) rfl⟩
  · have hdone {o : Nat} (ho : o < 8) (hop : (rngOp o).isSome = true) :
        s.run (fun s => s.writeReg who .PCS_RNG_CMD 0 0 (cmdWord o source)) = .next (s.fset F.PCS_RNG_STATUS_DONE 0 0 1) := by
      rw [rngWrite_eq h hbusy ho hop, if_pos hlen]
    simp only [List.mem_cons, List.not_mem_nil, or_false] at hc
    obtain rfl | rfl | rfl | rfl := hc
    · exact hdone (o := 1) (by decide) rfl
    · exact hdone (o := 2) (by decide) rfl
    · exact hdone (o := 3) (by decide) rfl
    · exact hdone (o := 4) (by decide) rfl
  · rw [rangeDone_eq hdown, rngDone_ends (rngGo_stays hrng hend) hrng hend]
  · rw [rangeDone_eq hdown, rngDone_ends (rngGo_last hrng hstop hlen hop hline) rfl (Or.inr hlen.le)]
    rfl
  · rw [rangeDone_eq hdown, rngDone_waits ((rngGo_halts hrng hstop hnext hop hline).1 rfl) rfl hstop hnext]
  · rw [rangeDone_eq hdown, rngDone_ends ((rngGo_halts hrng hstop hnext hop hline).2 rfl) rfl (Or.inl Nat.one_ne_zero)]
    rfl

end Sys2Proof.LineProofs
end

section
/-! The lists and maps that memory is kept in: a map's keys, the bytes of a line, the marks of poison. -/

namespace Sys2Proof.LineProofs

open Sys2Proof Sys2Proof.Machine Sys2Proof.Slice0 Sys2Proof.LevelProofs

section

variable {α : Type}

theorem mapSorted_iff (m : NMap α) : mapSorted m = true ↔ (mapKeys m).Pairwise (· < ·) := by
  rw [← List.isChain_iff_pairwise]
  induction m with
  | nil => exact ⟨fun _ => List.IsChain.nil, fun _ => rfl⟩
  | cons p m ih =>
    cases m with
    | nil => exact ⟨fun _ => List.IsChain.singleton _, fun _ => rfl⟩
    | cons p' m => simp only [mapSorted, Bool.and_eq_true, decide_eq_true_eq, ih, mapKeys, List.map_cons, List.isChain_cons_cons]

theorem mem_mapKeys_mapSet (m : NMap α) (k x : Nat) (v : α) : x ∈ mapKeys (mapSet m k v) ↔ x = k ∨ x ∈ mapKeys m := by
  induction m with
  | nil => simp [mapSet, mapKeys]
  | cons p m ih =>
    obtain ⟨k', v'⟩ := p
    simp only [mapKeys, List.map_cons, List.mem_cons] at ih ⊢
    simp only [mapSet]
    split
    · next hk => simp [hk]
    · split
      · simp
      · simp only [List.map_cons, List.mem_cons, ih]
        exact or_left_comm

theorem mapSorted_mapSet {m : NMap α} (k : Nat) (v : α) (h : mapSorted m = true) : mapSorted (mapSet m k v) = true := by
  rw [mapSorted_iff] at h ⊢
  induction m with
  | nil => exact List.pairwise_singleton _ _
  | cons p m ih =>
    obtain ⟨k', v'⟩ := p
    obtain ⟨hhead, htail⟩ := List.pairwise_cons.mp h
    simp only [mapSet]
    split
    · next hk => exact hk ▸ h
    · next hk =>
      split
      · next hlt =>
        refine List.pairwise_cons.mpr ⟨fun x hx => ?_, h⟩
        obtain rfl | hx := List.mem_cons.mp hx
        · exact hlt
        · exact hlt.trans (hhead x hx)
      · next hlt =>
        refine List.pairwise_cons.mpr ⟨fun x hx => ?_, ih htail⟩
        obtain rfl | hx := (mem_mapKeys_mapSet m k x v).mp hx
        · exact Nat.lt_of_le_of_ne (Nat.not_lt.mp hlt) hk
        · exact hhead x hx

theorem mapKeys_mapErase (m : NMap α) (k : Nat) : mapKeys (mapErase m k) = (mapKeys m).erase k := by
  induction m with
  | nil => rfl
  | cons p m ih =>
    obtain ⟨k', v'⟩ := p
    simp only [mapKeys, List.map_cons] at ih ⊢
    simp only [mapErase]
    split
    · next hk => rw [hk, List.erase_cons_head]
    · next hk => rw [List.erase_cons_tail (by simpa using hk), List.map_cons, ih]

theorem mapSorted_mapErase {m : NMap α} (k : Nat) (h : mapSorted m = true) : mapSorted (mapErase m k) = true := by
  rw [mapSorted_iff] at h ⊢
  rw [mapKeys_mapErase]
  exact h.sublist List.erase_sublist

theorem mapGet?_eq_none {m : NMap α} {k : Nat} (h : k ∉ mapKeys m) : mapGet? m k = none := by
  induction m with
  | nil => rfl
  | cons p m ih =>
    have hne : p.1 ≠ k := fun hk => h (hk ▸ List.mem_cons_self ..)
    exact (if_neg hne).trans (ih fun hm => h (List.mem_cons_of_mem _ hm))

/-- In a map in its canonical form a key that is taken out is gone. -/
theorem mapGet?_mapErase_same {m : NMap α} (k : Nat) (h : mapSorted m = true) : mapGet? (mapErase m k) k = none := by
  apply mapGet?_eq_none
  rw [mapKeys_mapErase]
  have hnodup : (mapKeys m).Nodup := ((mapSorted_iff m).mp h).imp Nat.ne_of_lt
  exact hnodup.not_mem_erase

end

/-! The bytes of a line -/

theorem cellsRead_eq (m : List Host.Cell) (a n : Nat) : cellsRead m a n = (List.range n).map (fun k => cellGet m (a + k)) := by
  induction n generalizing a with
  | zero => rfl
  | succ n ih =>
    rw [cellsRead, ih, List.range_succ_eq_map, List.map_cons, List.map_map]
    refine congrArg (cellGet m a :: ·) (List.map_congr_left fun k _ => congrArg (cellGet m) ?_)
    show a + 1 + k = a + (k + 1)
    omega

/-- Bytes that have been written are read back. -/
theorem cellsRead_cellsWrite {m : List Host.Cell} (a : Nat) (bs : List Byte) (h : cellsWf none m = true) :
    cellsRead (cellsWrite m a bs) a bs.length = bs := by
  rw [cellsRead_eq]
  refine List.ext_getElem (by simp) fun k hk hbs => ?_
  rw [List.getElem_map, List.getElem_range, cellGet_cellsWrite_in bs m a k h hbs]
  exact List.getD_eq_getElem bs 0 hbs

variable {line : Nat}

theorem lineOf_self (h : line % 128 = 0) : lineOf line = line := by
  rw [lineOf]
  omega

/-- The other lines stand when one is written. -/
theorem cellGet_line_out {m : List Host.Cell} {bs : List Byte} {a : Nat} (hline : line % 128 = 0) (hbs : bs.length = 128)
    (ha : lineOf a ≠ line) : cellGet (cellsWrite m line bs) a = cellGet m a := by
  refine cellGet_cellsWrite_out bs m line a ?_
  rw [lineOf] at ha
  omega

/-- A byte of a line that has been zeroed. -/
theorem cellGet_line_zero {m : List Host.Cell} {a : Nat} (h : cellsWf none m = true) (ha : lineOf a = line) :
    cellGet (cellsWrite m line (List.replicate 128 0)) a = 0 := by
  have hk : a % 128 < 128 := Nat.mod_lt _ (by decide)
  have haddr : a = line + a % 128 := by
    rw [lineOf] at ha
    omega
  rw [haddr, cellGet_cellsWrite_in _ m line _ h (by rw [List.length_replicate]; exact hk)]
  exact List.getD_replicate _ hk

/-! Marks of poison -/

variable {s : State}

theorem poisoned_setPoison_same (b : Bool) : (s.setPoison line b).poisoned line = b := by
  rw [State.poisoned, State.setPoison]
  cases b with
  | false => simp
  | true =>
    dsimp only
    rw [if_pos rfl]
    split
    · next h => exact h
    · rw [List.contains_iff_mem]
      exact (List.mem_insertIdx (List.length_filter_le _ _)).mpr (Or.inl rfl)

theorem poisoned_setPoison_ne {x : Nat} (b : Bool) (h : line ≠ x) : (s.setPoison x b).poisoned line = s.poisoned line := by
  rw [Bool.eq_iff_iff, State.poisoned, State.poisoned, List.contains_iff_mem, List.contains_iff_mem, State.setPoison]
  cases b with
  | false => simp [h]
  | true =>
    dsimp only
    rw [if_pos rfl]
    split
    · rfl
    · rw [List.mem_insertIdx (List.length_filter_le _ _)]
      exact or_iff_right h

end Sys2Proof.LineProofs
end

section
/-! R207, R224: what the way of a line through the caches leaves alone. -/

namespace Sys2Proof.LineProofs

open Sys2Proof Sys2Proof.Machine Sys2Proof.Slice0 Sys2Proof.LevelProofs

/-- What places lines stands: the registers, the directory, the device's number, and the window that a conversion brings. -/
structure Placed (s t : State) : Prop where
  io : t.io = s.io
  dir : t.dir = s.dir
  devnum : t.devnum = s.devnum
  conv : t.mem.conv = s.mem.conv

namespace Placed

variable {s t u : State}

theorem refl : Placed s s := ⟨rfl, rfl, rfl, rfl⟩

theorem trans (h : Placed s t) (k : Placed t u) : Placed s u :=
  ⟨k.io.trans h.io, k.dir.trans h.dir, k.devnum.trans h.devnum, k.conv.trans h.conv⟩

theorem acting (h : Placed s t) (r : RegName) (u k : Nat) : t.acting r u k = s.acting r u k := by
  have hreset : regReset t r = regReset s r := by
    unfold regReset
    rw [h.devnum]
  rw [State.acting, State.acting, hreset, h.io]

theorem fget (h : Placed s t) (f : FieldRef) (u k : Nat) : t.fget f u k = s.fget f u k := by
  rw [State.fget, h.acting, State.fget]

theorem homeOf (h : Placed s t) (a : Nat) : t.homeOf a = s.homeOf a := by
  unfold State.homeOf
  rw [h.io, h.dir, h.devnum]

/-- A line that is homed here stays so. -/
theorem homed {line : Nat} (h : Placed s t) (hhome : s.homeOf line = .dev s.devnum) : t.homeOf line = .dev t.devnum := by
  rw [h.homeOf, hhome, h.devnum]

end Placed

/-- Besides, the bytes of memory stand, the pool cache keeps its canonical form, a line whose memory is good stays so and is poisoned
as it was, and positions take part in agreements as before. -/
structure Kept (line : Nat) (s t : State) : Prop extends Placed s t where
  cells : t.mem.cells = s.mem.cells
  clean : s.mem.bad.contains line = false → t.mem.bad.contains line = false ∧ t.poisoned line = s.poisoned line
  sorted : mapSorted s.mem.pool = true → mapSorted t.mem.pool = true
  pairs : t.pairs = s.pairs
  flt : t.flt = s.flt
  split : ∀ k, (t.core k).split = (s.core k).split
  stopped : ∀ k, (t.core k).stopped = (s.core k).stopped

namespace Kept

variable {line : Nat} {s t u : State}

theorem refl : Kept line s s :=
  ⟨.refl, rfl, fun h => ⟨h, rfl⟩, fun h => h, rfl, rfl, fun _ => rfl, fun _ => rfl⟩

theorem trans (h : Kept line s t) (k : Kept line t u) : Kept line s u where
  toPlaced := h.toPlaced.trans k.toPlaced
  cells := k.cells.trans h.cells
  clean hb := ⟨(k.clean (h.clean hb).1).1, (k.clean (h.clean hb).1).2.trans (h.clean hb).2⟩
  sorted hs := k.sorted (h.sorted hs)
  pairs := k.pairs.trans h.pairs
  flt := k.flt.trans h.flt
  split j := (k.split j).trans (h.split j)
  stopped j := (k.stopped j).trans (h.stopped j)

/-- A change of memory that touches neither bytes nor marks. -/
theorem setMem (m : Mem) (hsorted : mapSorted s.mem.pool = true → mapSorted m.pool = true) (hcells : m.cells = s.mem.cells := by rfl)
    (hpoison : m.poison = s.mem.poison := by rfl) (hbad : m.bad = s.mem.bad := by rfl) (hconv : m.conv = s.mem.conv := by rfl) :
    Kept line s { s with mem := m } where
  toPlaced := ⟨rfl, rfl, rfl, hconv⟩
  cells := hcells
  clean h := ⟨by rw [hbad]; exact h, by rw [State.poisoned, hpoison, State.poisoned]⟩
  sorted := hsorted
  pairs := rfl
  flt := rfl
  split _ := rfl
  stopped _ := rfl

theorem modCore (lc : Nat) (f : Core → Core) (hsplit : ∀ c, (f c).split = c.split := by intro c; rfl)
    (hstopped : ∀ c, (f c).stopped = c.stopped := by intro c; rfl) : Kept line s (s.modCore lc f) := by
  have hcore (k : Nat) : ((s.modCore lc f).core k).split = (s.core k).split ∧
      ((s.modCore lc f).core k).stopped = (s.core k).stopped := by
    by_cases h : k = lc
    · rw [h, State.core_modCore]
      exact ⟨hsplit _, hstopped _⟩
    · rw [State.modCore, State.core_setCore_ne s _ h]
      exact ⟨rfl, rfl⟩
  exact ⟨⟨rfl, rfl, rfl, rfl⟩, rfl, fun h => ⟨h, rfl⟩, fun h => h, rfl, rfl, fun k => (hcore k).1, fun k => (hcore k).2⟩

theorem ite {c : Prop} [Decidable c] (h : Kept line s t) (k : Kept line s u) : Kept line s (if c then t else u) := by
  split
  · exact h
  · exact k

theorem foldl {α : Type} {f : State → α → State} (hf : ∀ s x, Kept line s (f s x)) (xs : List α) :
    Kept line s (xs.foldl f s) := by
  induction xs generalizing s with
  | nil => exact refl
  | cons x xs ih => exact (hf s x).trans ih

/-- A position agrees, or acts at once, as before (R207). -/
theorem agrees (h : Kept line s t) (q : Nat) : t.agrees q = s.agrees q := by
  have hpair : t.pair q = s.pair q := by rw [State.pair, h.pairs, State.pair]
  have hcores : t.coresAt q = s.coresAt q := by
    unfold State.coresAt State.isSplit
    simp only [hpair, h.split]
  simp only [State.agrees, hpair, hcores, h.flt, h.stopped]

/-! Private copies -/

theorem setPresence (x : Nat) (qs : List Nat) : Kept line s (s.setPresence x qs) := by
  unfold State.setPresence
  split
  · exact setMem _ (mapSorted_mapSet _ _)
  · exact setMem _ id
  · exact refl

theorem invalidate (x : Nat) (except_ : Option Nat) : Kept line s (s.invalidate x except_) := by
  have hdrop (s : State) (q : Nat) : Kept line s (s.dropAt x q) := foldl (fun _ _ => modCore _ _) _
  have hoffer (s : State) (q : Nat) : Kept line s (s.offerInval x q) := foldl (fun _ _ => ite refl (modCore _ _)) _
  exact (foldl (fun s q => (hdrop s q).trans (setPresence x _)) _).trans (foldl hoffer _)

/-! The pool cache -/

theorem setPool (x : Nat) (p : PoolLine) : Kept line s (s.setPool x p) := setMem _ (mapSorted_mapSet _ _)

/-- The memory of a line is good again, or no longer the line's. -/
theorem mendBad (x : Nat) : Kept line s { s with mem := { s.mem with bad := s.mem.bad.filter (· != x) } } where
  toPlaced := ⟨rfl, rfl, rfl, rfl⟩
  cells := rfl
  clean h := by
    refine ⟨?_, rfl⟩
    rw [Bool.eq_false_iff, Ne, List.contains_iff_mem] at h ⊢
    exact fun hm => h (List.mem_filter.mp hm).1
  sorted h := h
  pairs := rfl
  flt := rfl
  split _ := rfl
  stopped _ := rfl

theorem mendMem (x : Nat) : Kept line s (s.mendMem x) := ite (mendBad x) refl

/-- R234: a line whose memory is bad is poisoned as it leaves; one whose memory is good is not that line. -/
theorem erasePool (x : Nat) : Kept line s (s.erasePool x) := by
  have hpool : Kept line s { s with mem := { s.mem with pool := mapErase s.mem.pool x } } := setMem _ (mapSorted_mapErase x)
  unfold State.erasePool
  extract_lets _ s1
  split
  · next hx =>
    have hne : s.mem.bad.contains line = false → line ≠ x := by
      rintro h rfl
      rw [hx] at h
      cases h
    exact ⟨⟨rfl, rfl, rfl, rfl⟩, rfl, fun h => ⟨((mendBad x).clean h).1, poisoned_setPoison_ne true (hne h)⟩, mapSorted_mapErase x,
      rfl, rfl, fun _ => rfl, fun _ => rfl⟩
  · exact hpool

theorem leavePool (x : Nat) : Kept line s (s.leavePool x) := ite (setMem _ (mapSorted_mapErase x)) (erasePool x)

theorem evictLine (x : Nat) : Kept line s (s.evictLine x) := by
  unfold State.evictLine
  extract_lets s1
  have h1 : Kept line s s1 := invalidate x none
  split
  · exact h1
  · refine h1.trans (ite (leavePool x) ?_)
    extract_lets s2
    have h2 : Kept line s1 s2 := ite (mendMem x) refl
    exact h2.trans (setMem _ (mapSorted_mapErase x))

theorem makeWay (x : Nat) : Kept line s (s.makeWay x) := by
  have hfree : Kept line s { s with free := s.free + 1 } :=
    ⟨⟨rfl, rfl, rfl, rfl⟩, rfl, fun h => ⟨h, rfl⟩, id, rfl, rfl, fun _ => rfl, fun _ => rfl⟩
  unfold State.makeWay
  refine ite refl ?_
  split
  · exact hfree.trans (evictLine _)
  · exact refl

theorem putLine (x : Nat) (home : Option (List Byte × Bool)) (owned : Bool) : Kept line s (s.putLine x home owned) := by
  have hput (t : State) : Kept line t { t with mem := { t.mem with
      clock := t.mem.clock + 1
      pool := mapSet t.mem.pool x ⟨home, owned, [], t.freeWay x, t.mem.clock + 1⟩ } } := setMem _ (mapSorted_mapSet _ _)
  have h1 : Kept line s (if s.resident x then s else s.makeWay x) := ite refl (makeWay x)
  exact h1.trans (hput _)

theorem install (x : Nat) : Kept line s (s.install x) := by
  have hevict : Kept line s { s with mem := { s.mem with evict := mapErase s.mem.evict x } } := setMem _ id
  unfold State.install
  split
  · exact setMem _ (mapSorted_mapSet _ _)
  · split
    · refine ite (putLine _ _ _) (ite ?_ ?_)
      · exact ((hevict.trans (erasePool x)).trans (putLine _ _ _)).trans (setPresence _ _)
      · exact (hevict.trans (putLine _ _ _)).trans (setPresence _ _)
    · exact putLine _ _ _

theorem takeBack (x : Nat) : Kept line s (s.takeBack x) := by
  unfold State.takeBack
  split
  · exact refl
  · exact ite (install x) refl

theorem markModified (x : Nat) : Kept line s (s.markModified x) := by
  unfold State.markModified
  extract_lets s1
  have h1 : Kept line s s1 := install x
  refine ite refl ?_
  split
  · exact ite h1 (h1.trans (setMem _ (mapSorted_mapSet _ _)))
  · exact h1

/-- R228: a write-back to this device's own memory. -/
theorem writeBack {x : Nat} (hhome : s.homeOf x = .dev s.devnum) : Kept line s (s.writeBack x) := by
  unfold State.writeBack
  extract_lets u
  have hu : Kept line s u := takeBack x
  rw [hu.homed hhome]
  cases u.poolLine x with
  | none => exact hu
  | some p =>
    dsimp only
    rw [if_pos rfl]
    exact ite hu (hu.trans ((mendMem x).trans (setPool x _)))

/-- R228: a line of this device leaves the pool cache after its write-back. -/
theorem flushInval {x : Nat} (hhome : s.homeOf x = .dev s.devnum) : Kept line s (s.flushInval x) :=
  ((writeBack hhome).trans (invalidate x none)).trans (leavePool x)

end Kept

end Sys2Proof.LineProofs
end

section
/-! R228: the actions on a line that is here and homed here. -/

namespace Sys2Proof.LineProofs

open Sys2Proof Sys2Proof.Machine Sys2Proof.Slice0 Sys2Proof.LevelProofs

variable {line : Nat} {s t : State} {p : PoolLine}

/-! What the way to an action leaves of the line's own record -/

theorem foldl_same {α β : Type} (g : State → β) {f : State → α → State} (hf : ∀ s x, g (f s x) = g s) (xs : List α) (s : State) :
    g (xs.foldl f s) = g s := by
  induction xs generalizing s with
  | nil => rfl
  | cons x xs ih => exact (ih (f s x)).trans (hf s x)

/-- What the home of a line in the pool cache holds, while the line is there. -/
def poolHome (line : Nat) (s : State) : Option (Option (List Byte × Bool)) := (s.poolLine line).map PoolLine.home

theorem poolHome_setPresence (qs : List Nat) : poolHome line (s.setPresence line qs) = poolHome line s := by
  unfold poolHome State.poolLine State.setPresence
  split
  · next p hp =>
    rw [hp]
    exact Eq.trans (congrArg (Option.map PoolLine.home) (mapGet?_mapSet_same _ _ _)) rfl
  · rfl
  · rfl

theorem poolHome_of_mem (h : t.mem = s.mem) : poolHome line t = poolHome line s := by
  rw [poolHome, State.poolLine, h, poolHome, State.poolLine]

theorem dropAt_mem (x q : Nat) : (s.dropAt x q).mem = s.mem := by
  unfold State.dropAt
  refine foldl_same State.mem (fun s lc => ?_) _ s
  rfl

theorem offerInval_mem (x q : Nat) : (s.offerInval x q).mem = s.mem := by
  unfold State.offerInval
  refine foldl_same State.mem (fun s lc => ?_) _ s
  split
  · rfl
  · rfl

/-- R207: the copies in the cores go, and the pool cache keeps the line. -/
theorem poolHome_invalidate (except_ : Option Nat) : poolHome line (s.invalidate line except_) = poolHome line s := by
  have hoffer (s : State) (q : Nat) : poolHome line (s.offerInval line q) = poolHome line s := poolHome_of_mem (offerInval_mem line q)
  have hdrop (s : State) (q : Nat) : poolHome line ((s.dropAt line q).clearBit line q) = poolHome line s :=
    (poolHome_setPresence _).trans (poolHome_of_mem (dropAt_mem line q))
  exact (foldl_same (poolHome line) hoffer _ _).trans (foldl_same (poolHome line) hdrop _ s)

theorem takeBack_pooled (h : s.poolLine line = some p) : s.takeBack line = s := by
  rw [State.takeBack, h]
  split
  · rfl
  · rfl

theorem presence_setPresence {qs : List Nat} {q : Nat} (h : q ∈ (s.setPresence line qs).presence line) : q ∈ qs := by
  unfold State.setPresence at h
  split at h
  · rw [State.presence, mapGet?_mapSet_same] at h
    exact h
  · next hpool hevict =>
    rw [State.presence, hpool, mapGet?_mapSet_same] at h
    exact h
  · next hpool hevict =>
    rw [State.presence, hpool, hevict] at h
    cases h

/-- A line that is put into the pool cache has no holders. -/
theorem presence_putLine (home : Option (List Byte × Bool)) (owned : Bool) : (s.putLine line home owned).presence line = [] := by
  have hput (t : State) (c : Nat) (p : PoolLine) (hp : p.presence = []) :
      State.presence { t with mem := { t.mem with clock := c, pool := mapSet t.mem.pool line p } } line = [] := by
    rw [State.presence, mapGet?_mapSet_same]
    exact hp
  exact hput _ _ _ rfl

/-- R224: a line that comes back from the eviction buffer has no holders but those it had. -/
theorem presence_takeBack {q : Nat} (h : q ∈ (s.takeBack line).presence line) : q ∈ s.presence line := by
  unfold State.takeBack at h
  split at h
  · exact h
  · next e he =>
    split at h
    · next hback =>
      have hpool : s.poolLine line = none := Option.isNone_iff_eq_none.mp (Bool.and_eq_true_iff.mp hback).1
      have hpresence : s.presence line = e.presence := by
        rw [State.presence, ← State.poolLine, hpool, he]
      rw [State.install, hpool, he] at h
      dsimp only at h
      rw [hpresence]
      split at h
      · rw [presence_putLine] at h
        cases h
      · split at h
        · exact presence_setPresence h
        · exact presence_setPresence h
    · exact h

/-- R207: no acknowledgement is awaited where every holder acts at once. -/
theorem invalAsk_gone (h : ∀ q ∈ s.presence line, s.agrees q = false) : (s.invalAsk line none).2 = true := by
  show (((s.presence line).filter _).filter s.agrees).isEmpty = true
  rw [List.isEmpty_iff, List.filter_eq_nil_iff]
  intro q hq
  rw [h q (List.mem_filter.mp hq).1]
  decide

theorem erasePool_of_good (h : s.mem.bad.contains line = false) :
    s.erasePool line = { s with mem := { s.mem with pool := mapErase s.mem.pool line } } := by
  rw [State.erasePool, h]
  rfl

/-! The actions themselves -/

/-- An action that takes a plain line from every cache finds the copies in the cores gone. -/
theorem lineOp_here {op : LineOp} (h : Plain s line) (hop : op ≠ .flush) (hstate : s.lineState false true (op == .zero) line = .here) :
    s.lineOp op line = ((s.takeBack line).invalidate line none).lineAct op line := by
  obtain ⟨-, hresident, hhome, hup, -, hholders⟩ := h
  have hrom : inRom line = false := by
    unfold State.homeOf at hhome
    split at hhome
    · cases hhome
    · next hlow =>
      have hbelow : ¬ romBase ≤ line := by
        rw [romGranule] at hlow
        rw [romBase]
        omega
      rw [inRom, inRange, decide_eq_false hbelow, Bool.false_and]
  have hgone : ((s.takeBack line).invalAsk line none).2 = true := by
    refine invalAsk_gone fun q hq => ?_
    rw [(Kept.takeBack (line := line) line).agrees]
    exact (Bool.not_eq_true' _).mp (List.all_eq_true.mp hholders q (presence_takeBack hq))
  have hflush : (op != .flush) = true := bne_iff_ne.mpr hop
  rw [State.lineOp, hup, hrom, hresident, hflush, hstate, Bool.and_false, Bool.false_and, Bool.not_true, if_neg Bool.false_ne_true,
    if_neg Bool.false_ne_true, if_neg Bool.false_ne_true]
  dsimp only
  rw [if_neg hop, State.invalidate]
  generalize (s.takeBack line).invalAsk line none = x at hgone
  obtain ⟨u, gone⟩ := x
  cases hgone
  rfl

/-- What is left before such an action is as it was. -/
theorem kept_invalidated : Kept line s ((s.takeBack line).invalidate line none) := (Kept.takeBack line).trans (Kept.invalidate line none)

theorem dirtyElsewhere_home (h : s.homeOf line = .dev s.devnum) : s.dirtyElsewhere line = false := by
  rw [State.dirtyElsewhere, h]
  simp

/-- A line that leaves the pool cache once its memory has been written is as written there. -/
theorem erasePool_written {c : List Host.Cell} (po : Bool) (hgood : s.mem.bad.contains line = false) :
    ((({ s with mem := { s.mem with cells := c } } : State).setPoison line po).erasePool line).mem.cells = c ∧
      ((({ s with mem := { s.mem with cells := c } } : State).setPoison line po).erasePool line).poisoned line = po := by
  have hkept := Kept.erasePool (line := line) (s := ({ s with mem := { s.mem with cells := c } } : State).setPoison line po) line
  exact ⟨hkept.cells, (hkept.clean hgood).2.trans (poisoned_setPoison_same po)⟩

/-- INVAL: memory is what the line's home held, and its mark. -/
theorem discardLine_eq {bs : List Byte} {po : Bool} (hgood : s.mem.bad.contains line = false)
    (hhome : poolHome line s = some (some (bs, po))) :
    (s.discardLine line).mem.cells = cellsWrite s.mem.cells line bs ∧ (s.discardLine line).poisoned line = po := by
  obtain ⟨p, hp, -⟩ := Option.map_eq_some_iff.mp hhome
  have hkept : Kept line s (s.invalidate line none) := Kept.invalidate line none
  obtain ⟨p', hp', hph⟩ := Option.map_eq_some_iff.mp ((poolHome_invalidate none).trans hhome)
  rw [State.discardLine, takeBack_pooled hp]
  dsimp only
  rw [hp']
  dsimp only
  rw [hph]
  dsimp only
  rw [← hkept.cells]
  exact erasePool_written po (hkept.clean hgood).1

theorem writeBack_pooled (hhome : s.homeOf line = .dev s.devnum) (hgood : s.mem.bad.contains line = false)
    (hp : s.poolLine line = some p) :
    s.writeBack line = if p.home.isNone then s else s.setPool line { p with home := none } := by
  have hmend : s.mendMem line = s := if_neg (by rw [hgood]; decide)
  rw [State.writeBack, takeBack_pooled hp]
  dsimp only
  rw [hp, hhome]
  dsimp only
  rw [if_pos rfl, hmend]

/-- FLUSH of a line that is here. -/
theorem lineOp_flush (h : Plain s line) (hp : s.poolLine line = some p) (hstate : s.lineState false false false line = .here) :
    s.lineOp .flush line = (if p.home.isNone then s else s.setPool line { p with home := none }, .acted (s.poisoned line)) := by
  obtain ⟨-, hresident, hhome, hup, hgood, -⟩ := h
  have hclean : (s.writeBack line).dirtyElsewhere line = false :=
    dirtyElsewhere_home ((Kept.writeBack (line := line) hhome).homed hhome)
  have hzero : (LineOp.flush == LineOp.zero) = false := rfl
  have hflush : (LineOp.flush != LineOp.flush) = false := rfl
  rw [State.lineOp, hup, hzero, hresident, hflush, hstate, Bool.false_and, Bool.false_and, Bool.not_true, if_neg Bool.false_ne_true,
    if_neg Bool.false_ne_true, if_neg Bool.false_ne_true]
  rw [if_pos rfl, State.lineAct, ← writeBack_pooled hhome hgood hp]
  dsimp only
  rw [hclean]
  rfl

/-- A line that leaves the pool cache is not there. -/
theorem poolLine_leavePool (hsorted : mapSorted s.mem.pool = true) (hgood : s.mem.bad.contains line = false) :
    (s.leavePool line).poolLine line = none := by
  unfold State.leavePool
  split
  · exact mapGet?_mapErase_same line hsorted
  · rw [erasePool_of_good hgood]
    exact mapGet?_mapErase_same line hsorted

/-- Memory that is written, and whose mark goes if it stands, is as written there and has no mark. -/
theorem written_unmarked {c : List Host.Cell} {b : Bool} (h : s.poisoned line = b) :
    let u : State := { s with mem := { s.mem with cells := c } }
    (if b then u.setPoison line false else u).mem.cells = c ∧ (if b then u.setPoison line false else u).poisoned line = false := by
  cases b with
  | false => exact ⟨rfl, h⟩
  | true => exact ⟨rfl, poisoned_setPoison_same false⟩

/-- A full line that an engine writes is as written, and not poisoned (R223). -/
theorem writeLine_eng (n : Nat) {bs : List Byte} (hline : line % 128 = 0) (hbs : bs.length = 128)
    (hgood : s.mem.bad.contains line = false) :
    (s.writeLine (.eng n) line bs).mem.cells = cellsWrite s.mem.cells line bs ∧
      (s.writeLine (.eng n) line bs).poisoned line = false := by
  have hkept : Kept line s ((s.markModified line).invalidate line (s.posBy (.eng n))) :=
    (Kept.markModified line).trans (Kept.invalidate line _)
  have hclears : (By.eng n).clears bs.length = true := by
    rw [hbs]
    rfl
  rw [State.writeLine, lineOf_self hline, hclears, if_pos rfl, ← hkept.cells]
  exact written_unmarked (hkept.clean hgood).2

/-- ZERO of a line homed here. -/
theorem zeroLine_eq (hline : line % 128 = 0) (hhome : s.homeOf line = .dev s.devnum) (hgood : s.mem.bad.contains line = false) :
    (s.zeroLine line).mem.cells = cellsWrite s.mem.cells line (List.replicate 128 0) ∧ (s.zeroLine line).poisoned line = false := by
  have hkept : Kept line s (s.takeBack line) := Kept.takeBack line
  rw [State.zeroLine, ← hkept.cells]
  dsimp only
  have hzeros : (List.replicate 128 (0 : Byte)).length = 128 := List.length_replicate
  generalize List.replicate 128 (0 : Byte) = zeros at hzeros ⊢
  generalize s.takeBack line = u at hkept ⊢
  rw [hkept.homed hhome, beq_self_eq_true, if_pos rfl]
  split
  · exact ⟨rfl, poisoned_setPoison_same false⟩
  · exact writeLine_eng 0 hline hzeros (hkept.clean hgood).1

/-! Each action on a line that is here -/

theorem lineOp_inval {bs : List Byte} {po : Bool} (hwf : Memory.wf s.mem = true) (h : Plain s line) (hp : s.poolLine line = some p)
    (hph : p.home = some (bs, po)) (hbs : bs.length = 128) (hstate : s.lineState false true false line = .here) :
    (s.lineOp .inval line).2 = .acted (s.poisoned line) ∧ (s.lineOp .inval line).1.lineBytes line = bs ∧
      (s.lineOp .inval line).1.poisoned line = po ∧
      ∀ a, lineOf a ≠ line → (s.lineOp .inval line).1.byteAt a = s.byteAt a := by
  have hkept : Kept line s ((s.takeBack line).invalidate line none) := kept_invalidated
  have hheld : poolHome line ((s.takeBack line).invalidate line none) = some (some (bs, po)) := by
    rw [poolHome_invalidate, takeBack_pooled hp, poolHome, hp, ← hph]
    rfl
  rw [lineOp_here (op := .inval) h (by decide) hstate]
  generalize (s.takeBack line).invalidate line none = u at hkept hheld ⊢
  obtain ⟨hline, -, -, -, hgood, -⟩ := h
  obtain ⟨hgood', hpoisoned⟩ := hkept.clean hgood
  obtain ⟨hcells, hpo⟩ := discardLine_eq hgood' hheld
  rw [State.lineAct, hpoisoned]
  refine ⟨rfl, ?_, hpo, fun a ha => ?_⟩
  · rw [State.lineBytes, State.bytesAt, hcells, hkept.cells, ← hbs]
    exact cellsRead_cellsWrite line bs hwf
  · rw [State.byteAt, hcells, hkept.cells]
    exact cellGet_line_out hline hbs ha

theorem lineOp_flushInval (h : Plain s line) (hstate : s.lineState false true false line = .here) :
    (s.lineOp .flushInval line).2 = .acted (s.poisoned line) ∧
      (∀ a, (s.lineOp .flushInval line).1.byteAt a = s.byteAt a) ∧
      (mapSorted s.mem.pool = true → (s.lineOp .flushInval line).1.poolLine line = none) := by
  have hkept : Kept line s ((s.takeBack line).invalidate line none) := kept_invalidated
  rw [lineOp_here (op := .flushInval) h (by decide) hstate]
  generalize (s.takeBack line).invalidate line none = u at hkept ⊢
  obtain ⟨-, -, hhome, -, hgood, -⟩ := h
  have hhome' : u.homeOf line = .dev u.devnum := hkept.homed hhome
  have hflushed : Kept line s (u.flushInval line) := hkept.trans (Kept.flushInval hhome')
  have hbefore : Kept line s ((u.writeBack line).invalidate line none) :=
    (hkept.trans (Kept.writeBack hhome')).trans (Kept.invalidate line none)
  rw [State.lineAct, dirtyElsewhere_home hhome', (hkept.clean hgood).2]
  refine ⟨rfl, fun a => ?_, fun hsorted => poolLine_leavePool (hbefore.sorted hsorted) (hbefore.clean hgood).1⟩
  exact congrArg (cellGet · a) hflushed.cells

theorem lineOp_zero (hwf : Memory.wf s.mem = true) (h : Plain s line) (hstate : s.lineState false true true line = .here) :
    (s.lineOp .zero line).2 = .acted false ∧ (∀ a, lineOf a = line → (s.lineOp .zero line).1.byteAt a = 0) ∧
      (s.lineOp .zero line).1.poisoned line = false ∧
      ∀ a, lineOf a ≠ line → (s.lineOp .zero line).1.byteAt a = s.byteAt a := by
  have hkept : Kept line s ((s.takeBack line).invalidate line none) := kept_invalidated
  rw [lineOp_here (op := .zero) h (by decide) hstate]
  generalize (s.takeBack line).invalidate line none = u at hkept ⊢
  obtain ⟨hline, -, hhome, -, hgood, -⟩ := h
  obtain ⟨hcells, hpo⟩ := zeroLine_eq hline (hkept.homed hhome) (hkept.clean hgood).1
  rw [State.lineAct]
  refine ⟨rfl, fun a ha => ?_, hpo, fun a ha => ?_⟩
  · rw [State.byteAt, hcells, hkept.cells]
    exact cellGet_line_zero hwf ha
  · rw [State.byteAt, hcells, hkept.cells]
    exact cellGet_line_out hline List.length_replicate ha

theorem lineActions : LineActions := by
  refine fun s line hwf h => ⟨fun p bs po hp hph hbs hstate => lineOp_inval hwf h hp hph hbs hstate, fun p hp hstate => ?_,
    fun hstate => lineOp_flushInval h hstate, fun hstate => lineOp_zero hwf h hstate⟩
  rw [lineOp_flush h hp hstate]
  exact ⟨rfl, rfl⟩

/-- Settles O38: the commands by what their next line lets them do, the actions by what they leave of the line. -/
theorem rangeEngine : Obligations.RangeEngine := ⟨rangeCommands, lineActions⟩

end Sys2Proof.LineProofs
end

section
/-! R207, R227, R232, R234: the end of a conversion of resident memory, and a controller's scrub read. -/

namespace Sys2Proof.LineProofs

open Sys2Proof Sys2Proof.Machine Sys2Proof.Slice0 Sys2Proof.LevelProofs

namespace Placed

variable {s t : State}

theorem foldl {α : Type} {f : State → α → State} (hf : ∀ s x, Placed s (f s x)) (xs : List α) : Placed s (xs.foldl f s) := by
  induction xs generalizing s with
  | nil => exact refl
  | cons x xs ih => exact (hf s x).trans ih

theorem dropSpan (base len : Nat) : Placed s (s.dropSpan base len) :=
  foldl (fun _ (x : Nat × PoolLine) => (Kept.invalidate (line := x.1) x.1 none).toPlaced) _

theorem zeroSpan (base len : Nat) : Placed s (s.zeroSpan base len) := ⟨rfl, rfl, rfl, rfl⟩

theorem zeroBlocks (b1 r1 b2 r2 : Nat) : Placed s (s.zeroBlocks b1 r1 b2 r2) := by
  refine foldl (fun s j => ?_) (List.range r1)
  split
  · exact refl
  · exact (dropSpan _ _).trans (zeroSpan _ _)

end Placed

variable {s t : State} {base ways : Nat}

/-- R227: a conversion that is carried out has cleared CONVERTING, set DONE, and put its window into force. -/
theorem convertNow_done (hways : ways ≤ 8) : (s.convertNow base ways).fbit F.PCS_RES_STATUS_CONVERTING 0 0 = false ∧
    (s.convertNow base ways).fbit F.PCS_RES_STATUS_DONE 0 0 = true ∧
    (s.convertNow base ways).fget F.PCS_RES_WAYS_WAYS 0 0 = ways ∧ (s.convertNow base ways).mem.conv = none := by
  unfold State.convertNow
  extract_lets b1 r1 s0 _ s1 s2
  have hzeroed : Placed s1 s2 := (Placed.zeroBlocks _ _ _ _).trans (Placed.zeroBlocks _ _ _ _)
  have hnew : s1.fget F.PCS_RES_WAYS_WAYS 0 0 = ways := by
    refine (State.fget_fset _ F.PCS_RES_WAYS_WAYS 0 0 ways (by decide)).trans ?_
    show ways % 16 = ways
    omega
  refine ⟨?_, ?_, ?_, ?_⟩
  · rw [fbit_fset_apart 1 (by rfl) (by decide) (by decide), fbit_fset 0 (by rfl) (by decide)]
    rfl
  · rw [fbit_fset 1 (by rfl) (by decide)]
    rfl
  · rw [State.fget_fset_ne _ _ (by decide), State.fget_fset_ne _ _ (by decide), hzeroed.fget, hnew]
  · exact hzeroed.conv

/-- R207, R227: a conversion whose lines have no copies left in the cores is carried out. -/
theorem resConvert_eq (hconv : s.mem.conv = some (base, ways))
    (hready : s.convReady (s.convLines (s.fget F.PCS_RES_BASE_BASE 0 0 * block16) (s.fget F.PCS_RES_WAYS_WAYS 0 0) base ways) = (t, true)) :
    s.resConvert = t.convertNow base ways := by
  rw [State.resConvert, hconv]
  dsimp only
  rw [hready]

theorem resConversionDone_eq (hdown : s.down = false) : exec .resConversionDone s = .next s.resConvert.settle := by
  refine congrArg Host.Outcome.next ?_
  rw [hdown]
  rfl

variable {k line : Nat} {err : Option ErrSeen}

theorem scrubRead_eq (hdown : s.down = false) (hk : k < 16) : exec (.scrubRead k line err) s = .next (s.scrub k line err) := by
  refine congrArg Host.Outcome.next ?_
  rw [hdown]
  exact if_pos hk

/-- R234: a trained controller with scrubbing on reads a line of its channel or of the pair it mirrors, and does what the error there
asks for. -/
theorem scrub_reads (hhours : s.fget F.MC_SCRUB_HOURS k 0 ≠ 0) (htrained : s.fbit F.MC_STATUS_TRAINED k 0 = true)
    (hhome : s.homeOf (lineOf line) = .dev s.devnum) (hresident : s.resident (lineOf line) = false)
    (hchannel : s.channelOf (lineOf line) = k ∨ (s.mirrored = true ∧ s.channelOf (lineOf line) = mirrorOf k)) :
    s.scrub k line none = s ∧ s.scrub k line (some .mcCe) = s.lineErrAt k (lineOf line) .mcCe ∧
      s.scrub k line (some .mcUe) = (s.memLost (lineOf line)).mcUeLog k (lineOf line) := by
  have hreads : ¬ (s.fget F.MC_SCRUB_HOURS k 0 = 0 ∨ ¬ s.fbit F.MC_STATUS_TRAINED k 0 = true ∨ s.homeOf (lineOf line) ≠ .dev s.devnum ∨
      s.resident (lineOf line) = true ∨
      ¬ (s.channelOf (lineOf line) = k ∨ (s.mirrored = true ∧ s.channelOf (lineOf line) = mirrorOf k))) := by
    simp [hhours, htrained, hhome, hresident, hchannel]
  exact ⟨if_neg hreads, if_neg hreads, if_neg hreads⟩

/-- R222, R234: a line that no cache holds is lost with its memory. -/
theorem memLost_uncached (hpool : s.poolLine line = none) (hevict : mapGet? s.mem.evict line = none) :
    s.memLost line = s.setPoison line true := by
  rw [State.memLost]
  dsimp only
  rw [hpool, hevict]

/-- Settles O39: the conversion by what it puts into force, the scrub read by the error that it meets. -/
theorem conversionAndScrub : Obligations.ConversionAndScrub := by
  intro s
  refine ⟨fun base ways t hdown hconv hways hready => ?_, fun k line hdown hk hhours htrained hhome hresident hchannel => ?_⟩
  · rw [resConversionDone_eq hdown, resConvert_eq hconv hready]
    exact ⟨rfl, rfl, convertNow_done hways⟩
  · obtain ⟨hclean, hcorrected, hlost⟩ := scrub_reads hhours htrained hhome hresident hchannel
    refine ⟨?_, ?_, fun hpool hevict => ?_⟩
    · rw [scrubRead_eq hdown hk, hclean]
    · rw [scrubRead_eq hdown hk, hcorrected]
      rfl
    · rw [scrubRead_eq hdown hk, hlost, memLost_uncached hpool hevict]
      rfl

end Sys2Proof.LineProofs
end

section
/-! What a report to the fault collector leaves of the state (R428 to R441): every reading of it that turns on none of the parts that
reports touch. -/

namespace Sys2Proof.PartnerProofs

open Sys2Proof Sys2Proof.Machine Sys2Proof.LevelProofs Sys2Proof.LineProofs

/-- A reading of the state that turns on none of the parts that a report can touch: the collector and its counts, the cue unit, the links,
what leaves the device, the management port, the cores, the power controller but for the base logic's power. -/
structure Unreported {β : Type} (g : State → β) : Prop where
  flt : ∀ s x, g { s with flt := x } = g s
  cue : ∀ s x, g { s with cue := x } = g s
  shb : ∀ s x, g { s with shb := x } = g s
  outbox : ∀ s x, g { s with outbox := x } = g s
  bmp : ∀ s x, g { s with bmp := x } = g s
  cores : ∀ s x, g { s with cores := x } = g s
  pwr : ∀ s (p : Pwr), p.baseOn = s.pwr.baseOn → g { s with pwr := p } = g s
  counts : ∀ s r k v, r ∈ [RegName.FLT_STATUS, .FLT_LOST, .FLT_COUNT] → k ≤ 4 → g (s.setActing r 0 k v) = g s

namespace Unreported

variable {β : Type} {g : State → β} (hg : Unreported g) {s : State}

include hg

theorem tryFlit (k : Nat) (x : Nat × Msg) : g (s.tryFlit k x) = g s := by
  unfold State.tryFlit
  extract_lets st p key opens s1
  split
  · exact (hg.outbox s1 _).trans (hg.shb s _)
  · exact hg.shb s _

theorem send (m : Msg) : g (s.send m) = g s := by
  unfold State.send State.sendFrom
  split
  · rfl
  · split
    · rfl
    · split
      · exact hg.tryFlit _ _
      · exact hg.shb s _

theorem sendIbi : g s.sendIbi = g s := by
  unfold State.sendIbi
  split
  · exact (hg.bmp { s with outbox := s.outbox ++ [.ibi 0x01#8] } _).trans (hg.outbox s _)
  · rfl

theorem alertEdge (before : State) : g (State.alertEdge before s) = g s := by
  unfold State.alertEdge
  split
  · exact hg.sendIbi.trans (hg.bmp s _)
  · rfl

theorem addRecord (m : FaultMsg) (base : Nat) (esc fwd : Bool) : g (s.addRecord m base esc fwd).1 = g s := by
  unfold State.addRecord
  extract_lets seq lost r _ s1
  have h1 : g s1 = g s := hg.flt s _
  split
  · exact (hg.counts _ _ _ _ (by decide) (by decide)).trans ((hg.counts _ _ _ _ (by decide) (by decide)).trans h1)
  · exact h1

theorem notice (src seq : Nat) : g (s.notice src seq).1 = g s := by
  unfold State.notice
  split
  · exact hg.flt s _
  · rfl

theorem returnQueues (lc : Nat) : g (s.returnQueues lc) = g s :=
  (foldl_same g (fun s _ => hg.cue s _) _ _).trans (hg.cores s _)

/-- R441: the state of the device. -/
theorem deviceFatal (m : FaultMsg) : g (s.deviceFatal m) = g s := by
  unfold State.deviceFatal
  extract_lets _ s1 s2 save s3
  have h1 : g s1 = g s := (hg.alertEdge s).trans (hg.flt s _)
  have h2 : g s2 = g s1 := foldl_same g (fun _ _ => hg.send _) s1.others s1
  have h3 : g s3 = g s2 := foldl_same g (fun _ _ => hg.returnQueues _) _ s2
  have hbase : s3.pwr.baseOn = s2.pwr.baseOn := (Frame.foldl (calm := false) (fun _ _ => Frame.returnQueues _) _).base
  refine (hg.pwr { s3 with cores := stopAll s3.cores } _ ?_).trans ((hg.cores s3 _).trans (h3.trans (h2.trans h1)))
  exact hbase.symm

theorem rememberFault (m : FaultMsg) : g (s.rememberFault m) = g s := by
  unfold State.rememberFault
  split
  · exact hg.flt s _
  · rfl

theorem setPend (m : FaultMsg) (v : Nat) : g (s.setPend m v) = g s := by
  unfold State.setPend
  split
  · exact hg.flt s _
  · exact hg.flt s _

theorem collect (m : FaultMsg) (hm : m.cls ≤ 4) : g (s.collect m).1 = g s := by
  unfold State.collect
  extract_lets s0 conseq pend esc cls m1 s1 seq fwd
  have h0 : g s0 = g s := hg.counts s _ _ _ (by decide) hm
  have h1 : g s1 = g s := by
    refine Eq.trans ?_ h0
    show g (if conseq then _ else _) = _
    split
    · exact hg.rememberFault m
    · exact hg.setPend m _
  split
  · exact h0
  have h2 : g (s1.addRecord m1 m.cls esc false).1 = g s := (hg.addRecord _ _ _ _).trans h1
  generalize s1.addRecord m1 m.cls esc false = r at h2 ⊢
  obtain ⟨s2, lost⟩ := r
  have h3 : g (if conseq then if s2.fbit F.FLT_CTL_CONSEQ_NOTICE 0 0 then s2.notice 0xF08 seq else (s2, [])
      else s2.notice (0xF00 + cls) seq).1 = g s := by
    refine Eq.trans ?_ h2
    split
    · split
      · exact hg.notice _ _
      · rfl
    · exact hg.notice _ _
  dsimp only at h2 ⊢
  generalize (if conseq then if s2.fbit F.FLT_CTL_CONSEQ_NOTICE 0 0 then s2.notice 0xF08 seq else (s2, [])
      else s2.notice (0xF00 + cls) seq) = r at h3 ⊢
  obtain ⟨s3, ev1⟩ := r
  have h4 : g (if lost then s3.notice 0xF09 seq else (s3, [])).1 = g s := by
    refine Eq.trans ?_ h3
    split
    · exact hg.notice _ _
    · rfl
  dsimp only at h3 ⊢
  generalize (if lost then s3.notice 0xF09 seq else (s3, [])) = r at h4 ⊢
  obtain ⟨s4, ev2⟩ := r
  dsimp only at h4 ⊢
  refine Eq.trans ?_ h4
  split
  · exact hg.deviceFatal _
  · split
    · exact foldl_same g (fun _ _ => hg.send _) _ _
    · rfl

theorem raiseOne (src word : Nat) : g (s.raiseOne src word).1 = g s := by
  unfold State.raiseOne
  split
  · exact hg.cue s _
  · split
    · exact hg.cores s _
    · exact hg.cue s _

theorem absentPass : g s.absentPass.1 = g s := by
  unfold State.absentPass
  generalize s.cue.order = srcs
  suffices h : ∀ a : State × List Nat, g (srcs.foldl _ a).1 = g a.1 from h (s, [])
  induction srcs with
  | nil => exact fun _ => rfl
  | cons src srcs ih =>
    refine fun a => (ih _).trans ?_
    dsimp only
    split
    · rfl
    · exact hg.cue a.1 _

/-- What remains to be reported, its faults of the classes that there are. -/
theorem report (n : Nat) (rs : List Report) (hrs : ∀ m, Report.fault m ∈ rs → m.cls ≤ 4) : g (State.report n rs s) = g s := by
  induction n generalizing rs s with
  | zero => rfl
  | succ n ih =>
    match rs with
    | [] => rfl
    | .fault m :: rs =>
      unfold State.report
      have hc : g (s.collect m).1 = g s := hg.collect m (hrs m (List.mem_cons_self ..))
      generalize s.collect m = r at hc ⊢
      obtain ⟨s1, evs⟩ := r
      have hrest (x : FaultMsg) (hx : Report.fault x ∈ rs ++ evs.map (fun e => Report.event e.1 e.2)) : x.cls ≤ 4 := by
        obtain hx | hx := List.mem_append.mp hx
        · exact hrs x (List.mem_cons_of_mem _ hx)
        · simp at hx
      dsimp only at hc ⊢
      split
      · have ha : g s1.absentPass.1 = g s1 := hg.absentPass
        generalize s1.absentPass = a at ha ⊢
        obtain ⟨s2, gone⟩ := a
        refine (ih _ fun x hx => ?_).trans (ha.trans hc)
        obtain hx | hx := List.mem_append.mp hx
        · exact hrest x hx
        · obtain ⟨src, -, hsrc⟩ := List.mem_map.mp hx
          cases hsrc
          exact Nat.le_add_left 1 3
      · exact (ih _ hrest).trans hc
    | .event src word :: rs =>
      unfold State.report
      have hr : g (s.raiseOne src word).1 = g s := hg.raiseOne src word
      generalize s.raiseOne src word = r at hr ⊢
      obtain ⟨s1, ab⟩ := r
      refine (ih _ fun x hx => ?_).trans hr
      obtain hx | hx := List.mem_append.mp hx
      · exact hrs x (List.mem_cons_of_mem _ hx)
      · split at hx
        · cases List.mem_singleton.mp hx
          exact Nat.le_add_left 1 3
        · cases hx

theorem logFault (m : FaultMsg) (hm : m.cls ≤ 4) : g (s.logFault m) = g s :=
  hg.report _ _ (fun x hx => by cases List.mem_singleton.mp hx; exact hm)

end Unreported

end Sys2Proof.PartnerProofs
end

section
/-! R269 to R272: the fallback sequencer. -/

namespace Sys2Proof.PartnerProofs

open Sys2Proof Sys2Proof.Machine Sys2Proof.Slice0 Sys2Proof.LevelProofs Sys2Proof.LineProofs

variable {s : State} {who : Master}

/-- A command that the island hears does what its row says. -/
theorem run_eq (hdown : s.down = false) (f : State → State) : s.run f = .next (f s) := by
  rw [State.run, hdown]
  rfl

/-! The service pair's cut-in, and the watchdog -/

/-- R269: the service pair needs a cut-in and can have one. -/
theorem serviceCutin_eq {q : Nat} (hneeds : s.serviceNeeds = some q) (hgave : s.fbs.gaveUp = false) (hckpt : (s.pair q).ckptBad = false) :
    (∀ r, s.freeSpare q = some r → s.serviceCutin false = s.cutinBegin q r) ∧
      (s.freeSpare q = none → s.serviceCutin false = s.callerNeeded 3 q) := by
  rw [State.serviceCutin, if_neg (by decide), hneeds]
  dsimp only
  rw [hgave, hckpt, if_neg (by decide), if_neg (by decide)]
  exact ⟨fun r hspare => by rw [hspare], fun hspare => by rw [hspare]⟩

/-- Reports leave the fallback sequencer as it is. -/
theorem unreported_fbs : Unreported State.fbs :=
  ⟨fun _ _ => rfl, fun _ _ => rfl, fun _ _ => rfl, fun _ _ => rfl, fun _ _ => rfl, fun _ _ => rfl, fun _ _ _ => rfl, fun _ _ _ _ _ _ => rfl⟩

/-- Reports leave FBS_STATUS as it is. -/
theorem unreported_fbsStatus : Unreported (fun s => s.acting .FBS_STATUS 0 0) where
  flt _ _ := rfl
  cue _ _ := rfl
  shb _ _ := rfl
  outbox _ _ := rfl
  bmp _ _ := rfl
  cores _ _ := rfl
  pwr _ _ _ := rfl
  counts s r k v hr hk := by
    refine State.acting_setActing_ne s v ?_
    simp only [List.mem_cons, List.not_mem_nil, or_false] at hr
    obtain rfl | rfl | rfl := hr <;> simp [regKey, regPlace] <;> omega

/-- R270, R271: the call itself leaves what it sets to stand, whatever it sends and reports. -/
theorem callerNeeded_reads {β : Type} {g : State → β} (hg : Unreported g) (reason q : Nat) :
    g (s.callerNeeded reason q) =
      let s1 := (s.fset F.FBS_STATUS_CALLER_NEEDED 0 0 1).fset F.FBS_STATUS_REASON 0 0 reason
      let s2 := if reason = 2 then s1 else s1.fset F.FBS_STATUS_STATE 0 0 3
      g { s2 with fbs := if reason = 2 then { s2.fbs with timing := false, acted := true, answered := false }
        else { s2.fbs with gaveUp := true, answered := false } } := by
  unfold State.callerNeeded
  extract_lets s1 s2 _ s3 s4 d s5
  have h5 : g s5 = g s4 := by
    show g (if _ then _ else _) = _
    split
    · rfl
    · exact hg.send _
  exact (hg.logFault _ (Nat.le_succ 3)).trans (h5.trans (hg.alertEdge s))

/-- R271: the watchdog's call. -/
theorem watchdogCall (q : Nat) : (s.callerNeeded 2 q).fbit F.FBS_STATUS_CALLER_NEEDED 0 0 = true ∧
    (s.callerNeeded 2 q).fbs = { s.fbs with timing := false, acted := true, answered := false } := by
  refine ⟨?_, callerNeeded_reads unreported_fbs 2 q⟩
  have hstatus : (s.callerNeeded 2 q).acting .FBS_STATUS 0 0 =
      ((s.fset F.FBS_STATUS_CALLER_NEEDED 0 0 1).fset F.FBS_STATUS_REASON 0 0 2).acting .FBS_STATUS 0 0 :=
    callerNeeded_reads unreported_fbsStatus 2 q
  have hset : ((s.fset F.FBS_STATUS_CALLER_NEEDED 0 0 1).fset F.FBS_STATUS_REASON 0 0 2).fbit F.FBS_STATUS_CALLER_NEEDED 0 0 = true := by
    have hreg : F.FBS_STATUS_CALLER_NEEDED.reg = F.FBS_STATUS_REASON.reg := rfl
    rw [fbit_fset_apart 2 hreg (by decide) (by decide), fbit_fset 1 rfl (by decide)]
    rfl
  rw [State.fbit, State.fget, show F.FBS_STATUS_CALLER_NEEDED.reg = .FBS_STATUS from rfl, hstatus]
  exact hset

/-! FBS_KICK and FBS_STATUS -/

theorem findReg_fbsKick : findReg 0x07 0x10 = some (.FBS_KICK, 0, 0) := by decide
theorem findReg_fbsStatus : findReg 0x07 0x0 = some (.FBS_STATUS, 0, 0) := by decide

/-- R271: a kick. -/
theorem fbsKick_eq (h : Hears s who .FBS_KICK 0 0) : exec (.fbsKick who) s = .next s.watchdogStart := by
  have hkick (blk addr : Nat) : State.regWrite State.cfgApply s .FBS_KICK 0 0 1 blk addr = s.watchdogStart := by
    show (if bitOf 1 0 then s.watchdogStart else s) = _
    exact if_pos (by decide)
  have hwrite := writeReg_eq (v := 1) h (by decide) (by decide) (by decide) findReg_fbsKick (by rw [hkick]; rfl)
  rw [hkick] at hwrite
  exact (run_eq h.2.1 (fun s => s.writeReg who .FBS_KICK 0 0 1)).trans (congrArg Host.Outcome.next hwrite)

/-- The state as the write that clears CALLER_NEEDED finds it: a controller has answered, and no other bit has been written. -/
def answered (s : State) : State :=
  s.controllerWrite.setActing .FBS_STATUS 0 0 (liveWrite .FBS_STATUS (s.acting .FBS_STATUS 0 0) 0)

/-- R14: a W1C bit written as 0 stays. -/
theorem liveWrite_fbsStatus (x : Word) (h : fld x 3 1 = 1) : fld (liveWrite .FBS_STATUS x 0) 3 1 = 1 := by
  have hwritten : liveWrite .FBS_STATUS x 0 = setFld (setFld x 3 1 (Nat.land (fld x 3 1) 1)) 4 1
      (Nat.land (fld (setFld x 3 1 (Nat.land (fld x 3 1) 1)) 4 1) 1) := rfl
  rw [hwritten, fld_setFld_apart _ (by decide) (by decide), fld_setFld _ _ _ _ (by decide), h]
  rfl

theorem answered_needed (h : s.fbit F.FBS_STATUS_CALLER_NEEDED 0 0 = true) :
    (answered s).fbit F.FBS_STATUS_CALLER_NEEDED 0 0 = true := by
  have hbit : fld (s.acting .FBS_STATUS 0 0) 3 1 = 1 := beq_iff_eq.mp h
  refine beq_iff_eq.mpr ?_
  show fld ((answered s).acting .FBS_STATUS 0 0) 3 1 = 1
  rw [answered, State.acting_setActing]
  exact liveWrite_fbsStatus _ hbit

/-- R271, R272: a clearing of CALLER_NEEDED whose cause is gone. -/
theorem callerCleared_eq (hneeded : s.fbit F.FBS_STATUS_CALLER_NEEDED 0 0 = true) (hcause : s.callerCause = false) :
    s.callerCleared = { s.fset F.FBS_STATUS_CALLER_NEEDED 0 0 0 with
      fbs := if s.fbs.acted then { s.fbs with timing := s.fget F.FBS_WDOG_PERIOD 0 0 != 0, acted := false } else s.fbs } := by
  have hperiod : (s.fset F.FBS_STATUS_CALLER_NEEDED 0 0 0).fget F.FBS_WDOG_PERIOD 0 0 = s.fget F.FBS_WDOG_PERIOD 0 0 :=
    State.fget_fset_ne s _ (by decide)
  rw [State.callerCleared, hneeded, hcause, if_pos (by decide)]
  dsimp only
  by_cases hacted : s.fbs.acted = true
  · rw [if_pos hacted]
    exact (if_pos hacted).trans (congrArg
      (fun b => { s.fset F.FBS_STATUS_CALLER_NEEDED 0 0 0 with fbs := { s.fbs with timing := b, acted := false } })
      ((Bool.and_true _).trans (congrArg (· != 0) hperiod)))
  · rw [if_neg hacted]
    exact if_neg hacted

theorem instGo_eq (h : s.inst.cmd = none) : s.instGo = s := by
  rw [State.instGo, h]
  exact ite_self _

theorem callerNeededClear_eq (h : Hears s who .FBS_STATUS 0 0) (hneeded : s.fbit F.FBS_STATUS_CALLER_NEEDED 0 0 = true)
    (hcause : s.callerCause = false) (hcmd : s.inst.cmd = none) :
    exec (.callerNeededClear who) s = .next (answered s).callerCleared := by
  have hclears := callerCleared_eq (answered_needed hneeded) hcause
  have hstatus (blk addr : Nat) : State.regWrite State.cfgApply s .FBS_STATUS 0 0 8 blk addr = (answered s).callerCleared := by
    have hinst : (answered s).callerCleared.inst.cmd = none := by rw [hclears]; exact hcmd
    exact instGo_eq hinst
  have hword : (s.readWord .FBS_STATUS 0 0 &&& BitVec.ofNat 64 (fieldBits .FBS_STATUS (fun f => f.access == .rw))) |||
      BitVec.ofNat 64 (2 ^ 3) = 8 := by
    rw [show fieldBits .FBS_STATUS (fun f => f.access == .rw) = 0 by decide, BitVec.ofNat_eq_ofNat, BitVec.and_zero, BitVec.zero_or]
    rfl
  have hwrite := writeReg_eq (v := 8) h (by decide) (by decide) (by decide) findReg_fbsStatus (by rw [hstatus, hclears]; rfl)
  rw [hstatus, ← hword] at hwrite
  exact (run_eq h.2.1 (fun s => s.setBits who .FBS_STATUS 0 0 (2 ^ 3))).trans (congrArg Host.Outcome.next hwrite)

theorem callerNeeded_withFbs (s : State) (x : Fbs) :
    ({ s with fbs := x } : State).fbit F.FBS_STATUS_CALLER_NEEDED 0 0 = s.fbit F.FBS_STATUS_CALLER_NEEDED 0 0 := rfl

/-- R271, R272: what it leaves. -/
theorem answered_cleared (hneeded : s.fbit F.FBS_STATUS_CALLER_NEEDED 0 0 = true) (hcause : s.callerCause = false) :
    (answered s).callerCleared.fbit F.FBS_STATUS_CALLER_NEEDED 0 0 = false ∧
    (answered s).callerCleared.fbs =
      (if s.fbs.acted then { s.fbs with timing := s.fget F.FBS_WDOG_PERIOD 0 0 != 0, acted := false, answered := true }
        else { s.fbs with answered := true }) ∧
    { (answered s).callerCleared with io := s.io, fbs := s.fbs } = s := by
  have hperiod : (answered s).fget F.FBS_WDOG_PERIOD 0 0 = s.fget F.FBS_WDOG_PERIOD 0 0 := by
    rw [State.fget, answered, State.acting_setActing_ne _ _ (by decide)]
    rfl
  have hfbs : (answered s).fbs = { s.fbs with answered := true } := rfl
  rw [callerCleared_eq (answered_needed hneeded) hcause]
  refine ⟨(callerNeeded_withFbs _ _).trans (fbit_fset 0 rfl (by decide)), ?_, rfl⟩
  dsimp only
  rw [hperiod, hfbs]

/-- Settles O43: the sequencer's own steps, then the writes that it hears. -/
theorem fallbackSequencer : Obligations.FallbackSequencer := by
  intro s who
  refine ⟨fun q hdown hneeds hgave hckpt => ?_, fun hdown htiming => ?_, fbsKick_eq, fun h hneeded hcause hcmd => ?_⟩
  · have hrun := run_eq hdown (fun s => s.serviceCutin false)
    obtain ⟨hspare, hnone⟩ := serviceCutin_eq hneeds hgave hckpt
    exact ⟨fun r hr => hrun.trans (congrArg Host.Outcome.next (hspare r hr)),
      fun hr => hrun.trans (congrArg Host.Outcome.next (hnone hr))⟩
  · refine ⟨(run_eq hdown (fun s => s.watchdogExpiry)).trans ?_, watchdogCall _⟩
    rw [State.watchdogExpiry, if_pos htiming]
  · exact ⟨_, callerNeededClear_eq h hneeded hcause hcmd, answered_cleared hneeded hcause⟩

end Sys2Proof.PartnerProofs
end

section
/-! R254 to R268: the operations on pair positions leave the base logic its power. -/

namespace Sys2Proof.PartnerProofs

open Sys2Proof Sys2Proof.Machine Sys2Proof.LevelProofs Sys2Proof.LineProofs

variable {s t : State} {q : Nat}

/-- The base logic has the power that it had (R454, R467). -/
def SameBase (s t : State) : Prop := t.pwr.baseOn = s.pwr.baseOn

namespace SameBase

theorem refl : SameBase s s := rfl

theorem trans {u : State} (h : SameBase s t) (k : SameBase t u) : SameBase s u := Eq.trans k h

theorem of_frame (h : Frame false s t) : SameBase s t := h.base

theorem ite {c : Prop} [Decidable c] {u : State} (h : SameBase s t) (k : SameBase s u) : SameBase s (if c then t else u) := by
  split
  · exact h
  · exact k

theorem foldl {α : Type} {f : State → α → State} (hf : ∀ s x, SameBase s (f s x)) (xs : List α) : SameBase s (xs.foldl f s) :=
  foldl_same (fun s => s.pwr.baseOn) hf xs s

theorem modCore (lc : Nat) (f : Core → Core) : SameBase s (s.modCore lc f) := rfl
theorem modPair (q : Nat) (f : PairPos → PairPos) : SameBase s (s.modPair q f) := rfl
theorem fset (f : FieldRef) (u k v : Nat) : SameBase s (s.fset f u k v) := rfl
theorem clearPresence (q : Nat) : SameBase s (s.clearPresence q) := rfl
theorem movePref (q r : Nat) : SameBase s (s.movePref q r) := rfl
theorem putCause (q cause : Nat) : SameBase s (s.putCause q cause) := rfl

theorem setDom (d v : Nat) : SameBase s (s.setDom d v) := of_frame (Frame.setDom d v)

theorem pairFault (q kind cls cause cutTo : Nat) : SameBase s (s.pairFault q kind cls cause cutTo) :=
  of_frame (Frame.logFault _ (fun h => Bool.noConfusion h))

theorem refreshAbsent : SameBase s s.refreshAbsent :=
  of_frame (Frame.absentPass.trans (Frame.foldl (fun _ _ => Frame.logFault _ (fun h => Bool.noConfusion h)) _))

theorem idleCheck : SameBase s s.idleCheck := by
  unfold State.idleCheck
  dsimp only
  split
  · exact ite refl (of_frame (Frame.setPwrState 1))
  · exact ite (of_frame (Frame.setPwrState 0)) refl
  · exact refl

theorem applyInvals (q : Nat) : SameBase s (s.applyInvals q) := by
  unfold State.applyInvals
  extract_lets lines s1 s2
  have h1 : SameBase s s1 := foldl (fun _ _ => modCore _ _) _
  have h2 : SameBase s s2 := h1.trans (ite refl (modPair q _))
  exact h2.trans (foldl (fun _ _ => of_frame (Frame.setPresence _ _)) lines)

theorem rollbackAt (q : Nat) (deep : Bool) : SameBase s (s.rollbackAt q deep) := by
  unfold State.rollbackAt State.rollbackCores
  extract_lets s1 s2
  have h1 : SameBase s s1 := (applyInvals q).trans (foldl (fun _ _ => modCore _ _) _)
  have h2 : SameBase s1 s2 := by
    show SameBase s1 (match s.coresAt q with | lc :: _ => _ | [] => _)
    split
    · rfl
    · exact refl
  exact (h1.trans h2).trans (modPair q _)

theorem againMerged (q : Nat) : SameBase s (s.againMerged q) :=
  foldl (fun _ _ => foldl (fun _ _ => of_frame (Frame.pushToken _ _)) _) _

theorem cutinDone (q r : Nat) : SameBase s (s.cutinDone q r) := by
  unfold State.cutinDone
  extract_lets p cause s1 img split s2 s3 s4 s5 s6
  have h1 : SameBase s s1 := (rollbackAt q true).trans (foldl (fun _ _ => modCore _ _) _)
  have h2 : SameBase s1 s2 := (pairFault q 0x101 2 cause r).trans (clearPresence q)
  have h4 : SameBase s2 s4 := (modPair r _).trans (modPair q _)
  have h5 : SameBase s4 s5 := (((movePref q r).trans (againMerged r)).trans (setDom (2 * q) domOff)).trans (fset _ _ _ _)
  have h6 : SameBase s5 s6 := ite ((fset _ _ _ _).trans (fset _ _ _ _)) refl
  exact (((((h1.trans h2).trans h4).trans h5).trans h6).trans refreshAbsent).trans idleCheck

theorem tryCutin (q : Nat) : SameBase s (s.tryCutin q) := by
  unfold State.tryCutin
  split
  · exact ite (cutinDone q _) refl
  · exact refl

theorem cutinBegin (q r : Nat) : SameBase s (s.cutinBegin q r) := by
  unfold State.cutinBegin
  extract_lets s1
  have h1 : SameBase s s1 := ite ((fset _ _ _ _).trans (fset _ _ _ _)) refl
  exact ((h1.trans (modPair q _)).trans (of_frame (Frame.wake _ _))).trans (tryCutin q)

theorem plannedContain (q : Nat) : SameBase s (s.plannedContain q) := by
  unfold State.plannedContain
  extract_lets p
  exact ite ((((applyInvals q).trans (putCause q _)).trans (modPair q _)).trans (tryCutin q)) refl

end SameBase

end Sys2Proof.PartnerProofs
end

section
/-! R261 to R268, R276: the commands of CORE_PAIR_CTL, and what carries a SPLIT and a JOIN through. -/

namespace Sys2Proof.PartnerProofs

open Sys2Proof Sys2Proof.Machine Sys2Proof.Slice0 Sys2Proof.LevelProofs Sys2Proof.LineProofs

variable {s t : State} {who : Master} {core q n : Nat} {w : Word}

theorem mem_levelNumbers {l : Nat} : l ∈ levelNumbers ↔ l < 8 := by
  simp only [levelNumbers, List.mem_cons, List.not_mem_nil, or_false]
  omega

/-- R44: CORE_PAIR_CTL in the window of each core. -/
theorem findReg_pairCtl (hcore : core < 80) : findReg 0x70 (core * 0x1000 + 0x8) = some (.CORE_PAIR_CTL, core, 0) := by
  have hplace : regAt 0x70 0x8 = some (.CORE_PAIR_CTL, 0) := by decide
  have hwindow : (core * 0x1000 + 0x8) / 0x1000 = core ∧ (core * 0x1000 + 0x8) % 0x1000 = 0x8 := by omega
  rw [findReg, if_neg (by omega), if_pos rfl, hwindow.1, hwindow.2, if_neg (by omega), hplace]
  rfl

/-- R276: a command word written to CORE_PAIR_CTL. -/
theorem pairCtl_eq (h : Hears s who .CORE_PAIR_CTL core 0) (hcommand : s.pairCommand (core / 2) w = t) (hbase : SameBase s t) :
    s.run (fun s => s.writeReg who .CORE_PAIR_CTL core 0 w) = .next t := by
  have hcore : core < 80 := h.2.2.2.1
  have hblock : blockOfReg .CORE_PAIR_CTL core = 0x70 := rfl
  have hoffset : offsetOfReg .CORE_PAIR_CTL core 0 = core * 0x1000 + 0x8 := rfl
  have hwrite (blk addr : Nat) : State.regWrite State.cfgApply s .CORE_PAIR_CTL core 0 w blk addr = t := hcommand
  have hreg := writeReg_eq (v := w) h (by rw [hblock]; decide) (by rw [hblock]; decide) (by rw [hoffset]; omega) (findReg_pairCtl hcore)
    (by rw [hwrite]; exact hbase)
  rw [run_eq h.2.1, hreg, hwrite]

theorem cmdSplit_eq (hbusy : (s.pair q).busy = false) (hlogical : (s.pair q).logical = some n) (hrole : n ≠ 38)
    (hst : (s.pair q).st = .checked) (hlevel : s.fget F.CORE_SPLIT_LEVEL_LEVEL (2 * q) 0 ≠ 0) :
    s.cmdSplit q = s.modPair q (fun p => { p with
      st := .switching
      splitReq := some (s.fget F.CORE_SPLIT_LEVEL_LEVEL (2 * q) 0, s.acting .CORE_SPLIT_PC (2 * q) 0) }) := by
  have hrole' : ¬ (s.pair q).logical = some 38 := by simpa [hlogical] using hrole
  rw [State.cmdSplit]
  rw [hbusy, if_neg (by decide), if_neg hrole', hst, hlogical, if_neg (by simp), if_neg hlevel]

theorem cmdJoin_eq (hbusy : (s.pair q).busy = false) (hlogical : (s.pair q).logical = some n) (hst : (s.pair q).st = .split)
    (hidle : ∀ l, l < 8 → ((s.core (2 * n + 1)).level l).run ≠ .active ∧ ((s.core (2 * n + 1)).level l).run ≠ .frozen) :
    s.cmdJoin q = ((s.modPair q (fun p => { p with st := .switching, joinReq := true })).returnQueues (2 * n + 1)).refreshAbsent := by
  have hquiet : levelNumbers.any (fun l => ((s.core (2 * n + 1)).level l).run == .active
      || ((s.core (2 * n + 1)).level l).run == .frozen) = false := by
    refine List.any_eq_false.mpr (fun l hl => ?_)
    obtain ⟨hactive, hfrozen⟩ := hidle l (mem_levelNumbers.mp hl)
    simp [hactive, hfrozen]
  rw [State.cmdJoin]
  rw [hbusy, if_neg (by decide), hlogical]
  dsimp only
  rw [hst, if_neg (by decide), hquiet, if_neg (by decide)]

theorem cmdRetire_eq (hbusy : (s.pair q).busy = false) (hst : (s.pair q).st = .stopped) :
    s.cmdRetire q = ((s.modPair q (fun p => { p with
      st := .failed, logical := none, failed0 := true, failed1 := true })).setDom (2 * q) domOff).idleCheck := by
  rw [State.cmdRetire]
  dsimp only
  rw [hbusy, if_neg (by decide), hst, if_neg (by decide)]

/-- R261, R262: the spare that a planned CUTIN goes to: the one named, or the lowest free one. -/
theorem cmdCutin_eq {spare r low : Nat} (hbusy : (s.pair q).busy = false) (hlogical : (s.pair q).logical = some n)
    (hchecks : (s.pair q).checks = true) (hneed : (s.pair q).need = none) (hfree : s.freeSpare q = some low)
    (hspare : (spare = 0xFF ∧ r = low) ∨
      (spare = 2 * r ∧ (sparesOf q).contains r = true ∧ s.spareFree r = true)) :
    s.cmdCutin q spare = ((s.modPair q (fun p => { p with need := some causeSoftware, cause := causeSoftware })).cutinBegin q
      r).plannedContain q := by
  have hto : (if spare = 0xFF then low else spare / 2) = r := by
    split <;> omega
  have hgood : ¬ (spare ≠ 0xFF ∧ (spare % 2 = 1 ∨ ¬ (sparesOf q).contains r ∨ ¬ s.spareFree r)) := by
    obtain ⟨hlow, -⟩ | ⟨heven, hrole, hr⟩ := hspare
    · exact fun h => h.1 hlow
    · rintro ⟨-, hodd | hother | htaken⟩
      · omega
      · exact hother hrole
      · exact htaken hr
  rw [State.cmdCutin]
  dsimp only
  rw [hbusy, if_neg (by decide), hchecks, hlogical, if_neg (by simp), hfree]
  dsimp only
  rw [hto, if_neg hgood, hneed]
  rfl

/-- R276: the command word of a CUTIN, with its spare. -/
theorem pairCommand_cutin {spare : Nat} (hspare : spare < 2 ^ 8) :
    s.pairCommand q (BitVec.ofNat 64 (4 + spare % 2 ^ 8 * 2 ^ 8)) = s.cmdCutin q spare := by
  have hword : (BitVec.ofNat 64 (4 + spare % 2 ^ 8 * 2 ^ 8)).toNat = 4 + spare * 2 ^ 8 := by
    rw [BitVec.toNat_ofNat]
    omega
  have hcode : fld (BitVec.ofNat 64 (4 + spare % 2 ^ 8 * 2 ^ 8)) 0 4 = 4 := by
    rw [fld, hword]
    omega
  have hto : fld (BitVec.ofNat 64 (4 + spare % 2 ^ 8 * 2 ^ 8)) 8 8 = spare := by
    rw [fld, hword]
    omega
  rw [State.pairCommand, hcode, hto]
  rfl

/-- R266: the hand-over of a split. -/
theorem splitHandover_eq {l : Nat} {pc : Word} (hq : q < 40) (hlogical : (s.pair q).logical = some n) (hat : (s.pair q).atSplit = true)
    (hreq : (s.pair q).splitReq = some (l, pc)) (hcommit : s.canCommit (2 * n) = true) (hruns : s.coreRuns (2 * n) = true) :
    s.splitHandover q = ((s.takePref q).commit (2 * n)).splitNow q n l pc := by
  rw [State.splitHandover, hlogical, hreq]
  exact if_pos ⟨hq, hat, hcommit, hruns⟩

/-- R268: the commit of a join. -/
theorem joinCommit_eq (hq : q < 40) (hlogical : (s.pair q).logical = some n) (hreq : (s.pair q).joinReq = true)
    (hcommit : s.canCommit (2 * n) = true) (hruns : s.coreRuns (2 * n) = true) (habsorb : s.absorb (2 * n + 1) = (t, true)) :
    s.joinCommit q = (t.commit (2 * n)).joinNow q n := by
  rw [State.joinCommit, hlogical, hreq]
  dsimp only
  rw [if_pos ⟨hq, hcommit, hruns⟩, habsorb]

theorem pairCommands : PairCommands := by
  intro s who core n q hlogical
  refine ⟨fun h hbusy => ⟨fun hrole hst hlevel => ?_, fun hst hidle => ?_, fun hst => ?_, fun r low hchecks hneed hfree => ?_⟩,
    fun hdown hq hcommit hruns => ⟨fun l pc hat hreq => ?_, fun t hreq habsorb => ?_⟩⟩
  · exact pairCtl_eq (w := 1) h (cmdSplit_eq hbusy hlogical hrole hst hlevel) (SameBase.modPair q _)
  · refine pairCtl_eq (w := 2) h (cmdJoin_eq hbusy hlogical hst hidle) ?_
    exact ((SameBase.modPair q _).trans (SameBase.of_frame (Frame.returnQueues _))).trans SameBase.refreshAbsent
  · refine pairCtl_eq (w := 8) h (cmdRetire_eq hbusy hst) ?_
    exact ((SameBase.modPair q _).trans (SameBase.setDom _ _)).trans SameBase.idleCheck
  · intro t
    have hbase (r : Nat) : SameBase s ((t.cutinBegin q r).plannedContain q) :=
      ((SameBase.modPair q _).trans (SameBase.cutinBegin q r)).trans (SameBase.plannedContain q)
    refine ⟨pairCtl_eq h ?_ (hbase low), fun hr hrole hspare => pairCtl_eq h ?_ (hbase r)⟩
    · exact (pairCommand_cutin (by decide)).trans (cmdCutin_eq hbusy hlogical hchecks hneed hfree (.inl ⟨rfl, rfl⟩))
    · exact (pairCommand_cutin (by omega)).trans (cmdCutin_eq hbusy hlogical hchecks hneed hfree (.inr ⟨rfl, hrole, hspare⟩))
  · exact (run_eq hdown (fun s => s.splitHandover q)).trans
      (congrArg Host.Outcome.next (splitHandover_eq hq hlogical hat hreq hcommit hruns))
  · exact (run_eq hdown (fun s => s.joinCommit q)).trans
      (congrArg Host.Outcome.next (joinCommit_eq hq hlogical hreq hcommit hruns habsorb))

end Sys2Proof.PartnerProofs
end

section
/-! R266: the state with which core 2n + 1 of a split pair begins. -/

namespace Sys2Proof.PartnerProofs

open Sys2Proof Sys2Proof.Machine Sys2Proof.Slice0 Sys2Proof.LevelProofs

variable {a : Arch} {l j : Nat} {pc : Word}

/-- A map that lists a value for each key of a list. -/
theorem mapGet_listed {α : Type} (d : α) (f : Nat → α) {ks : List Nat} {k : Nat} (h : k ∈ ks) :
    mapGet d (ks.map (fun k => (k, f k))) k = f k := by
  induction ks with
  | nil => cases h
  | cons x ks ih =>
    show (if x = k then f x else mapGet d (ks.map (fun k => (k, f k))) k) = f k
    split
    · next hx => rw [hx]
    · next hx => exact ih ((List.mem_cons.mp h).resolve_left (Ne.symm hx))

/-- R266 step 4: level `j` of the new core, of which `l` is the level given. -/
def splitLevel (a : Arch) (l : Nat) (pc : Word) (j : Nat) : Level :=
  let v := { a.level j with run := .inactive, waitLen := 0, ops := [], fpSave := setFld (a.level j).fpSave 0 1 0 }
  if j = l then { v with run := .active, pc, sw := swEvent v.sw, evtCurrent := 0 } else v

theorem level_splitArch (hj : j < 8) : (splitArch a l pc).level j = splitLevel a l pc j :=
  mapGet_listed _ (splitLevel a l pc) (mem_levelNumbers.mpr hj)

/-- R58: an event entry keeps the window. -/
theorem swWp_swEvent (w : Word) : swWp (swEvent w) = swWp w := by
  rw [swWp, swEvent, fld_setFld_apart _ (by decide) (by decide), fld_setFld_apart _ (by decide) (by decide),
    fld_setFld_apart _ (by decide) (by decide), swWp]

theorem readR_splitLevel (n : Nat) : (splitLevel a l pc j).readR n = (a.level j).readR n := by
  unfold splitLevel
  extract_lets v
  split
  · show (if n = 0 then 0 else if n < 8 then _ else mapGet 0 _ (winIndex (swWp (swEvent (a.level j).sw)) (n - 8))) = _
    rw [swWp_swEvent]
    rfl
  · rfl

/-- R84: the floating-point file of the new core belongs to no level. -/
theorem fpOwner_splitArch : fld (splitArch a l pc).lvlCtl 8 4 = 8 := by
  show fld (setFld (setFld a.lvlCtl 8 4 8) 13 1 0) 8 4 = 8
  rw [fld_setFld_apart _ (by decide) (by decide), fld_setFld _ _ _ _ (by decide)]
  rfl

theorem splitCoreBegins : SplitCoreBegins := by
  intro a l pc hl
  have hgiven : splitLevel a l pc l = { a.level l with
      run := .active, waitLen := 0, ops := [], fpSave := setFld (a.level l).fpSave 0 1 0, pc, sw := swEvent (a.level l).sw,
      evtCurrent := 0 } := if_pos rfl
  obtain ⟨hs, hta, -⟩ := swEvent_fields (a.level l).sw
  rw [level_splitArch hl, hgiven]
  refine ⟨rfl, rfl, hs, hta, fun j hj hne => ?_, fun j n hj => ?_, fpOwner_splitArch⟩
  · rw [level_splitArch hj, splitLevel, if_neg hne]
  · rw [level_splitArch hj, readR_splitLevel]

/-- Settles O42: the commands by their own rules, and the new core by its levels. -/
theorem pairCommandsAndSplit : Obligations.PairCommandsAndSplit := ⟨pairCommands, splitCoreBegins⟩

end Sys2Proof.PartnerProofs
end

section
/-! R207, R220, R224, R247: an agreement point whose answer to a prefetch takes a way of a full set of the pool cache: the line that
gives way is one that the pair may hold, so its invalidation enters the pair's input buffer within the agreement point. -/

namespace Sys2Proof.PartnerProofs

open Sys2Proof Sys2Proof.Machine Sys2Proof.Slice0

/-- Lines of one set of one slice (R219): `y` stands in two of the parts that pool_set joins, and the lowest four bits of the line
number make up for what it adds to the slice's number. -/
def mate (y : Nat) : Nat :=
  128 * (2 ^ 17 * y + 16 * y + Nat.xor (Nat.xor (y % 16) (y / 16)) (Nat.xor (2 * y % 16) (2 * y / 16)))

/-- The 16 ways of the set that resident memory leaves (R225), all in use; position 0 may hold the line used least recently. -/
def fullSet : NMap PoolLine :=
  (List.range 16).map (fun k => (mate (k + 1), ⟨none, true, if k = 0 then [0] else [], 8 + k, k⟩))

/-- DIR_HOME[0]: the first 1024 granules are homed on device 0 (R403). -/
def homedHere : IoFile := { State.reset.io with force := [(regKey .DIR_HOME 0 0, BitVec.ofNat 64 (2 ^ 63 + 1024 * 2 ^ 22))] }

/-- A core that has come to its agreement point, with the answer to a prefetch of `mate 0` in its input buffer. -/
def prefetching : Core :=
  { Core.reset with
    due := true
    inbox := [.resp (mate 0) (List.replicate 128 0)]
    awaited := [⟨mate 0, false, false, false, true⟩] }

/-- The checked pair of position 0 runs that core; the line has meanwhile left the pool cache and waits in the eviction buffer. -/
def crowded : State :=
  { State.reset with
    cores := [(0, prefetching)]
    pairs := [(0, { PairPos.reset 0 with st := .checked })]
    io := homedHere
    mem := { State.reset.mem with pool := fullSet, evict := [(mate 0, ⟨none, true, false, [0], false⟩)] } }

theorem crowded_atAgreement : crowded.down = false ∧ (crowded.pair 0).checks = true ∧ crowded.flt.fatal = false ∧
    (crowded.pair 0).atSplit = false ∧ crowded.agreeRoom 0 = true ∧ (crowded.core 0).due = true ∧ (crowded.core 0).logDue = false ∧
    (crowded.core 0).keepsEvents = false := by decide +kernel

/-- What the agreement point leaves in the input buffer. -/
theorem crowded_agree_inbox : ((crowded.agree 0).core 0).inbox = [.inval (mate 1)] := by decide +kernel

/-- Refutes O41: the last clause would have the input buffer empty after an agreement point at which neither the log nor a switch of the
floating-point file keeps anything there; but the lines that the point itself brings in can evict others that the pair may hold. -/
theorem not_comparatorSteps : ¬ Obligations.ComparatorSteps := by
  intro h
  obtain ⟨hdown, hchecks, hfatal, hsplit, hroom, hdue, hlog, hkeeps⟩ := crowded_atAgreement
  obtain ⟨-, -, hagree⟩ := h crowded 0 hdown (by decide) hchecks
  obtain ⟨-, -, -, hinbox, -⟩ := hagree hfatal hsplit hroom (.inl hdue)
  have hempty : ((crowded.agree 0).core 0).inbox = [] := hinbox hlog hkeeps
  rw [crowded_agree_inbox] at hempty
  cases hempty

end Sys2Proof.PartnerProofs
end

section
/-! R307, R379: the scheduler gives a free engine the head entry of a queue, whose operation it starts. -/

namespace Sys2Proof.EngineProofs

open Sys2Proof Sys2Proof.Machine Sys2Proof.Slice0 Sys2Proof.PartnerProofs

variable {s t u : State} {e q desc k : Nat} {j : Job} {want : Option Nat}

/-- A command of a unit that there is does what its row says. -/
theorem run_upTo {n m : Nat} (hdown : s.down = false) (hn : n < m) (f : State → State) : s.run (fun s => upTo n m f s) = .next (f s) := by
  rw [run_eq hdown, upTo, if_pos hn]

/-- The engine of `TakesEntry` starts the entry's job, where the command names the job's operation. -/
theorem dispatchJob_takes (h : TakesEntry s e q desc j t) (hrow : rowTakes want q j.op = true) :
    s.dispatchJob e want = t.startQueued e q j := by
  obtain ⟨-, -, hidle, hreset, ht0, hfatal, hfree, k, s2, s3, hwork, hread, rfl, hfirst, hwrite, rfl⟩ := h
  unfold State.dispatchJob
  extract_lets s0 s1
  have hs0 : s0 = s.takeStaged .TRE_CTL e 0 := if_pos (by rw [hidle]; rfl)
  have hs1 : s1 = (s.takeStaged .TRE_CTL e 0).tidyQueues := by
    have hruns : (s0.flt.resets.any (fun r => r.1 == 0x28) || s0.pwr.t0.isSome || s0.flt.fatal) = false := by
      rw [hs0, ht0, hfatal]
      exact congrArg (fun b => b || false || false) hreset
    show (if _ then _ else _) = _
    rw [hruns, hs0, if_neg (by decide)]
  rw [hs1, hfree, if_neg (by decide), hwork]
  dsimp only
  rw [hread]
  dsimp only
  rw [hrow, hfirst, if_neg (by decide), if_neg (by decide), hwrite]

/-- A command of the scheduler starts the job of the entry that its engine takes. -/
theorem dispatch_eq (h : TakesEntry s e q desc j t) (hrow : rowTakes want q j.op = true) :
    s.run (fun s => upTo e 8 (fun s => s.dispatchJob e want) s) = .next (t.startQueued e q j) := by
  rw [run_upTo h.1 h.2.1, dispatchJob_takes h hrow]

/-! Each operation (R308) -/

theorem startQueued_transform (hop : j.op = 1) (hfields : badTransform j.d = false) : s.startQueued e q j = s.startTransform e j := by
  have hknown : opKnown q j.op = true := by rw [hop]; rfl
  rw [State.startQueued, hknown, hfields, if_neg (by decide), if_pos hop, if_neg (by decide)]

theorem startQueued_keyLoad (hop : j.op = 2) : s.startQueued e q j = s.startKeyLoad e j := by
  have hknown : opKnown q j.op = true := by rw [hop]; rfl
  rw [State.startQueued, hknown, if_neg (by decide), if_neg (by omega), if_pos hop]

theorem startQueued_keyErase (hop : j.op = 3) : s.startQueued e q j = s.startKeyErase e j := by
  have hknown : opKnown q j.op = true := by rw [hop]; rfl
  rw [State.startQueued, hknown, if_neg (by decide), if_neg (by omega), if_neg (by omega), if_pos hop]

/-- R320: verifications are of the service queue. -/
theorem startQueued_verify (hq : q = svcQueue) (hop : j.op = 0x10 ∨ j.op = 0x11) :
    s.startQueued e q j = s.startVerify e j (j.op == 0x10) := by
  have hknown : opKnown q j.op = true := by
    rw [hq]
    obtain hop | hop := hop <;> rw [hop] <;> rfl
  rw [State.startQueued, hknown, if_neg (by decide), if_neg (by omega), if_neg (by omega), if_neg (by omega)]

/-! Key operations (R304, R305) -/

/-- R304: a KEY_LOAD whose record is valid. -/
theorem startKeyLoad_valid {r key : List Byte} (hfields : badKeyOp j.d true = false) (hlen : j.srcLen = 80) (hslot : s.keySlot j = some k)
    (hread : s.readSpans (engBlk e) (j.inst.getD 0) [(dn j.d 16 8, 80)] = .bytes u r) (hrecord : keyRecord r = (0, key))
    (hfresh : u.jobStale j = false) :
    s.startKeyLoad e j = ((u.putKey k (dn r 0 1) key).storeBytes j.by_ (dn j.d 16 8) (List.replicate 80 0)).endJob
      e j stDone (0, 0) 0 none := by
  rw [State.startKeyLoad, hfields, if_neg (by decide), if_neg (not_not_intro hlen), hslot]
  dsimp only
  rw [hread]
  dsimp only
  rw [hrecord]
  dsimp only
  rw [if_neg (by decide), hfresh, if_neg (by decide)]

/-- R305: a KEY_ERASE of a slot that the job may name, empty or not (the model's reading, log entry 189). -/
theorem startKeyErase_slot (hfields : badKeyOp j.d false = false) (hslot : s.keySlot j = some k) (hfresh : s.jobStale j = false) :
    s.startKeyErase e j = (s.eraseKey k).endJob e j stDone (0, 0) 0 none := by
  rw [State.startKeyErase, hfields, if_neg (by decide), hslot]
  dsimp only
  rw [hfresh, if_neg (by decide)]

/-! Verifications (R320) -/

/-- The status with which a verdict ends its job. -/
def verdictStatus : Verdict → Nat
  | .passes => stDone
  | .fails => stSigFail
  | .badSet => stBadDesc

/-- The verdict on what a verification has read: message, key and signature, one after the other. -/
def verdictOn (j : Job) (ecdsa : Bool) (bs : List Byte) : Verdict :=
  let msg := bs.take (dn j.d 24 8)
  let key := sub bs (dn j.d 24 8) (dn j.d 40 8)
  let sig := bs.drop (dn j.d 24 8 + dn j.d 40 8)
  if ecdsa then Verdict.ofBool (ecdsaOk msg key sig) else hssVerify msg key sig

theorem startVerify_verdict {ecdsa : Bool} {bs : List Byte} (hfields : badVerify j.d ecdsa = false)
    (hread : s.readSpans (engBlk e) (j.inst.getD 0) j.verifySpans = .bytes u bs) :
    s.startVerify e j ecdsa = u.endJob e j (verdictStatus (verdictOn j ecdsa bs)) (0, 0) 0 none := by
  rw [State.startVerify, hfields, if_neg (by decide), hread]
  rfl

theorem verdictStatus_ofBool (b : Bool) : verdictStatus (Verdict.ofBool b) = if b then stDone else stSigFail := by
  cases b with
  | true => rfl
  | false => rfl

/-- A verification ends with its verdict, on the queue whose jobs may ask for one. -/
theorem startQueued_verdict {bs : List Byte} (hq : q = svcQueue) (hop : j.op = 0x10 ∨ j.op = 0x11)
    (hfields : badVerify j.d (j.op == 0x10) = false) (hread : t.readSpans (engBlk e) (j.inst.getD 0) j.verifySpans = .bytes u bs) :
    t.startQueued e q j = u.endJob e j (verdictStatus (verdictOn j (j.op == 0x10) bs)) (0, 0) 0 none :=
  (startQueued_verify hq hop).trans (startVerify_verdict hfields hread)

theorem verifyEcdsa_eq {bs : List Byte} (h : TakesEntry s e q desc j t) (hq : q = svcQueue) (hop : j.op = 0x10)
    (hfields : badVerify j.d (j.op == 0x10) = false) (hread : t.readSpans (engBlk e) (j.inst.getD 0) j.verifySpans = .bytes u bs) :
    exec (.verifyEcdsa e) s = .next (u.endJob e j (verdictStatus (verdictOn j true bs)) (0, 0) 0 none) := by
  refine (dispatch_eq h (by rw [hop, hq]; rfl)).trans (congrArg Host.Outcome.next ?_)
  rw [startQueued_verdict hq (.inl hop) hfields hread, hop]
  rfl

theorem verifyLms_eq {bs : List Byte} (h : TakesEntry s e q desc j t) (hq : q = svcQueue) (hop : j.op = 0x11)
    (hfields : badVerify j.d (j.op == 0x10) = false) (hread : t.readSpans (engBlk e) (j.inst.getD 0) j.verifySpans = .bytes u bs) :
    exec (.verifyLms e) s = .next (u.endJob e j (verdictStatus (verdictOn j false bs)) (0, 0) 0 none) := by
  refine (dispatch_eq h (by rw [hop, hq]; rfl)).trans (congrArg Host.Outcome.next ?_)
  rw [startQueued_verdict hq (.inr hop) hfields hread, hop]
  rfl

theorem engineJobs : EngineJobs := by
  intro s e q desc j t h
  refine ⟨fun hop hfields => ?_, fun k u r key hop hfields hlen hslot hread hrecord hfresh => ?_, fun k hop hfields hslot hfresh => ?_,
    fun u bs hq hfields hread => ⟨fun hop => ?_, fun hop hpass => ?_, fun hop hfail => ?_⟩⟩
  · refine (dispatch_eq h (by rw [hop]; rfl)).trans (congrArg Host.Outcome.next ?_)
    exact startQueued_transform hop hfields
  · refine (dispatch_eq h (by rw [hop]; rfl)).trans (congrArg Host.Outcome.next ?_)
    exact (startQueued_keyLoad hop).trans (startKeyLoad_valid hfields hlen hslot hread hrecord hfresh)
  · refine (dispatch_eq h (by rw [hop]; rfl)).trans (congrArg Host.Outcome.next ?_)
    exact (startQueued_keyErase hop).trans (startKeyErase_slot hfields hslot hfresh)
  · rw [verifyEcdsa_eq h hq hop hfields hread, ← verdictStatus_ofBool]
    rfl
  · rw [verifyLms_eq h hq hop hfields hread, show verdictOn j false bs = .passes from hpass]
    rfl
  · rw [verifyLms_eq h hq hop hfields hread, show verdictOn j false bs = .fails from hfail]
    rfl

end Sys2Proof.EngineProofs
end

section
/-! R287, R288, R290, R310, R313: an engine's next block or piece, held and written. -/

namespace Sys2Proof.EngineProofs

open Sys2Proof Sys2Proof.Machine Sys2Proof.Slice0 Sys2Proof.PartnerProofs

variable {s t u : State} {e segs comp : Nat} {j j' : Job} {out raw plain : List Byte} {p p1 : Prog} {next : State → Job → NextBlock}

/-- R313: a block that is held goes on. -/
theorem runBlock_held (hjob : mapGet? s.trs.jobs e = some j) (hop : j.op = 1) (hcomp : j.comp = comp) (hrest : j.rest ≠ []) :
    s.runBlock e segs comp next = State.writeSegs e segs s := by
  have hheld : (!j.rest.isEmpty) = true := by simpa using hrest
  rw [State.runBlock, hjob]
  dsimp only
  rw [if_neg (by simp [hop, hcomp]), if_pos hheld]

/-- R310: the next block or piece of a job with input left is held, and its first segments are written. -/
theorem runBlock_put (hjob : mapGet? s.trs.jobs e = some j) (hop : j.op = 1) (hcomp : j.comp = comp) (hrest : j.rest = [])
    (hleft : j.prog.inDone < j.srcLen) (hnext : next s j = .put t j' out) :
    s.runBlock e segs comp next = t.putBlock e segs j j' out := by
  rw [State.runBlock, hjob]
  dsimp only
  rw [if_neg (by simp [hop, hcomp]), hrest, if_neg (by decide), if_neg (Nat.not_le.mpr hleft), hnext]

/-- A command of a block that is held writes its segments. -/
theorem block_held (hdown : s.down = false) (he : e < 8) (hjob : mapGet? s.trs.jobs e = some j) (hop : j.op = 1) (hcomp : j.comp = comp)
    (hrest : j.rest ≠ []) : s.run (fun s => upTo e 8 (fun s => s.runBlock e segs comp next) s) = .next (State.writeSegs e segs s) := by
  rw [run_upTo hdown he, runBlock_held hjob hop hcomp hrest]

/-- A command of a next block that comes out holds it. -/
theorem block_put (hdown : s.down = false) (he : e < 8) (hjob : mapGet? s.trs.jobs e = some j) (hop : j.op = 1) (hcomp : j.comp = comp)
    (hrest : j.rest = []) (hleft : j.prog.inDone < j.srcLen) (hnext : next s j = .put t j' out) :
    s.run (fun s => upTo e 8 (fun s => s.runBlock e segs comp next) s) = .next (t.putBlock e segs j j' out) := by
  rw [run_upTo hdown he, runBlock_put hjob hop hcomp hrest hleft hnext]

/-- R287: HIST of a job's blocks: set with a context unless INDEPENDENT is, in a new stream's first block too (the model's choice,
log entry 169). -/
def usesHist (j : Job) : Bool := j.ctx != 0 && !j.independent

/-- R310: the input that a job's next block takes. -/
def blockInput (j : Job) : Nat := min j.blockSize (j.srcLen - j.prog.inDone)

/-- R287: the next block ends the stream. -/
def endsStream (j : Job) : Bool := (j.last || j.isExch) && decide (j.srcLen ≤ j.prog.inDone + blockInput j)

def compressedBody (j : Job) (raw : List Byte) : List Byte := compressed raw (if usesHist j then j.prog.hist else []) j.blockSize j.flags

/-- R287: the block that a job makes of its next input, before its cipher. -/
def compressedBlock (j : Job) (raw : List Byte) : List Byte :=
  blockBytes raw (compressedBody j raw) j.target j.prog.nextSeq (usesHist j) (endsStream j) (decide (blockInput j < j.blockSize))

/-- R287, R315: the progress after that block, `p` being the cipher's. -/
def compressedProg (j : Job) (raw : List Byte) (p : Prog) : Prog :=
  { p with
    nextSeq := (j.prog.nextSeq + 1) % 2 ^ 32
    raised := j.prog.raised || (j.target != 0 && decide (j.target < (emitClass raw.length (compressedBody j raw).length).1))
    ended := j.prog.ended || endsStream j }

/-- R287: a block that is compressed and fits. -/
theorem compressNext_fits (hspace : 512 * max 1 j.target ≤ j.dstLen - j.prog.outHere)
    (hinput : s.jobInput e j (blockInput j) = .ok t raw plain p)
    (hfits : (compressedBlock j raw).length ≤ j.dstLen - j.prog.outHere)
    (hcrypt : j.crypt j.prog [] (compressedBlock j raw) = (out, p1)) :
    s.compressNext e j = .put t (j.advance (compressedProg j raw p1) raw out raw 1) out := by
  rw [blockInput] at hinput
  rw [State.compressNext]
  dsimp only
  rw [if_neg (Nat.not_lt.mpr hspace), hinput]
  refine (if_neg (Nat.not_lt.mpr hfits)).trans ?_
  exact congrArg (fun x : List Byte × Prog => NextBlock.put t (j.advance (compressedProg j raw x.2) raw x.1 raw 1) x.1) hcrypt

/-- R288, R289: a block that decodes and fits; it is read whole before its header is checked (the model's choice, log entry 171). -/
theorem decompressNext_fits {r hd blk : List Byte} {p0 : Prog} (hended : j.prog.ended = false) (hheader : 16 ≤ j.srcLen - j.prog.inDone)
    (hread : s.jobInput e j 16 = .ok t r hd p0) (hlow : 1 ≤ hdrClass hd) (hhigh : hdrClass hd ≤ 129)
    (hinput : t.jobInput e j (min (j.srcLen - j.prog.inDone) (hdrClass hd * 512)) = .ok u raw blk p1)
    (hdecode : decodeBlock blk (j.srcLen - j.prog.inDone) j.prog.nextSeq (if j.ctx = 0 then [] else j.prog.hist) = .ok out)
    (hfits : out.length ≤ j.dstLen - j.prog.outHere) :
    s.decompressNext e j =
      .put u (j.advance { p1 with nextSeq := (hdrSeq blk + 1) % 2 ^ 32, ended := hdrLast blk } raw out out 1) out := by
  rw [State.decompressNext]
  dsimp only
  rw [Nat.min_eq_right hheader, hread]
  dsimp only
  rw [if_pos ⟨hheader, hlow, hhigh⟩, hinput]
  dsimp only
  rw [hended, if_neg (by decide), hdecode]
  dsimp only
  rw [if_neg (Nat.not_lt.mpr hfits)]

/-- R310: a piece that is not enciphered, and fits. -/
theorem pieceNext_fits (hcipher : j.encrypts = false) (hfits : min j.pieceSize (j.srcLen - j.prog.inDone) ≤ j.dstLen - j.prog.outHere)
    (hinput : s.jobInput e j (min j.pieceSize (j.srcLen - j.prog.inDone)) = .ok t raw plain p1) :
    s.pieceNext e j = .put t (j.advance p1 raw plain raw 0) plain := by
  rw [State.pieceNext]
  dsimp only
  rw [if_neg (Nat.not_lt.mpr hfits), hinput]
  dsimp only
  rw [hcipher, if_neg (by decide)]

end Sys2Proof.EngineProofs
end

section
/-! R307, R316: the doorbell of a queue, and an engine's internal error. -/

namespace Sys2Proof.EngineProofs

open Sys2Proof Sys2Proof.Machine Sys2Proof.Slice0 Sys2Proof.LevelProofs Sys2Proof.LineProofs Sys2Proof.PartnerProofs

variable {s : State} {who : Master} {e q tail kind : Nat} {clears : Bool} {j : Job}

/-- R322: the doorbells of the queues lie after the heads, eight bytes each. -/
theorem regAt_trsDoorbell (hq : q < 1024) : regAt 0x28 (0x6000 + 8 * q) = some (.TRS_DOORBELL, q) := by
  refine List.findSome?_eq_some_iff.mpr ⟨[.TRS_Q_BASE, .TRS_Q_CTL, .TRS_Q_HEAD], .TRS_DOORBELL, _, rfl, ?_, fun r hr => ?_⟩
  · have hplace : 0x6000 ≤ 0x6000 + 8 * q ∧ (0x6000 + 8 * q - 0x6000) % 8 = 0 ∧ (0x6000 + 8 * q - 0x6000) / 8 < 1024 := by omega
    exact (if_pos hplace).trans (congrArg (fun k => some (RegName.TRS_DOORBELL, k))
      (show (0x6000 + 8 * q - 0x6000) / 8 = q by omega))
  · have hpast {start : Nat} (hstart : start + 8 * 1024 ≤ 0x6000) : ¬ (start ≤ 0x6000 + 8 * q ∧ (0x6000 + 8 * q - start) % 8 = 0 ∧
        (0x6000 + 8 * q - start) / 8 < 1024) := by omega
    simp only [List.mem_cons, List.not_mem_nil, or_false] at hr
    obtain rfl | rfl | rfl := hr
    · exact if_neg (hpast (start := 0x0) (by decide))
    · exact if_neg (hpast (start := 0x2000) (by decide))
    · exact if_neg (hpast (start := 0x4000) (by decide))

theorem offsetOfReg_trsDoorbell : offsetOfReg .TRS_DOORBELL 0 q = 0x6000 + 8 * q := by
  rw [offsetOfReg, if_neg (by decide), Nat.zero_add]
  rfl

theorem findReg_trsDoorbell (hq : q < 1024) : findReg 0x28 (0x6000 + 8 * q) = some (.TRS_DOORBELL, 0, q) := by
  rw [findReg, if_neg (by omega), if_neg (by decide), regAt_trsDoorbell hq]
  rfl

/-- R307, R468: a queue's TAIL is set, and rest ends where the queue is enabled. -/
def tailSet (s : State) (q tail : Nat) : State :=
  if s.fbit F.TRS_Q_CTL_ENABLE 0 q then (s.fset F.TRS_DOORBELL_TAIL 0 q tail).endRest else s.fset F.TRS_DOORBELL_TAIL 0 q tail

theorem tailSet_base : (tailSet s q tail).pwr.baseOn = s.pwr.baseOn := by
  have hframe : Frame false s (tailSet s q tail) := Frame.ite ((Frame.fset _ _ _ _).trans Frame.endRest) (Frame.fset _ _ _ _)
  exact hframe.base

/-- R307: a TAIL that leaves no more entries than the queue holds. -/
theorem regWrite_trsDoorbell (htail : tail < 65536)
    (hfits : (tail + 65536 - s.fget F.TRS_Q_HEAD_HEAD 0 q) % 65536 ≤ 2 ^ s.fget F.TRS_Q_CTL_SIZE_LOG2 0 q) (blk addr : Nat) :
    State.regWrite State.cfgApply s .TRS_DOORBELL 0 q (BitVec.ofNat 64 tail) blk addr = tailSet s q tail := by
  have hword : fld (BitVec.ofNat 64 tail) 0 16 = tail := by
    rw [fld, BitVec.toNat_ofNat]
    omega
  show s.writeDoorbell F.TRS_DOORBELL_TAIL q _ _ _ _ blk addr = _
  rw [State.writeDoorbell, hword, if_neg (Nat.not_lt.mpr hfits)]
  rfl

theorem writeReg_trsDoorbell (htail : tail < 65536) (h : Hears s who .TRS_DOORBELL 0 q)
    (hfits : (tail + 65536 - s.fget F.TRS_Q_HEAD_HEAD 0 q) % 65536 ≤ 2 ^ s.fget F.TRS_Q_CTL_SIZE_LOG2 0 q) :
    s.writeReg who .TRS_DOORBELL 0 q (BitVec.ofNat 64 tail) = tailSet s q tail := by
  have hq : q < 1024 := h.2.2.2.2.1
  have hwrite := regWrite_trsDoorbell htail hfits
  exact (writeReg_eq h (by decide) (by decide) (by rw [offsetOfReg_trsDoorbell]; omega)
    (by rw [offsetOfReg_trsDoorbell]; exact findReg_trsDoorbell hq) (by rw [hwrite]; exact tailSet_base)).trans (hwrite _ _)

/-- R307: the doorbell of a queue of an instance. -/
theorem trsDoorbell_eq (hdown : s.down = false) (hq : q < 1024) :
    exec (.trsDoorbell who q tail) s = .next (s.writeReg who .TRS_DOORBELL 0 q (BitVec.ofNat 64 tail)) :=
  (run_eq hdown (fun s => if q = 1024 then s.writeReg who .TRS_SVC_DOORBELL 0 0 (BitVec.ofNat 64 tail)
    else s.writeReg who .TRS_DOORBELL 0 q (BitVec.ofNat 64 tail))).trans (congrArg Host.Outcome.next (if_neg (Nat.ne_of_lt hq)))

/-- Reports leave the engines as they are. -/
theorem unreported_trs : Unreported State.trs :=
  ⟨fun _ _ => rfl, fun _ _ => rfl, fun _ _ => rfl, fun _ _ => rfl, fun _ _ => rfl, fun _ _ => rfl, fun _ _ _ => rfl, fun _ _ _ _ _ _ => rfl⟩

theorem abortJob_trs (hjob : mapGet? s.trs.jobs e = some j) :
    (s.abortJob e).trs = { s.trs with jobs := mapErase s.trs.jobs e, reruns := s.trs.reruns ++ [{ j with rest := [] }] } := by
  rw [State.abortJob, hjob]

theorem inReset_openReset (b : Nat) (byFlt : Bool) : (s.openReset b byFlt).inReset b = true := by
  simp [State.inReset, State.openReset]

/-- A reset that is under way already, or is opened. -/
theorem openReset_once (b : Nat) :
    (if s.flt.resets.any (fun r => r.1 == b) then s else s.openReset b false).inReset b = true ∧
    (if s.flt.resets.any (fun r => r.1 == b) then s else s.openReset b false).trs = s.trs := by
  split
  · next hopen => exact ⟨hopen, rfl⟩
  · exact ⟨inReset_openReset b false, rfl⟩

/-- R316: the engine is reset, and its job waits for a rerun. -/
theorem engineError_reruns (hservice : s.fbit F.TRE_STATUS_IN_SERVICE e 0 = true) (hpower : s.domPowered (96 + e) = true)
    (hjob : mapGet? s.trs.jobs e = some j) :
    (s.engineError e kind clears).inReset (engBlk e) = true ∧ (s.engineError e kind clears).trs =
      { s.trs with jobs := mapErase s.trs.jobs e, reruns := s.trs.reruns ++ [{ j with rest := [] }] } := by
  rw [State.engineError, hservice, hpower, if_neg (by decide)]
  extract_lets _ n s1 s2 s3 s4
  have h2 : s2.trs = s.trs := by
    show (if _ then _ else _ : State).trs = _
    split
    · rfl
    · rfl
  have h3 : s3.trs = { s.trs with jobs := mapErase s.trs.jobs e, reruns := s.trs.reruns ++ [{ j with rest := [] }] } := by
    have hlog : s3.trs = (s2.abortJob e).trs := unreported_trs.logFault _ (by show 1 ≤ 4; decide)
    rw [← h2] at hjob ⊢
    exact hlog.trans (abortJob_trs hjob)
  obtain ⟨hreset, htrs⟩ : s4.inReset (engBlk e) = true ∧ s4.trs = s3.trs := openReset_once (engBlk e)
  clear_value s4
  split
  · exact ⟨hreset, htrs.trans h3⟩
  · exact ⟨hreset, htrs.trans h3⟩

end Sys2Proof.EngineProofs
end

section
/-! R286 to R320: what the engines are given and what they do with it. -/

namespace Sys2Proof.EngineProofs

open Sys2Proof Sys2Proof.Machine Sys2Proof.Slice0 Sys2Proof.PartnerProofs

theorem engineBlocks : EngineBlocks := by
  intro s
  refine ⟨fun who q tail hq htail h hfits => ?_, fun e segs j hdown he hjob hop hrest => ?_,
    fun e segs j hdown he hjob hop hrest hleft => ?_, fun e kind spill clears j => ?_⟩
  · rw [trsDoorbell_eq h.2.1 hq, writeReg_trsDoorbell htail h hfits]
    rfl
  · exact ⟨fun hcomp => block_held hdown he hjob hop hcomp hrest, fun hcomp => block_held hdown he hjob hop hcomp hrest,
      fun hcomp => block_held hdown he hjob hop hcomp hrest⟩
  · refine ⟨fun t raw plain p hcomp hspace hinput => ?_,
      fun t u r hd raw blk out p0 p1 hcomp hended hheader hread hlow hhigh hinput hdecode hfits => ?_,
      fun t raw plain p1 hcomp hcipher hfits hinput => ?_⟩
    · intro hist n last body blk hfits
      generalize hcrypt : j.crypt j.prog [] blk = x
      obtain ⟨out, p1⟩ := x
      exact block_put hdown he hjob hop hcomp hrest hleft (compressNext_fits hspace hinput hfits hcrypt)
    · exact block_put hdown he hjob hop hcomp hrest hleft
        (decompressNext_fits hended hheader hread hlow hhigh hinput hdecode hfits)
    · exact block_put hdown he hjob hop hcomp hrest hleft (pieceNext_fits hcipher hfits hinput)
  · intro w hdown he hservice hpower hjob
    obtain ⟨hreset, htrs⟩ := engineError_reruns (kind := kind) (clears := clears) hservice hpower hjob
    exact ⟨_, run_upTo hdown he _, hreset, congrArg Trs.jobs htrs, congrArg Trs.reruns htrs⟩

/-- Settles O44: the operations as the scheduler starts them, then doorbells, blocks and internal errors. -/
theorem engineCommands : Obligations.EngineCommands := ⟨engineJobs, engineBlocks⟩

end Sys2Proof.EngineProofs
end

section
/-! R340, R347, R352, R356: what the decision of a completion leaves of the state: every reading of it that turns on none of the parts
that the decision touches. -/

namespace Sys2Proof.ExchangeProofs

open Sys2Proof Sys2Proof.Machine Sys2Proof.Slice0 Sys2Proof.LevelProofs Sys2Proof.LineProofs Sys2Proof.PartnerProofs

/-- A reading of the state that turns on none of the parts that the decision of a completion touches: the jobs of the engines and their
ENABLE, the slots of completion rings, what a pair holds of an exchange, its entry but for the owner, what leaves the device, and the
free values drawn. -/
structure Undecided {β : Type} (g : State → β) : Prop where
  trs : ∀ s x, g { s with trs := x } = g s
  engine : ∀ s e v, g (s.setActing .TRE_CTL e 0 v) = g s
  reserved : ∀ s x, g { s with xch := { s.xch with reserved := x } } = g s
  issued : ∀ s x, g { s with xch := { s.xch with issued := x } } = g s
  work : ∀ s x w, g (s.setExch x w) = g s
  entry : ∀ s x e, e.owner = (s.entry x).owner → g (s.setEntry x e) = g s
  outbox : ∀ s x, g { s with outbox := x } = g s
  draw : ∀ s, g s.draw = g s

/-- The owner of an entry is such a reading. -/
theorem undecided_owner (y : Nat) : Undecided (fun s => (s.entry y).owner) where
  trs _ _ := rfl
  engine _ _ _ := rfl
  reserved _ _ := rfl
  issued _ _ := rfl
  work _ _ _ := rfl
  entry s x e he := by
    by_cases h : y = x
    · rw [h, State.entry_setEntry, he]
    · rw [State.entry_setEntry_ne s e h]
  outbox _ _ := rfl
  draw _ := rfl

theorem undecided_attempts : Undecided (fun s => s.xch.attempts) :=
  ⟨fun _ _ => rfl, fun _ _ _ => rfl, fun _ _ => rfl, fun _ _ => rfl, fun _ _ _ => rfl, fun _ _ _ _ => rfl, fun _ _ => rfl, fun _ => rfl⟩

theorem undecided_fences : Undecided (fun s => s.xch.fences) :=
  ⟨fun _ _ => rfl, fun _ _ _ => rfl, fun _ _ => rfl, fun _ _ => rfl, fun _ _ _ => rfl, fun _ _ _ _ => rfl, fun _ _ => rfl, fun _ => rfl⟩

theorem undecided_queues : Undecided (fun s => s.xch.queues) :=
  ⟨fun _ _ => rfl, fun _ _ _ => rfl, fun _ _ => rfl, fun _ _ => rfl, fun _ _ _ => rfl, fun _ _ _ _ => rfl, fun _ _ => rfl, fun _ => rfl⟩

theorem undecided_base : Undecided (fun s => s.pwr.baseOn) :=
  ⟨fun _ _ => rfl, fun _ _ _ => rfl, fun _ _ => rfl, fun _ _ => rfl, fun _ _ _ => rfl, fun _ _ _ _ => rfl, fun _ _ => rfl, fun _ => rfl⟩

/-! Reports leave the same readings as they are -/

theorem unreported_xch : Unreported State.xch :=
  ⟨fun _ _ => rfl, fun _ _ => rfl, fun _ _ => rfl, fun _ _ => rfl, fun _ _ => rfl, fun _ _ => rfl, fun _ _ _ => rfl, fun _ _ _ _ _ _ => rfl⟩

/-- What is made of such a reading is one too. -/
theorem unreported_comp {β γ : Type} {g : State → β} (hg : Unreported g) (h : β → γ) : Unreported (fun s => h (g s)) where
  flt s x := congrArg h (hg.flt s x)
  cue s x := congrArg h (hg.cue s x)
  shb s x := congrArg h (hg.shb s x)
  outbox s x := congrArg h (hg.outbox s x)
  bmp s x := congrArg h (hg.bmp s x)
  cores s x := congrArg h (hg.cores s x)
  pwr s p hp := congrArg h (hg.pwr s p hp)
  counts s r k v hr hk := congrArg h (hg.counts s r k v hr hk)

theorem unreported_owner (y : Nat) : Unreported (fun s => (s.entry y).owner) :=
  unreported_comp unreported_xch (fun x => (mapGet Entry.idle x.entries y).owner)

namespace Undecided

variable {β : Type} {g : State → β} (hg : Undecided g) {s : State}

include hg

theorem modEntry (x : Nat) (f : Entry → Entry) (hf : ∀ e, (f e).owner = e.owner := by intro e; rfl) : g (s.modEntry x f) = g s :=
  hg.entry s x _ (hf _)

theorem modExch (x : Nat) (f : Exch → Exch) : g (s.modExch x f) = g s := hg.work s x _

theorem cancelTransform (x : Nat) : g (s.cancelTransform x) = g s := by
  refine (foldl_same g (fun s p => ?_) _ _).trans (hg.trs s _)
  split
  · next hmine =>
    have hsrc : p.2.src = .exch x := beq_iff_eq.mp (Bool.and_eq_true_iff.mp hmine).1
    rw [State.freeEngine, hsrc]
    dsimp only
    rw [State.takeStaged]
    split
    · exact hg.trs s _
    · exact (hg.engine _ _ _).trans (hg.trs s _)
  · rfl

theorem takeSeq (c : Nat) : g (s.takeSeq c).1 = g s := (hg.issued _ _).trans (hg.reserved s _)

/-- R340: the decision itself. -/
theorem toStatus (x result tstatus : Nat) : g (s.toStatus x result tstatus) = g s := by
  have howner : ((s.cancelTransform x).entry x).owner = (s.entry x).owner := (undecided_owner x).cancelTransform x
  refine (hg.work _ _ _).trans ((hg.entry _ x _ ?_).trans ((hg.takeSeq _).trans (hg.cancelTransform x)))
  exact howner.symm

theorem afterAttempt (x : Nat) : g (s.afterAttempt x) = g s := by
  unfold State.afterAttempt
  extract_lets e
  split
  · rfl
  · split
    · exact hg.toStatus x _ _
    · split
      · exact hg.toStatus x _ _
      · rfl

theorem abortEntry (x : Nat) : g (s.abortEntry x) = g s := by
  unfold State.abortEntry
  extract_lets e s1
  have h1 : g s1 = g s := hg.modEntry x _
  split
  · rfl
  · split
    · split
      · exact (hg.toStatus x _ _).trans h1
      · exact (hg.outbox s1 _).trans h1
    · exact (hg.toStatus x _ _).trans h1

theorem statusAtReset (x : Nat) : g (s.statusAtReset x) = g s := by
  unfold State.statusAtReset
  extract_lets e
  split
  · rfl
  · split
    · exact hg.draw s
    · exact (hg.modExch x _).trans ((hg.modEntry x _).trans (hg.draw s))

theorem raiseBlock (hr : Unreported g) (src : Nat) : g (s.raiseBlock src) = g s :=
  (hr.report _ _ (fun m hm => by cases List.mem_singleton.mp hm)).trans (hg.draw s)

/-- R340: the event of a record. -/
theorem reportRecord (hr : Unreported g) (x : Nat) : g (s.reportRecord x) = g s := by
  unfold State.reportRecord
  extract_lets e s1
  have h1 : g s1 = g s := by
    show g (if _ then _ else _) = _
    split
    · exact hg.raiseBlock hr _
    · rfl
  exact (hg.modEntry x _).trans h1

/-- R352: how an adopted entry goes on, once it is the new owner's. -/
theorem adoptEntry (hr : Unreported g) (x owner : Nat) :
    g (s.adoptEntry x owner) = g (s.modEntry x (fun e => { e with owner })) := by
  unfold State.adoptEntry
  extract_lets s1 s2
  refine (hg.afterAttempt x).trans ((hg.abortEntry x).trans ?_)
  show g (match (s1.entry x).state with
    | 2 => (s1.cancelTransform x).modExch x (fun w => { w with redrive := true, outLen := 0 })
    | 6 => s1.reportRecord x
    | _ => s1) = g s1
  split
  · exact (hg.modExch x _).trans (hg.cancelTransform x)
  · exact hg.reportRecord hr x
  · rfl

end Undecided

end Sys2Proof.ExchangeProofs
end

section
/-! R352, R364: the registers of the request rings, and the rings that each pair serves. -/

namespace Sys2Proof.ExchangeProofs

open Sys2Proof Sys2Proof.Machine Sys2Proof.LineProofs Sys2Proof.PartnerProofs

/-! What is listed in a part of a map -/

section

variable {α : Type} {inPart : Nat → Bool}

theorem filter_mapSet_out (m : NMap α) {k : Nat} (v : α) (h : inPart k = false) :
    (mapSet m k v).filter (fun x => inPart x.1) = m.filter (fun x => inPart x.1) := by
  induction m with
  | nil => exact List.filter_cons_of_neg (by rw [h]; decide)
  | cons p m ih =>
    obtain ⟨k', v'⟩ := p
    simp only [mapSet]
    split
    · next hk =>
      subst hk
      rw [List.filter_cons_of_neg (by rw [h]; decide), List.filter_cons_of_neg (by rw [h]; decide)]
    · split
      · rw [List.filter_cons_of_neg (by rw [h]; decide)]
      · rw [List.filter_cons, List.filter_cons, ih]

theorem mapGet_filter (d : α) (m : NMap α) {k : Nat} (h : inPart k = true) :
    mapGet d (m.filter (fun x => inPart x.1)) k = mapGet d m k := by
  induction m with
  | nil => rfl
  | cons p m ih =>
    obtain ⟨k', v'⟩ := p
    rw [List.filter_cons]
    split
    · simp only [mapGet, ih]
    · next hout =>
      have hne : k' ≠ k := fun hk => hout (hk ▸ h)
      rw [ih]
      exact (if_neg hne).symm

end

/-! The registers of the rings -/

/-- The I/O keys of XCH_RQ_BASE and XCH_RQ_CTL, which lie beside each other. -/
def ringKey (k : Nat) : Bool := inRange (0x30 * 2 ^ 20 + 0x10000) 0x10000 k

/-- The registers of the request rings that have been set. -/
def ringRegs (s : State) : NMap Word := s.io.force.filter (fun x => ringKey x.1)

variable {s t : State} {r p q : Nat} {v : Word}

theorem ringKey_base (hr : r < 4096) : ringKey (regKey .XCH_RQ_BASE 0 r) = true := by
  simp [ringKey, inRange, regKey, regPlace]
  omega

theorem ringKey_ctl (hr : r < 4096) : ringKey (regKey .XCH_RQ_CTL 0 r) = true := by
  simp [ringKey, inRange, regKey, regPlace]
  omega

theorem ringRegs_setActing {x : RegName} {u k : Nat} (v : Word) (h : ringKey (regKey x u k) = false) :
    ringRegs (s.setActing x u k v) = ringRegs s := filter_mapSet_out _ _ h

theorem acting_rqBase (h : ringRegs t = ringRegs s) (hr : r < 4096) : t.acting .XCH_RQ_BASE 0 r = s.acting .XCH_RQ_BASE 0 r :=
  (mapGet_filter _ t.io.force (ringKey_base hr)).symm.trans
    ((congrArg (fun m => mapGet _ m _) h).trans (mapGet_filter _ s.io.force (ringKey_base hr)))

theorem acting_rqCtl (h : ringRegs t = ringRegs s) (hr : r < 4096) : t.acting .XCH_RQ_CTL 0 r = s.acting .XCH_RQ_CTL 0 r :=
  (mapGet_filter _ t.io.force (ringKey_ctl hr)).symm.trans
    ((congrArg (fun m => mapGet _ m _) h).trans (mapGet_filter _ s.io.force (ringKey_ctl hr)))

/-- The pair of a ring, and the base of its entries, 0 where the ring is not in use. -/
def pairOf (s : State) (r : Nat) : Nat := s.fget F.XCH_RQ_CTL_PAIR 0 r
def baseOf (s : State) (r : Nat) : Nat := s.fget F.XCH_RQ_BASE_BASE 0 r

theorem pairOf_congr (h : ringRegs t = ringRegs s) (hr : r < 4096) : pairOf t r = pairOf s r :=
  congrArg (fun w => fld w 32 3) (acting_rqCtl h hr)

theorem baseOf_congr (h : ringRegs t = ringRegs s) (hr : r < 4096) : baseOf t r = baseOf s r :=
  congrArg (fun w => fld w 12 40) (acting_rqBase h hr)

/-! The rings of a pair (R352) -/

/-- What is listed of an array is of its registers. -/
theorem lt_of_listed {x : RegName} (h : r ∈ s.listedOf x) : r < (regPlace x).count := by
  obtain ⟨y, hy, rfl⟩ := List.mem_map.mp h
  have hin := (List.mem_filter.mp hy).2
  rw [inRange, Bool.and_eq_true, decide_eq_true_eq, decide_eq_true_eq] at hin
  omega

/-- A ring in use has a register that is not as at reset. -/
theorem listed_of_base (hr : r < 4096) (h : baseOf s r ≠ 0) : r ∈ s.listedOf .XCH_RQ_BASE := by
  have hkey : regKey .XCH_RQ_BASE 0 r ∈ mapKeys s.io.force := by
    by_contra hno
    refine h ?_
    have hreset : s.acting .XCH_RQ_BASE 0 r = 0#64 := by
      rw [State.acting, mapGet_eq, mapGet?_eq_none hno]
      rfl
    rw [baseOf, State.fget, show F.XCH_RQ_BASE_BASE.reg = .XCH_RQ_BASE from rfl, hreset]
    rfl
  obtain ⟨x, hx, hkx⟩ := List.mem_map.mp hkey
  refine List.mem_map.mpr ⟨x, List.mem_filter.mpr ⟨hx, ?_⟩, ?_⟩
  · rw [hkx]
    simp [inRange, regKey, regPlace]
    omega
  · rw [hkx]
    simp [regKey, regPlace]

theorem mem_servedBy : r ∈ s.servedBy p ↔ r < 4096 ∧ baseOf s r ≠ 0 ∧ pairOf s r = p := by
  have hwhich : (s.fget F.XCH_RQ_BASE_BASE 0 r != 0 && s.fget F.XCH_RQ_CTL_PAIR 0 r == p) = true ↔ baseOf s r ≠ 0 ∧ pairOf s r = p := by
    rw [Bool.and_eq_true, bne_iff_ne, beq_iff_eq, baseOf, pairOf]
  rw [State.servedBy, List.mem_eraseDups, List.mem_filter, hwhich]
  exact ⟨fun ⟨hlisted, h⟩ => ⟨lt_of_listed hlisted, h⟩, fun ⟨hr, h⟩ => ⟨listed_of_base hr h.1, h⟩⟩

theorem nodup_eraseDups (xs : List Nat) : xs.eraseDups.Nodup := by
  induction hn : xs.length using Nat.strong_induction_on generalizing xs with
  | _ n ih =>
    cases xs with
    | nil => exact List.nodup_nil
    | cons x xs =>
      rw [List.eraseDups_cons]
      refine List.nodup_cons.mpr ⟨fun hx => ?_, ih _ ?_ _ rfl⟩
      · have hne := (List.mem_filter.mp (List.mem_eraseDups.mp hx)).2
        simp at hne
      · rw [← hn]
        exact Nat.lt_succ_of_le (List.length_filter_le _ _)

theorem nodup_servedBy : (s.servedBy p).Nodup := nodup_eraseDups _

/-- A pair whose rings another has too, but for some, has at most so many more. -/
theorem ringCount_le {extra : List Nat} (h : ∀ r ∈ s.servedBy p, r ∈ extra ++ t.servedBy q) :
    s.ringCount p ≤ extra.length + t.ringCount q := by
  have hle := (List.subperm_of_subset nodup_servedBy h).length_le
  rwa [List.length_append] at hle

theorem ringCount_congr (h : ringRegs t = ringRegs s) : t.ringCount p = s.ringCount p := by
  have hle {s t : State} (h : ringRegs t = ringRegs s) : t.ringCount p ≤ s.ringCount p := by
    refine (ringCount_le (extra := []) fun r hr => ?_).trans (Nat.zero_add _).le
    obtain ⟨hlt, hbase, hpair⟩ := mem_servedBy.mp hr
    exact mem_servedBy.mpr ⟨hlt, baseOf_congr h hlt ▸ hbase, pairOf_congr h hlt ▸ hpair⟩
  exact Nat.le_antisymm (hle h) (hle h.symm)

/-! A ring is given to a pair -/

theorem acting_putField (f : FieldRef) (u k x : Nat) (r : RegName) (u' k' : Nat) :
    (s.putField f u k x).acting r u' k' = (s.fset f u k x).acting r u' k' := by
  unfold State.putField
  extract_lets key s1
  split
  · rfl
  · rfl

theorem baseOf_putField {k : Nat} (hr : r < 4096) (hk : k < 4096) : baseOf (s.putField F.XCH_RQ_CTL_PAIR 0 k q) r = baseOf s r := by
  refine congrArg (fun w => fld w 12 40) ((acting_putField ..).trans (State.acting_setActing_ne s _ ?_))
  show regKey .XCH_RQ_BASE 0 r ≠ regKey .XCH_RQ_CTL 0 k
  simp [regKey, regPlace]
  omega

theorem pairOf_putField_same (hq : q < 8) : pairOf (s.putField F.XCH_RQ_CTL_PAIR 0 r q) r = q := by
  have hset : (s.fset F.XCH_RQ_CTL_PAIR 0 r q).fget F.XCH_RQ_CTL_PAIR 0 r = q % 8 := State.fget_fset s _ 0 r q (by decide)
  refine (congrArg (fun w => fld w 32 3) (acting_putField ..)).trans (hset.trans (Nat.mod_eq_of_lt hq))

theorem pairOf_putField_ne {k : Nat} (h : r ≠ k) : pairOf (s.putField F.XCH_RQ_CTL_PAIR 0 k q) r = pairOf s r := by
  refine congrArg (fun w => fld w 32 3) ((acting_putField ..).trans (State.acting_setActing_ne s _ ?_))
  show regKey .XCH_RQ_CTL 0 r ≠ regKey .XCH_RQ_CTL 0 k
  simp [regKey, regPlace]
  omega

end Sys2Proof.ExchangeProofs
end

section
/-! R352: the pairs that remain in service take over the rings, queues and entries of one that is not. -/

namespace Sys2Proof.ExchangeProofs

open Sys2Proof Sys2Proof.Machine Sys2Proof.LineProofs Sys2Proof.PartnerProofs

variable {s t : State} {p q r : Nat} {others done : List Nat}

theorem fewest_isSome (count : Nat → Nat) {ps : List Nat} (h : ps ≠ []) : ∃ q, fewest count ps = some q := by
  cases ps with
  | nil => exact absurd rfl h
  | cons p ps =>
    rw [fewest]
    split
    · exact ⟨_, rfl⟩
    · split
      · exact ⟨_, rfl⟩
      · exact ⟨_, rfl⟩

/-- It is one of the pairs, and none has fewer. -/
theorem fewest_spec (count : Nat → Nat) {ps : List Nat} (h : fewest count ps = some q) : q ∈ ps ∧ ∀ b ∈ ps, count q ≤ count b := by
  induction ps generalizing q with
  | nil => cases h
  | cons p ps ih =>
    rw [fewest] at h
    split at h
    · next hnone =>
      cases h
      have hnil : ps = [] := by
        by_contra hne
        obtain ⟨x, hx⟩ := fewest_isSome count hne
        rw [hnone] at hx
        cases hx
      subst hnil
      simp
    · next x hx =>
      obtain ⟨hmem, hle⟩ := ih hx
      split at h
      · next hpx =>
        cases h
        exact ⟨List.mem_cons_self .., List.forall_mem_cons.mpr ⟨Nat.le_refl _, fun b hb => hpx.trans (hle b hb)⟩⟩
      · next hpx =>
        cases h
        exact ⟨List.mem_cons_of_mem _ hmem, List.forall_mem_cons.mpr ⟨(Nat.lt_of_not_le hpx).le, hle⟩⟩

/-! Rings -/

/-- A ring is given to the pair with the fewest. -/
def giveRing (others : List Nat) (s : State) (r : Nat) : State :=
  match fewest s.ringCount others with
  | some q => s.putField F.XCH_RQ_CTL_PAIR 0 r q
  | none => s

/-- In `t` the rings `done` have been given to pairs of `others`, none of which has more than one ring more than any other for that; the
rest stands as in `s`. -/
structure Shared (s t : State) (others done : List Nat) : Prop where
  base : ∀ r, r < 4096 → baseOf t r = baseOf s r
  kept : ∀ r, r < 4096 → r ∉ done → pairOf t r = pairOf s r
  given : ∀ r, r < 4096 → r ∈ done → pairOf t r ∈ others ∧ ∀ b ∈ others, t.ringCount (pairOf t r) ≤ t.ringCount b + 1

/-- A further ring of the pair out of service is given. -/
theorem Shared.give (h : Shared s t others done) (hr : r < 4096) (hdone : r ∉ done) (hpair : pairOf s r = p)
    (hothers : ∀ q ∈ others, q < 8 ∧ q ≠ p) (hsome : others ≠ []) : Shared s (giveRing others t r) others (r :: done) := by
  obtain ⟨q, hq⟩ := fewest_isSome t.ringCount hsome
  obtain ⟨hmem, hfewest⟩ := fewest_spec t.ringCount hq
  obtain ⟨hq8, -⟩ := hothers q hmem
  have hgive : giveRing others t r = t.putField F.XCH_RQ_CTL_PAIR 0 r q := by rw [giveRing, hq]
  rw [hgive]
  generalize hu : t.putField F.XCH_RQ_CTL_PAIR 0 r q = u
  have hbase (k : Nat) (hk : k < 4096) : baseOf u k = baseOf t k := hu ▸ baseOf_putField hk hr
  have hnew : pairOf u r = q := hu ▸ pairOf_putField_same hq8
  have hold (k : Nat) (hk : k ≠ r) : pairOf u k = pairOf t k := hu ▸ pairOf_putField_ne hk
  -- the pair of the ring has one more, the others as many as they had
  have hmore : u.ringCount q ≤ t.ringCount q + 1 := by
    refine (ringCount_le (extra := [r]) (t := t) (q := q) fun k hk => ?_).trans (Nat.add_comm ..).le
    obtain ⟨hlt, hused, hserved⟩ := mem_servedBy.mp hk
    by_cases hkr : k = r
    · exact hkr ▸ List.mem_cons_self ..
    · exact List.mem_cons_of_mem _ (mem_servedBy.mpr ⟨hlt, hbase k hlt ▸ hused, hold k hkr ▸ hserved⟩)
  have hkeeps (b : Nat) (hb : b ∈ others) : t.ringCount b ≤ u.ringCount b := by
    refine (ringCount_le (extra := []) fun k hk => ?_).trans (Nat.zero_add _).le
    obtain ⟨hlt, hused, hserved⟩ := mem_servedBy.mp hk
    have hkr : k ≠ r := by
      intro hkr
      rw [hkr, h.kept r hr hdone, hpair] at hserved
      exact (hothers b hb).2 hserved.symm
    exact mem_servedBy.mpr ⟨hlt, (hbase k hlt).symm ▸ hused, (hold k hkr).symm ▸ hserved⟩
  have hsame (a : Nat) (ha : a ≠ q) : u.ringCount a ≤ t.ringCount a := by
    refine (ringCount_le (extra := []) fun k hk => ?_).trans (Nat.zero_add _).le
    obtain ⟨hlt, hused, hserved⟩ := mem_servedBy.mp hk
    have hkr : k ≠ r := fun hkr => ha (by rw [← hserved, hkr, hnew])
    exact mem_servedBy.mpr ⟨hlt, hbase k hlt ▸ hused, hold k hkr ▸ hserved⟩
  have hbalance (b : Nat) (hb : b ∈ others) : u.ringCount q ≤ u.ringCount b + 1 := by
    have := hfewest b hb
    have := hkeeps b hb
    omega
  refine ⟨fun k hk => (hbase k hk).trans (h.base k hk), fun k hk hkd => ?_, fun k hk hkd => ?_⟩
  · have hkr : k ≠ r := fun hkr => hkd (hkr ▸ List.mem_cons_self ..)
    exact (hold k hkr).trans (h.kept k hk (fun hmem => hkd (List.mem_cons_of_mem _ hmem)))
  · by_cases hkr : k = r
    · rw [hkr, hnew]
      exact ⟨hmem, hbalance⟩
    · obtain ⟨hin, hle⟩ := h.given k hk ((List.mem_cons.mp hkd).resolve_left hkr)
      rw [hold k hkr]
      refine ⟨hin, fun b hb => ?_⟩
      by_cases ha : pairOf t k = q
      · rw [ha]
        exact hbalance b hb
      · have := hsame _ ha
        have := hle b hb
        have := hkeeps b hb
        omega

/-- R352: all rings of the pair have been given. -/
theorem shared_foldl {rs : List Nat} (h : Shared s t others done) (hrs : ∀ r ∈ rs, r < 4096 ∧ r ∉ done ∧ pairOf s r = p) (hnodup : rs.Nodup)
    (hothers : ∀ q ∈ others, q < 8 ∧ q ≠ p) (hsome : others ≠ []) :
    Shared s (rs.foldl (giveRing others) t) others (rs.reverse ++ done) := by
  induction rs generalizing t done with
  | nil => exact h
  | cons r rs ih =>
    obtain ⟨⟨hr, hdone, hpair⟩, hrs⟩ := List.forall_mem_cons.mp hrs
    obtain ⟨hnot, hnodup⟩ := List.nodup_cons.mp hnodup
    rw [List.foldl_cons, List.reverse_cons, List.append_assoc]
    refine ih (h.give hr hdone hpair hothers hsome) (fun x hx => ?_) hnodup
    obtain ⟨hlt, hxd, hxp⟩ := hrs x hx
    exact ⟨hlt, fun hmem => (List.mem_cons.mp hmem).elim (fun hxr => hnot (hxr ▸ hx)) hxd, hxp⟩

theorem xch_giveRing : (giveRing others s r).xch = s.xch := by
  unfold giveRing
  split
  · unfold State.putField
    extract_lets
    split
    · rfl
    · rfl
  · rfl

/-! Queues -/

theorem adoptQueues_owners (hothers : ∀ q ∈ others, q ≠ p) (hsome : others ≠ []) :
    ∀ x ∈ (s.adoptQueues p others).xch.queues, x.owner ≠ p := by
  refine List.foldlRecOn (motive := fun a : List Queue × List Queue => ∀ x ∈ a.1, x.owner ≠ p) s.xch.queues _
    (fun x hx => absurd hx List.not_mem_nil) (fun a ha y _ x hx => ?_)
  obtain hx | hx := List.mem_append.mp hx
  · exact ha x hx
  · obtain rfl := List.mem_singleton.mp hx
    split
    · obtain ⟨q, hq⟩ := fewest_isSome (fun n => ((a.1 ++ a.2.drop 1).filter (fun r => r.owner == n)).length) hsome
      show (fewest _ others).getD p ≠ p
      rw [hq]
      exact hothers q (fewest_spec _ hq).1
    · next hne => exact fun he => hne (beq_iff_eq.mpr he)

/-! Entries -/

/-- An entry that is given to a pair. -/
def giveEntry (others : List Nat) (s : State) (x : Nat) : State :=
  (s.adoptEntry x (others.getD ((Config.freeWord s.free).toNat % others.length) 0)).draw

theorem pick_mem (n : Nat) (h : others ≠ []) : others.getD (n % others.length) 0 ∈ others := by
  rw [List.getD_eq_getElem _ _ (Nat.mod_lt _ (List.length_pos_iff.mpr h))]
  exact List.getElem_mem _

theorem owner_modEntry (x y o : Nat) :
    ((s.modEntry x (fun e => { e with owner := o })).entry y).owner = if y = x then o else (s.entry y).owner := by
  rw [State.modEntry]
  split
  · next h => rw [h, State.entry_setEntry]
  · next h => rw [State.entry_setEntry_ne s _ h]

theorem owner_giveEntry (x y : Nat) : ((giveEntry others s x).entry y).owner =
    if y = x then others.getD ((Config.freeWord s.free).toNat % others.length) 0 else (s.entry y).owner :=
  ((undecided_owner y).adoptEntry (unreported_owner y) x _).trans (owner_modEntry x y _)

/-- R352: each entry given is one of the others' then. -/
theorem owner_given {xs : List Nat} {y : Nat} (hsome : others ≠ []) (h : (s.entry y).owner ∈ others ∨ y ∈ xs) :
    ((xs.foldl (giveEntry others) s).entry y).owner ∈ others := by
  induction xs generalizing s with
  | nil => exact h.resolve_right List.not_mem_nil
  | cons x xs ih =>
    refine ih ?_
    rw [owner_giveEntry]
    split
    · exact .inl (pick_mem _ hsome)
    · next hne => exact h.imp_right (fun hy => (List.mem_cons.mp hy).resolve_left hne)

/-! The whole adoption -/

/-- The pairs that take over the work of pair `p`. -/
def othersOf (s : State) (p : Nat) : List Nat := (List.range 8).filter (fun q => q != p && s.seqRuns q)

/-- SEQ_ADOPT of a pair that has taken over work (R366). -/
def showAdopted (p : Nat) (mine : List Nat) (s : State) (q : Nat) : State :=
  let n := (mine.filter (fun x => (s.entry x).owner == q)).length
  ((((s.fset F.SEQ_ADOPT_ENTRIES q 0 n).fset F.SEQ_ADOPT_FROM q 0 p).fset F.SEQ_ADOPT_TIME q 0
    ((Config.freeWord s.free).toNat % 2 ^ 16)).draw).showSeq q 3

/-- The rings, the queues and the entries in turn. -/
def ringsGiven (s : State) (p : Nat) : State := (s.servedBy p).foldl (giveRing (othersOf s p)) s

def workOf (s : State) (p : Nat) : List Nat := s.liveEntries.filter (fun x => (s.entry x).owner == p)

def entriesGiven (s : State) (p : Nat) : State :=
  (workOf (ringsGiven s p) p).foldl (giveEntry (othersOf s p)) ((ringsGiven s p).adoptQueues p (othersOf s p))

theorem adopt_eq (hruns : s.seqRuns p = false) (hsome : othersOf s p ≠ []) :
    s.adopt p = (othersOf s p).foldl (showAdopted p (workOf (ringsGiven s p) p)) (entriesGiven s p) := by
  have hguard : ((othersOf s p).isEmpty || s.seqRuns p) = false := by
    rw [hruns, Bool.or_false, List.isEmpty_eq_false_iff]
    exact hsome
  exact if_neg (by rw [show (List.range 8).filter (fun q => q != p && s.seqRuns q) = othersOf s p from rfl, hguard]; decide)

theorem mem_othersOf : q ∈ othersOf s p ↔ q < 8 ∧ q ≠ p ∧ s.seqRuns q = true := by
  simp [othersOf]

/-- A reading that turns neither on what the giving of entries touches nor on SEQ_ADOPT is that of the rings and queues given. -/
theorem adopt_reads {β : Type} {g : State → β} (hg : Undecided g) (hr : Unreported g)
    (howner : ∀ s x o, g (s.modEntry x (fun e => { e with owner := o })) = g s)
    (hshown : ∀ mine s q, g (showAdopted p mine s q) = g s) (hruns : s.seqRuns p = false) (hsome : othersOf s p ≠ []) :
    g (s.adopt p) = g ((ringsGiven s p).adoptQueues p (othersOf s p)) := by
  rw [adopt_eq hruns hsome]
  refine (foldl_same g (fun s q => hshown _ s q) _ _).trans (foldl_same g (fun s x => ?_) _ _)
  exact (hg.draw _).trans ((hg.adoptEntry hr x _).trans (howner s x _))

theorem undecided_ringRegs : Undecided ringRegs where
  trs _ _ := rfl
  engine _ e v := ringRegs_setActing v (by simp [ringKey, inRange, regKey, regPlace]; omega)
  reserved _ _ := rfl
  issued _ _ := rfl
  work _ _ _ := rfl
  entry _ _ _ _ := rfl
  outbox _ _ := rfl
  draw _ := rfl

theorem unreported_ringRegs : Unreported ringRegs where
  flt _ _ := rfl
  cue _ _ := rfl
  shb _ _ := rfl
  outbox _ _ := rfl
  bmp _ _ := rfl
  cores _ _ := rfl
  pwr _ _ _ := rfl
  counts s r k v hr hk := by
    refine ringRegs_setActing v ?_
    simp only [List.mem_cons, List.not_mem_nil, or_false] at hr
    obtain rfl | rfl | rfl := hr <;> simp [ringKey, inRange, regKey, regPlace] <;> omega

theorem ringRegs_showAdopted (p : Nat) (mine : List Nat) (s : State) (q : Nat) : ringRegs (showAdopted p mine s q) = ringRegs s := by
  have hout : ringKey (regKey .SEQ_ADOPT q 0) = false := by
    simp [ringKey, inRange, regKey, regPlace]
    omega
  have hfield (s : State) (lo width v : Nat) : ringRegs (s.fset ⟨.SEQ_ADOPT, lo, width⟩ q 0 v) = ringRegs s := ringRegs_setActing _ hout
  have hshow (s : State) : ringRegs (s.draw.showSeq q 3) = ringRegs s := rfl
  unfold showAdopted
  extract_lets n
  exact (hshow _).trans ((hfield _ _ _ _).trans ((hfield _ _ _ _).trans (hfield s _ _ _)))

theorem ringsGiven_xch : (ringsGiven s p).xch = s.xch := foldl_same State.xch (fun _ _ => xch_giveRing) _ _

/-- R352: the entries of the pair are others'. -/
theorem adopt_owner (hruns : s.seqRuns p = false) (hsome : othersOf s p ≠ []) {y : Nat} (hy : y ∈ s.liveEntries)
    (howner : (s.entry y).owner = p) : ((s.adopt p).entry y).owner ∈ othersOf s p := by
  have hwork : y ∈ workOf (ringsGiven s p) p := by
    have hsame : workOf (ringsGiven s p) p = workOf s p := by
      unfold workOf State.liveEntries State.entry
      rw [ringsGiven_xch]
    rw [hsame]
    exact List.mem_filter.mpr ⟨hy, beq_iff_eq.mpr howner⟩
  have hshown : ((s.adopt p).entry y).owner = ((entriesGiven s p).entry y).owner := by
    rw [adopt_eq hruns hsome]
    exact foldl_same (f := showAdopted p _) (fun s : State => (s.entry y).owner) (fun _ _ => rfl) _ _
  rw [hshown]
  exact owner_given hsome (.inr hwork)

/-- R352: its queues are others'. -/
theorem adopt_queues (hruns : s.seqRuns p = false) (hsome : othersOf s p ≠ []) : ∀ x ∈ (s.adopt p).xch.queues, x.owner ≠ p := by
  rw [adopt_reads undecided_queues (unreported_comp unreported_xch Xch.queues) (fun _ _ _ => rfl) (fun _ _ _ => rfl) hruns hsome]
  exact adoptQueues_owners (fun q hq => (mem_othersOf.mp hq).2.1) hsome

/-- R352: its rings are others', and evenly so. -/
theorem adopt_shared (hruns : s.seqRuns p = false) (hsome : othersOf s p ≠ []) : Shared s (s.adopt p) (othersOf s p) (s.servedBy p) := by
  have hregs : ringRegs (s.adopt p) = ringRegs (ringsGiven s p) :=
    adopt_reads undecided_ringRegs unreported_ringRegs (fun _ _ _ => rfl) (fun _ _ _ => ringRegs_showAdopted _ _ _ _) hruns hsome
  obtain ⟨hbase, hkept, hgiven⟩ := shared_foldl (p := p) (rs := s.servedBy p) (done := []) (s := s) (t := s) (others := othersOf s p)
    ⟨fun _ _ => rfl, fun _ _ _ => rfl, fun _ _ h => absurd h List.not_mem_nil⟩
    (fun r hr => ⟨(mem_servedBy.mp hr).1, List.not_mem_nil, (mem_servedBy.mp hr).2.2⟩) nodup_servedBy
    (fun q hq => ⟨(mem_othersOf.mp hq).1, (mem_othersOf.mp hq).2.1⟩) hsome
  have hmem (r : Nat) : r ∈ (s.servedBy p).reverse ++ [] ↔ r ∈ s.servedBy p := by rw [List.append_nil, List.mem_reverse]
  refine ⟨fun r hr => (baseOf_congr hregs hr).trans (hbase r hr),
    fun r hr hnot => (pairOf_congr hregs hr).trans (hkept r hr (mt (hmem r).mp hnot)), fun r hr hserved => ?_⟩
  obtain ⟨hin, hle⟩ := hgiven r hr ((hmem r).mpr hserved)
  rw [pairOf_congr hregs hr, ringCount_congr hregs]
  exact ⟨hin, fun b hb => by rw [ringCount_congr hregs]; exact hle b hb⟩

end Sys2Proof.ExchangeProofs
end

section
/-! R343, R347, R355: paths that fail, attempts and fences that end, table copies. -/

namespace Sys2Proof.ExchangeProofs

open Sys2Proof Sys2Proof.Machine Sys2Proof.LineProofs Sys2Proof.PartnerProofs

variable {s u w : State} {t k x number copy : Nat} {cause : PathCause}

/-! Commands of the pairs (R251, R324) -/

/-- The checkpoints turn on what a command does of the state that it finds. -/
theorem byPairs_eq {f : State → State} (h : f s = u) : s.byPairs f = s.byPairs (fun _ => u) := by
  rw [← h]
  rfl

/-- A command of any pairs does what its row says. -/
theorem run_byPairs (hdown : s.down = false) {f : State → State} (h : f s = u) :
    s.run (fun s => s.byPairs f) = .next (s.byPairs (fun _ => u)) := by
  rw [run_eq hdown, byPairs_eq h]

/-- The checkpoints of the pairs aside, a command leaves what it does. -/
theorem byPairs_reads {β : Type} {g : State → β} (hg : ∀ s p c, g (s.setSeqPair p c) = g s) (f : State → State) :
    g (s.byPairs f) = g (f s) := by
  refine foldl_same g (fun t p => ?_) _ _
  split
  · rfl
  · exact hg t p _

/-! Path failures (R343) -/

theorem unreported_attempts : Unreported (fun s => s.xch.attempts) := unreported_comp unreported_xch Xch.attempts

/-- R343: once a path is marked failed, so are its attempts, and none runs on it. -/
theorem pathGone_failed (h : (s.failDesc t k).state = 1 ∨ (s.failDesc t k).state = 3) :
    ∀ a ∈ (s.pathGone t k cause).xch.attempts, a.target = t → a.path = k → a.failed = true := by
  unfold State.pathGone
  extract_lets p _ s1 hit redrive s2 s3 _ s4 s5 n blk
  have h3 : ∀ a ∈ s3.xch.attempts, a.target = t → a.path = k → a.failed = true := by
    intro a ha htarget hpath
    obtain ⟨b, -, rfl⟩ := List.mem_map.mp ha
    split at htarget
    · next hon => rw [if_pos hon]
    · next hoff =>
      rw [if_neg hoff] at hpath
      exact absurd (by rw [htarget, hpath, beq_self_eq_true, beq_self_eq_true]; rfl) hoff
  have h4 : ∀ a ∈ s4.xch.attempts, a ∈ s3.xch.attempts := by
    simp only [s4]
    split
    · exact fun a ha => List.mem_of_mem_filter ha
    · split
      · exact fun a ha => ha
      · exact fun a ha => ha
  have h5 : s5.xch.attempts = s4.xch.attempts := by
    show (if _ then _ else _ : State).xch.attempts = _
    split
    · exact foldl_same (fun s : State => s.xch.attempts) (fun s x => undecided_attempts.afterAttempt x) _ _
    · rfl
  rw [if_neg (not_and_or.mpr (h.imp not_not_intro not_not_intro)), unreported_attempts.logFault _ (by show 2 ≤ 4; decide), h5]
  exact fun a ha => h3 a (h4 a ha)

theorem pathGone_absent (h1 : (s.failDesc t k).state ≠ 1) (h3 : (s.failDesc t k).state ≠ 3) : s.pathGone t k cause = s := by
  rw [State.pathGone]
  exact if_pos ⟨h1, h3⟩

theorem pathFail_here (h : s.pathsReady 0 t = (w, true)) : s.pathFail t k cause = w.pathGone t k cause := by
  rw [State.pathFail, h]

theorem pathFail_awaited (h : s.pathsReady 0 t = (w, false)) :
    s.pathFail t k cause = { w with xch := { w.xch with lostPaths := w.xch.lostPaths ++ [(t, k, cause)] } } := by
  rw [State.pathFail, h]

theorem commandTimeout_eq {a : Attempt} (h : s.current x = some a) (hruns : a.failed = false) :
    s.commandTimeout x = s.pathFail a.target a.path .timeout := by
  rw [State.commandTimeout, h]
  exact if_neg (by rw [hruns]; decide)

/-! Attempts and fences (R347) -/

theorem attemptEnd_eq {a : Attempt} (h : s.xch.attempts.find? (fun a => a.exch == x && a.number == number) = some a)
    (hfailed : a.failed = true) : s.attemptEnd x number = (s.dropAttempt x number).afterAttempt x := by
  rw [State.attemptEnd, h]
  exact if_pos (by rw [hfailed]; rfl)

theorem not_mem_dropAttempt : ∀ b ∈ (s.dropAttempt x number).xch.attempts, ¬ (b.exch = x ∧ b.number = number) := by
  rintro b hb ⟨rfl, rfl⟩
  have hkept := (List.mem_filter.mp hb).2
  rw [beq_self_eq_true, beq_self_eq_true] at hkept
  exact absurd hkept (by decide)

/-- R347: the fence is gone, and so are the failed attempts behind it. -/
theorem fenceExpiry_ends (h : s.xch.fences.contains (t, k) = true) :
    (s.fenceExpiry t k).xch.fences.contains (t, k) = false ∧
      ∀ a ∈ (s.fenceExpiry t k).xch.attempts, a.target = t → a.path = k → a.failed = false := by
  rw [State.fenceExpiry, if_pos h]
  extract_lets gone _ s1
  have hfences : (gone.foldl (fun s a => s.afterAttempt a.exch) s1).xch.fences = s1.xch.fences :=
    foldl_same (fun s : State => s.xch.fences) (fun _ a => undecided_fences.afterAttempt (Attempt.exch a)) _ _
  have hattempts : (gone.foldl (fun s a => s.afterAttempt a.exch) s1).xch.attempts = s1.xch.attempts :=
    foldl_same (fun s : State => s.xch.attempts) (fun _ a => undecided_attempts.afterAttempt (Attempt.exch a)) _ _
  rw [hfences, hattempts]
  refine ⟨?_, fun a ha htarget hpath => ?_⟩
  · rw [← Bool.not_eq_true, List.contains_iff_mem]
    exact fun hmem => absurd (List.mem_filter.mp hmem).2 (by simp)
  · have hkept := (List.mem_filter.mp ha).2
    rw [htarget, hpath, beq_self_eq_true, beq_self_eq_true] at hkept
    simpa using hkept

/-! Table copies (R355) -/

/-- R355: a first copy fails as a whole, and its domain is woken for the rebuild. -/
theorem copyFail_first (hcopy : copy < 2) (hok : s.fbit (copyField copy) 0 0 = true) (hsingle : s.fbit F.XCH_STATUS_SINGLE 0 0 = false) :
    let t := ((s.fset (copyField copy) 0 0 0).fset F.XCH_STATUS_SINGLE 0 0 1).setDom (126 + copy) domOff
    s.copyFail copy = (t.logFault (t.fault 0x30 0 0x502 2 0 0)).wake (126 + copy) 0 := by
  rw [State.copyFail, hsingle, if_neg (by rw [hok]; simp [hcopy]), if_neg (by decide)]

theorem rebuildDone_ok (h : s.fbit F.XCH_STATUS_REBUILDING 0 0 = true) : s.rebuildDone true =
    (((s.fset F.XCH_STATUS_REBUILDING 0 0 0).fset F.XCH_STATUS_COPY_A_OK 0 0 1).fset F.XCH_STATUS_COPY_B_OK 0 0 1).fset
      F.XCH_STATUS_SINGLE 0 0 0 := by
  rw [State.rebuildDone, h]
  rfl

end Sys2Proof.ExchangeProofs
end

section
/-! R367 to R369, R430: the links of the Ethernet and PCIe/CXL groups, and a group that stops. -/

namespace Sys2Proof.ExchangeProofs

open Sys2Proof Sys2Proof.Machine Sys2Proof.LineProofs Sys2Proof.PartnerProofs Sys2Proof.EngineProofs

variable {s v : State} {g p : Nat} {flit : Bool}

/-- A link changes as far as its group and its PERST let it. -/
theorem linkChange_sets {up : Bool} (hp : p < if up then s.portsOf g else if g < 4 then 8 else 4) (hpower : s.powered (0x60 + g) 0 = true)
    (hperst : up = true → s.perstLow g p = false)
    (htrained : (!up && inRange 4 4 g && !s.fbit ⟨.PCIE_STATUS, p, 1⟩ (g % 4) 0) = false) :
    s.linkChange g p up flit = s.linkSet g p up flit := by
  rw [State.linkChange, if_neg (not_not_intro ⟨hp, hpower, hperst⟩), htrained]
  rfl

/-- R368, R514: no link comes up while PERST is asserted. -/
theorem linkChange_held (h : s.perstLow g p = true) : s.linkChange g p true flit = s := by
  refine if_pos fun hup => ?_
  rw [hup.2.2 rfl] at h
  exact absurd h (by decide)

/-- The group's PCIe ports are those of groups 4 to 7. -/
theorem perstLow_pcie (hg : g < 4) : s.perstLow (g + 4) p = s.fbit ⟨.PCIE_PERST, p, 1⟩ g 0 := by
  have hrange : inRange 4 4 (g + 4) = true := by
    rw [inRange, Bool.and_eq_true, decide_eq_true_eq, decide_eq_true_eq]
    omega
  rw [State.perstLow, hrange, Bool.true_and, show (g + 4) % 4 = g by omega]

theorem perstLow_eth (hg : g < 4) : s.perstLow g p = false := by
  rw [State.perstLow, inRange, decide_eq_false (by omega), Bool.false_and, Bool.false_and]

/-! PCIe/CXL -/

/-- R369: a port's source where its event is enabled. -/
def pcieRaised (t : State) (g p : Nat) : State :=
  if t.fbit ⟨.PCIE_EVT, p, 1⟩ g 0 then t.raiseBlock (0xA00 + 60 + 64 * g + p) else t

def ethRaised (t : State) (g p : Nat) : State :=
  if t.fbit ⟨.ETH_EVT, p, 1⟩ g 0 then t.raiseBlock (0xB00 + 64 * g + p) else t

theorem pcieUp (hg : g < 4) (hpower : s.powered (0x64 + g) 0 = true) (hp : p < s.portsOf (g + 4))
    (hperst : s.fbit ⟨.PCIE_PERST, p, 1⟩ g 0 = false) (hdown : s.fbit ⟨.PCIE_STATUS, p, 1⟩ g 0 = false) :
    s.linkChange (g + 4) p true flit = pcieRaised ((s.fset ⟨.PCIE_STATUS, p, 1⟩ g 0 1).fset ⟨.PCIE_STATUS, p + 4, 1⟩ g 0
      (b2n (flit && s.fget F.PCIE_CFG_MAX_GEN g 0 == 6))) g p := by
  have hpower : s.powered (0x60 + (g + 4)) 0 = true := by rw [show 0x60 + (g + 4) = 0x64 + g by omega, hpower]
  rw [linkChange_sets (by rw [if_pos rfl]; exact hp) hpower (fun _ => (perstLow_pcie hg).trans hperst) rfl, State.linkSet,
    show (g + 4) % 4 = g by omega, decide_eq_false (show ¬ g + 4 < 4 by omega)]
  exact if_neg (fun hset => absurd (hdown.symm.trans hset) (by decide))

theorem pcieDown (hg : g < 4) (hpower : s.powered (0x64 + g) 0 = true) (hp : p < 4) (hup : s.fbit ⟨.PCIE_STATUS, p, 1⟩ g 0 = true) :
    s.linkChange (g + 4) p false flit =
      let u := pcieRaised ((s.fset ⟨.PCIE_STATUS, p, 1⟩ g 0 0).fset ⟨.PCIE_STATUS, p + 4, 1⟩ g 0 0) g p
      (u.logFault (u.fault (0x64 + g) p 0x520 1 0 0)).linkLost 1 g p := by
  have hpower : s.powered (0x60 + (g + 4)) 0 = true := by rw [show 0x60 + (g + 4) = 0x64 + g by omega, hpower]
  have hmod : (g + 4) % 4 = g := by omega
  rw [linkChange_sets (by rw [if_neg (by decide), if_neg (by omega)]; exact hp) hpower (fun h => absurd h (by decide))
      (by rw [hmod, hup, Bool.not_true, Bool.and_false]), State.linkSet, hmod, decide_eq_false (show ¬ g + 4 < 4 by omega)]
  exact if_neg (fun hset => absurd (hup.symm.trans hset) (by decide))

/-! Ethernet -/

theorem ethUp (hg : g < 4) (hpower : s.powered (0x60 + g) 0 = true) (hp : p < s.portsOf g) (hdown : s.fbit ⟨.ETH_STATUS, p, 1⟩ g 0 = false) :
    s.linkChange g p true flit = ethRaised (s.fset ⟨.ETH_STATUS, p, 1⟩ g 0 1) g p := by
  rw [linkChange_sets (by rw [if_pos rfl]; exact hp) hpower (fun _ => perstLow_eth hg) rfl, State.linkSet, Nat.mod_eq_of_lt hg,
    decide_eq_true hg]
  exact if_neg (fun hset => absurd (hdown.symm.trans hset) (by decide))

theorem ethDown (hg : g < 4) (hpower : s.powered (0x60 + g) 0 = true) (hp : p < 8) (hup : s.fbit ⟨.ETH_STATUS, p, 1⟩ g 0 = true) :
    s.linkChange g p false flit =
      let u := ethRaised (s.fset ⟨.ETH_STATUS, p, 1⟩ g 0 0) g p
      (u.logFault (u.fault (0x60 + g) p 0x520 1 0 0)).linkLost 2 g p := by
  rw [linkChange_sets (by rw [if_neg (by decide), if_pos hg]; exact hp) hpower (fun h => absurd h (by decide))
      (by rw [inRange, decide_eq_false (show ¬ 4 ≤ g by omega)]; rfl), State.linkSet, Nat.mod_eq_of_lt hg, decide_eq_true hg]
  exact if_neg (fun hset => absurd (hup.symm.trans hset) (by decide))

/-! Groups (R430) -/

theorem groupFatal_eq (hg : g < 8) (hstopped : s.flt.stopped.contains (0x60 + g) = false) (hpower : s.powered (0x60 + g) 0 = true) :
    s.groupFatal g =
      let t : State := { s with flt := { s.flt with stopped := (0x60 + g) :: s.flt.stopped } }
      (t.groupDown g).logFault (t.fault (0x60 + g) 0 0x521 3 0 0) := by
  rw [State.groupFatal]
  exact if_neg (by rw [hstopped, hpower]; simp; omega)

/-- Traffic that is not an Ethernet group's has no code words (R367). -/
theorem fecFound_pcie (fixed bad : Nat) : s.fecFound (g + 4) fixed bad = s := if_neg (by omega)

/-- A link command of a group (R369). -/
theorem linkChange_run {group fixed bad : Nat} {chks : List (Nat × CopyCheck)} {up : Bool} {u : State} (hdown : s.down = false)
    (hgroup : group < 8) (h : ((s.fecFound group fixed bad).copyChecks s.isLive chks).linkChange group p up flit = u) :
    exec (.linkChange group ⟨p, chks, fixed, bad⟩ up flit) s = .next (s.byPairs (fun _ => u)) :=
  (run_upTo hdown hgroup _).trans (congrArg Host.Outcome.next (byPairs_eq h))

theorem pcieChange_run {fixed bad : Nat} {chks : List (Nat × CopyCheck)} {up : Bool} {u : State} (hdown : s.down = false)
    (hg : g < 4) (h : (s.copyChecks s.isLive chks).linkChange (g + 4) p up flit = u) :
    exec (.linkChange (g + 4) ⟨p, chks, fixed, bad⟩ up flit) s = .next (s.byPairs (fun _ => u)) :=
  linkChange_run hdown (by omega) (by rw [fecFound_pcie]; exact h)

end Sys2Proof.ExchangeProofs
end

section
/-! R343, R347, R352, R355, R367 to R369: what fails beneath the exchanges. -/

namespace Sys2Proof.ExchangeProofs

open Sys2Proof Sys2Proof.Machine Sys2Proof.PartnerProofs Sys2Proof.EngineProofs

variable {s : State}

theorem lt_of_seqRuns {p : Nat} (h : s.seqRuns p = true) : p < 8 := by
  by_contra hle
  rw [State.seqRuns, decide_eq_false hle, Bool.false_and, Bool.false_and, Bool.false_and, Bool.false_and] at h
  cases h

/-- R352: the adoption as a command. -/
theorem sequencerAdoption_eq (hdown : s.down = false) {p : Nat} (hp : p < 8) (chks : List (Nat × CopyCheck)) :
    let v := s.copyChecks (fun x => s.isLive x && (s.entry x).owner == p) chks
    v.seqRuns p = false → (∃ q, q < 8 ∧ q ≠ p ∧ v.seqRuns q = true) →
    ∃ u, exec (.sequencerAdoption ⟨p, chks⟩) s = .next u ∧
      (∀ x ∈ v.liveEntries, (v.entry x).owner = p → (u.entry x).owner ≠ p ∧ v.seqRuns (u.entry x).owner = true) ∧
      (∀ r, r < 4096 →
        let a := u.fget F.XCH_RQ_CTL_PAIR 0 r
        (v.fget F.XCH_RQ_BASE_BASE 0 r ≠ 0 → v.fget F.XCH_RQ_CTL_PAIR 0 r = p →
          a ≠ p ∧ v.seqRuns a = true ∧ ∀ b, b ≠ p → v.seqRuns b = true → u.ringCount a ≤ u.ringCount b + 1) ∧
        (v.fget F.XCH_RQ_BASE_BASE 0 r = 0 ∨ v.fget F.XCH_RQ_CTL_PAIR 0 r ≠ p → a = v.fget F.XCH_RQ_CTL_PAIR 0 r)) ∧
      ∀ q ∈ u.xch.queues, q.owner ≠ p := by
  intro v hruns ⟨q, hq, hqp, hqruns⟩
  have hsome : othersOf v p ≠ [] := List.ne_nil_of_mem (mem_othersOf.mpr ⟨hq, hqp, hqruns⟩)
  have hshared := adopt_shared hruns hsome
  have hcount (n : Nat) : (s.byPairs (fun _ => v.adopt p)).ringCount n = (v.adopt p).ringCount n :=
    byPairs_reads (g := fun s => s.ringCount n) (fun _ _ _ => rfl) _
  refine ⟨s.byPairs (fun _ => v.adopt p), (run_upTo hdown hp _).trans (congrArg Host.Outcome.next (byPairs_eq rfl)),
    fun x hx howner => ?_, fun r hr => ?_, ?_⟩
  · have hgiven := mem_othersOf.mp (adopt_owner hruns hsome hx howner)
    rw [byPairs_reads (g := fun s => (s.entry x).owner) (fun _ _ _ => rfl)]
    exact hgiven.2
  · intro a
    have ha : a = pairOf (v.adopt p) r := byPairs_reads (g := fun s => pairOf s r) (fun _ _ _ => rfl) _
    rw [ha]
    refine ⟨fun hbase hpair => ?_, fun hstays => hshared.kept r hr (fun hserved => ?_)⟩
    · obtain ⟨hin, hle⟩ := hshared.given r hr (mem_servedBy.mpr ⟨hr, hbase, hpair⟩)
      obtain ⟨-, hap, haruns⟩ := mem_othersOf.mp hin
      refine ⟨hap, haruns, fun b hb hbruns => ?_⟩
      rw [hcount, hcount]
      exact hle b (mem_othersOf.mpr ⟨lt_of_seqRuns hbruns, hb, hbruns⟩)
    · obtain ⟨-, hbase, hpair⟩ := mem_servedBy.mp hserved
      exact hstays.elim hbase (fun hne => hne hpair)
  · rw [byPairs_reads (g := fun s => s.xch.queues) (fun _ _ _ => rfl)]
    exact adopt_queues hruns hsome

theorem pathFailed_run (hdown : s.down = false) {t k : Nat} {cause : PathCause} {chks : List (Nat × CopyCheck)} {u : State}
    (h : (s.copyChecks (s.onPath t k) chks).pathFail t k cause = u) :
    exec (.pathFailed t k ⟨cause, chks⟩) s = .next (s.byPairs (fun _ => u)) := run_byPairs hdown h

/-- Settles O47: each of the failures by its own rule, above. -/
theorem pathsAndFailover : Obligations.PathsAndFailover := by
  intro s hdown
  refine ⟨fun t k cause chks => ⟨fun w hready => ⟨fun hactive => ?_, fun h1 h3 => ?_⟩, fun w hawaited => ?_⟩,
    fun x chk a hcurrent hruns => ?_, fun x number chk a hfound hfailed => ⟨?_, ?_⟩, fun t k chks hfence => ?_,
    fun p chks hp => sequencerAdoption_eq hdown hp chks, fun copy hcopy hok hsingle => ?_, fun hrebuild => ?_, fun g p fixed bad flit chks hg => ?_,
    fun g p fixed bad flit chks hg => ?_, fun g chks hg => ?_⟩
  · refine ⟨_, pathFailed_run hdown (pathFail_here hready), ?_⟩
    rw [byPairs_reads (g := fun s => s.xch.attempts) (fun _ _ _ => rfl)]
    exact pathGone_failed hactive
  · exact pathFailed_run hdown ((pathFail_here hready).trans (pathGone_absent h1 h3))
  · exact pathFailed_run hdown (pathFail_awaited hawaited)
  · exact run_byPairs hdown (commandTimeout_eq hcurrent hruns)
  · exact run_byPairs hdown (attemptEnd_eq hfound hfailed)
  · exact not_mem_dropAttempt
  · obtain ⟨hgone, hleft⟩ := fenceExpiry_ends hfence
    refine ⟨_, run_byPairs hdown rfl, ?_, ?_⟩
    · rw [byPairs_reads (g := fun s => s.xch.fences) (fun _ _ _ => rfl)]
      exact hgone
    · rw [byPairs_reads (g := fun s => s.xch.attempts) (fun _ _ _ => rfl)]
      exact hleft
  · exact (run_upTo hdown hcopy _).trans (congrArg Host.Outcome.next (copyFail_first hcopy hok hsingle))
  · exact (run_eq hdown (fun s => s.rebuildDone true)).trans (congrArg Host.Outcome.next (rebuildDone_ok hrebuild))
  · intro v link hpower
    refine ⟨fun hp hperst hlink => ?_, fun hperst => ?_, fun hp hlink => ?_⟩
    · exact pcieChange_run hdown hg (pcieUp hg hpower hp hperst hlink)
    · exact pcieChange_run hdown hg (linkChange_held ((perstLow_pcie hg).trans hperst))
    · exact pcieChange_run hdown hg (pcieDown hg hpower hp hlink)
  · intro v link hpower
    refine ⟨fun hp hlink => ?_, fun hp hlink => ?_⟩
    · exact linkChange_run hdown (by omega) (ethUp hg hpower hp hlink)
    · exact linkChange_run hdown (by omega) (ethDown hg hpower hp hlink)
  · intro v hstopped hpower
    exact (run_upTo hdown hg _).trans (congrArg Host.Outcome.next (groupFatal_eq hg hstopped hpower))

end Sys2Proof.ExchangeProofs
end

section
/-! R327, R340: a pair takes the request at the head of a ring. -/

namespace Sys2Proof.ExchangeProofs

open Sys2Proof Sys2Proof.Machine Sys2Proof.Slice0 Sys2Proof.LineProofs Sys2Proof.PartnerProofs Sys2Proof.EngineProofs

variable {s u : State} {p ring n a cq stage op : Nat} {offered : List Nat} {c : Sched} {b : List Byte} {w : Exch} {t : Take}

theorem nextRing_mem {last : Option Nat} {rs : List Nat} (h : nextRing last rs = some ring) : ring ∈ rs := by
  unfold nextRing at h
  split at h
  · exact List.mem_of_head? h
  · split at h
    · next hfound =>
      cases h
      exact List.mem_of_find?_eq_some hfound
    · exact List.mem_of_head? h

/-- A ring that a pair finds next is one of those that there are. -/
theorem ring_lt (h : ServesNext s p ring offered u n c t) : ring < 4096 := by
  obtain ⟨-, -, -, -, -, hring, -⟩ := h
  exact lt_of_listed (List.mem_of_mem_filter (List.mem_of_mem_filter (nextRing_mem hring)))

/-! The taking of the request -/

/-- The head of a ring as its register has it. -/
theorem unreported_rqHead (ring : Nat) : Unreported (fun s => s.rqHead ring) := by
  refine unreported_comp (g := fun s => s.acting .XCH_RQ_HEAD 0 ring) ?_ (fun x => fld x 0 16)
  refine ⟨fun _ _ => rfl, fun _ _ => rfl, fun _ _ => rfl, fun _ _ => rfl, fun _ _ => rfl, fun _ _ => rfl, fun _ _ _ => rfl,
    fun s r k v hr hk => State.acting_setActing_ne s v ?_⟩
  simp only [List.mem_cons, List.not_mem_nil, or_false] at hr
  obtain rfl | rfl | rfl := hr <;> simp [regKey, regPlace] <;> omega

theorem instGen_rqHead (v m : Nat) (hring : ring < 4096) : (s.fset F.XCH_RQ_HEAD_HEAD 0 ring v).instGen m = s.instGen m := by
  refine State.fget_fset_ne s v ?_
  show regKey .INST_CTL 0 m ≠ regKey .XCH_RQ_HEAD 0 ring
  simp [regKey, regPlace]
  omega

/-- R327, R340: the entry that an accepted request makes. -/
def postedEntry (u : State) (p ring a cq : Nat) (b : List Byte) : Entry :=
  { Entry.idle with
    attempt := (u.entry (rqExch b)).attempt, state := stPosted, owner := p, gen := u.instGen (u.rqInst ring)
    inst := u.rqInst ring, req := a, cq := cq }

/-- R333, R377: the ring's head moves on, a slot is reserved, and the instance is charged. -/
def headTaken (u : State) (ring cq len : Nat) : State :=
  ((u.reserve cq).fset F.XCH_RQ_HEAD_HEAD 0 ring (u.rqHead ring + 1)).chargeRequest (u.rqInst ring) len

/-- What the entry's exchange starts with. -/
def postedState (u : State) (p ring a cq stage : Nat) (offered : List Nat) (b : List Byte) (w : Exch) : State :=
  let s1 := headTaken u ring cq w.len
  let e := { Entry.idle with
    attempt := (s1.entry (rqExch b)).attempt, state := stPosted, owner := p, gen := s1.instGen (u.rqInst ring)
    inst := u.rqInst ring, req := a, cq := cq }
  (s1.setEntry (rqExch b) e).setExch (rqExch b) { w with stage := s1.stageFree offered stage }

/-- What reports do not touch stands so once the request is taken. -/
theorem takeRequest_reads {β : Type} {g : State → β} (hg : Unreported g) :
    g (u.takeRequest p ring offered (.accept a b cq w stage)) = g (postedState u p ring a cq stage offered b w) := by
  rw [State.takeRequest]
  dsimp only
  split
  · exact hg.logFault _ (by show 2 ≤ 4; decide)
  · rfl

theorem postedState_entry (hring : ring < 4096) :
    (postedState u p ring a cq stage offered b w).entry (rqExch b) = postedEntry u p ring a cq b := by
  have hgen : (headTaken u ring cq w.len).instGen (u.rqInst ring) = u.instGen (u.rqInst ring) :=
    instGen_rqHead (s := u.reserve cq) (u.rqHead ring + 1) _ hring
  unfold postedState
  extract_lets s1 e
  refine (State.entry_setEntry _ _ _).trans ?_
  show { Entry.idle with
    attempt := (s1.entry (rqExch b)).attempt, state := stPosted, owner := p, gen := s1.instGen (u.rqInst ring)
    inst := u.rqInst ring, req := a, cq := cq } = postedEntry u p ring a cq b
  rw [hgen]
  rfl

theorem takeRequest_entry (hring : ring < 4096) :
    (u.takeRequest p ring offered (.accept a b cq w stage)).entry (rqExch b) = postedEntry u p ring a cq b :=
  (takeRequest_reads (unreported_comp unreported_xch (fun x => mapGet Entry.idle x.entries (rqExch b)))).trans (postedState_entry hring)

theorem headTaken_head (len : Nat) : (headTaken u ring cq len).rqHead ring = (u.rqHead ring + 1) % 65536 :=
  State.fget_fset (u.reserve cq) F.XCH_RQ_HEAD_HEAD 0 ring _ (by decide)

theorem postedState_head : (postedState u p ring a cq stage offered b w).rqHead ring = (headTaken u ring cq w.len).rqHead ring := by
  have hregs (s : State) (x : Nat) (e : Entry) (w : Exch) : ((s.setEntry x e).setExch x w).rqHead ring = s.rqHead ring := rfl
  exact hregs _ _ _ _

theorem takeRequest_head : (u.takeRequest p ring offered (.accept a b cq w stage)).rqHead ring = (u.rqHead ring + 1) % 65536 :=
  (takeRequest_reads (unreported_rqHead ring)).trans (postedState_head.trans (headTaken_head w.len))

/-- The head of the ring has moved on. -/
theorem takeRequest_moved : (u.takeRequest p ring offered (.accept a b cq w stage)).rqHead ring ≠ u.rqHead ring := by
  have hlt : u.rqHead ring < 2 ^ 16 := Nat.mod_lt _ (by decide)
  rw [takeRequest_head]
  omega

/-! What the scheduler notes of it (R380, R387) -/

theorem seqSchedOn_reads {β : Type} {g : State → β} (hsched : ∀ s p c, g (s.setSeqSched p c) = g s)
    (hweight : ∀ s n v, g (s.setActing .INST_CTL 0 n v) = g s) (p : Nat) (c : Sched) (ns : List Nat) :
    g (s.seqSchedOn p c ns) = g s := by
  refine (foldl_same g (fun s n => ?_) _ _).trans (hsched s p c)
  split
  · rfl
  · rw [State.takeStaged]
    split
    · rfl
    · exact hweight s n _

/-- R327, R380: the pair takes what it finds next, where it is of the command's operation. -/
theorem serve_accepts (h : ServesNext s p ring offered u n c (.accept a b cq w stage)) (hrow : rowOp (some b) = op) :
    ∃ c', s.serve p op offered .fine = (u.takeRequest p ring offered (.accept a b cq w stage)).seqSchedOn p c' [n] := by
  obtain ⟨-, -, htakes, hruns, hnext, hring, htake⟩ := h
  unfold State.serve
  extract_lets s0 s1
  rw [htakes, hruns, if_neg (by decide), hnext]
  dsimp only
  rw [hring]
  dsimp only
  rw [htake]
  dsimp only
  rw [if_neg (not_not_intro (show Take.row (.accept a b cq w stage) = op from hrow))]
  exact ⟨_, if_neg takeRequest_moved⟩

/-- The checkpoint of a pair aside, a command leaves what it does. -/
theorem byPair_reads {β : Type} {g : State → β} (hg : ∀ s p c, g (s.setSeqPair p c) = g s) (p : Nat) (f : State → State) :
    g (s.byPair p f) = g (f s) := by
  unfold State.byPair
  extract_lets s1
  split
  · rfl
  · exact hg s1 p _

/-- R327, R340: an accepted request as the command of its operation leaves it. -/
theorem serve_posts (h : ServesNext s p ring offered u n c (.accept a b cq w stage)) (hrow : rowOp (some b) = op) :
    ∃ t, s.run (fun s => upTo p 8 (fun s => s.byPair p (fun s => s.serve p op offered .fine)) s) = .next t ∧
      t.rqHead ring = (u.rqHead ring + 1) % 65536 ∧ t.entry (rqExch b) = postedEntry u p ring a cq b := by
  have hring := ring_lt h
  obtain ⟨c', hserve⟩ := serve_accepts h hrow
  obtain ⟨hdown, hp, -⟩ := h
  refine ⟨_, run_upTo hdown hp _, ?_, ?_⟩
  · rw [byPair_reads (g := fun s => s.rqHead ring) (fun _ _ _ => rfl), hserve,
      seqSchedOn_reads (g := fun s => s.rqHead ring) (fun _ _ _ => rfl) (fun s m v => ?_), takeRequest_head]
    refine congrArg (fun x => fld x 0 16) (State.acting_setActing_ne s v ?_)
    show regKey .XCH_RQ_HEAD 0 ring ≠ regKey .INST_CTL 0 m
    simp [regKey, regPlace]
    omega
  · rw [byPair_reads (g := fun s => s.entry (rqExch b)) (fun _ _ _ => rfl), hserve,
      seqSchedOn_reads (g := fun s => s.entry (rqExch b)) (fun _ _ _ => rfl) (fun _ _ _ => rfl), takeRequest_entry hring]

/-- A record of one of the operations belongs to that operation's row. -/
theorem rowOp_eq (h : rqOp b = op) (hop : op ∈ [opRead, opWrite, opFlush, opZeroes, opDsm, opMgmt]) : rowOp (some b) = op := by
  rw [rowOp, h]
  obtain rfl | hop := List.mem_cons.mp hop
  · rfl
  · exact if_pos (List.contains_iff_mem.mpr hop)

/-- Settles O45: each row serves its own operation. -/
theorem requestsAccepted : Obligations.RequestsAccepted := by
  intro s u p ring n a cq stage offered c b w h _ x hx hop
  have hops : x.2 ∈ [opRead, opWrite, opFlush, opZeroes, opDsm, opMgmt] := List.mem_map_of_mem (f := Prod.snd) hx
  obtain ⟨t, hrun, hhead, hentry⟩ := serve_posts h (rowOp_eq hop hops)
  refine ⟨t, ?_, hhead, hentry⟩
  simp only [List.mem_cons, List.not_mem_nil, or_false] at hx
  obtain rfl | rfl | rfl | rfl | rfl | rfl := hx <;> exact hrun

end Sys2Proof.ExchangeProofs
end

section
/-! R326, R345, R351, R369: the doorbell of a request ring, the choice of a path, a transform's end, an interrupt write. -/

namespace Sys2Proof.ExchangeProofs

open Sys2Proof Sys2Proof.Machine Sys2Proof.Slice0 Sys2Proof.LevelProofs Sys2Proof.LineProofs Sys2Proof.PartnerProofs
open Sys2Proof.EngineProofs

variable {s u : State} {who : Master} {x k blk tail out : Nat} {r : RegName} {cids : List Nat}

/-! Banks of registers (R42) -/

/-- The registers of a bank lie eight bytes apart, where every register named before it ends below them. -/
theorem regAt_bank {pre post : List RegName} (hregs : regsOfBlock blk = pre ++ r :: post)
    (hbelow : ∀ q ∈ pre, (regPlace q).off + 8 * (regPlace q).count ≤ (regPlace r).off) (hk : k < (regPlace r).count) :
    regAt blk ((regPlace r).off + 8 * k) = some (r, k) := by
  refine List.findSome?_eq_some_iff.mpr ⟨pre, r, post, hregs, ?_, fun q hq => ?_⟩
  · obtain ⟨hindex, hplace⟩ : ((regPlace r).off + 8 * k - (regPlace r).off) / 8 = k ∧
        ((regPlace r).off ≤ (regPlace r).off + 8 * k ∧ ((regPlace r).off + 8 * k - (regPlace r).off) % 8 = 0 ∧
        ((regPlace r).off + 8 * k - (regPlace r).off) / 8 < (regPlace r).count) := by omega
    refine (if_pos hplace).trans ?_
    rw [hindex]
  · have hq := hbelow q hq
    exact if_neg (by omega)

theorem findReg_bank {pre post : List RegName} (hregs : regsOfBlock blk = pre ++ r :: post)
    (hbelow : ∀ q ∈ pre, (regPlace q).off + 8 * (regPlace q).count ≤ (regPlace r).off) (hk : k < (regPlace r).count)
    (halign : (regPlace r).off % 8 = 0) (hend : (regPlace r).off + 8 * (regPlace r).count ≤ 0x80000) (hcore : blk ≠ 0x70) :
    findReg blk ((regPlace r).off + 8 * k) = some (r, blk - (regPlace r).blk, k) := by
  rw [findReg, if_neg (by omega), if_neg hcore, regAt_bank hregs hbelow hk]
  rfl

/-! The doorbell of a request ring (R326) -/

theorem offsetOfReg_rqDoorbell : offsetOfReg .XCH_RQ_DOORBELL 0 k = (regPlace .XCH_RQ_DOORBELL).off + 8 * k := by
  rw [offsetOfReg, if_neg (by decide), Nat.zero_add]

theorem findReg_rqDoorbell (hk : k < 4096) : findReg 0x30 ((regPlace .XCH_RQ_DOORBELL).off + 8 * k) = some (.XCH_RQ_DOORBELL, 0, k) :=
  findReg_bank (pre := (regsOfBlock 0x30).take 21) (post := (regsOfBlock 0x30).drop 22) (by decide) (by decide) hk (by decide)
    (by decide) (by decide)

/-- R326, R468: a ring's TAIL is set, and rest ends where the ring is enabled. -/
def ringTailSet (s : State) (k tail : Nat) : State :=
  if s.fbit F.XCH_RQ_CTL_ENABLE 0 k then (s.fset F.XCH_RQ_DOORBELL_TAIL 0 k tail).endRest else s.fset F.XCH_RQ_DOORBELL_TAIL 0 k tail

theorem ringTailSet_base : (ringTailSet s k tail).pwr.baseOn = s.pwr.baseOn := by
  have hframe : Frame false s (ringTailSet s k tail) := Frame.ite ((Frame.fset _ _ _ _).trans Frame.endRest) (Frame.fset _ _ _ _)
  exact hframe.base

/-- R326: a TAIL that leaves no more requests than the ring holds. -/
theorem regWrite_rqDoorbell (htail : tail < 65536) (hfits : (tail + 65536 - s.rqHead k) % 65536 ≤ 2 ^ s.fget F.XCH_RQ_CTL_SIZE_LOG2 0 k)
    (blk addr : Nat) :
    State.regWrite State.cfgApply s .XCH_RQ_DOORBELL 0 k (BitVec.ofNat 64 tail) blk addr = ringTailSet s k tail := by
  have hword : fld (BitVec.ofNat 64 tail) 0 16 = tail := by
    rw [fld, BitVec.toNat_ofNat]
    omega
  show s.writeDoorbell F.XCH_RQ_DOORBELL_TAIL k _ _ _ _ blk addr = _
  rw [State.writeDoorbell, hword, if_neg (Nat.not_lt.mpr hfits)]
  rfl

theorem doorbell_eq (h : Hears s who .XCH_RQ_DOORBELL 0 k) (htail : tail < 65536)
    (hfits : (tail + 65536 - s.rqHead k) % 65536 ≤ 2 ^ s.fget F.XCH_RQ_CTL_SIZE_LOG2 0 k) :
    exec (.xchRqDoorbell who k tail) s = .next (ringTailSet s k tail) := by
  have hk : k < 4096 := h.2.2.2.2.1
  have hwrite := regWrite_rqDoorbell htail hfits
  have hreg := writeReg_eq (v := BitVec.ofNat 64 tail) h (by decide) (by decide)
    (by rw [offsetOfReg_rqDoorbell]; simp only [regPlace]; omega)
    (by rw [offsetOfReg_rqDoorbell]; exact findReg_rqDoorbell hk) (by rw [hwrite]; exact ringTailSet_base)
  exact (run_eq h.2.1 (fun s => s.writeReg who .XCH_RQ_DOORBELL 0 k (BitVec.ofNat 64 tail))).trans
    (congrArg Host.Outcome.next (hreg.trans (hwrite _ _)))

/-! Commands of one pair (R251, R324) -/

/-- The pair's checkpoint turns on what a command does of the state that it finds. -/
theorem byPair_eq {p : Nat} {f : State → State} (h : f s = u) : s.byPair p f = s.byPair p (fun _ => u) := by
  rw [← h]
  rfl

/-- A command of the pair that carries an exchange does what its row says. -/
theorem run_byPair (hdown : s.down = false) {f : State → State} (h : f s = u) :
    s.run (fun s => s.byPair (s.entry x).owner f) = .next (s.byPair (s.entry x).owner (fun _ => u)) := by
  rw [run_eq hdown, byPair_eq h]

/-! The choice of a path (R345) -/

section
variable (hown : s.ownerRuns x = true) (hstate : (s.entry x).state = stPosted) (ht0 : s.pwr.t0 = none) (hfatal : s.flt.fatal = false)
  (habort : (s.entry x).abort = false) (hpoison : (s.exch x).poison = false)
  (hpaths : s.pathsReady (s.entry x).inst (rqTarget (s.exch x).record) = (u, true))
include hown hstate ht0 hfatal habort hpoison hpaths

/-- An entry that is POSTED, and may go on, goes by the paths that are left. -/
theorem pathChoice_posted : s.pathChoice x cids = match u.choosePath x with
    | none => u.toStatus x xExhausted 0
    | some (k, tried) =>
      if !u.cidsFree x { s.exch x with desc := u.pathDesc (rqTarget (s.exch x).record) k } then u
      else u.startAttempt x k tried cids := by
  have hnone : s.submitsNone = false := by rw [State.submitsNone, ht0, hfatal]; rfl
  unfold State.pathChoice
  extract_lets e w rd again
  have hagain : again = false := by
    show (w.redrive && ((s.entry x).state == stOnPath || (s.entry x).state == stData) && _) = false
    rw [hstate]
    cases w.redrive
    · rfl
    · rfl
  have he : e.state = stPosted := hstate
  rw [hnone, hown, if_neg (by decide), he, if_neg (fun h => h.1 rfl), show e.abort = false from habort,
    if_neg (by decide), show w.poison = false from hpoison, if_neg (by decide), hagain, Bool.false_and, if_neg (by decide),
    show s.pathsReady e.inst (rqTarget w.record) = (u, true) from hpaths]
  rfl

theorem pathChoice_chosen {tried : Nat} (hchosen : u.choosePath x = some (k, tried))
    (hfree : u.cidsFree x { s.exch x with desc := u.pathDesc (rqTarget (s.exch x).record) k } = true) :
    s.pathChoice x cids = u.startAttempt x k tried cids := by
  rw [pathChoice_posted hown hstate ht0 hfatal habort hpoison hpaths, hchosen]
  exact if_neg (by rw [hfree]; decide)

theorem pathChoice_exhausted (hleft : u.choosePath x = none) : s.pathChoice x cids = u.toStatus x xExhausted 0 := by
  rw [pathChoice_posted hown hstate ht0 hfatal habort hpoison hpaths, hleft]

end

theorem pathChoice_step (hdown : s.down = false) (h : s.pathChoice x cids = u) :
    exec (.pathChoice x cids .fine) s = .next (s.byPair (s.entry x).owner (fun _ => u)).settle := by
  show s.run (fun s => (s.byPair (s.entry x).owner (fun s => s.pathChoice x cids)).settle) = _
  rw [run_eq hdown, byPair_eq h]

/-! The end of a transform (R351) -/

/-- The output of a transform is taken, and its result is no longer kept. -/
def transformTaken (s : State) (x out : Nat) : State :=
  ({ s with trs := { s.trs with results := mapErase s.trs.results x } } : State).modExch x (fun w => { w with outLen := out })

section
variable (hown : s.ownerRuns x = true) (hresult : mapGet? s.trs.results x = some (stDone, out))
  (hstarted : stStarted ≤ (s.entry x).state) (hrunning : (s.entry x).state < stStatus) (habort : (s.entry x).abort = false)
include hown hresult hstarted hrunning habort

theorem transformDone_taken : s.transformDone x cids .fine =
    if rqOp ((transformTaken s x out).exch x).record = opWrite then
      (if (transformTaken s x out).submitsNone || !(transformTaken s x out).cidsFree x ((transformTaken s x out).exch x) then s
       else match (transformTaken s x out).pathsReady (s.entry x).inst (rqTarget ((transformTaken s x out).exch x).record) with
         | (s2, true) => s2.submit x cids
         | (_, false) => (s.pathsReady (s.entry x).inst (rqTarget ((transformTaken s x out).exch x).record)).1)
    else (transformTaken s x out).toStatus x xSuccess 0 := by
  rw [State.transformDone, hresult]
  dsimp only
  rw [hown, if_neg (by decide)]
  show (if (s.entry x).state < stStarted ∨ stStatus ≤ (s.entry x).state then _
    else if (s.entry x).abort then _ else if stDone = stPoison then _ else if stDone ≠ stDone then _ else _) = _
  rw [if_neg (by omega), habort, if_neg (by decide), if_neg (by decide), if_neg (by decide)]
  rfl

theorem transformDone_write (hop : rqOp ((transformTaken s x out).exch x).record = opWrite) (ht0 : s.pwr.t0 = none)
    (hfatal : s.flt.fatal = false) (hfree : (transformTaken s x out).cidsFree x ((transformTaken s x out).exch x) = true)
    (hpaths : (transformTaken s x out).pathsReady (s.entry x).inst (rqTarget ((transformTaken s x out).exch x).record) = (u, true)) :
    s.transformDone x cids .fine = u.submit x cids := by
  have hnone : (transformTaken s x out).submitsNone = false := by
    show (s.pwr.t0.isSome || s.flt.fatal) = false
    rw [ht0, hfatal]
    rfl
  rw [transformDone_taken hown hresult hstarted hrunning habort, if_pos hop, hnone, hfree, if_neg (by decide), hpaths]

theorem transformDone_read (hop : rqOp ((transformTaken s x out).exch x).record ≠ opWrite) :
    s.transformDone x cids .fine = (transformTaken s x out).toStatus x xSuccess 0 := by
  rw [transformDone_taken hown hresult hstarted hrunning habort, if_neg hop]

end

theorem transformDone_step (hdown : s.down = false) (h : s.transformDone x cids .fine = u) :
    exec (.exchangeTransformDone x ⟨cids, .fine⟩) s = .next (s.byPair (s.entry x).owner (fun _ => u)) :=
  run_byPair hdown h

/-! Interrupt writes (R369) -/

theorem interruptWrite_eq {g port : Nat} {addr : BitVec 64} {data : List Byte} (hgroup : g < 4) (hset : s.fget F.PCIE_MSI_ADDR g 0 ≠ 0)
    (haddr : addr.toNat = s.fget F.PCIE_MSI_ADDR g 0 * 2 ^ 12) (hdata : data.length = 4) (hvector : bytesToNat data % 64 < 60) :
    s.interruptWrite g port addr data = s.raise (0xA00 + 64 * g + bytesToNat data % 64) (bytesToNat data) := by
  unfold State.interruptWrite
  extract_lets base w
  have hbase : base ≠ 0 := by
    show s.fget F.PCIE_MSI_ADDR g 0 * 2 ^ 12 ≠ 0
    omega
  rw [if_neg (Nat.not_le.mpr hgroup), if_pos ⟨hbase, haddr, hdata, hvector⟩]

end Sys2Proof.ExchangeProofs
end

section
/-! R340, R341, R346: data through a window, the last completion of an attempt, and the record of an entry. -/

namespace Sys2Proof.ExchangeProofs

open Sys2Proof Sys2Proof.Machine Sys2Proof.LineProofs Sys2Proof.PartnerProofs

variable {s t u : State} {o : WindowOp} {x y n target path cid status fixed bad : Nat} {a : Attempt} {data bs : List Byte}

/-! Transfers (R346) -/

theorem windowOutside_false (hinside : o.rdma = true ∨ o.addr.toNat.testBit 63 = true) :
    (!o.rdma && !o.addr.toNat.testBit 63) = false := by
  obtain h | h := hinside
  · rw [h]
    rfl
  · rw [h]
    exact Bool.and_false _

section
variable (hchk : o.chk = .fine) (hinside : o.rdma = true ∨ o.addr.toNat.testBit 63 = true) (hcurrent : s.windowCurrent o = true)
  (hmoves : windowMoves (s.exch (windowExch o)).record o.write = true)
include hchk hinside hcurrent hmoves

theorem windowTransfer_write (hwrite : o.write = true) (hsome : o.data ≠ [])
    (hfits : nfld o.addr.toNat 0 28 + o.data.length ≤ windowLen (s.exch (windowExch o)))
    (hspans : s.writeSpans (s.entry (windowExch o)).inst
      (spans (s.windowMap (s.exch (windowExch o))) (nfld o.addr.toNat 0 28) o.data.length) o.data = (t, true)) :
    s.windowTransfer o = t.dataMoved (windowExch o) o.data.length := by
  have hlen : (o.data.length == 0) = false := beq_eq_false_iff_ne.mpr (mt List.length_eq_zero_iff.mp hsome)
  rw [State.windowTransfer, windowOutside_false hinside, hchk, if_neg (by decide), State.copyCheck]
  dsimp only
  rw [hcurrent, hmoves, hwrite, if_pos rfl, hlen, decide_eq_false (Nat.not_lt.mpr hfits), if_neg (by decide), if_neg (by decide),
    if_pos rfl, hspans]

theorem windowTransfer_read (hread : o.write = false) (hsome : o.len ≠ 0)
    (hfits : nfld o.addr.toNat 0 28 + o.len ≤ windowLen (s.exch (windowExch o)))
    (hspans : s.readSpans (0x31 + (s.entry (windowExch o)).owner) (s.entry (windowExch o)).inst
      (spans (s.windowMap (s.exch (windowExch o))) (nfld o.addr.toNat 0 28) o.len) = .bytes t bs) :
    s.windowTransfer o = (t.dataMoved (windowExch o) o.len).answer (.readData o.group o.port bs) := by
  have hlen : (o.len == 0) = false := beq_eq_false_iff_ne.mpr hsome
  rw [State.windowTransfer, windowOutside_false hinside, hchk, if_neg (by decide), State.copyCheck]
  dsimp only
  rw [hcurrent, hmoves, hread, if_neg (by decide : ¬ false = true), hlen, decide_eq_false (Nat.not_lt.mpr hfits), if_neg (by decide),
    if_neg (by decide), if_neg (by decide), hspans]

end

theorem windowTransfer_step (hdown : s.down = false) (h : (s.fecSeen o).windowTransfer o = u) :
    exec (.windowTransfer o) s = .next (s.byPairs (fun _ => u)) :=
  run_byPairs hdown h

theorem dataMoved_entry : (t.dataMoved x n).entry x =
    { t.entry x with state := stData, progress := ((t.exch x).moved + n) / 512 % 2 ^ 32 } :=
  State.entry_setEntry _ x _

theorem dataMoved_other (h : y ≠ x) : (t.dataMoved x n).entry y = t.entry y := State.entry_setEntry_ne _ _ h

/-! The last completion of an attempt (R340, R349) -/

theorem fecFound_attempts (g : Nat) : (s.fecFound g fixed bad).xch.attempts = s.xch.attempts := by
  unfold State.fecFound
  split
  · rfl
  · rfl

theorem fecCompletion_attempts : (s.fecCompletion target path cid fixed bad).xch.attempts = s.xch.attempts := by
  unfold State.fecCompletion
  extract_lets p
  split
  · exact fecFound_attempts _
  · rfl

/-- The words that are found on the way of a completion leave it the attempt that it belongs to. -/
theorem fecCompletion_attemptBy :
    (s.fecCompletion target path cid fixed bad).attemptBy target path cid = s.attemptBy target path cid := by
  rw [State.attemptBy, fecCompletion_attempts, State.attemptBy]

theorem targetCompletion_current (hfound : s.attemptBy target path cid = some a) (hown : s.ownerRuns a.exch = true)
    (hlast : a.open_ = [cid]) (hdata : s.mgmtData a cid data = (t, true)) (hcurrent : t.completionCurrent a = true) :
    s.targetCompletion target path cid status data .fine =
      State.attemptComplete ((if status % 2 ^ 15 = 0 then t
        else t.modExch a.exch (fun w => { w with tstat := some (w.tstat.getD (status % 2 ^ 15)) })).dropAttempt a.exch a.number)
        a.exch := by
  have hopen : (a.open_.filter (· != cid)).isEmpty = true := by
    rw [hlast]
    simp
  rw [State.targetCompletion, hfound]
  dsimp only
  rw [hown, if_neg (by decide), State.copyCheck, hdata]
  dsimp only
  rw [State.completeCommand, hcurrent, if_pos rfl, hopen, if_pos rfl, State.commandDone, hopen, if_pos rfl]

/-- With neither ABORT nor poison the exchange ends by its target's status. -/
theorem attemptComplete_decided (habort : (u.entry x).abort = false) (hpoison : (u.exch x).poison = false) :
    u.attemptComplete x = match (u.exch x).tstat with
      | some c => (u.modExch x (fun w => { w with redrive := false })).toStatus x xTarget c
      | none =>
        if rqTransforms (u.exch x).record && rqOp (u.exch x).record == opRead then
          (u.modExch x (fun w => { w with redrive := false })).presentTransform x
        else (u.modExch x (fun w => { w with redrive := false })).toStatus x xSuccess 0 := by
  have hexch : (u.modExch x (fun w => { w with redrive := false })).exch x = { u.exch x with redrive := false } :=
    State.exch_setExch _ x _
  unfold State.attemptComplete
  extract_lets u1 e w
  rw [show e.abort = false from habort, if_neg (by decide), show w = { u.exch x with redrive := false } from hexch]
  dsimp only
  rw [hpoison, if_neg (by decide)] <;> rfl

theorem targetCompletion_step (hdown : s.down = false)
    (h : (s.fecCompletion target path cid fixed bad).targetCompletion target path cid status data .fine = u) :
    exec (.targetCompletion target path cid status ⟨data, .fine, fixed, bad⟩) s = .next (s.byPairs (fun _ => u)) :=
  run_byPairs hdown h

/-! The record (R341) -/

theorem visibleRow_ready (hown : s.ownerRuns x = true) (hstate : (s.entry x).state = stStatus) (hdecided : (s.entry x).result ≠ xInDoubt)
    (hslot : s.slotReady (s.entry x).cq (s.entry x).seq = (u, true)) : s.visibleRow x = (u.recordVisible x).reportRecord x := by
  have hclear : ¬ (!s.ownerRuns x ∨ (s.entry x).state ≠ stStatus ∨
      ((s.entry x).result == xInDoubt && rqOp (s.exch x).record != opRead && !(s.attemptsOf x).isEmpty)) := by
    rw [hown, hstate, beq_eq_false_iff_ne.mpr hdecided]
    simp
  rw [State.visibleRow, if_neg hclear, hslot]

theorem completionRecordVisible_step (hdown : s.down = false) (h : s.visibleRow x = u) :
    exec (.completionRecordVisible ⟨x, .fine⟩) s = .next (s.byPair (s.entry x).owner (fun _ => u)) :=
  run_byPair hdown h

theorem reportRecord_state : ((s.reportRecord x).entry x).state = stReported := by
  unfold State.reportRecord
  extract_lets e s1
  exact congrArg Entry.state (State.entry_setEntry _ x _)

end Sys2Proof.ExchangeProofs
end

section
/-! R35, R467: what lines, commits, exchanges and the commands of instances leave of the base logic's power. -/

namespace Sys2Proof.ExchangeProofs

open Sys2Proof Sys2Proof.Machine Sys2Proof.LevelProofs Sys2Proof.LineProofs Sys2Proof.PartnerProofs

variable {s t : State} {x c r n blk g : Nat}

theorem base_fst {α : Type} {y : State × α} {a : α} (h : SameBase s y.1) (e : y = (t, a)) : SameBase s t := by
  subst e
  exact h

theorem base_logFault (m : FaultMsg) : SameBase s (s.logFault m) := .of_frame (.logFault m (fun h => Bool.noConfusion h))

theorem base_raiseBlock (src : Nat) : SameBase s (s.raiseBlock src) := .of_frame (.raiseBlock src)

/-! Lines (R201, R209) -/

theorem base_storeLine (b : By) (a : Nat) (bs : List Byte) : SameBase s (s.storeLine b a bs) := by
  unfold State.storeLine
  extract_lets line
  split
  · exact .of_frame (.writeLine b a bs)
  · exact base_logFault _
  · exact base_logFault (s := s.clearAsked line) _
  · exact base_logFault _
  · exact .of_frame (.writeLine b a bs)

theorem base_storeBytes (b : By) (a : Nat) (bs : List Byte) : SameBase s (s.storeBytes b a bs) :=
  .foldl (fun _ _ => base_storeLine _ _ _) _

theorem base_readyRead (b : By) (lines : List Nat) : SameBase s (s.readyRead b lines).1 := .of_frame (.readyRead b lines)

theorem base_readyWrite (b : By) (whole : Bool) (lines : List Nat) : SameBase s (s.readyWrite b whole lines).1 := by
  induction lines generalizing s with
  | nil => exact .refl
  | cons line ls ih =>
    have hclear : SameBase s ((s.takeBack line).invalAsk line (s.posBy b)).1 :=
      (SameBase.of_frame (.takeBack line)).trans (.of_frame (.invalAsk line _))
    rw [State.readyWrite]
    split
    · exact .of_frame (.wantGranule line)
    · split
      · exact .of_frame (.askLine _ _ _ _)
      · split
        · next heq => exact (base_fst hclear heq).trans ih
        · next heq => exact base_fst hclear heq
      · exact ih

/-! Commits (R18 to R25) -/

theorem base_setActing (r : RegName) (u k : Nat) (w : Word) : SameBase s (s.setActing r u k w) := rfl

theorem base_commitValues (ws : List Word) : SameBase s (s.commitValues blk g ws) := rfl

theorem base_takeStaged (r : RegName) (u k : Nat) : SameBase s (s.takeStaged r u k) := by
  unfold State.takeStaged
  split
  · exact .refl
  · exact .refl

theorem base_takeGroup (ws : List Word) : SameBase s (s.takeGroup blk g ws) := by
  unfold State.takeGroup
  exact .foldl (fun _ _ => base_setActing _ _ _ _) _

theorem base_resolve : SameBase s (s.resolve blk g).1 := by
  have hall (cs : List Commit) (y : State × Option (List Word)) : SameBase y.1 (cs.foldl (fun x c =>
      if x.1.groupBad blk g c.words then (x.1.commitRefused blk g, x.2) else (x.1, some c.words)) y).1 := by
    induction cs generalizing y with
    | nil => exact .refl
    | cons c cs ih =>
      refine SameBase.trans ?_ (ih _)
      dsimp only
      split
      · exact base_logFault _
      · exact .refl
  exact hall _ _

theorem base_commitActs {f : State → State} (hf : ∀ t, SameBase t (f t)) : SameBase s (s.commitActs blk g f) := by
  unfold State.commitActs
  split
  · next heq => exact (base_fst base_resolve heq).trans ((base_takeGroup _).trans (hf _))
  · next heq => exact base_fst base_resolve heq

theorem base_cqSafe : SameBase s (s.cqSafe c) :=
  (base_takeStaged _ _ _).trans (.ite (base_commitActs fun _ => .refl) .refl)

theorem base_rqSafe : SameBase s (s.rqSafe r) := (base_takeStaged _ _ _).trans (base_commitActs fun _ => .refl)

theorem base_setHead (q v : Nat) : SameBase s (s.setHead q v) := .ite .refl .refl

theorem base_setTail (q v : Nat) : SameBase s (s.setTail q v) := .ite .refl .refl

theorem base_trsSafe (q : Nat) : SameBase s (s.trsSafe q) :=
  .ite (base_commitActs fun _ => (base_setHead q 0).trans (base_setTail q 0)) .refl

/-! Exchanges -/

theorem base_byPairs {f : State → State} (hf : ∀ t, SameBase t (f t)) : SameBase s (s.byPairs f) :=
  (byPairs_reads (g := fun s => s.pwr.baseOn) (fun _ _ _ => rfl) f).trans (hf s)

theorem base_entryIdle (x : Nat) : SameBase s (s.entryIdle x) := rfl

/-- R332: records are consumed. -/
theorem base_consume (v : Nat) : SameBase s (s.consume c v) := by
  unfold State.consume
  extract_lets lo done
  have hidle (u : State) : SameBase u (done.foldl (fun s x => s.entryIdle x) u) := .foldl (fun _ _ => base_entryIdle _) _
  have hpairs := base_byPairs (s := s) hidle
  generalize s.byPairs (fun s => done.foldl (fun s x => s.entryIdle x) s) = t at hpairs ⊢
  exact hpairs.trans (base_cqSafe (s := t.fset F.XCH_CQ_HEAD_HEAD 0 c v))

/-! Commands of instances (R373 to R388) -/

theorem base_setInst (i : Inst) : SameBase s { s with inst := i } := rfl

theorem base_instCmdEnd (code : Nat) : SameBase s (s.instCmdEnd code) := by
  unfold State.instCmdEnd
  extract_lets s1 _ s2
  exact .ite (base_raiseBlock (s := s2) _) (rfl : SameBase s s2)

theorem base_putField (f : FieldRef) (u k v : Nat) : SameBase s (s.putField f u k v) := by
  unfold State.putField
  extract_lets key s1
  split
  · exact .refl
  · exact .refl

theorem base_putWeight (f : FieldRef) (v : Nat) : SameBase s (s.putWeight f n v) := .ite .refl (base_putField _ _ _ _)

theorem base_burstBytes (v : Word) : SameBase s (s.burstBytes n v) := rfl

theorem base_burstExch (v : Word) : SameBase s (s.burstExch n v) := rfl

theorem base_grantCq (gr : Grant) (i : Nat) (b : List Byte) : SameBase s (s.grantCq n gr i b) := by
  unfold State.grantCq
  extract_lets c ctl
  exact (base_commitValues _).trans base_cqSafe

theorem base_grantRq (gr : Grant) (i : Nat) (b : List Byte) : SameBase s (s.grantRq n gr i b) := by
  unfold State.grantRq
  extract_lets r p ctl
  exact ((base_commitValues _).trans base_rqSafe).trans (.fset _ _ _ _)

theorem base_foldIdx {f : State → Nat → List Byte → State} (hf : ∀ t i e, SameBase t (f t i e)) (bs : List (List Byte)) :
    SameBase s (foldIdx f s bs) :=
  .foldl (fun _ _ => hf _ _ _) _

theorem base_newGeneration : SameBase s (s.newGeneration n) :=
  base_byPairs fun _ => SameBase.foldl (fun _ x => (undecided_base.statusAtReset x).trans (undecided_base.abortEntry x)) _

theorem base_instRemove : SameBase s (s.instRemove n) := by
  unfold State.instRemove
  split
  · exact .refl
  · exact base_setInst _
  · exact (base_setInst _).trans base_newGeneration

theorem base_removeBegin : SameBase s (s.removeBegin n) :=
  .ite ((base_setInst _).trans base_instRemove) ((base_setInst _).trans (base_instCmdEnd 7))

theorem base_removeFirmware : SameBase s (s.removeFirmware n) := by
  unfold State.removeFirmware
  extract_lets gr rqs cqs _ s0 s1 s2 s3 s4
  have h0 : SameBase s s0 := rfl
  have h1 : SameBase s0 s1 := .foldl (fun _ _ => base_putField _ _ _ _) _
  have h2 : SameBase s1 s2 := .foldl (fun _ _ => (base_commitValues _).trans base_rqSafe) _
  have h3 : SameBase s2 s3 := .foldl (fun _ _ => (base_commitValues _).trans base_cqSafe) _
  have h03 : SameBase s s3 := ((h0.trans h1).trans h2).trans h3
  clear_value s3
  have h4 : SameBase s3 s4 :=
    (((base_commitValues _).trans (base_trsSafe n)).trans (base_commitValues _)).trans (base_commitActs fun _ => .refl)
  exact (h03.trans h4).trans (base_setInst _)

theorem base_fwRead (a : Nat) : SameBase s (s.fwRead a n).1 := by
  unfold State.fwRead
  split
  · next heq => exact base_fst (base_readyRead _ _) heq
  · next heq => exact base_fst (base_readyRead _ _) heq
  · next heq => exact base_fst (base_readyRead _ _) heq

theorem base_modifyGo : SameBase s (s.modifyGo n) := by
  unfold State.modifyGo
  split
  · exact base_instCmdEnd 7
  · split
    · next heq => exact base_fst (base_fwRead _) heq
    · next heq => exact (base_fst (base_fwRead _) heq).trans (base_instCmdEnd 1)
    · next heq =>
      refine (base_fst (base_fwRead _) heq).trans (.ite (base_instCmdEnd 1) ?_)
      exact (((base_burstBytes _).trans (base_burstExch _)).trans ((base_putWeight _ _).trans (base_putWeight _ _))).trans
        (base_instCmdEnd 0)

theorem base_createFinish (gr : Grant) (b rqs : List Byte) : SameBase s (s.createFinish n gr b rqs) := by
  unfold State.createFinish
  extract_lets s1 s2 qctl s3 s4 s5 s6 a out s7
  have h1 : SameBase s s1 := .foldl (fun _ _ => .fset _ _ _ _) _
  have h2 : SameBase s1 s2 := base_foldIdx (fun _ _ _ => base_grantRq _ _ _) _
  have h3 : SameBase s2 s3 := (((base_commitValues _).trans (base_trsSafe n)).trans (base_putField _ _ _ _)).trans (.fset _ _ _ _)
  have h4 : SameBase s3 s4 := (base_commitValues _).trans (base_commitActs fun _ => .refl)
  have h5 : SameBase s4 s5 := (base_burstBytes _).trans (base_burstExch _)
  have h6 : SameBase s5 s6 := .foldl
    (fun _ _ => ((base_putField _ _ _ _).trans (base_putField _ _ _ _)).trans (base_putField _ _ _ _)) _
  have h7 : SameBase s6 s7 := ((base_putWeight _ _).trans (base_putWeight _ _)).trans (.fset _ _ _ _)
  have h8 : SameBase s s7 := (((((h1.trans h2).trans h3).trans h4).trans h5).trans h6).trans h7
  clear_value s7
  exact h8.trans (((base_storeBytes _ _ _).trans (.fset _ _ _ _)).trans (base_instCmdEnd 0))

theorem base_createOn : SameBase s (s.createOn n) := by
  unfold State.createOn
  split
  · refine .ite .refl ?_
    split
    · next heq => exact (base_fst (base_readyWrite _ _ _) heq).trans (base_createFinish _ _ _)
    · next heq => exact base_fst (base_readyWrite _ _ _) heq
  · exact .refl

theorem base_createGo : SameBase s (s.createGo n) := by
  unfold State.createGo
  split
  · exact base_instCmdEnd 6
  · split
    · next heq => exact base_fst (base_fwRead _) heq
    · next heq => exact (base_fst (base_fwRead _) heq).trans (base_instCmdEnd 1)
    · next u b heq =>
      refine (base_fst (base_fwRead _) heq).trans (.ite (base_instCmdEnd 1) ?_)
      split
      · refine .ite (base_instCmdEnd 1) ?_
        split
        refine .ite (base_instCmdEnd _) ?_
        exact (base_setInst _).trans ((base_foldIdx (fun _ _ _ => base_grantCq _ _ _) _).trans base_createOn)
      · next heq => exact base_fst (base_fwRead _) heq
      · next heq _ => exact base_fst (base_fwRead _) heq
      · exact base_instCmdEnd 1

/-- The command that runs of an instance goes on. -/
theorem base_instGo : SameBase s s.instGo := by
  unfold State.instGo
  split
  · exact .refl
  · split
    · exact base_createOn
    · exact base_createGo
    · exact base_removeBegin
    · exact .ite .refl (base_removeFirmware.trans (base_instCmdEnd 0))
    · exact base_modifyGo
    · exact .refl

end Sys2Proof.ExchangeProofs
end

section
/-! R332: the head of a completion ring; and how an exchange goes on, step by step (R326 to R369). -/

namespace Sys2Proof.ExchangeProofs

open Sys2Proof Sys2Proof.Machine Sys2Proof.Slice0 Sys2Proof.LineProofs Sys2Proof.PartnerProofs Sys2Proof.EngineProofs

variable {s u : State} {who : Master} {c v : Nat} {chks : List (Nat × CopyCheck)}

theorem offsetOfReg_cqHead : offsetOfReg .XCH_CQ_HEAD 0 c = (regPlace .XCH_CQ_HEAD).off + 8 * c := by
  rw [offsetOfReg, if_neg (by decide), Nat.zero_add]

theorem findReg_cqHead (hc : c < 4096) : findReg 0x30 ((regPlace .XCH_CQ_HEAD).off + 8 * c) = some (.XCH_CQ_HEAD, 0, c) :=
  findReg_bank (pre := (regsOfBlock 0x30).take 25) (post := []) (by decide) (by decide) hc (by decide) (by decide) (by decide)

/-- R332: a HEAD that moves neither backward nor past TAIL. -/
theorem regWrite_cqHead (hv : v < 2 ^ 32) (hhead : s.headOk c v = true) (blk addr : Nat) :
    State.regWrite State.cfgApply s .XCH_CQ_HEAD 0 c (BitVec.ofNat 64 v) blk addr = (s.consume c v).instGo := by
  have hword : fld (BitVec.ofNat 64 v) 0 32 = v := by
    rw [fld, BitVec.toNat_ofNat]
    omega
  show s.writeCqHead c (BitVec.ofNat 64 v) addr = _
  rw [State.writeCqHead, hword, if_pos hhead]

theorem writeReg_cqHead (h : Hears s who .XCH_CQ_HEAD 0 c) (hv : v < 2 ^ 32) (hhead : s.headOk c v = true) :
    s.writeReg who .XCH_CQ_HEAD 0 c (BitVec.ofNat 64 v) = (s.consume c v).instGo := by
  have hc : c < 4096 := h.2.2.2.2.1
  have hwrite := regWrite_cqHead hv hhead
  exact (writeReg_eq h (by decide) (by decide) (by rw [offsetOfReg_cqHead]; simp only [regPlace]; omega)
    (by rw [offsetOfReg_cqHead]; exact findReg_cqHead hc)
    (by rw [hwrite]; exact (base_consume v).trans base_instGo)).trans (hwrite _ _)

theorem cqHead_step (hdown : s.down = false)
    (h : (s.copyChecks (s.reportedIn c) chks).writeReg who .XCH_CQ_HEAD 0 c (BitVec.ofNat 64 v) = u) :
    exec (.xchCqHead who c ⟨v, chks⟩) s = .next u :=
  (run_eq hdown (fun s => (s.copyChecks (s.reportedIn c) chks).writeReg who .XCH_CQ_HEAD 0 c (BitVec.ofNat 64 v))).trans
    (congrArg Host.Outcome.next h)

/-- The completion of the last command of the current attempt, with success. -/
theorem attemptComplete_success {t : State} {x number : Nat} (habort : (t.entry x).abort = false) (hpoison : (t.exch x).poison = false)
    (hstat : (t.exch x).tstat = none) :
    (t.dropAttempt x number).attemptComplete x =
      if rqTransforms (t.exch x).record && rqOp (t.exch x).record == opRead then
        ((t.dropAttempt x number).modExch x (fun w => { w with redrive := false })).presentTransform x
      else ((t.dropAttempt x number).modExch x (fun w => { w with redrive := false })).toStatus x xSuccess 0 := by
  rw [attemptComplete_decided (u := t.dropAttempt x number) habort hpoison,
    show ((t.dropAttempt x number).exch x).tstat = none from hstat]
  rfl

/-- The same with a status of the target. -/
theorem attemptComplete_status {t : State} {x number code : Nat} (habort : (t.entry x).abort = false)
    (hpoison : (t.exch x).poison = false) (hstat : (t.exch x).tstat = none) :
    ((t.modExch x (fun w => { w with tstat := some (w.tstat.getD code) })).dropAttempt x number).attemptComplete x =
      (((t.modExch x (fun w => { w with tstat := some code })).dropAttempt x number).modExch x
        (fun w => { w with redrive := false })).toStatus x xTarget code := by
  have hset : t.modExch x (fun w => { w with tstat := some (w.tstat.getD code) }) =
      t.modExch x (fun w => { w with tstat := some code }) := by
    rw [State.modExch, hstat]
    rfl
  have hexch : (t.modExch x (fun w => { w with tstat := some code })).exch x = { t.exch x with tstat := some code } :=
    State.exch_setExch _ x _
  have habort' : ((t.modExch x (fun w => { w with tstat := some code })).entry x).abort = false := habort
  rw [hset]
  generalize t.modExch x (fun w => { w with tstat := some code }) = u at hexch habort' ⊢
  have hpoison' : (u.exch x).poison = false := (congrArg Exch.poison hexch).trans hpoison
  have hstat' : ((u.dropAttempt x number).exch x).tstat = some code := congrArg Exch.tstat hexch
  rw [attemptComplete_decided (u := u.dropAttempt x number) habort' hpoison', hstat']

/-- Settles O46: each step of an exchange, from its doorbell to its consumption. -/
theorem exchangeSteps : Obligations.ExchangeSteps := by
  intro s
  refine ⟨fun who r tail h htail hfits => ?_, fun x cids u hdown hown hstate ht0 hfatal habort hpoison hpaths => ⟨?_, ?_⟩,
    fun x out cids hdown hown hresult hstarted hrunning habort => ⟨?_, ?_⟩, ?_, fun x n t => ⟨?_, ?_, ?_⟩, ?_,
    fun x u hdown hown hstate hdecided hslot => ⟨?_, ?_⟩, ?_, ?_⟩
  · exact doorbell_eq h htail hfits
  · exact fun k tried hchosen hfree =>
      pathChoice_step hdown (pathChoice_chosen hown hstate ht0 hfatal habort hpoison hpaths hchosen hfree)
  · exact fun hleft => pathChoice_step hdown (pathChoice_exhausted hown hstate ht0 hfatal habort hpoison hpaths hleft)
  · exact fun u hop ht0 hfatal hfree hpaths =>
      transformDone_step hdown (transformDone_write hown hresult hstarted hrunning habort hop ht0 hfatal hfree hpaths)
  · exact fun hop => transformDone_step hdown (transformDone_read hown hresult hstarted hrunning habort hop)
  · intro o t v x off inst hdown hchk hinside hcurrent hmoves
    exact ⟨fun hwrite hsome hfits hspans =>
        windowTransfer_step hdown (windowTransfer_write hchk hinside hcurrent hmoves hwrite hsome hfits hspans),
      fun bs hread hsome hfits hspans =>
        windowTransfer_step hdown (windowTransfer_read hchk hinside hcurrent hmoves hread hsome hfits hspans)⟩
  · exact congrArg Entry.state dataMoved_entry
  · exact congrArg Entry.progress dataMoved_entry
  · exact fun y hy => dataMoved_other hy
  · intro target path cid status fixed bad data a t v hdown hfound hown hlast hdata hcurrent hstat habort hpoison
    have hcomplete := targetCompletion_current (status := status) (fecCompletion_attemptBy.trans hfound) hown hlast hdata hcurrent
    refine ⟨fun hzero => targetCompletion_step hdown (hcomplete.trans ?_),
      fun hcode => targetCompletion_step hdown (hcomplete.trans ?_)⟩
    · rw [if_pos hzero]
      exact attemptComplete_success habort hpoison hstat
    · rw [if_neg hcode]
      exact attemptComplete_status habort hpoison hstat
  · exact completionRecordVisible_step hdown (visibleRow_ready hown hstate hdecided hslot)
  · exact reportRecord_state
  · intro who c v chks u hdown h hv hhead
    exact cqHead_step hdown (writeReg_cqHead h hv hhead)
  · intro g port addr data hdown hgroup hset haddr hdata hvector
    exact (run_upTo hdown hgroup _).trans (congrArg Host.Outcome.next (interruptWrite_eq hgroup hset haddr hdata hvector))

end Sys2Proof.ExchangeProofs
end

section
/-! R357, R359 to R361: the end of the drain of a supply failure; the records of a replay, and its image. -/

namespace Sys2Proof.ExchangeProofs

open Sys2Proof Sys2Proof.Machine Sys2Proof.Slice0 Sys2Proof.LevelProofs Sys2Proof.LineProofs Sys2Proof.PartnerProofs

variable {s u : State} {who : Master} {c k ring : Nat} {w : Word}

/-! The end of the drain (R357, R359, R361) -/

theorem drainEnd_saves {done : Nat} (ht0 : s.pwr.t0 ≠ none)
    (himage : s.fbit F.XCH_STATUS_IMAGE 0 0 = false) (hsafe : s.pwr.safe = false) :
    s.drainEnd done =
      if s.fget F.XCH_CTL_SAVE_KIND 0 0 = 0 then
        (s.flashErase doubtBase doubtSize).flashProgram doubtBase
          (doubtHeader s.activeCount ++ (s.doubtOrder.take done).flatMap s.doubtRec)
      else if s.saveReached = true then
        let recs := (s.liveEntries.take done).flatMap s.saveRecord
        if s.liveEntries.length ≤ done then
          s.saveWrite (saveHeader 2 s.liveEntries.length s.devnum (natToBytes 4 (crc32c recs)) ++ recs)
        else
          s.draw.saveWrite (saveHeader 1 s.liveEntries.length s.devnum ((List.range 4).map (Config.freeByte s.free)) ++ recs)
      else s := by
  have hdrains : (s.pwr.t0.isNone || s.fbit F.XCH_STATUS_IMAGE 0 0 || s.pwr.safe) = false := by
    rw [himage, hsafe, Option.isNone_eq_false_iff.mpr (Option.isSome_iff_ne_none.mpr ht0)]
    rfl
  rw [State.drainEnd, hdrains, if_neg (by decide)]
  cases s.saveReached
  · rfl
  · rfl

theorem drainEnd_step {done : Nat} {chks : List (Nat × CopyCheck)} (hdown : s.down = false)
    (h : (s.copyChecks s.isLive chks).drainEnd done = u) : exec (.drainEnd ⟨done, chks⟩) s = .next u :=
  (run_eq hdown (fun s => (s.copyChecks s.isLive chks).drainEnd done)).trans (congrArg Host.Outcome.next h)

/-! XCH_REPLAY (R360) -/

theorem findReg_replay : findReg 0x30 0x68 = some (.XCH_REPLAY, 0, 0) := by decide

/-- XCH_REPLAY as a write finds it: CQ as written, and DONE cleared where the write says so. -/
def replaySet (s : State) (w : Word) : State := s.setActing .XCH_REPLAY 0 0 (liveWrite .XCH_REPLAY (s.acting .XCH_REPLAY 0 0) w)

theorem replaySet_cq : (replaySet s w).fget F.XCH_REPLAY_CQ 0 0 = fld w 0 12 := by
  have hwritten (x : Word) : liveWrite .XCH_REPLAY x w = setFld (setFld x 0 12 (fld w 0 12)) 18 1
      (Nat.land (fld (setFld x 0 12 (fld w 0 12)) 18 1) (outside 1 (fld w 18 1))) := rfl
  show fld ((replaySet s w).acting .XCH_REPLAY 0 0) 0 12 = _
  rw [replaySet, State.acting_setActing, hwritten, fld_setFld_apart _ (by decide) (by decide), fld_setFld _ _ _ _ (by decide)]
  exact Nat.mod_mod _ _

/-- A write of XCH_REPLAY leaves the other registers as they are. -/
theorem replaySet_fget {f : FieldRef} (hreg : regKey f.reg 0 0 ≠ regKey .XCH_REPLAY 0 0) :
    (replaySet s w).fget f 0 0 = s.fget f 0 0 := by
  rw [State.fget, replaySet, State.acting_setActing_ne _ _ hreg, State.fget]

theorem replaySet_image : (replaySet s w).fbit F.XCH_STATUS_IMAGE 0 0 = s.fbit F.XCH_STATUS_IMAGE 0 0 := by
  rw [State.fbit, replaySet_fget (by decide), State.fbit]

/-- R360: START and CONSUME of a write. -/
def replayActs (s : State) (w : Word) : State :=
  let t := if bitOf w 16 then (replaySet s w).replayStart else replaySet s w
  if bitOf w 17 then t.replayConsume else t

theorem regWrite_replay (blk addr : Nat) : State.regWrite State.cfgApply s .XCH_REPLAY 0 0 w blk addr = replayActs s w := rfl

theorem writeReg_replay (h : Hears s who .XCH_REPLAY 0 0) (hbase : SameBase s (replayActs s w)) :
    s.writeReg who .XCH_REPLAY 0 0 w = replayActs s w := by
  have hwrite (blk addr : Nat) := regWrite_replay (s := s) (w := w) blk addr
  exact (writeReg_eq h (by decide) (by decide) (by decide) findReg_replay (by rw [hwrite]; exact hbase)).trans (hwrite _ _)

/-! The records of a replay (R360) -/

theorem base_slotReady (c seq : Nat) : SameBase s (s.slotReady c seq).1 := base_readyWrite _ _ _

theorem base_writeRecord (c seq : Nat) (bs : List Byte) : SameBase s (s.writeRecord c seq bs) :=
  SameBase.trans (base_storeBytes _ _ _) (rfl : SameBase (s.storeBytes _ _ bs) _)

theorem base_replayAt (o : Option Nat) : SameBase s { s with xch := { s.xch with replayAt := o } } := rfl

theorem base_slotTaken : SameBase s ((s.reserve c).takeSeq c).1 := rfl

/-- The records are written while the ring has room. -/
theorem base_replayOn (n : Nat) : SameBase s (State.replayOn c n s) := by
  induction n generalizing s with
  | zero => exact .refl
  | succ n ih =>
    rw [State.replayOn]
    split
    · exact .refl
    · split
      · exact .refl
      · split
        · exact .refl
        · split
          · next heq => exact base_fst (base_slotReady _ _) heq
          · next s0 heq =>
            split
            next s1 q htaken =>
            exact ((base_fst (base_slotReady _ _) heq).trans (base_fst base_slotTaken htaken)).trans
              (((base_writeRecord _ _ _).trans (base_replayAt _)).trans ih)

/-- A replay whose last record is written writes no more. -/
theorem replayOn_ended (n : Nat) (hat : s.xch.replayAt = some k) (hlast : s.replayRecords.length ≤ k) : State.replayOn c n s = s := by
  cases n with
  | zero => rfl
  | succ n =>
    rw [State.replayOn, hat]
    dsimp only
    rw [List.drop_eq_nil_of_le hlast]
    rfl

theorem replayDone_eq (hat : s.xch.replayAt = some k) (hlast : s.replayRecords.length ≤ k) :
    s.replayDone = ((({ s with xch := { s.xch with replayAt := none } } : State).fset F.XCH_REPLAY_DONE 0 0 1).raiseBlock
      ((({ s with xch := { s.xch with replayAt := none } } : State).fset F.XCH_REPLAY_DONE 0 0 1).fget F.XCH_CQ_CTL_SOURCE 0
        (s.fget F.XCH_REPLAY_CQ 0 0))) := by
  rw [State.replayDone, hat]
  dsimp only
  rw [replayOn_ended _ hat hlast, hat]
  exact if_pos hlast

/-- Where a replay stands is not part of its records. -/
theorem replayRecords_replayAt (o : Option Nat) :
    ({ s with xch := { s.xch with replayAt := o } } : State).replayRecords = s.replayRecords := rfl

theorem replayStart_eq (himage : s.fbit F.XCH_STATUS_IMAGE 0 0 = true) (hcq : s.fget F.XCH_REPLAY_CQ 0 0 = ring) :
    s.replayStart = State.replayOn ring (s.replayRecords.length + 1) { s with xch := { s.xch with replayAt := some 0 } } := by
  subst hcq
  rw [State.replayStart, if_pos himage]
  rfl

/-- The word that starts a replay into a ring. -/
def startWord (ring : Nat) : Word := BitVec.ofNat 64 (ring % 2 ^ 12 + 2 ^ 16)

theorem replayStart_step (h : Hears s who .XCH_REPLAY 0 0) (hring : ring < 4096) (himage : s.fbit F.XCH_STATUS_IMAGE 0 0 = true) :
    ∃ t : State, { t with io := s.io } = s ∧ t.fget F.XCH_REPLAY_CQ 0 0 = ring ∧
      exec (.replayStart who ring) s = .next (State.replayOn ring (t.replayRecords.length + 1)
        { t with xch := { t.xch with replayAt := some 0 } }) := by
  have hnat : (startWord ring).toNat = ring + 2 ^ 16 := by
    rw [startWord, BitVec.toNat_ofNat]
    omega
  have hcq : (replaySet s (startWord ring)).fget F.XCH_REPLAY_CQ 0 0 = ring := by
    rw [replaySet_cq, fld, hnat]
    omega
  have hstart : bitOf (startWord ring) 16 = true := by
    rw [bitOf, hnat, Nat.testBit_eq_decide_div_mod_eq, decide_eq_true_iff]
    omega
  have hconsume : bitOf (startWord ring) 17 = false := by
    rw [bitOf, hnat, Nat.testBit_eq_decide_div_mod_eq, decide_eq_false_iff_not]
    omega
  have hacts : replayActs s (startWord ring) = State.replayOn ring ((replaySet s (startWord ring)).replayRecords.length + 1)
      { replaySet s (startWord ring) with xch := { (replaySet s (startWord ring)).xch with replayAt := some 0 } } := by
    rw [replayActs, hstart, hconsume, if_pos rfl, if_neg (by decide), replayStart_eq (replaySet_image.trans himage) hcq]
  have hbase : SameBase s (replayActs s (startWord ring)) := by
    rw [hacts]
    exact (base_replayAt (s := replaySet s (startWord ring)) _).trans (base_replayOn _)
  refine ⟨replaySet s (startWord ring), rfl, hcq, ?_⟩
  exact (run_eq h.2.1 (fun s => s.writeReg who .XCH_REPLAY 0 0 (startWord ring))).trans
    (congrArg Host.Outcome.next ((writeReg_replay h hbase).trans hacts))

end Sys2Proof.ExchangeProofs
end

section
/-! R360, R361: CONSUME, which erases the image. -/

namespace Sys2Proof.ExchangeProofs

open Sys2Proof Sys2Proof.Machine Sys2Proof.Slice0 Sys2Proof.LevelProofs Sys2Proof.LineProofs Sys2Proof.PartnerProofs

variable {s t : State} {who : Master} {w : Word}

/-! The save area (R357, R359) -/

theorem base_saveWrite (bs : List Byte) : SameBase s (s.saveWrite bs) := by
  unfold State.saveWrite
  split
  · exact (base_storeBytes _ _ _).trans (.foldl (fun _ l => .of_frame (.writeBack l)) _)
  · exact .refl

/-- The registers that name the save area. -/
def saveRegs : List RegName := [.XCH_CTL, .XCH_SAVE_ADDR, .XCH_SAVE_TGT, .XCH_SAVE_LBA]

/-- A register that neither names the save area nor homes a granule (R403). -/
abbrev OffSave (r : RegName) : Prop :=
  (∀ q ∈ saveRegs, regKey q 0 0 ≠ regKey r 0 0) ∧ inRange (0x5A * 2 ^ 20) 0x800 (regKey r 0 0) = false

theorem homeEntry_mapSet {k : Nat} (hk : inRange (0x5A * 2 ^ 20) 0x800 k = false) (g : Nat) (m : NMap Word) :
    homeEntry g (mapSet m k w) = homeEntry g m := by
  have hskip (v : Word) (m : NMap Word) : homeEntry g ((k, v) :: m) = homeEntry g m := by
    rw [homeEntry, hk]
    rfl
  induction m with
  | nil => exact hskip w []
  | cons c m ih =>
    obtain ⟨k', v⟩ := c
    rw [mapSet]
    split
    · next heq =>
      subst heq
      rw [hskip, hskip]
    · split
      · exact hskip w _
      · rw [homeEntry, ih, homeEntry]

theorem homeOf_setActing {r : RegName} (hr : inRange (0x5A * 2 ^ 20) 0x800 (regKey r 0 0) = false) (a : Nat) :
    (s.setActing r 0 0 w).homeOf a = s.homeOf a := by
  have hentry : homeEntry (a / 2 ^ 30) (s.setActing r 0 0 w).io.force = homeEntry (a / 2 ^ 30) s.io.force := homeEntry_mapSet hr _ _
  rw [State.homeOf, hentry]
  rfl

/-- Two states find the save area at the same place. -/
structure SameSave (s t : State) : Prop where
  kind : t.fget F.XCH_CTL_SAVE_KIND 0 0 = s.fget F.XCH_CTL_SAVE_KIND 0 0
  homed : t.saveHomed = s.saveHomed
  key : t.saveKey = s.saveKey

namespace SameSave

theorem trans {u : State} (h : SameSave s t) (k : SameSave t u) : SameSave s u :=
  ⟨k.kind.trans h.kind, k.homed.trans h.homed, k.key.trans h.key⟩

/-- A register that does not name the save area leaves it where it is. -/
theorem setActing {r : RegName} (hr : OffSave r) (v : Word) : SameSave s (s.setActing r 0 0 v) := by
  have hread (f : FieldRef) (hf : f.reg ∈ saveRegs) : (s.setActing r 0 0 v).fget f 0 0 = s.fget f 0 0 := by
    rw [State.fget, State.acting_setActing_ne _ _ (hr.1 _ hf), State.fget]
  have hkind := hread F.XCH_CTL_SAVE_KIND (by decide)
  have haddr : (s.setActing r 0 0 v).saveAddr = s.saveAddr := congrArg (· * 2 ^ 12) (hread F.XCH_SAVE_ADDR_BASE (by decide))
  refine ⟨hkind, ?_, ?_⟩
  · rw [State.saveHomed, hkind, haddr, homeOf_setActing hr.2]
    rfl
  · rw [State.saveKey, hkind, haddr, hread F.XCH_SAVE_TGT_TARGET (by decide), hread F.XCH_SAVE_LBA_LBA (by decide), State.saveKey]

theorem fset {f : FieldRef} (hf : OffSave f.reg) (v : Nat) : SameSave s (s.fset f 0 0 v) :=
  setActing hf _

/-- What the save areas hold, and where a replay stands, do not say where they lie. -/
theorem xch (x : Xch) : SameSave s { s with xch := x } := ⟨rfl, rfl, rfl⟩

end SameSave

/-- Zeros do not make a header. -/
theorem isHeader_zeros (n : Nat) : isHeader (List.replicate (n + 2) 0) = false := by
  have hmagic : dn (List.replicate (n + 2) (0 : Byte)) 0 2 = 0 := rfl
  rw [isHeader, hmagic]
  rfl

/-- A save area elsewhere that holds zeros holds no image. -/
theorem saveImage_zeros {bs : List Byte} (hhomed : s.saveHomed = false) (hbytes : s.saveBytes = List.replicate 512 0 ++ bs) :
    s.saveImage = none := by
  have hread : s.saveRead 0 512 = List.replicate 512 0 := by
    have hsub : sub (List.replicate 512 0 ++ bs) 0 512 = List.replicate 512 0 := List.take_left' List.length_replicate
    rw [State.saveRead, hhomed, if_neg (by decide), hbytes, hsub]
    dsimp only
    rw [List.length_replicate]
    exact List.append_nil _
  unfold State.saveImage
  extract_lets h
  rw [show isHeader h = false from (congrArg isHeader hread).trans (isHeader_zeros 510), Bool.and_false]
  rfl

/-- What was last written of a save area elsewhere is what it holds. -/
theorem saveBytes_saveWrite {bs : List Byte} (hhomed : s.saveHomed = false) :
    (s.saveWrite bs).saveBytes = bs ++ s.saveBytes.drop bs.length ∧ SameSave s (s.saveWrite bs) := by
  have hwrite : s.saveWrite bs = { s with xch := { s.xch with
      saves := (s.saveKey, bs ++ s.saveBytes.drop bs.length) :: s.xch.saves.filter (fun x => x.1 != s.saveKey) } } := by
    rw [State.saveWrite, hhomed]
    rfl
  rw [hwrite]
  refine ⟨?_, SameSave.xch _⟩
  rw [State.saveBytes, List.find?_cons_of_pos]
  · rfl
  · exact beq_self_eq_true s.saveKey

/-! The in-doubt area of the flash (R361) -/

theorem cellGet_filter_out {p : Host.Cell → Bool} {a : Nat} (m : List Host.Cell) (h : ∀ b, p (a, b) = false) :
    cellGet (m.filter p) a = unlistedByte := by
  induction m with
  | nil => rfl
  | cons c m ih =>
    obtain ⟨a', b⟩ := c
    rw [List.filter_cons]
    split
    · next hkept =>
      have hne : a' ≠ a := fun heq => by
        rw [heq, h b] at hkept
        cases hkept
      rw [cellGet, if_neg hne]
      exact ih
    · exact ih

/-- R361: an area that is erased lists nothing. -/
theorem doubts_erased : (s.flashErase doubtBase doubtSize).doubts = none := by
  have hbytes : (s.flashErase doubtBase doubtSize).flashBytes doubtBase 16 = List.replicate 16 0xFF#8 := by
    rw [State.flashBytes, cellsRead_eq]
    refine List.eq_replicate_iff.mpr ⟨by simp, fun b hb => ?_⟩
    obtain ⟨c, hc, rfl⟩ := List.mem_map.mp hb
    obtain ⟨k, hk, rfl⟩ := List.mem_map.mp hc
    have hin (x : Byte) : (!inRange doubtBase doubtSize (doubtBase + k, x).1) = false := by
      have hsize : k < doubtSize := (List.mem_range.mp hk).trans (by decide)
      rw [inRange, decide_eq_true (Nat.le_add_right _ _), decide_eq_true (Nat.add_lt_add_left hsize _)]
      rfl
    rw [State.flashErase, cellGet_filter_out _ hin]
    rfl
  rw [State.doubts, hbytes]
  rfl

/-! CONSUME (R360) -/

/-- The image is erased where it lies. -/
def imageErased (s : State) : State :=
  if s.fget F.XCH_CTL_SAVE_KIND 0 0 = 0 then s.flashErase doubtBase doubtSize else s.saveWrite (List.replicate 512 0)

/-- R360, R363: no image is there, and none is replayed. -/
def imageCleared (s : State) : State :=
  ((((({ s with xch := { s.xch with replayAt := none } } : State).fset F.XCH_STATUS_IMAGE 0 0 0).fset
    F.XCH_REPLAY_COUNT_RECORDS 0 0 0).fset F.XCH_REPLAY_COUNT_MISSING 0 0 0).fset F.XCH_REPLAY_INCOMPLETE 0 0 0)

theorem replayConsume_eq (himage : s.fbit F.XCH_STATUS_IMAGE 0 0 = true) : s.replayConsume = imageCleared (imageErased s) := by
  rw [State.replayConsume, if_pos himage]
  rfl

theorem imageCleared_image : (imageCleared s).fbit F.XCH_STATUS_IMAGE 0 0 = false := by
  rw [State.fbit, imageCleared, State.fget_fset_ne _ _ (by decide), State.fget_fset_ne _ _ (by decide), State.fget_fset_ne _ _ (by decide),
    State.fget_fset _ _ _ _ _ (by decide)]
  rfl

theorem imageCleared_records : (imageCleared s).fget F.XCH_REPLAY_COUNT_RECORDS 0 0 = 0 := by
  rw [imageCleared, State.fget_fset_ne _ _ (by decide), 
    fget_fset_apart (f := F.XCH_REPLAY_COUNT_MISSING) (g := F.XCH_REPLAY_COUNT_RECORDS) _ rfl (by decide) (by decide),
    State.fget_fset _ _ _ _ _ (by decide)]
  rfl

theorem imageCleared_save : SameSave s (imageCleared s) :=
  (((SameSave.xch _).trans (.fset (by decide) _)).trans (.fset (by decide) _)).trans
    ((SameSave.fset (by decide) _).trans (.fset (by decide) _))

theorem imageErased_base : SameBase s (imageErased s) := .ite .refl (base_saveWrite _)

theorem imageErased_doubts (hkind : s.fget F.XCH_CTL_SAVE_KIND 0 0 = 0) : (imageCleared (imageErased s)).doubts = none := by
  have hclear (u : State) : (imageCleared u).doubts = u.doubts := rfl
  rw [hclear, imageErased, if_pos hkind]
  exact doubts_erased

theorem imageErased_saveImage (hkind : s.fget F.XCH_CTL_SAVE_KIND 0 0 ≠ 0) (hhomed : s.saveHomed = false) :
    (imageCleared (imageErased s)).saveImage = none := by
  obtain ⟨hbytes, hwritten⟩ := saveBytes_saveWrite (bs := List.replicate 512 0) hhomed
  rw [imageErased, if_neg hkind]
  generalize s.saveWrite (List.replicate 512 0) = t at hbytes hwritten ⊢
  have hclear := imageCleared_save (s := t)
  refine saveImage_zeros (hclear.homed.trans (hwritten.homed.trans hhomed)) (Eq.trans ?_ hbytes)
  rw [State.saveBytes, hclear.key, State.saveBytes]
  rfl

/-- CONSUME alone of what a write of XCH_REPLAY may ask. -/
theorem replayActs_consume (hstart : bitOf w 16 = false) (hconsume : bitOf w 17 = true)
    (himage : s.fbit F.XCH_STATUS_IMAGE 0 0 = true) : replayActs s w = imageCleared (imageErased (replaySet s w)) := by
  rw [replayActs, hstart, hconsume, if_pos rfl, if_neg (by decide), replayConsume_eq (replaySet_image.trans himage)]

/-- The word that consumes an image: CQ as it is read, and CONSUME. -/
def consumeWord (s : State) : Word :=
  (s.readWord .XCH_REPLAY 0 0 &&& BitVec.ofNat 64 (fieldBits .XCH_REPLAY (fun f => f.access == .rw))) ||| BitVec.ofNat 64 (2 ^ 17)

theorem replayConsume_step (h : Hears s who .XCH_REPLAY 0 0) (himage : s.fbit F.XCH_STATUS_IMAGE 0 0 = true) :
    exec (.replayConsume who) s = .next (imageCleared (imageErased (replaySet s (consumeWord s)))) := by
  have hmask : fieldBits .XCH_REPLAY (fun f => f.access == .rw) = 0xFFF := by decide
  have hbit (k : Nat) : bitOf (consumeWord s) k = (bitOf (s.readWord .XCH_REPLAY 0 0) k && (0xFFF#64).getLsbD k || (0x20000#64).getLsbD k) := by
    rw [consumeWord, hmask]
    show BitVec.getLsbD _ _ = _
    rw [BitVec.getLsbD_or, BitVec.getLsbD_and]
    rfl
  have hacts := replayActs_consume (s := s) (w := consumeWord s)
    (by rw [hbit, show (0xFFF#64).getLsbD 16 = false by decide, Bool.and_false]; decide)
    (by rw [hbit, show (0x20000#64).getLsbD 17 = true by decide, Bool.or_true]) himage
  have hbase : SameBase s (replayActs s (consumeWord s)) := by
    rw [hacts]
    exact (imageErased_base (s := replaySet s (consumeWord s))).trans (rfl : SameBase _ (imageCleared _))
  exact (run_eq h.2.1 (fun s => s.setBits who .XCH_REPLAY 0 0 (2 ^ 17))).trans
    (congrArg Host.Outcome.next ((writeReg_replay h hbase).trans hacts))

/-- Settles O48: the end of the drain, the replay from its first record to its last, and CONSUME. -/
theorem saveAndReplay : Obligations.SaveAndReplay := by
  intro s
  refine ⟨?_, fun who ring h hring himage => replayStart_step h hring himage, fun k hdown hat hlast => ?_, fun who h himage => ?_⟩
  · intro done chks v hdown ht0 himage hsafe
    exact drainEnd_step hdown (drainEnd_saves ht0 himage hsafe)
  · exact (run_eq hdown State.replayDone).trans (congrArg Host.Outcome.next (replayDone_eq hat hlast))
  · have hset : SameSave s (replaySet s (consumeWord s)) := SameSave.setActing (by decide) _
    refine ⟨_, replayConsume_step h himage, imageCleared_image, rfl, imageCleared_records, fun hkind _ => ?_, fun hkind hhomed => ?_⟩
    · exact imageErased_doubts (hset.kind.trans hkind)
    · exact imageErased_saveImage (fun h => hkind (hset.kind.symm.trans h)) (hset.homed.trans hhomed)

end Sys2Proof.ExchangeProofs
end
